-- ==== Sys2Proof/Word.lean ====
section
/-! DEFINITION. The word types of the JX9616 (R5): bytes, 16-bit and 32-bit words, times in TB units (R6). -/

namespace Sys2Proof

/-- One byte. -/
abbrev Byte := BitVec 8

/-- A 16-bit lane of an engine vector, or a 16-bit word of the exchange RAM. -/
abbrev Half := BitVec 16

/-- A 32-bit register word. -/
abbrev Word := BitVec 32

/-- A time or a duration in TB units, whole nanoseconds (R6). -/
abbrev Ns := Nat

end Sys2Proof
end

