-- ==== Sys2Proof/Syntax.lean ====
section
/-! DEFINITION. The commands of the block: every row of the table of operations and events is one constructor of Instr.
The table gives its rows no operands; the operand structures below hold what each row's rule needs from outside. -/

namespace Sys2Proof

/-- The header of a descriptor (R323), with the partition and the local submission queue it came from.
`clean` says that every byte and bit the descriptor's layout marks zero is zero. -/
structure Hdr where
  part : Nat
  sq : Nat
  flags : BitVec 8
  tag : BitVec 16
  cq : BitVec 16
  fenceId : BitVec 16
  launch : BitVec 64
  fenceVal : Word
  clean : Bool
  deriving DecidableEq, Repr

/-- The fields of a FLIP (R141, R325); `x` and `y` are signed 16-bit words. -/
structure FlipArgs where
  layer : Nat
  enable : Nat
  select : Nat
  x : Half
  y : Half
  galpha : Nat
  fenceTo : Nat
  crc : Word
  deriving DecidableEq, Repr

/-- The fields of a REGION_UPDATE (R211); `patch` 0 means none. -/
structure RegionArgs where
  strip0 : Nat
  nstrips : Nat
  row0 : Nat
  nrows : Nat
  patch : Nat
  format : Nat
  pitch : Nat
  deriving DecidableEq, Repr

/-- The fields of an ENGINE_JOB (R232). -/
structure JobArgs where
  image : Nat
  clusters : Word
  frames : Nat
  arg : Nat
  argLen : Nat
  deriving DecidableEq, Repr

/-- The fields of a HARVEST (R292) besides its kind. -/
structure HarvestArgs where
  line0 : Nat
  nlines : Nat
  step : Nat
  level : Nat
  colours : Nat
  settle : Nat
  spacing : Nat
  result : Nat
  deriving DecidableEq, Repr

/-- The fields of a STREAM_BIND (R105). -/
structure BindArgs where
  ctx : Nat
  target : Nat
  layer : Nat
  plane : Nat
  format : Nat
  bandX0 : Nat
  bandW : Nat
  height : Nat
  creditInit : Nat
  crcStrict : Bool
  deriving DecidableEq, Repr

/-- States of a PCIe link (R389): up, ASPM L1, L2, or down. -/
inductive LinkState where
  | l0 | l1 | l2 | down
  deriving DecidableEq, Repr

/-- A parity error found by a read (R375): instance, word within it, byte within the word, and whether the
re-read of a re-read array failed as well. -/
structure ParityErr where
  inst : Nat
  word : Nat
  byte : Nat
  again : Bool
  deriving DecidableEq, Repr

/-- A cluster whose line was not ready at its due time: cluster, cause of R171, first column not ready. -/
structure LateLine where
  cluster : Nat
  cause : Nat
  column : Nat
  deriving DecidableEq, Repr

/-- What the world brings to a line start (R157): late clusters (R170), causeway faults (R16: 0 none, 1 check-word
mismatch, 2 causeway parity), the staged items that a half does not report ready at the latch point, each by its descriptor's
place in dispatch order (R15), tiles whose history could not be read in time (R206), and parity errors met by the line's reads
(R375). -/
structure LineEnv where
  late : List LateLine
  causeway : Nat
  h0Late : List Nat
  h1Late : List Nat
  histBad : List Nat
  parity : List ParityErr
  deriving DecidableEq, Repr

/-- A symbol of a lane (R68, R69): a data byte, a control code, or an invalid symbol, which has no decoded value. -/
inductive Sym where
  | data (b : Byte)
  | ctl (b : Byte)
  | bad
  deriving DecidableEq, Repr

/-- An edge of a timing input (R48, R64): its polarity, and TB of its sampling cycle. -/
structure Edge where
  rising : Bool
  stamp : Ns
  deriving DecidableEq, Repr

/-- A 10-bit group that a receiver takes (R70) and when: in symbol times on a stream port, on a back channel in units of 10 ps since
the mark of the last ECHO_REQ (R286). -/
structure RxGroup where
  code : BitVec 10
  arrival : Nat
  deriving DecidableEq, Repr

/-- One MSP block as one lane receives it (R92): port, port lane, its 64 symbols, and the arrival of the first in symbol
times. -/
structure Block where
  port : Nat
  lane : Nat
  syms : List Sym
  arrival : Nat
  deriving DecidableEq, Repr

/-- A forward MSP packet as received (R100): header bytes 0 to 7, body, CRC bytes; `hdrBad` an invalid header symbol,
`symBad` an invalid symbol in the body or CRC, taken as 0x00 (R104), `cut` interrupted before its EOP, `noEop` the symbol after
the CRC is not EOP. -/
structure Packet where
  port : Nat
  hdr : List Byte
  body : List Byte
  crc : List Byte
  hdrBad : Bool
  symBad : Bool
  cut : Bool
  noEop : Bool
  deriving DecidableEq, Repr

/-- A back-channel packet on BRX(drv) (R284): header bytes 0 to 3, body, CRC bytes. -/
structure BcPacket where
  drv : Nat
  hdr : List Byte
  body : List Byte
  crc : List Byte
  deriving DecidableEq, Repr

/-- A CXL device found by training and enumeration (R346, R347): capacity in MiB, link rate (0 64 GT/s, 1 32 GT/s),
and whether width, type, flits and L1 support meet R347. -/
structure CxlDevice where
  capMiB : Nat
  rate : Nat
  ok : Bool
  deriving DecidableEq, Repr

/-- How an exchange RAM access meets an access of the other port in its arbitration window (R371): `none`; the access
is the later one of a collision, or the earlier one; `write` says that the other access is a write of `v`. -/
inductive Collision where
  | none
  | later (word : Nat) (write : Bool) (v : Half)
  | earlier (word : Nat) (write : Bool) (v : Half)
  deriving DecidableEq, Repr

/-- The result of one scrub read (R420). -/
inductive ScrubRead where
  | clean | marginFail | normalFail
  deriving DecidableEq, Repr

/-- What a calibration run measured (R423, R425, R429): REFIN in units of 0.1 mV, the items that could not reach their
target, and the values found: converter gain and offset, sensor offsets, crack-input offsets, termination and swing codes. -/
structure CalOutcome where
  refin : Nat
  failed : Nat
  gain : Word
  offset : Half
  sensors : List Half
  cracks : List Half
  terms : List Byte
  swings : List Byte
  deriving DecidableEq, Repr

/-- One command of the part, one constructor per row of the table of operations and events.
The operands are what the sender, the far end of a link or the analogue world supplies. -/
inductive Instr where
  /-- COLD_RESET (R488). RST_N rises with VR_PG[6:0] high and the part runs its fixed start-up: fill, firmware, SVC, journal, calibration, boot entries, then it releases the host interface. -/
  | coldReset (fillUs : Nat) (cal : CalOutcome)
  /-- BROWN_OUT (R396). An AON LDO overload causes a cold reset and is latched in PWR_BOR. -/
  | brownOut (fillUs : Nat) (cal : CalOutcome)
  /-- CONFIG_REQUEST (R489). A PCIe configuration request arrives; before release it is answered with Configuration Request Retry Status. -/
  | configRequest (n : Nat)
  /-- HP_PERST (R314). Assertion of HP_PERST_N[n] resets only partition n's host interface state. -/
  | hpPerst (n : Nat)
  /-- FLR (R314). A function level reset of HPn resets only partition n's host interface state. -/
  | flr (n : Nat)
  /-- HP_LINK_STATE (R389). An HPn link changes state (L0, L1, L2), and its domain follows; WAKE is posted at the OWNER link's first L0 after deep sleep. -/
  | hpLinkState (n : Nat) (l : LinkState)
  /-- REGISTER_WRITE (R459). A BAR0 write to a register without a row of its own is checked for scope, lock, RWO, reserved bits and range, then applied or denied. -/
  | registerWrite (p off size : Nat) (v : BitVec 64)
  /-- BAR0_READ_ERROR (R455). A BAR0 read that is unaligned or unmapped returns 0 and sets GLB_FLAGS.size or unmapped. -/
  | bar0ReadError (p off size : Nat)
  /-- GLB_LOCK_SET (R462). A write of 1 to GLB_LOCK.lock makes every RWL field read-only until cold reset. -/
  | glbLockSet (p : Nat) (v : Word)
  /-- DENY_LOG_CLEAR (R464). A write of 1 to GLB_DENY_HEAD.clr clears every deny log entry, next and wrapped. -/
  | denyLogClear (p : Nat) (v : Word)
  /-- GLB_PART_EN_WRITE (R463). A write to GLB_PART_EN enables or disables partitions, or is refused for the OWNER, a partition with queues, or SAFETY while S is enabled. -/
  | glbPartEnWrite (p : Nat) (v : Word)
  /-- SEC_ROLE_WRITE (R450). The OWNER rebinds roles before the lock, or the write is refused while layer S is enabled. -/
  | secRoleWrite (p : Nat) (v : Word)
  /-- SEC_IMG_FLOOR_WRITE (R450). A write to SEC_IMG_FLOOR raises the image svn floor, and a lowering write is refused. -/
  | secImgFloorWrite (p : Nat) (v : Word)
  /-- TB_LOAD (R52). A write to TBS_TB_LOAD_GO.go loads TB in BRINGUP with no armed milestones and no lock, or is refused. -/
  | tbLoad (p : Nat) (v : Word)
  /-- SNAPSHOT (R66). A write to TBS_SNAP.take copies TB, TB_FRAC and the frame counter into the partition's snapshot. -/
  | snapshot (p : Nat) (v : Word)
  /-- SCN_RUN (R160). Setting SCN_CTRL.run starts the raster at frame 0, locked or free-running. -/
  | scnRun (p : Nat) (v : Word)
  /-- SCN_STOP (R160). Clearing SCN_CTRL.run in BRINGUP stops the raster at the end of the frame; in other modes the write is refused. -/
  | scnStop (p : Nat) (v : Word)
  /-- PORT_ENABLE (R97). Setting MSP_PORT_CFGp.en moves the port from OFF to TRAIN once its domain is ON. -/
  | portEnable (p k : Nat) (v : Word)
  /-- PORT_DISABLE (R97). Clearing MSP_PORT_CFGp.en returns the port to OFF. -/
  | portDisable (p k : Nat) (v : Word)
  /-- PORT_RESTORE (R99). A write to MSP_PORT_CTRLp.restore retrains a narrowed port at its configured width, posting LANE_DOWN with cause 3. -/
  | portRestore (p k : Nat) (v : Word)
  /-- LNK_COUNTER_CLEAR (R84). A write to LNK_CNT_CLR.go clears the four counters of the selected lane. -/
  | lnkCounterClear (p : Nat) (v : Word)
  /-- STREAM_COUNTER_CLEAR (R121). A write to MSP_STREAM_CNT_CLR.go clears the five counters of the selected stream context. -/
  | streamCounterClear (p : Nat) (v : Word)
  /-- KDL_TRAIN (R285). A write to KDL_CTRL.train starts training of every enabled driver. -/
  | kdlTrain (p : Nat) (v : Word)
  /-- HIST_INVALIDATE (R206). A write to ODV_HIST_INVAL.go clears hist_valid in every tile at the next frame boundary. -/
  | histInvalidate (p : Nat) (v : Word)
  /-- PNL_POWER_ON (R303). A write to PNL_PWR_CTRL.on in BRINGUP starts the crack check and the PMIC power-on sequence. -/
  | pnlPowerOn (p : Nat) (v : Word)
  /-- PNL_POWER_OFF (R305). A write to PNL_PWR_CTRL.off in BRINGUP with power ON runs the full discharge. -/
  | pnlPowerOff (p : Nat) (v : Word)
  /-- CRACK_CAPTURE (R309). A write to PNL_CRK_CTRL.capture in BRINGUP measures every enabled loop twice and stores the baseline record. -/
  | crackCapture (p : Nat) (v : Word)
  /-- FRAME_STORE_UP (R348). Setting FST_CFG.en makes the SVC train, enumerate and program the CXL ports, then fill the stripes. -/
  | frameStoreUp (p : Nat) (v : Word)
  /-- FRAME_STORE_DOWN (R348). Clearing FST_CFG.en takes the frame store down and loses its contents. -/
  | frameStoreDown (p : Nat) (v : Word)
  /-- FRAME_STORE_READY (R348). The stripe fill completes, and FST_STATUS.state becomes optimal. -/
  | frameStoreReady
  /-- PORT_REBUILD (R363). A write to FST_PORT_CTRLn.rebuild starts the rebuild of a lost port from the other five. -/
  | portRebuild (p k : Nat) (v : Word)
  /-- REBUILD_DONE (R363). The rebuild completes; the port and the store become optimal and FST_FLAGS.rebuilt is set. -/
  | rebuildDone
  /-- REGION_ENABLE_WRITE (R352). A write of en to FST_RGN_CFGk enables a region, or is ignored with rgn_refused if it breaks the region conditions. -/
  | regionEnableWrite (p k : Nat) (v : Word)
  /-- APERTURE_WRITE (R355). A write through FST_WIN is checked against the region kinds and written to the frame store, and may act as a local ring doorbell. -/
  | apertureWrite (p off : Nat) (data : List Byte)
  /-- APERTURE_READ (R355). A read through FST_WIN waits for the frame store and returns the data, or zeros for a region the partition may not read. -/
  | apertureRead (p off len : Nat)
  /-- HIF_QALLOC_WRITE (R315). A write to HIF_QALLOCn reallocates a partition's queue range, or is refused with alloc_refused. -/
  | hifQallocWrite (p k : Nat) (v : Word)
  /-- QUEUE_ENABLE (R316). Setting HIF_Q_CFG.en enables a queue with head and tail 0, or is ignored for kind 3. -/
  | queueEnable (p : Nat) (v : Word)
  /-- QUEUE_DISABLE (R316). Clearing HIF_Q_CFG.en disables a queue and discards its undispatched entries. -/
  | queueDisable (p : Nat) (v : Word)
  /-- TAIL_DOORBELL (R320). An SQ doorbell carries a new tail and makes entries pending. -/
  | tailDoorbell (p off size : Nat) (v : BitVec 64)
  /-- HEAD_DOORBELL (R320). A CQ or EQ doorbell carries a new head, frees entries and releases waiting records and messages. -/
  | headDoorbell (p off size : Nat) (v : BitVec 64)
  /-- SQ_FETCH (R331). The host interface fetches a pending SQ entry, advances the head, and dispatches it, or puts the queue into ERROR on a failed fetch. -/
  | sqFetch (p q : Nat) (entry host : Option (List Byte))
  /-- MSIX_AGG_TIMEOUT (R343). agg_time expires after the first unannounced record, and the message is sent. -/
  | msixAggTimeout (p q : Nat)
  /-- MSIX_UNMASK (R342). The host unmasks a vector, and a pending message is sent. -/
  | msixUnmask (p vec : Nat)
  /-- NOP (R325). NOP completes on dispatch and restarts the SAFETY heartbeat. -/
  | nop (h : Hdr)
  /-- COMMIT (R166). COMMIT names a parameter block of register entries, checked for scope and layout at dispatch, to apply at a frame boundary. -/
  | commit (h : Hdr) (len : Nat) (block : Option (List Byte))
  /-- COMMIT_STAGED (R167). Both halves hold a COMMIT's validated block, and its target latch point is fixed. -/
  | commitStaged (id : Nat)
  /-- FLIP (R142). FLIP on a layer, alone or in a chain, is queued for its target latch point. -/
  | flip (h : Hdr) (f : FlipArgs)
  /-- REGION_UPDATE (R211). REGION_UPDATE takes a rectangle of tiles, with an optional patch in CELLAR or LAYBY, in a region-update context. -/
  | regionUpdate (h : Hdr) (r : RegionArgs)
  /-- FENCE_SIGNAL (R143). FENCE_SIGNAL sets a fence value and releases waits that the new value reaches. -/
  | fenceSignal (h : Hdr) (fence : Nat) (v : Word)
  /-- FENCE_WAIT (R326). FENCE_WAIT holds its SQ until the fence is reached. -/
  | fenceWait (h : Hdr) (timeout : Ns)
  /-- FENCE_WAIT_TIMEOUT (R326). A FENCE_WAIT timeout elapses; the descriptor completes FENCE_TIMEOUT and the SQ resumes. -/
  | fenceWaitTimeout (p q : Nat)
  /-- SIGNAL_FENCE (R59). MILESTONE action 0x01 sets the named fence. -/
  | signalFence (h : Hdr) (fence : Nat) (v : Word)
  /-- PULSE (R59). MILESTONE action 0x02 pulses SYNC_OUT when sel is 4. -/
  | pulse (h : Hdr)
  /-- ENGINE_FLAG (R59). MILESTONE action 0x03 sets a CSR_MSFLAG bit in every engine of the named clusters. -/
  | engineFlag (h : Hdr) (bit : Nat) (clusters : Word)
  /-- STREAM_GATE (R59). MILESTONE action 0x04 closes or opens credit return for a stream context. -/
  | streamGate (h : Hdr) (ctx : Nat) (close : Bool)
  /-- CANCEL (R60). MILESTONE action 0x05 aborts a matching armed descriptor, or completes INVALID. -/
  | cancel (h : Hdr) (cq tag : BitVec 16)
  /-- MARK (R59). MILESTONE action 0x06 records the instant in its completion. -/
  | mark (h : Hdr)
  /-- MILESTONE_FIRE (R56). A milestone context's launch time is reached; it fires and hands its descriptor or action on in that ECLK cycle. -/
  | milestoneFire
  /-- MODE_BOOK_LOAD (R29). TABLE_LOAD 0x0010 reads the mode book in place and validates it. -/
  | modeBookLoad (h : Hdr)
  /-- COLOUR_TABLE_LOAD (R137). TABLE_LOAD 0x0100+n loads a layer's CSC and pre-blend LUT. -/
  | colourTableLoad (h : Hdr) (n len : Nat) (data : Option (List Byte))
  /-- SCALER_COEFF_LOAD (R137). TABLE_LOAD 0x0110+v loads a video layer's scaler coefficients. -/
  | scalerCoeffLoad (h : Hdr) (n len : Nat) (data : Option (List Byte))
  /-- POST_BLEND_LUT_LOAD (R137). TABLE_LOAD 0x0120 loads the post-blend LUT of both halves. -/
  | postBlendLutLoad (h : Hdr) (len : Nat) (data : Option (List Byte))
  /-- SAFE_IMAGE_VALIDATION (R153). TABLE_LOAD 0x0121 validates the safe image and sets or clears safe_valid. -/
  | safeImageValidation (h : Hdr)
  /-- DEMURA_MAP_LOAD (R191). TABLE_LOAD 0x0200 loads the uncompressed demura map in place and starts a build. -/
  | demuraMapLoad (h : Hdr)
  /-- DEMURA_CODEC_LOAD (R191). TABLE_LOAD 0x0201 decodes a codec-form demura map into the source map and starts a build. -/
  | demuraCodecLoad (h : Hdr)
  /-- VINTAGE_MAP_RESTORE (R193). TABLE_LOAD 0x0202 restores the vintage map, brings it forward if catchup is set, and starts a build. -/
  | vintageMapRestore (h : Hdr)
  /-- VINTAGE_TABLES_LOAD (R191). TABLE_LOAD 0x0203 loads the S, A, E, D and M tables and starts a build. -/
  | vintageTablesLoad (h : Hdr) (len : Nat) (data : Option (List Byte))
  /-- REBUILD (R192). TABLE_LOAD 0x0204 starts a build from the data in hand. -/
  | rebuild (h : Hdr)
  /-- RATE_SET_LOAD (R200). TABLE_LOAD 0x0300+r loads an overdrive rate set into the load buffer. -/
  | rateSetLoad (h : Hdr) (n len : Nat) (data : Option (List Byte))
  /-- NTC_TABLE_LOAD (R199). TABLE_LOAD 0x0310 loads the NTC conversion table. -/
  | ntcTableLoad (h : Hdr) (len : Nat) (data : Option (List Byte))
  /-- DRIVER_SETUP_LIST_LOAD (R283). TABLE_LOAD 0x0400 loads the driver set-up list and sends it to every driver in RUN. -/
  | driverSetupListLoad (h : Hdr) (len : Nat) (data : Option (List Byte))
  /-- TABLE_READY (R493). A TABLE_LOAD's table has been read whole and checked, and is latched at the first latch point at least 64 us later. -/
  | tableReady (id : Nat)
  /-- READBACK (R329). READBACK copies frame-store bytes to the host, with zeros and DATA_ERROR for unreadable units. -/
  | readback (h : Hdr) (len src dst : Nat)
  /-- ENGINE_JOB (R233). ENGINE_JOB with an image is checked and, after any verification, latched to take clusters at a frame boundary. -/
  | engineJob (h : Hdr) (j : JobArgs)
  /-- ENGINE_JOB_STOP (R232). ENGINE_JOB with image 0 stops the job on the named clusters. -/
  | engineJobStop (h : Hdr) (clusters : Word)
  /-- IMAGE_VERIFIED (R447). Signature verification of an engine image ends, and the job passes to the clusters or completes DENIED. -/
  | imageVerified
  /-- MODE_SWITCH (R32). MODE_SWITCH requests a target mode and becomes the pending switch, or completes DENIED or INVALID. -/
  | modeSwitch (h : Hdr) (target : Nat)
  /-- NVM_WRITE (R416). NVM_WRITE reads a record from the host and gathers it for journalled or direct write. -/
  | nvmWrite (h : Hdr) (key len : Nat) (data : Option (List Byte))
  /-- HOT_SAVE_REQUEST (R415). NVM_WRITE with hot set starts a hot save of keys 0x0040 to 0x0042. -/
  | hotSaveRequest (h : Hdr) (key len addr : Nat)
  /-- NVM_READ (R417). NVM_READ writes the chosen copy's header and body to the host. -/
  | nvmRead (h : Hdr) (key copy len dst : Nat)
  /-- POWER_HINT_IDLE (R393). POWER_HINT kind 0 declares the named domains idle until T. -/
  | powerHintIdle (h : Hdr) (t : Nat) (mask : BitVec 88)
  /-- POWER_HINT_NEEDED (R393). POWER_HINT kind 1 declares a need at T for the named domains. -/
  | powerHintNeeded (h : Hdr) (t : Nat) (mask : BitVec 88)
  /-- DEEP_SLEEP_REQUEST (R397). POWER_HINT kind 0 with bit 1 from the OWNER requests deep sleep, which starts or completes NOT_READY. -/
  | deepSleepRequest (h : Hdr) (t : Nat) (mask : BitVec 88)
  /-- HARVEST_SENSING (R293). HARVEST kind 0 starts an OLED sensing sweep at the next frame boundary. -/
  | harvestSensing (h : Hdr) (a : HarvestArgs)
  /-- HARVEST_MEASUREMENT (R293). HARVEST kind 1 starts a panel-measurement sweep at the next frame boundary. -/
  | harvestMeasurement (h : Hdr) (a : HarvestArgs)
  /-- STREAM_BIND (R107). STREAM_BIND binds or rebinds a stream context to a layer plane or the line store. -/
  | streamBind (h : Hdr) (b : BindArgs)
  /-- STREAM_UNBIND (R107). STREAM_BIND with target 0 unbinds a stream, and an open frame ends incomplete. -/
  | streamUnbind (h : Hdr) (ctx : Nat)
  /-- CAL_RUN (R427). CAL_RUN requests the calibration items or the re-plan of its mask. -/
  | calRun (h : Hdr) (mask : Word)
  /-- LINE_START (R157). The raster reaches the start of a programmed, stretch or trimmed last line and drives every per-line action. -/
  | lineStart (e : LineEnv)
  /-- HEARTBEAT_EXPIRY (R152). The SAFETY heartbeat timer expires and the safe image is shown from the next frame boundary. -/
  | heartbeatExpiry
  /-- SYNC_IN_EDGE (R48). A SYNC_IN pulse lasts 50 ns; the edge is stamped, judged valid or invalid, and drives the DPLL and the phase measurement. -/
  | syncInEdge (e : Edge) (width : Ns)
  /-- SYNC_PERIOD_END (R48). An expected period ends without a valid edge and counts as missed, possibly entering HOLDOVER. -/
  | syncPeriodEnd
  /-- SHUTTER_IN_EDGE (R64). A SHUTTER_IN edge is tested against its expected time and tolerance. -/
  | shutterInEdge (k : Nat) (e : Edge) (width : Ns)
  /-- SHUTTER_WINDOW_END (R64). An input's tolerance window ends without an edge and counts toward loss of lock. -/
  | shutterWindowEnd (k : Nat)
  /-- SYNC_OUT_PULSE (R54). SYNC_OUT pulses at its selected instant, such as a whole TB second. -/
  | syncOutPulse
  /-- PHASE_SLEW_END (R51). A phase slew has absorbed its correction, and the slew term returns to 0. -/
  | phaseSlewEnd
  /-- RX_SYMBOL (R70). A receiver takes a 10-bit group, classifies it and advances its symbol-lock machine and adaptation. -/
  | rxSymbol (lane : Nat) (sym : RxGroup) (lms : List Int)
  /-- SIGNAL_DETECT (R81). A receiver in IDLE sees input above the threshold and goes to HUNT. -/
  | signalDetect (lane : Nat)
  /-- SIGNAL_LOSS (R70). A receiver in SYNC sees input below the threshold for 32 UI and goes to HUNT. -/
  | signalLoss (lane : Nat)
  /-- EXIT_FAILURE (R81). A receiver fails to reach SYNC within exit_to after signal detect. -/
  | exitFailure (lane : Nat)
  /-- MIN_IDLE_END (R82). min_idle elapses, and a held exit request proceeds. -/
  | minIdleEnd (lane : Nat)
  /-- DEGRADE_WINDOW (R85). A 1 ms window ends and the lane is tested for degradation. -/
  | degradeWindow (lane : Nat)
  /-- BLOCK (R95). A 64-symbol MSP block arrives; its header advances block lock, deskew and the port state. -/
  | block (b : Block)
  /-- DESKEW_RETRY (R96). 16 blocks after a failed deskew, the port compares again. -/
  | deskewRetry (port : Nat)
  /-- FALLBACK_TIMEOUT (R99). A port in TRAIN for fb_to narrows to its widest locked set. -/
  | fallbackTimeout (port : Nat)
  /-- SLEEP_EXIT_TIMEOUT (R114). A port fails to reach UP within 1 ms of waking, which is a loss with cause 1. -/
  | sleepExitTimeout (port : Nat)
  /-- PIXEL (R108). A PIXEL packet is checked for credit and position and written or dropped. -/
  | pixel (k : Packet)
  /-- FRAME_START (R108). A FRAME_START packet opens a source frame. -/
  | frameStart (k : Packet)
  /-- FRAME_END (R109). A FRAME_END packet ends a frame complete or incomplete and reports it to its layer. -/
  | frameEnd (k : Packet)
  /-- META (R110). A META packet is written to the metadata slot of the frame's layer buffer. -/
  | metaPacket (k : Packet)
  /-- STREAM_DATA_WRITTEN (R113). A stream's data has been written out of the ingress buffer, and its credits are added to CL. -/
  | streamDataWritten (ctx credits : Nat)
  /-- CREDIT_BATCH_TIME (R113). batch_time elapses after accrued credits, and a CREDIT is sent. -/
  | creditBatchTime (ctx : Nat)
  /-- MSP_STATUS_TIMER (R119). Every 10 us, or after a field change, the port sends STATUS on its reverse lane. -/
  | mspStatusTimer (port : Nat)
  /-- LINE_SLOT (R224). An engine line slot starts; sleeping engines wake from WAITL, missed slots are counted, and spares resume. -/
  | lineSlot (c : Nat)
  /-- WATCHDOG_STALL (R236). An engine retires nothing for stall_cyc cycles, and the watchdog fires. -/
  | watchdogStall (g : Nat)
  /-- SPARE_LOADED (R238). The spare's restore and load from the checkpoint complete. -/
  | spareLoaded (c : Nat)
  /-- CHECKPOINT_DRAIN_DONE (R235). A checkpoint copy's drain completes and the copy becomes whole. -/
  | checkpointDrainDone (g : Nat)
  /-- JOB_LOAD_DONE (R234). The engines of a cluster are loaded for a new job and start at entry. -/
  | jobLoadDone (c : Nat)
  /-- FETCH_UNIT_ARRIVED (R228). A fetch-stream unit has arrived wholly in its ring. -/
  | fetchUnitArrived (c stream unit : Nat)
  /-- WRITE_BACK_DONE (R230). A posted write-back entry completes, or is dropped, and the count advances. -/
  | writeBackDone (g : Nat)
  /-- SALU_ADD (R248). rd := ra + rb. -/
  | saluAdd (g : Nat) (rd ra rb : BitVec 4)
  /-- SALU_SUB (R248). rd := ra - rb. -/
  | saluSub (g : Nat) (rd ra rb : BitVec 4)
  /-- SALU_AND (R248). rd := ra and rb. -/
  | saluAnd (g : Nat) (rd ra rb : BitVec 4)
  /-- SALU_OR (R248). rd := ra or rb. -/
  | saluOr (g : Nat) (rd ra rb : BitVec 4)
  /-- SALU_XOR (R248). rd := ra xor rb. -/
  | saluXor (g : Nat) (rd ra rb : BitVec 4)
  /-- SALU_SLL (R248). rd := ra shifted left by rb. -/
  | saluSll (g : Nat) (rd ra rb : BitVec 4)
  /-- SALU_SRL (R248). rd := ra shifted right logically by rb. -/
  | saluSrl (g : Nat) (rd ra rb : BitVec 4)
  /-- SALU_SRA (R248). rd := ra shifted right arithmetically by rb. -/
  | saluSra (g : Nat) (rd ra rb : BitVec 4)
  /-- SALU_SLT (R248). rd := 1 if ra < rb signed. -/
  | saluSlt (g : Nat) (rd ra rb : BitVec 4)
  /-- SALU_SLTU (R248). rd := 1 if ra < rb unsigned. -/
  | saluSltu (g : Nat) (rd ra rb : BitVec 4)
  /-- SALU_MUL (R248). rd := low 32 bits of ra x rb. -/
  | saluMul (g : Nat) (rd ra rb : BitVec 4)
  /-- SALU_MULH (R248). rd := high 32 bits of the signed product. -/
  | saluMulh (g : Nat) (rd ra rb : BitVec 4)
  /-- SALU_MULHU (R248). rd := high 32 bits of the unsigned product. -/
  | saluMulhu (g : Nat) (rd ra rb : BitVec 4)
  /-- SALU_MIN (R248). rd := signed minimum. -/
  | saluMin (g : Nat) (rd ra rb : BitVec 4)
  /-- SALU_MAX (R248). rd := signed maximum. -/
  | saluMax (g : Nat) (rd ra rb : BitVec 4)
  /-- SALU_MINU (R248). rd := unsigned minimum. -/
  | saluMinu (g : Nat) (rd ra rb : BitVec 4)
  /-- SALU_MAXU (R248). rd := unsigned maximum. -/
  | saluMaxu (g : Nat) (rd ra rb : BitVec 4)
  /-- ADDI (R248). rd := ra + sign-extended imm. -/
  | addi (g : Nat) (rd ra : BitVec 4) (imm : BitVec 18)
  /-- SLTI (R248). rd := 1 if ra < imm signed. -/
  | slti (g : Nat) (rd ra : BitVec 4) (imm : BitVec 18)
  /-- SLTIU (R248). rd := 1 if ra < imm unsigned. -/
  | sltiu (g : Nat) (rd ra : BitVec 4) (imm : BitVec 18)
  /-- ANDI (R248). rd := ra and zero-extended imm. -/
  | andi (g : Nat) (rd ra : BitVec 4) (imm : BitVec 18)
  /-- ORI (R248). rd := ra or zero-extended imm. -/
  | ori (g : Nat) (rd ra : BitVec 4) (imm : BitVec 18)
  /-- XORI (R248). rd := ra xor zero-extended imm. -/
  | xori (g : Nat) (rd ra : BitVec 4) (imm : BitVec 18)
  /-- SLLI (R248). rd := ra shifted left by sh. -/
  | slli (g : Nat) (rd ra : BitVec 4) (sh : BitVec 5)
  /-- SRLI (R248). rd := ra shifted right logically by sh. -/
  | srli (g : Nat) (rd ra : BitVec 4) (sh : BitVec 5)
  /-- SRAI (R248). rd := ra shifted right arithmetically by sh. -/
  | srai (g : Nat) (rd ra : BitVec 4) (sh : BitVec 5)
  /-- LUI (R248). rd := imm << 16. -/
  | lui (g : Nat) (rd : BitVec 4) (imm : BitVec 16)
  /-- BR (R249). Branches by off when s[ra] cond s[rb] holds. -/
  | br (g : Nat) (ra rb : BitVec 4) (cond : BitVec 3) (off : BitVec 15)
  /-- JAL (R249). s15 := pc + 1, then jumps by off. -/
  | jal (g : Nat) (off : BitVec 26)
  /-- JALR (R249). rd := pc + 1, then jumps to s[ra]. -/
  | jalr (g : Nat) (rd ra : BitVec 4)
  /-- LOOP (R250). Opens a hardware loop level over the next len instructions. -/
  | loop (g : Nat) (rc : BitVec 4) (count : BitVec 12) (len : BitVec 10)
  /-- CTRL_NOP (R264). CTRL fn 0 does nothing. -/
  | ctrlNop (g : Nat)
  /-- WAITL (R262). Fences, captures a checkpoint, sleeps until the next slot and returns its line. -/
  | waitl (g : Nat) (rd : BitVec 4)
  /-- SIG (R263). Fences, then posts a write-back entry or adds to a cluster signal counter. -/
  | sig (g : Nat) (ch : BitVec 4)
  /-- HALT (R265). Ends the engine's part in the job; its strip passes unchanged. -/
  | halt (g : Nat)
  /-- FENCE (R264). Waits until every earlier store of the engine has been granted. -/
  | fence (g : Nat)
  /-- CSR_READ (R266). CSR fn 0 reads a CSR into rd. -/
  | csrRead (g : Nat) (rd ra : BitVec 4) (csr : BitVec 12)
  /-- CSR_WRITE (R266). CSR fn 1 writes s[ra] to a CSR, returning the old value. -/
  | csrWrite (g : Nat) (rd ra : BitVec 4) (csr : BitVec 12)
  /-- CSR_SET (R266). CSR fn 2 sets the bits of s[ra] in a CSR. -/
  | csrSet (g : Nat) (rd ra : BitVec 4) (csr : BitVec 12)
  /-- CSR_CLEAR (R266). CSR fn 3 clears the bits of s[ra] in a CSR. -/
  | csrClear (g : Nat) (rd ra : BitVec 4) (csr : BitVec 12)
  /-- LB (R251). Loads a signed byte. -/
  | lb (g : Nat) (rd ra : BitVec 4) (off : BitVec 14)
  /-- LBU (R251). Loads an unsigned byte. -/
  | lbu (g : Nat) (rd ra : BitVec 4) (off : BitVec 14)
  /-- LH (R251). Loads a signed halfword. -/
  | lh (g : Nat) (rd ra : BitVec 4) (off : BitVec 14)
  /-- LHU (R251). Loads an unsigned halfword. -/
  | lhu (g : Nat) (rd ra : BitVec 4) (off : BitVec 14)
  /-- LW (R251). Loads a word. -/
  | lw (g : Nat) (rd ra : BitVec 4) (off : BitVec 14)
  /-- SB (R251). Stores a byte. -/
  | sb (g : Nat) (rb ra : BitVec 4) (off : BitVec 14)
  /-- SH (R251). Stores a halfword. -/
  | sh (g : Nat) (rb ra : BitVec 4) (off : BitVec 14)
  /-- SW (R251). Stores a word. -/
  | sw (g : Nat) (rb ra : BitVec 4) (off : BitVec 14)
  /-- VLD (R251). Loads 16 lanes of 16 bits under a predicate. -/
  | vld (g : Nat) (vd : BitVec 5) (ra : BitVec 4) (pg : BitVec 3) (off : BitVec 14) (perr : Option ParityErr)
  /-- VST (R251). Stores 16 lanes of 16 bits under a predicate. -/
  | vst (g : Nat) (vb : BitVec 5) (ra : BitVec 4) (pg : BitVec 3) (off : BitVec 14)
  /-- VALU_ADD (R253). Lane add mod 2^16. -/
  | valuAdd (g : Nat) (vd va vb : BitVec 5) (pg : BitVec 3) (src : BitVec 2)
  /-- VALU_SUB (R253). Lane subtract mod 2^16. -/
  | valuSub (g : Nat) (vd va vb : BitVec 5) (pg : BitVec 3) (src : BitVec 2)
  /-- ADDSS (R253). Signed saturating lane add. -/
  | addss (g : Nat) (vd va vb : BitVec 5) (pg : BitVec 3) (src : BitVec 2)
  /-- SUBSS (R253). Signed saturating lane subtract. -/
  | subss (g : Nat) (vd va vb : BitVec 5) (pg : BitVec 3) (src : BitVec 2)
  /-- ADDUS (R253). Unsigned saturating lane add. -/
  | addus (g : Nat) (vd va vb : BitVec 5) (pg : BitVec 3) (src : BitVec 2)
  /-- SUBUS (R253). Unsigned saturating lane subtract. -/
  | subus (g : Nat) (vd va vb : BitVec 5) (pg : BitVec 3) (src : BitVec 2)
  /-- MULLO (R253). Low 16 bits of the lane product. -/
  | mullo (g : Nat) (vd va vb : BitVec 5) (pg : BitVec 3) (src : BitVec 2)
  /-- MULHS (R253). Signed high 16 bits of the lane product. -/
  | mulhs (g : Nat) (vd va vb : BitVec 5) (pg : BitVec 3) (src : BitVec 2)
  /-- VALU_MULHU (R253). Unsigned high 16 bits of the lane product. -/
  | valuMulhu (g : Nat) (vd va vb : BitVec 5) (pg : BitVec 3) (src : BitVec 2)
  /-- VALU_MIN (R253). Signed lane minimum. -/
  | valuMin (g : Nat) (vd va vb : BitVec 5) (pg : BitVec 3) (src : BitVec 2)
  /-- VALU_MAX (R253). Signed lane maximum. -/
  | valuMax (g : Nat) (vd va vb : BitVec 5) (pg : BitVec 3) (src : BitVec 2)
  /-- VALU_MINU (R253). Unsigned lane minimum. -/
  | valuMinu (g : Nat) (vd va vb : BitVec 5) (pg : BitVec 3) (src : BitVec 2)
  /-- VALU_MAXU (R253). Unsigned lane maximum. -/
  | valuMaxu (g : Nat) (vd va vb : BitVec 5) (pg : BitVec 3) (src : BitVec 2)
  /-- VALU_AND (R253). Lane and. -/
  | valuAnd (g : Nat) (vd va vb : BitVec 5) (pg : BitVec 3) (src : BitVec 2)
  /-- VALU_OR (R253). Lane or. -/
  | valuOr (g : Nat) (vd va vb : BitVec 5) (pg : BitVec 3) (src : BitVec 2)
  /-- VALU_XOR (R253). Lane xor. -/
  | valuXor (g : Nat) (vd va vb : BitVec 5) (pg : BitVec 3) (src : BitVec 2)
  /-- VALU_ANDN (R253). Lane a and not b. -/
  | valuAndn (g : Nat) (vd va vb : BitVec 5) (pg : BitVec 3) (src : BitVec 2)
  /-- VALU_SLL (R253). Lane shift left. -/
  | valuSll (g : Nat) (vd va vb : BitVec 5) (pg : BitVec 3) (src : BitVec 2)
  /-- VALU_SRL (R253). Lane logical shift right. -/
  | valuSrl (g : Nat) (vd va vb : BitVec 5) (pg : BitVec 3) (src : BitVec 2)
  /-- VALU_SRA (R253). Lane arithmetic shift right. -/
  | valuSra (g : Nat) (vd va vb : BitVec 5) (pg : BitVec 3) (src : BitVec 2)
  /-- SRAR (R253). Lane rounding arithmetic shift right. -/
  | srar (g : Nat) (vd va vb : BitVec 5) (pg : BitVec 3) (src : BitVec 2)
  /-- ABSDU (R253). Unsigned lane absolute difference. -/
  | absdu (g : Nat) (vd va vb : BitVec 5) (pg : BitVec 3) (src : BitVec 2)
  /-- AVGU (R253). Unsigned rounded lane average. -/
  | avgu (g : Nat) (vd va vb : BitVec 5) (pg : BitVec 3) (src : BitVec 2)
  /-- MOV (R253). Lane move of the second operand. -/
  | vmov (g : Nat) (vd va vb : BitVec 5) (pg : BitVec 3) (src : BitVec 2)
  /-- VCMP (R254). Compares lanes and writes a predicate. -/
  | vcmp (g : Nat) (pd : BitVec 3) (va vb : BitVec 5) (pg : BitVec 3) (src : BitVec 2) (cond : BitVec 4)
  /-- PLOG_AND (R254). Predicate and. -/
  | plogAnd (g : Nat) (pd pa pb : BitVec 3) (sa : BitVec 4)
  /-- PLOG_OR (R254). Predicate or. -/
  | plogOr (g : Nat) (pd pa pb : BitVec 3) (sa : BitVec 4)
  /-- PLOG_XOR (R254). Predicate xor. -/
  | plogXor (g : Nat) (pd pa pb : BitVec 3) (sa : BitVec 4)
  /-- PLOG_ANDN (R254). Predicate and-not. -/
  | plogAndn (g : Nat) (pd pa pb : BitVec 3) (sa : BitVec 4)
  /-- PLOG_NOT (R254). Predicate not. -/
  | plogNot (g : Nat) (pd pa pb : BitVec 3) (sa : BitVec 4)
  /-- FROMS (R254). Predicate from s-register bits 15:0. -/
  | froms (g : Nat) (pd pa pb : BitVec 3) (sa : BitVec 4)
  /-- TOS (R254). Predicate to an s-register. -/
  | tos (g : Nat) (pd pa pb : BitVec 3) (sa : BitVec 4)
  /-- CNT (R254). Count of ones in a predicate to an s-register. -/
  | cnt (g : Nat) (pd pa pb : BitVec 3) (sa : BitVec 4)
  /-- FIRSTN (R254). Predicate of the first s[sa] lanes. -/
  | firstn (g : Nat) (pd pa pb : BitVec 3) (sa : BitVec 4)
  /-- VSEL (R255). Selects lanes of va or vb by predicate. -/
  | vsel (g : Nat) (vd va vb : BitVec 5) (ps : BitVec 3)
  /-- VPERM (R255). Permutes lanes by index. -/
  | vperm (g : Nat) (vd va vb : BitVec 5) (ps : BitVec 3)
  /-- VBCST (R255). Broadcasts one lane. -/
  | vbcst (g : Nat) (vd va vb : BitVec 5) (ps : BitVec 3)
  /-- VBCSTS (R255). Broadcasts an s-register. -/
  | vbcsts (g : Nat) (vd va vb : BitVec 5) (ps : BitVec 3)
  /-- VRED_ADD (R255). Signed lane sum to an s-register. -/
  | vredAdd (g : Nat) (vd va vb : BitVec 5) (ps : BitVec 3)
  /-- VRED_ADDU (R255). Unsigned lane sum to an s-register. -/
  | vredAddu (g : Nat) (vd va vb : BitVec 5) (ps : BitVec 3)
  /-- VRED_MIN (R255). Signed lane minimum to an s-register. -/
  | vredMin (g : Nat) (vd va vb : BitVec 5) (ps : BitVec 3)
  /-- VRED_MAX (R255). Signed lane maximum to an s-register. -/
  | vredMax (g : Nat) (vd va vb : BitVec 5) (ps : BitVec 3)
  /-- VRED_MINU (R255). Unsigned lane minimum to an s-register. -/
  | vredMinu (g : Nat) (vd va vb : BitVec 5) (ps : BitVec 3)
  /-- VRED_MAXU (R255). Unsigned lane maximum to an s-register. -/
  | vredMaxu (g : Nat) (vd va vb : BitVec 5) (ps : BitVec 3)
  /-- VMUL (R256). Accumulator := lane product. -/
  | vmul (g : Nat) (ad : BitVec 2) (va vb : BitVec 5) (pg : BitVec 3) (src sgn : BitVec 2)
  /-- VMAC (R256). Accumulator += lane product. -/
  | vmac (g : Nat) (ad : BitVec 2) (va vb : BitVec 5) (pg : BitVec 3) (src sgn : BitVec 2)
  /-- VMSU (R256). Accumulator -= lane product. -/
  | vmsu (g : Nat) (ad : BitVec 2) (va vb : BitVec 5) (pg : BitVec 3) (src sgn : BitVec 2)
  /-- ACLR (R256). Clears the accumulator lanes. -/
  | aclr (g : Nat) (ad : BitVec 2) (va vb : BitVec 5) (pg : BitVec 3) (src sgn : BitVec 2)
  /-- AEXT (R257). Extracts a rounded, shifted, saturated value from an accumulator. -/
  | aext (g : Nat) (vd : BitVec 5) (ad : BitVec 2) (pg : BitVec 3) (sh : BitVec 6) (rnd : Bool) (sat : BitVec 2)
  /-- VLUT (R258). Interpolates a 1-D table in local memory. -/
  | vlut (g : Nat) (vd va : BitVec 5) (ra sh : BitVec 4) (pg : BitVec 3) (sgn : Bool)
  /-- VLUT2U (R259). Interpolates an unsigned 2-D table. -/
  | vlut2u (g : Nat) (vd va vb : BitVec 5) (ra sh : BitVec 4) (pg : BitVec 3)
  /-- VLUT2S (R259). Interpolates a signed 2-D table. -/
  | vlut2s (g : Nat) (vd va vb : BitVec 5) (ra sh : BitVec 4) (pg : BitVec 3)
  /-- VRND (R260). Advances each lane's LFSR and writes its state. -/
  | vrnd (g : Nat) (vd : BitVec 5) (pg : BitVec 3)
  /-- PGET (R261). Takes the next input vector of the slot. -/
  | pget (g : Nat) (vd : BitVec 5) (pd : BitVec 3)
  /-- PPUT (R261). Gives the next output vector of the slot. -/
  | pput (g : Nat) (vd : BitVec 5) (pd : BitVec 3)
  /-- SGET (R261). Takes the next harvest sample vector and its mask. -/
  | sget (g : Nat) (vd : BitVec 5) (pd : BitVec 3)
  /-- BC_STATUS (R284). A driver STATUS arrives with temperature and counts, and may start a transient retrain. -/
  | bcStatus (k : BcPacket)
  /-- ECHO (R286). A driver ECHO arrives, and the round trip gives a flight-time sample. -/
  | echo (k : BcPacket) (rt : Nat)
  /-- SENSE (R295). A SENSE packet of a sensed line is written to the harvest ring and the result area. -/
  | sense (k : BcPacket)
  /-- SENSE_TIMEOUT (R295). A SENSE has not arrived within 20 us of its latch and is requested again after the sweep. -/
  | senseTimeout (d line : Nat)
  /-- TRAIN_TIMEOUT (R285). A driver in training has not locked within 200 us and is retried or goes DOWN. -/
  | trainTimeout (d : Nat)
  /-- RETRAIN_CHECK (R289). 4 us into a transient retrain, the driver is tested for lock and a second attempt starts if needed. -/
  | retrainCheck (d : Nat)
  /-- ECHO_PERIOD (R286). Once a second, an ECHO_REQ is sent to each driver in RUN. -/
  | echoPeriod
  /-- DOWN_RETRY (R290). Every 10 ms, a DOWN driver is fully retrained. -/
  | downRetry (d : Nat)
  /-- BC_LOST (R291). A back channel stays down 1 ms, and LANE_DOWN is posted with cause 1. -/
  | bcLost (d : Nat)
  /-- PNL_PG_RISE (R303). PNL_PG[k] rises, and the power-on sequence moves on to its on_delay. -/
  | pnlPgRise (k : Nat)
  /-- PG_TIMEOUT (R304). PNL_PG[k] does not rise within pg_to; raised steps are released and the state goes to FAULT. -/
  | pgTimeout
  /-- SEQ_DELAY_END (R303). A step's on_delay ends; the next step, the GRST pulse and ON follow. -/
  | seqDelayEnd
  /-- PNL_PG_FALL (R304). A PG falls while ON, and the shortened discharge runs to FAULT. -/
  | pnlPgFall (k : Nat)
  /-- AGO_HOLD_END (R305). The AGO hold ends and the rails are released in descending order. -/
  | agoHoldEnd
  /-- OFF_DELAY_END (R305). A step's off_delay ends, the next rail is released, or AGO and LS_EN fall and the state goes to OFF. -/
  | offDelayEnd
  /-- PFW_N (R306). PFW_N falls; the part enters DISCHARGE with the shortened discharge and starts a hot save. -/
  | pfwN
  /-- CRACK_MEASUREMENT (R309). A crack loop measurement completes and the loop may be declared cracked. -/
  | crackMeasurement (codes : List Nat)
  /-- STRIPE_FLUSH (R351). A stripe buffer has had no write for 10 us and is written out as a partial write. -/
  | stripeFlush (buf : Nat)
  /-- CXL_READ_RETURN (R361). Read data returns from a CXL port, and a poisoned unit is reconstructed and rewritten. -/
  | cxlReadReturn (n dev : Nat) (poisoned : Bool)
  /-- READ_WATCHDOG (R360). A CXL read stays outstanding 4 us in L0, and the port is declared lost with cause 0. -/
  | readWatchdog (n : Nat)
  /-- CXL_LINK_DOWN (R360). A CXL link leaves L0 other than into L1, and the port is lost with cause 1. -/
  | cxlLinkDown (n : Nat)
  /-- CXL_FATAL_ERROR (R360). A device reports a fatal uncorrectable error, and the port is lost with cause 2. -/
  | cxlFatalError (n : Nat)
  /-- L1_ENTRY (R359). With no access outstanding and LT allowing, the ports enter L1 together. -/
  | l1Entry
  /-- L1_EXIT (R174). LT falls to the wake latency plus 2 us, and the ports begin their L1 exit. -/
  | l1Exit
  /-- L1_EXIT_TIMEOUT (R359). A port has not reached L0 within its wake latency plus 4 us and is lost. -/
  | l1ExitTimeout (n : Nat)
  /-- PARITY_REWRITE_CHECK (R375). The rewritten or re-read word is checked, and a hard fault is remapped. -/
  | parityRewriteCheck (inst word : Nat) (bad : Bool)
  /-- XRAM_READ (R371). A port A read of the exchange RAM, with BUSY on collision. -/
  | xramRead (p off size : Nat) (coll : Collision)
  /-- XRAM_WRITE (R369). A port A write of the exchange RAM, dropped for a partition without write rights; word 0x7FFF drives BCB_INT_N. -/
  | xramWrite (p off : Nat) (data : List Byte) (coll : Collision)
  /-- BCB_READ (R370). A board read on port B, with BCB_BUSY_N on collision. -/
  | bcbRead (w : BitVec 15) (coll : Collision)
  /-- BCB_WRITE (R370). A board write on port B, taken at the rise of BCB_WE_N. -/
  | bcbWrite (w : BitVec 15) (v : Half) (coll : Collision)
  /-- BCB_CS_WAKE (R373). A falling BCB_CS_N while XRAM is in RET requests ON. -/
  | bcbCsWake
  /-- ENG_CONF_READ (R243). A read of ENG_CONF_LO returns bits 31:0 and copies bits 47:32 into ENG_CONF_HI. -/
  | engConfRead (p : Nat)
  /-- MEM_CONF_READ (R383). A read of MEM_CONF_LO returns bits 31:0 and copies bits 47:32 into MEM_CONF_HI. -/
  | memConfRead (p : Nat)
  /-- DOMAIN_EXIT_START (R388). A domain's planned exit time is reached and its exit begins. -/
  | domainExitStart (d : Nat)
  /-- DOMAIN_CHANGE_DONE (R392). A domain's entry or exit completes, and its pending request is evaluated. -/
  | domainChangeDone (d : Nat)
  /-- XRAM_IDLE (R389). XRAM has had no access for idle us and leaves ON. -/
  | xramIdle
  /-- RAIL_ACK (R395). A PMBus command is acknowledged and VR_PG confirms it. -/
  | railAck (k : Nat)
  /-- RAIL_TIMEOUT (R395). A rail request NACKs or times out; it is retried once, then refused. -/
  | railTimeout (k : Nat)
  /-- PW_ALERT (R394). PW_ALERT_N falls, and the part reads and clears STATUS_WORD of every rail. -/
  | pwAlert (status : List (BitVec 16))
  /-- VR_PG_FALL (R395). VR_PG of a held rail falls, and the part acts as on PFW_N. -/
  | vrPgFall (k : Nat)
  /-- TEMP_READ (R402). Every 1 ms the die sensors are read, with THERMAL, trip and temperature-triggered calibration. -/
  | tempRead (sensors : List Int)
  /-- NTC_MEASURE (R207). Every 1 ms each NTC is measured and converted. -/
  | ntcMeasure (k code : Nat)
  /-- MG_ADDRESS_MATCH (R398). An I2C or I3C address match on MG_SCL/MG_SDA wakes the part. -/
  | mgAddressMatch (addr : BitVec 7)
  /-- WAKE_N_LOW (R398). WAKE_N low wakes the part. -/
  | wakeNLow
  /-- SYNC_IN_WAKE (R398). A SYNC_IN edge wakes the part from deep sleep. -/
  | syncInWake
  /-- PCIE_INBAND_WAKE (R398). A PERST release or electrical-idle exit on an HP port wakes the part. -/
  | pcieInbandWake (n : Nat)
  /-- AON_TIMER (R398). The AON milestone timer reaches its armed value and wakes the part. -/
  | aonTimer
  /-- SVC_RESTORE_DONE (R399). SVC is restored with registers and TB, and the domains return by need. -/
  | svcRestoreDone (ticks : Nat)
  /-- GATHER_TIMEOUT (R413). gather_ms passes since the first gathered item, and the buffer is committed. -/
  | gatherTimeout
  /-- JOURNAL_COMMIT (R413). A journal commit finishes its writes and marker clear, and its NVM_WRITEs complete. -/
  | journalCommit (failed : List Nat)
  /-- DIRECT_WRITE_DONE (R411). A direct record write ends with its header, and its NVM_WRITE completes. -/
  | directWriteDone (failed : Bool)
  /-- HOT_SAVE_DONE (R415). A hot save of keys 0x0040 to 0x0042 completes. -/
  | hotSaveDone
  /-- SCRUB_GRANULE (R420). While idle, the SVC scrubs one granule at both margins and rewrites or repairs it. -/
  | scrubGranule (r : ScrubRead)
  /-- CALIBRATION_RUN_END (R429). A calibration run ends, its results are gathered and a pending request starts. -/
  | calibrationRunEnd (cal : CalOutcome)
  /-- MONITOR_REREAD (R430). 2 ms after settle, the monitors are re-read; the re-plan steps again or sets limits and retirements and ends. -/
  | monitorReread (slack : List Int)
  /-- PATH_MONITOR_SAMPLE (R430). Every 1 ms each path-delay monitor measures its slack. -/
  | pathMonitorSample (m : Nat) (slack : Int)
  /-- CAL_LOG_FETCH (R436). A write to CAL_LOG_SEL fetches an error log entry into CAL_LOG_DATA. -/
  | calLogFetch (p : Nat) (v : Word)
  /-- CAL_LOG_ACK_WRITE (R436). A write to CAL_LOG_ACK declares earlier entries read. -/
  | calLogAckWrite (p : Nat) (v : Word)
  /-- SVC_WATCHDOG (R432). The SVC has no firmware heartbeat for 100 ms and is restarted from the NVS. -/
  | svcWatchdog
  /-- GET_VERSION (R441). An SPDM GET_VERSION request is answered. -/
  | getVersion (n : Nat)
  /-- GET_CAPABILITIES (R441). An SPDM GET_CAPABILITIES request is answered. -/
  | getCapabilities (n : Nat) (caps : Word)
  /-- NEGOTIATE_ALGORITHMS (R441). An SPDM NEGOTIATE_ALGORITHMS request is answered. -/
  | negotiateAlgorithms (n : Nat) (p384 : Bool)
  /-- GET_DIGESTS (R441). An SPDM GET_DIGESTS request returns the slot 0 digest. -/
  | getDigests (n : Nat)
  /-- GET_CERTIFICATE (R440). An SPDM GET_CERTIFICATE request returns the certificate chain. -/
  | getCertificate (n slot off len : Nat)
  /-- CHALLENGE (R441). An SPDM CHALLENGE is signed by the unit key. -/
  | challenge (n slot : Nat) (nonce : List Byte)
  /-- GET_MEASUREMENTS (R442). An SPDM GET_MEASUREMENTS returns the measurement blocks taken in one cycle. -/
  | getMeasurements (n : Nat) (idx : List Nat) (signed : Bool) (nonce : List Byte)
  /-- KEY_EXCHANGE (R441). An SPDM KEY_EXCHANGE opens a session. -/
  | keyExchange (n slot : Nat) (mutAuth : Bool)
  /-- FINISH (R451). An SPDM FINISH completes a session and may activate a pinned SAFETY binding. -/
  | finish (n : Nat) (hmacOk : Bool)
  /-- HEARTBEAT (R441). An SPDM HEARTBEAT keeps a session alive. -/
  | heartbeat (n : Nat)
  /-- KEY_UPDATE (R441). An SPDM KEY_UPDATE updates the session keys. -/
  | keyUpdate (n : Nat)
  /-- END_SESSION (R441). An SPDM END_SESSION closes the session. -/
  | endSession (n : Nat)
  /-- ENCAPSULATED_REQUEST (R441). The encapsulated flow carries mutual authentication. -/
  | encapsulatedRequest (n : Nat) (spki : List Byte) (sigOk : Bool)
  /-- BYPASS (R472). The TAP BYPASS instruction. -/
  | bypass (shift : List Bool)
  /-- SAMPLE_PRELOAD (R472). The TAP SAMPLE/PRELOAD instruction. -/
  | samplePreload (shift : List Bool)
  /-- EXTEST (R472). The TAP EXTEST instruction. -/
  | extest (shift : List Bool)
  /-- CLAMP (R472). The TAP CLAMP instruction. -/
  | clamp (shift : List Bool)
  /-- HIGHZ (R472). The TAP HIGHZ instruction. -/
  | highz (shift : List Bool)
  /-- ILLEGAL_INSTRUCTION (R245). An engine fetches a word whose opcode is not listed, such as the all-zero word beyond code_len, or with a reserved code or non-zero zero field, and takes an illegal-instruction fault. -/
  | illegalInstruction (g : Nat) (w : Word)
  /-- RESET_ASSERT (R488). RST_N falls, the part enters reset with its pins at their in-reset levels, and any start-up in progress is abandoned to restart when RST_N rises. -/
  | resetAssert
  /-- CRYSTAL_SWITCH (R478). The AON domain has counted 1,024 stable crystal cycles and changes glitch-free from its RC oscillator to the crystal. -/
  | crystalSwitch
  /-- CXL_LINK_L0 (R363). A CXL port's link reaches L0, after an L1 exit or after a loss, so that read traffic resumes or a rebuild may be started. -/
  | cxlLinkL0 (n : Nat) (exit : Nat)
  /-- CXL_PORT_TRAINED (R347). A CXL port ends its training and enumeration at bring-up, and counts as used or absent, a missing port of the layout leaving FST_STATUS.state at failed. -/
  | cxlPortTrained (n : Nat) (dev : Option CxlDevice)
  /-- CXL_CORRECTABLE_ERROR (R346). A CXL device or link reports a correctable error, which the SVC counts and logs at most once per port per hour. -/
  | cxlCorrectableError (n : Nat)
  /-- CXL_WRITE_ACK (R351). A CXL unit write is acknowledged, and a stripe buffer whose unit writes are all acknowledged is freed. -/
  | cxlWriteAck (buf unit : Nat)
  /-- ECHO_STEP_END (R285). The echo step of a driver's training ends, and it is accepted with 12 valid ECHOs within 200 ps, repeated once, or the driver goes to DOWN. -/
  | echoStepEnd (d : Nat)
  /-- SVC_RESTART_DONE (R432). The SVC, restarted from the NVS after its watchdog, runs again and serves the descriptors that waited on it. -/
  | svcRestartDone
  /-- ON_TIME_SECOND (R430). Each second of panel power ON advances the panel on-time, and a re-plan may fall due, running at once in BRINGUP. -/
  | onTimeSecond
  /-- DOE_DISCOVERY (R441). A DOE Discovery request on an HP port is answered with the SPDM and Secured SPDM data object types. -/
  | doeDiscovery (n idx : Nat)
  /-- DISCHARGE_COPY_TIMER (R305). With the raster stopped, 1 us after the first DISCHARGE copy the second is sent and the AGO hold order follows. -/
  | dischargeCopyTimer
  deriving DecidableEq, Repr

end Sys2Proof
end

