-- ==== Sys2Proof/Decode.lean ====
section
/-! DEFINITION. Decoding. The table of operations gives its rows no bits, so no word of the table spells a command. The
engine instructions have words of their own (R245, R246): `decodeEngine` reads them. -/

namespace Sys2Proof

/-- The command a word spells by the table's bits: none, since no row of the table gives any. -/
def decodeTableWord (_nbits _w : Nat) : Option Instr := none

/-- `n` bits of a word from bit `lo`. -/
def wf (w : Word) (lo n : Nat) : BitVec n := w.extractLsb' lo n

/-- SALU functions (R248). -/
def saluOf (g : Nat) (rd ra rb : BitVec 4) : Nat → Option Instr
  | 0x00 => some (.saluAdd g rd ra rb) | 0x01 => some (.saluSub g rd ra rb) | 0x02 => some (.saluAnd g rd ra rb)
  | 0x03 => some (.saluOr g rd ra rb) | 0x04 => some (.saluXor g rd ra rb) | 0x05 => some (.saluSll g rd ra rb)
  | 0x06 => some (.saluSrl g rd ra rb) | 0x07 => some (.saluSra g rd ra rb) | 0x08 => some (.saluSlt g rd ra rb)
  | 0x09 => some (.saluSltu g rd ra rb) | 0x0A => some (.saluMul g rd ra rb) | 0x0B => some (.saluMulh g rd ra rb)
  | 0x0C => some (.saluMulhu g rd ra rb) | 0x0D => some (.saluMin g rd ra rb) | 0x0E => some (.saluMax g rd ra rb)
  | 0x0F => some (.saluMinu g rd ra rb) | 0x10 => some (.saluMaxu g rd ra rb) | _ => none

/-- SHI kinds (R248). -/
def shiOf (g : Nat) (rd ra : BitVec 4) (sh : BitVec 5) : Nat → Option Instr
  | 0 => some (.slli g rd ra sh) | 1 => some (.srli g rd ra sh) | 2 => some (.srai g rd ra sh) | _ => none

/-- CTRL functions (R264): only WAITL uses rd, and only SIG uses ch. -/
def ctrlOf (g : Nat) (rd ch : BitVec 4) : Nat → Option Instr
  | 0 => some (.ctrlNop g) | 1 => some (.waitl g rd) | 2 => some (.sig g ch) | 3 => some (.halt g)
  | 4 => some (.fence g) | _ => none

/-- CSR functions (R266). -/
def csrOf (g : Nat) (rd ra : BitVec 4) (csr : BitVec 12) : Nat → Option Instr
  | 0 => some (.csrRead g rd ra csr) | 1 => some (.csrWrite g rd ra csr) | 2 => some (.csrSet g rd ra csr)
  | 3 => some (.csrClear g rd ra csr) | _ => none

/-- SLD functions (R251). -/
def sldOf (g : Nat) (rd ra : BitVec 4) (off : BitVec 14) : Nat → Option Instr
  | 0 => some (.lb g rd ra off) | 1 => some (.lbu g rd ra off) | 2 => some (.lh g rd ra off)
  | 3 => some (.lhu g rd ra off) | 4 => some (.lw g rd ra off) | _ => none

/-- SST functions (R251). -/
def sstOf (g : Nat) (rb ra : BitVec 4) (off : BitVec 14) : Nat → Option Instr
  | 0 => some (.sb g rb ra off) | 1 => some (.sh g rb ra off) | 2 => some (.sw g rb ra off) | _ => none

/-- VALU functions (R253). -/
def valuOf (g : Nat) (vd va vb : BitVec 5) (pg : BitVec 3) (src : BitVec 2) : Nat → Option Instr
  | 0x00 => some (.valuAdd g vd va vb pg src) | 0x01 => some (.valuSub g vd va vb pg src)
  | 0x02 => some (.addss g vd va vb pg src) | 0x03 => some (.subss g vd va vb pg src)
  | 0x04 => some (.addus g vd va vb pg src) | 0x05 => some (.subus g vd va vb pg src)
  | 0x06 => some (.mullo g vd va vb pg src) | 0x07 => some (.mulhs g vd va vb pg src)
  | 0x08 => some (.valuMulhu g vd va vb pg src) | 0x09 => some (.valuMin g vd va vb pg src)
  | 0x0A => some (.valuMax g vd va vb pg src) | 0x0B => some (.valuMinu g vd va vb pg src)
  | 0x0C => some (.valuMaxu g vd va vb pg src) | 0x0D => some (.valuAnd g vd va vb pg src)
  | 0x0E => some (.valuOr g vd va vb pg src) | 0x0F => some (.valuXor g vd va vb pg src)
  | 0x10 => some (.valuAndn g vd va vb pg src) | 0x11 => some (.valuSll g vd va vb pg src)
  | 0x12 => some (.valuSrl g vd va vb pg src) | 0x13 => some (.valuSra g vd va vb pg src)
  | 0x14 => some (.srar g vd va vb pg src) | 0x15 => some (.absdu g vd va vb pg src)
  | 0x16 => some (.avgu g vd va vb pg src) | 0x17 => some (.vmov g vd va vb pg src) | _ => none

/-- PLOG functions (R254). -/
def plogOf (g : Nat) (pd pa pb : BitVec 3) (sa : BitVec 4) : Nat → Option Instr
  | 0 => some (.plogAnd g pd pa pb sa) | 1 => some (.plogOr g pd pa pb sa) | 2 => some (.plogXor g pd pa pb sa)
  | 3 => some (.plogAndn g pd pa pb sa) | 4 => some (.plogNot g pd pa pb sa) | 5 => some (.froms g pd pa pb sa)
  | 6 => some (.tos g pd pa pb sa) | 7 => some (.cnt g pd pa pb sa) | 8 => some (.firstn g pd pa pb sa) | _ => none

/-- VMOVE functions (R255). -/
def vmoveOf (g : Nat) (vd va vb : BitVec 5) (ps : BitVec 3) : Nat → Option Instr
  | 0 => some (.vsel g vd va vb ps) | 1 => some (.vperm g vd va vb ps) | 2 => some (.vbcst g vd va vb ps)
  | 3 => some (.vbcsts g vd va vb ps) | 4 => some (.vredAdd g vd va vb ps) | 5 => some (.vredAddu g vd va vb ps)
  | 6 => some (.vredMin g vd va vb ps) | 7 => some (.vredMax g vd va vb ps) | 8 => some (.vredMinu g vd va vb ps)
  | 9 => some (.vredMaxu g vd va vb ps) | _ => none

/-- VMAC functions (R256). -/
def vmacOf (g : Nat) (ad : BitVec 2) (va vb : BitVec 5) (pg : BitVec 3) (src sgn : BitVec 2) : Nat → Option Instr
  | 0 => some (.vmul g ad va vb pg src sgn) | 1 => some (.vmac g ad va vb pg src sgn)
  | 2 => some (.vmsu g ad va vb pg src sgn) | 3 => some (.aclr g ad va vb pg src sgn) | _ => none

/-- STRM functions (R261). -/
def strmOf (g : Nat) (vd : BitVec 5) (pd : BitVec 3) : Nat → Option Instr
  | 0 => some (.pget g vd pd) | 1 => some (.pput g vd pd) | 2 => some (.sget g vd pd) | _ => none

/-- A command kept if a zero field is 0. -/
def zeroAnd (w : Word) (lo n : Nat) (i : Option Instr) : Option Instr := if wf w lo n = 0 then i else none

/-- A command kept if a condition on its codes holds. -/
def onlyIf (b : Bool) (i : Option Instr) : Option Instr := if b then i else none

/-- src of a vector operand is not reserved, and vb's bit 4 is zero where an s-register is named (R246). -/
def srcOk (src : BitVec 2) (vb : BitVec 5) : Bool := src != 3 && !(src == 1 && vb.getLsbD 4)

/-- The instruction that engine `g` reads from a word (R245, R246); none for a word with a reserved code or a zero field
that is not 0, which it takes as an illegal instruction. -/
def decodeEngine (g : Nat) (w : Word) : Option Instr :=
  match w.toNat / 2 ^ 26 with
  | 0x01 => zeroAnd w 6 8 (saluOf g (wf w 22 4) (wf w 18 4) (wf w 14 4) (wf w 0 6).toNat)
  | 0x02 => some (.addi g (wf w 22 4) (wf w 18 4) (wf w 0 18))
  | 0x03 => some (.slti g (wf w 22 4) (wf w 18 4) (wf w 0 18))
  | 0x04 => some (.sltiu g (wf w 22 4) (wf w 18 4) (wf w 0 18))
  | 0x05 => some (.andi g (wf w 22 4) (wf w 18 4) (wf w 0 18))
  | 0x06 => some (.ori g (wf w 22 4) (wf w 18 4) (wf w 0 18))
  | 0x07 => some (.xori g (wf w 22 4) (wf w 18 4) (wf w 0 18))
  | 0x08 => zeroAnd w 5 11 (shiOf g (wf w 22 4) (wf w 18 4) (wf w 0 5) (wf w 16 2).toNat)
  | 0x09 => zeroAnd w 16 6 (some (.lui g (wf w 22 4) (wf w 0 16)))
  | 0x0A => onlyIf (wf w 15 3 < 6) (some (.br g (wf w 22 4) (wf w 18 4) (wf w 15 3) (wf w 0 15)))
  | 0x0B => some (.jal g (wf w 0 26))
  | 0x0C => zeroAnd w 0 18 (some (.jalr g (wf w 22 4) (wf w 18 4)))
  | 0x0D => some (.loop g (wf w 22 4) (wf w 10 12) (wf w 0 10))
  | 0x0E => zeroAnd w 4 14 (ctrlOf g (wf w 22 4) (wf w 18 4) (wf w 0 4).toNat)
  | 0x0F => zeroAnd w 12 4 (csrOf g (wf w 22 4) (wf w 18 4) (wf w 0 12) (wf w 16 2).toNat)
  | 0x10 => sldOf g (wf w 22 4) (wf w 18 4) (wf w 0 14) (wf w 14 4).toNat
  | 0x11 => sstOf g (wf w 22 4) (wf w 18 4) (wf w 0 14) (wf w 14 4).toNat
  | 0x12 => some (.vld g (wf w 21 5) (wf w 17 4) (wf w 14 3) (wf w 0 14) none)
  | 0x13 => some (.vst g (wf w 21 5) (wf w 17 4) (wf w 14 3) (wf w 0 14))
  | 0x14 => onlyIf (srcOk (wf w 6 2) (wf w 11 5)) <|
      valuOf g (wf w 21 5) (wf w 16 5) (wf w 11 5) (wf w 8 3) (wf w 6 2) (wf w 0 6).toNat
  | 0x15 => onlyIf (srcOk (wf w 8 2) (wf w 13 5) && wf w 0 4 < 10) <|
      zeroAnd w 4 4 (some (.vcmp g (wf w 23 3) (wf w 18 5) (wf w 13 5) (wf w 10 3) (wf w 8 2) (wf w 0 4)))
  | 0x16 => zeroAnd w 4 9 (plogOf g (wf w 23 3) (wf w 20 3) (wf w 17 3) (wf w 13 4) (wf w 0 4).toNat)
  | 0x17 => onlyIf (wf w 0 4 < 4 || !w.getLsbD 25) <| zeroAnd w 4 4 (vmoveOf g (wf w 21 5) (wf w 16 5) (wf w 11 5) (wf w 8 3) (wf w 0 4).toNat)
  | 0x18 => onlyIf (srcOk (wf w 9 2) (wf w 14 5) && wf w 7 2 != 3) <|
      zeroAnd w 2 5 (vmacOf g (wf w 24 2) (wf w 19 5) (wf w 14 5) (wf w 11 3) (wf w 9 2) (wf w 7 2) (wf w 0 2).toNat)
  | 0x19 => zeroAnd w 0 7 (some (.aext g (wf w 21 5) (wf w 19 2) (wf w 16 3) (wf w 10 6) (w.getLsbD 9) (wf w 7 2)))
  | 0x1A => zeroAnd w 0 4 (some (.vlut g (wf w 21 5) (wf w 16 5) (wf w 12 4) (wf w 8 4) (wf w 5 3) (w.getLsbD 4)))
  | 0x1B => some (.vlut2u g (wf w 21 5) (wf w 16 5) (wf w 11 5) (wf w 7 4) (wf w 3 4) (wf w 0 3))
  | 0x1C => some (.vlut2s g (wf w 21 5) (wf w 16 5) (wf w 11 5) (wf w 7 4) (wf w 3 4) (wf w 0 3))
  | 0x1D => zeroAnd w 3 18 (some (.vrnd g (wf w 21 5) (wf w 0 3)))
  | 0x1E => zeroAnd w 4 14 (strmOf g (wf w 21 5) (wf w 18 3) (wf w 0 4).toNat)
  | _ => none

/-! The encoder, from the same formats (R246). -/

/-- A word from its major opcode and its fields, each a value and the bit it starts at. -/
def word (op : Nat) (fields : List (Nat × Nat)) : Option Word :=
  some (BitVec.ofNat 32 (fields.foldr (fun f n => f.1 * 2 ^ f.2 + n) (op * 2 ^ 26)))

/-- VALU's word. -/
def valuWord (vd va vb : BitVec 5) (pg : BitVec 3) (src : BitVec 2) (fn : Nat) : Option Word :=
  word 0x14 [(vd.toNat, 21), (va.toNat, 16), (vb.toNat, 11), (pg.toNat, 8), (src.toNat, 6), (fn, 0)]

/-- VMAC's word. -/
def macWord (ad : BitVec 2) (va vb : BitVec 5) (pg : BitVec 3) (src sgn : BitVec 2) (fn : Nat) : Option Word :=
  word 0x18 [(ad.toNat, 24), (va.toNat, 19), (vb.toNat, 14), (pg.toNat, 11), (src.toNat, 9), (sgn.toNat, 7), (fn, 0)]

/-- The word of an engine instruction (R246); none for a command that is no engine instruction. -/
def encodeEngine : Instr → Option Word
  | .saluAdd _ rd ra rb => word 0x01 [(rd.toNat, 22), (ra.toNat, 18), (rb.toNat, 14), (0, 0)]
  | .saluSub _ rd ra rb => word 0x01 [(rd.toNat, 22), (ra.toNat, 18), (rb.toNat, 14), (1, 0)]
  | .saluAnd _ rd ra rb => word 0x01 [(rd.toNat, 22), (ra.toNat, 18), (rb.toNat, 14), (2, 0)]
  | .saluOr _ rd ra rb => word 0x01 [(rd.toNat, 22), (ra.toNat, 18), (rb.toNat, 14), (3, 0)]
  | .saluXor _ rd ra rb => word 0x01 [(rd.toNat, 22), (ra.toNat, 18), (rb.toNat, 14), (4, 0)]
  | .saluSll _ rd ra rb => word 0x01 [(rd.toNat, 22), (ra.toNat, 18), (rb.toNat, 14), (5, 0)]
  | .saluSrl _ rd ra rb => word 0x01 [(rd.toNat, 22), (ra.toNat, 18), (rb.toNat, 14), (6, 0)]
  | .saluSra _ rd ra rb => word 0x01 [(rd.toNat, 22), (ra.toNat, 18), (rb.toNat, 14), (7, 0)]
  | .saluSlt _ rd ra rb => word 0x01 [(rd.toNat, 22), (ra.toNat, 18), (rb.toNat, 14), (8, 0)]
  | .saluSltu _ rd ra rb => word 0x01 [(rd.toNat, 22), (ra.toNat, 18), (rb.toNat, 14), (9, 0)]
  | .saluMul _ rd ra rb => word 0x01 [(rd.toNat, 22), (ra.toNat, 18), (rb.toNat, 14), (10, 0)]
  | .saluMulh _ rd ra rb => word 0x01 [(rd.toNat, 22), (ra.toNat, 18), (rb.toNat, 14), (11, 0)]
  | .saluMulhu _ rd ra rb => word 0x01 [(rd.toNat, 22), (ra.toNat, 18), (rb.toNat, 14), (12, 0)]
  | .saluMin _ rd ra rb => word 0x01 [(rd.toNat, 22), (ra.toNat, 18), (rb.toNat, 14), (13, 0)]
  | .saluMax _ rd ra rb => word 0x01 [(rd.toNat, 22), (ra.toNat, 18), (rb.toNat, 14), (14, 0)]
  | .saluMinu _ rd ra rb => word 0x01 [(rd.toNat, 22), (ra.toNat, 18), (rb.toNat, 14), (15, 0)]
  | .saluMaxu _ rd ra rb => word 0x01 [(rd.toNat, 22), (ra.toNat, 18), (rb.toNat, 14), (16, 0)]
  | .addi _ rd ra imm => word 0x02 [(rd.toNat, 22), (ra.toNat, 18), (imm.toNat, 0)]
  | .slti _ rd ra imm => word 0x03 [(rd.toNat, 22), (ra.toNat, 18), (imm.toNat, 0)]
  | .sltiu _ rd ra imm => word 0x04 [(rd.toNat, 22), (ra.toNat, 18), (imm.toNat, 0)]
  | .andi _ rd ra imm => word 0x05 [(rd.toNat, 22), (ra.toNat, 18), (imm.toNat, 0)]
  | .ori _ rd ra imm => word 0x06 [(rd.toNat, 22), (ra.toNat, 18), (imm.toNat, 0)]
  | .xori _ rd ra imm => word 0x07 [(rd.toNat, 22), (ra.toNat, 18), (imm.toNat, 0)]
  | .slli _ rd ra sh => word 0x08 [(rd.toNat, 22), (ra.toNat, 18), (0, 16), (sh.toNat, 0)]
  | .srli _ rd ra sh => word 0x08 [(rd.toNat, 22), (ra.toNat, 18), (1, 16), (sh.toNat, 0)]
  | .srai _ rd ra sh => word 0x08 [(rd.toNat, 22), (ra.toNat, 18), (2, 16), (sh.toNat, 0)]
  | .lui _ rd imm => word 0x09 [(rd.toNat, 22), (imm.toNat, 0)]
  | .br _ ra rb cond off => word 0x0A [(ra.toNat, 22), (rb.toNat, 18), (cond.toNat, 15), (off.toNat, 0)]
  | .jal _ off => word 0x0B [(off.toNat, 0)]
  | .jalr _ rd ra => word 0x0C [(rd.toNat, 22), (ra.toNat, 18)]
  | .loop _ rc count len => word 0x0D [(rc.toNat, 22), (count.toNat, 10), (len.toNat, 0)]
  | .ctrlNop _ => word 0x0E [(0, 0)]
  | .waitl _ rd => word 0x0E [(rd.toNat, 22), (1, 0)]
  | .sig _ ch => word 0x0E [(ch.toNat, 18), (2, 0)]
  | .halt _ => word 0x0E [(3, 0)]
  | .fence _ => word 0x0E [(4, 0)]
  | .csrRead _ rd ra csr => word 0x0F [(rd.toNat, 22), (ra.toNat, 18), (0, 16), (csr.toNat, 0)]
  | .csrWrite _ rd ra csr => word 0x0F [(rd.toNat, 22), (ra.toNat, 18), (1, 16), (csr.toNat, 0)]
  | .csrSet _ rd ra csr => word 0x0F [(rd.toNat, 22), (ra.toNat, 18), (2, 16), (csr.toNat, 0)]
  | .csrClear _ rd ra csr => word 0x0F [(rd.toNat, 22), (ra.toNat, 18), (3, 16), (csr.toNat, 0)]
  | .lb _ rd ra off => word 0x10 [(rd.toNat, 22), (ra.toNat, 18), (0, 14), (off.toNat, 0)]
  | .lbu _ rd ra off => word 0x10 [(rd.toNat, 22), (ra.toNat, 18), (1, 14), (off.toNat, 0)]
  | .lh _ rd ra off => word 0x10 [(rd.toNat, 22), (ra.toNat, 18), (2, 14), (off.toNat, 0)]
  | .lhu _ rd ra off => word 0x10 [(rd.toNat, 22), (ra.toNat, 18), (3, 14), (off.toNat, 0)]
  | .lw _ rd ra off => word 0x10 [(rd.toNat, 22), (ra.toNat, 18), (4, 14), (off.toNat, 0)]
  | .sb _ rb ra off => word 0x11 [(rb.toNat, 22), (ra.toNat, 18), (0, 14), (off.toNat, 0)]
  | .sh _ rb ra off => word 0x11 [(rb.toNat, 22), (ra.toNat, 18), (1, 14), (off.toNat, 0)]
  | .sw _ rb ra off => word 0x11 [(rb.toNat, 22), (ra.toNat, 18), (2, 14), (off.toNat, 0)]
  | .vld _ vd ra pg off _ => word 0x12 [(vd.toNat, 21), (ra.toNat, 17), (pg.toNat, 14), (off.toNat, 0)]
  | .vst _ vb ra pg off => word 0x13 [(vb.toNat, 21), (ra.toNat, 17), (pg.toNat, 14), (off.toNat, 0)]
  | .valuAdd _ vd va vb pg src => valuWord vd va vb pg src 0
  | .valuSub _ vd va vb pg src => valuWord vd va vb pg src 1
  | .addss _ vd va vb pg src => valuWord vd va vb pg src 2
  | .subss _ vd va vb pg src => valuWord vd va vb pg src 3
  | .addus _ vd va vb pg src => valuWord vd va vb pg src 4
  | .subus _ vd va vb pg src => valuWord vd va vb pg src 5
  | .mullo _ vd va vb pg src => valuWord vd va vb pg src 6
  | .mulhs _ vd va vb pg src => valuWord vd va vb pg src 7
  | .valuMulhu _ vd va vb pg src => valuWord vd va vb pg src 8
  | .valuMin _ vd va vb pg src => valuWord vd va vb pg src 9
  | .valuMax _ vd va vb pg src => valuWord vd va vb pg src 10
  | .valuMinu _ vd va vb pg src => valuWord vd va vb pg src 11
  | .valuMaxu _ vd va vb pg src => valuWord vd va vb pg src 12
  | .valuAnd _ vd va vb pg src => valuWord vd va vb pg src 13
  | .valuOr _ vd va vb pg src => valuWord vd va vb pg src 14
  | .valuXor _ vd va vb pg src => valuWord vd va vb pg src 15
  | .valuAndn _ vd va vb pg src => valuWord vd va vb pg src 16
  | .valuSll _ vd va vb pg src => valuWord vd va vb pg src 17
  | .valuSrl _ vd va vb pg src => valuWord vd va vb pg src 18
  | .valuSra _ vd va vb pg src => valuWord vd va vb pg src 19
  | .srar _ vd va vb pg src => valuWord vd va vb pg src 20
  | .absdu _ vd va vb pg src => valuWord vd va vb pg src 21
  | .avgu _ vd va vb pg src => valuWord vd va vb pg src 22
  | .vmov _ vd va vb pg src => valuWord vd va vb pg src 23
  | .vcmp _ pd va vb pg src cond => word 0x15
      [(pd.toNat, 23), (va.toNat, 18), (vb.toNat, 13), (pg.toNat, 10), (src.toNat, 8), (cond.toNat, 0)]
  | .plogAnd _ pd pa pb sa => word 0x16 [(pd.toNat, 23), (pa.toNat, 20), (pb.toNat, 17), (sa.toNat, 13), (0, 0)]
  | .plogOr _ pd pa pb sa => word 0x16 [(pd.toNat, 23), (pa.toNat, 20), (pb.toNat, 17), (sa.toNat, 13), (1, 0)]
  | .plogXor _ pd pa pb sa => word 0x16 [(pd.toNat, 23), (pa.toNat, 20), (pb.toNat, 17), (sa.toNat, 13), (2, 0)]
  | .plogAndn _ pd pa pb sa => word 0x16 [(pd.toNat, 23), (pa.toNat, 20), (pb.toNat, 17), (sa.toNat, 13), (3, 0)]
  | .plogNot _ pd pa pb sa => word 0x16 [(pd.toNat, 23), (pa.toNat, 20), (pb.toNat, 17), (sa.toNat, 13), (4, 0)]
  | .froms _ pd pa pb sa => word 0x16 [(pd.toNat, 23), (pa.toNat, 20), (pb.toNat, 17), (sa.toNat, 13), (5, 0)]
  | .tos _ pd pa pb sa => word 0x16 [(pd.toNat, 23), (pa.toNat, 20), (pb.toNat, 17), (sa.toNat, 13), (6, 0)]
  | .cnt _ pd pa pb sa => word 0x16 [(pd.toNat, 23), (pa.toNat, 20), (pb.toNat, 17), (sa.toNat, 13), (7, 0)]
  | .firstn _ pd pa pb sa => word 0x16 [(pd.toNat, 23), (pa.toNat, 20), (pb.toNat, 17), (sa.toNat, 13), (8, 0)]
  | .vsel _ vd va vb ps => word 0x17 [(vd.toNat, 21), (va.toNat, 16), (vb.toNat, 11), (ps.toNat, 8), (0, 0)]
  | .vperm _ vd va vb ps => word 0x17 [(vd.toNat, 21), (va.toNat, 16), (vb.toNat, 11), (ps.toNat, 8), (1, 0)]
  | .vbcst _ vd va vb ps => word 0x17 [(vd.toNat, 21), (va.toNat, 16), (vb.toNat, 11), (ps.toNat, 8), (2, 0)]
  | .vbcsts _ vd va vb ps => word 0x17 [(vd.toNat, 21), (va.toNat, 16), (vb.toNat, 11), (ps.toNat, 8), (3, 0)]
  | .vredAdd _ vd va vb ps => word 0x17 [(vd.toNat, 21), (va.toNat, 16), (vb.toNat, 11), (ps.toNat, 8), (4, 0)]
  | .vredAddu _ vd va vb ps => word 0x17 [(vd.toNat, 21), (va.toNat, 16), (vb.toNat, 11), (ps.toNat, 8), (5, 0)]
  | .vredMin _ vd va vb ps => word 0x17 [(vd.toNat, 21), (va.toNat, 16), (vb.toNat, 11), (ps.toNat, 8), (6, 0)]
  | .vredMax _ vd va vb ps => word 0x17 [(vd.toNat, 21), (va.toNat, 16), (vb.toNat, 11), (ps.toNat, 8), (7, 0)]
  | .vredMinu _ vd va vb ps => word 0x17 [(vd.toNat, 21), (va.toNat, 16), (vb.toNat, 11), (ps.toNat, 8), (8, 0)]
  | .vredMaxu _ vd va vb ps => word 0x17 [(vd.toNat, 21), (va.toNat, 16), (vb.toNat, 11), (ps.toNat, 8), (9, 0)]
  | .vmul _ ad va vb pg src sgn => macWord ad va vb pg src sgn 0
  | .vmac _ ad va vb pg src sgn => macWord ad va vb pg src sgn 1
  | .vmsu _ ad va vb pg src sgn => macWord ad va vb pg src sgn 2
  | .aclr _ ad va vb pg src sgn => macWord ad va vb pg src sgn 3
  | .aext _ vd ad pg sh rnd sat => word 0x19
      [(vd.toNat, 21), (ad.toNat, 19), (pg.toNat, 16), (sh.toNat, 10), (rnd.toNat, 9), (sat.toNat, 7)]
  | .vlut _ vd va ra sh pg sgn => word 0x1A
      [(vd.toNat, 21), (va.toNat, 16), (ra.toNat, 12), (sh.toNat, 8), (pg.toNat, 5), (sgn.toNat, 4)]
  | .vlut2u _ vd va vb ra sh pg => word 0x1B
      [(vd.toNat, 21), (va.toNat, 16), (vb.toNat, 11), (ra.toNat, 7), (sh.toNat, 3), (pg.toNat, 0)]
  | .vlut2s _ vd va vb ra sh pg => word 0x1C
      [(vd.toNat, 21), (va.toNat, 16), (vb.toNat, 11), (ra.toNat, 7), (sh.toNat, 3), (pg.toNat, 0)]
  | .vrnd _ vd pg => word 0x1D [(vd.toNat, 21), (pg.toNat, 0)]
  | .pget _ vd pd => word 0x1E [(vd.toNat, 21), (pd.toNat, 18), (0, 0)]
  | .pput _ vd pd => word 0x1E [(vd.toNat, 21), (pd.toNat, 18), (1, 0)]
  | .sget _ vd pd => word 0x1E [(vd.toNat, 21), (pd.toNat, 18), (2, 0)]
  | _ => none

/-- The engine that an engine instruction runs on; none for any other command. -/
def Instr.engine? : Instr → Option Nat
  | .saluAdd g _ _ _ | .saluSub g _ _ _ | .saluAnd g _ _ _ | .saluOr g _ _ _ | .saluXor g _ _ _ | .saluSll g _ _ _
  | .saluSrl g _ _ _ | .saluSra g _ _ _ | .saluSlt g _ _ _ | .saluSltu g _ _ _ | .saluMul g _ _ _ | .saluMulh g _ _ _
  | .saluMulhu g _ _ _ | .saluMin g _ _ _ | .saluMax g _ _ _ | .saluMinu g _ _ _ | .saluMaxu g _ _ _ | .addi g _ _ _
  | .slti g _ _ _ | .sltiu g _ _ _ | .andi g _ _ _ | .ori g _ _ _ | .xori g _ _ _ | .slli g _ _ _ | .srli g _ _ _
  | .srai g _ _ _ | .lui g _ _ | .br g _ _ _ _ | .jal g _ | .jalr g _ _ | .loop g _ _ _ | .ctrlNop g | .waitl g _
  | .sig g _ | .halt g | .fence g | .csrRead g _ _ _ | .csrWrite g _ _ _ | .csrSet g _ _ _ | .csrClear g _ _ _
  | .lb g _ _ _ | .lbu g _ _ _ | .lh g _ _ _ | .lhu g _ _ _ | .lw g _ _ _ | .sb g _ _ _ | .sh g _ _ _ | .sw g _ _ _
  | .vld g _ _ _ _ _ | .vst g _ _ _ _ | .valuAdd g _ _ _ _ _ | .valuSub g _ _ _ _ _ | .addss g _ _ _ _ _
  | .subss g _ _ _ _ _ | .addus g _ _ _ _ _ | .subus g _ _ _ _ _ | .mullo g _ _ _ _ _ | .mulhs g _ _ _ _ _
  | .valuMulhu g _ _ _ _ _ | .valuMin g _ _ _ _ _ | .valuMax g _ _ _ _ _ | .valuMinu g _ _ _ _ _
  | .valuMaxu g _ _ _ _ _ | .valuAnd g _ _ _ _ _ | .valuOr g _ _ _ _ _ | .valuXor g _ _ _ _ _ | .valuAndn g _ _ _ _ _
  | .valuSll g _ _ _ _ _ | .valuSrl g _ _ _ _ _ | .valuSra g _ _ _ _ _ | .srar g _ _ _ _ _ | .absdu g _ _ _ _ _
  | .avgu g _ _ _ _ _ | .vmov g _ _ _ _ _ | .vcmp g _ _ _ _ _ _ | .plogAnd g _ _ _ _ | .plogOr g _ _ _ _
  | .plogXor g _ _ _ _ | .plogAndn g _ _ _ _ | .plogNot g _ _ _ _ | .froms g _ _ _ _ | .tos g _ _ _ _ | .cnt g _ _ _ _
  | .firstn g _ _ _ _ | .vsel g _ _ _ _ | .vperm g _ _ _ _ | .vbcst g _ _ _ _ | .vbcsts g _ _ _ _ | .vredAdd g _ _ _ _
  | .vredAddu g _ _ _ _ | .vredMin g _ _ _ _ | .vredMax g _ _ _ _ | .vredMinu g _ _ _ _ | .vredMaxu g _ _ _ _
  | .vmul g _ _ _ _ _ _ | .vmac g _ _ _ _ _ _ | .vmsu g _ _ _ _ _ _ | .aclr g _ _ _ _ _ _ | .aext g _ _ _ _ _ _
  | .vlut g _ _ _ _ _ _ | .vlut2u g _ _ _ _ _ _ | .vlut2s g _ _ _ _ _ _ | .vrnd g _ _ | .pget g _ _ | .pput g _ _
  | .sget g _ _ | .illegalInstruction g _ => some g
  | _ => none

end Sys2Proof
end

