-- ==== Sys2Proof/Config.lean ====
section
/-! DEFINITION. What one unit fixes at test or in silicon, and the values the spec leaves open. Constants without a body
are free: nothing in a proof can depend on their value. -/

namespace Sys2Proof.Config

/-- Least firmware svn, fused (R453 SEC_FUSE.fw_svn). -/
opaque fuseFwSvn : BitVec 8

/-- Fused image-key digests present (R453 SEC_FUSE.keys). -/
opaque fuseKeys : BitVec 3

/-- Image policy, fused to the customer's order (R446). -/
opaque fuseImgPolicy : BitVec 2

/-- The unit identifier, fused (R439). -/
opaque unitId : BitVec 64

/-- Minor silicon revision (R464 GLB_REV.minor, "fixed"). -/
opaque revMinor : BitVec 8

/-- Redundant columns in use by instance, fused (R380). -/
opaque redundant : Nat → BitVec 8

/-- SRAM macros of an instance, fixed (R383). -/
opaque macros : Nat → BitVec 8

/-- The fused image-key digests (R446), and the digests of the Hokuos firmware key (R445) and root certificate (R440). -/
opaque fusedKey : Nat → List Byte
opaque firmwareKey : List Byte
opaque rootHash : List Byte

/-- SHA-384 of a byte string. The spec names the function (R441, R444) and does not define it. -/
opaque sha384 : List Byte → List Byte

/-- ECDSA P-384 verification of a signature (r, s) over a digest by a key (X, Y) (R444). -/
opaque p384Verify : (key digest sig : List Byte) → Bool

/-- The signing engine's signature with the unit's sealed key (R439). -/
opaque p384Sign : (digest : List Byte) → List Byte

/-- The content of measurement block 1, the boot logic version (R442), and what block 2 hashes while no firmware copy has passed. -/
opaque bootVersion : List Byte
opaque noFirmware : List Byte

/-- The internal depth shown by CSR_MODE and used by AEXT in a mode that R23 gives none. -/
opaque depthNone : BitVec 4

/-- A word the spec leaves open (undefined data, analogue results): a fresh value for every counter value. -/
opaque freeWord : Nat → BitVec 64

/-- An engine image's code is the Rusis library's compensation image (R177): the spec names it and gives no bytes of it. -/
opaque libraryImage : List Word → Bool

end Sys2Proof.Config
end

