-- ==== Sys2Proof/Machine/RegMap.lean ====
section
/-! DEFINITION. The BAR0 register maps (the register tables of the chapters of the spec) as data: offset, scope and index
of each register (R457, R458), and bits, access class (R7) and reset value of each field; and the registers' and fields'
names. Reserved bits are those no field covers. A field named X of register R of block B is `Reg.B_R_X`. -/

namespace Sys2Proof.Machine

/-- Access classes (R7). -/
inductive Acc where
  | rw | ro | w1c | w1s | wo | rwo | rwl
  deriving DecidableEq, Repr

/-- Scopes (R457). -/
inductive Scope where
  | owner | safety | part
  deriving DecidableEq, Repr

/-- The object a register is indexed by (R458), and so its selector. -/
inductive Ix where
  | none | lane | laneRx | laneTx | stream | layer | cluster | driver | queue | domain
  deriving DecidableEq, Repr

/-- One field of a register map. -/
structure FldDesc where
  hi : Nat
  lo : Nat
  acc : Acc
  reset : Nat
  deriving DecidableEq, Repr

/-- One register, or an array of `count` registers `stride` bytes apart. -/
structure RegDesc where
  name : String
  base : Nat
  stride : Nat
  count : Nat
  scope : Scope
  ix : Ix
  flds : List FldDesc
  deriving DecidableEq, Repr

/-- A named field: the register's offset and the field's bits. -/
structure Fld where
  off : Nat
  hi : Nat
  lo : Nat
  deriving DecidableEq, Repr

/-- The registers of the GLB block (its chapter's register tables). -/
def regsGLB : List RegDesc :=
  [ ⟨"GLB_ID", 0x0, 4, 1, .part, .none, [⟨31, 16, .ro, 38422⟩, ⟨15, 8, .ro, 74⟩, ⟨7, 0, .ro, 1⟩]⟩,
    ⟨"GLB_REV", 0x4, 4, 1, .part, .none, [⟨15, 8, .ro, 1⟩, ⟨7, 0, .ro, Config.revMinor.toNat⟩]⟩,
    ⟨"GLB_CAP", 0x8, 4, 1, .part, .none, [⟨31, 26, .ro, 32⟩, ⟨25, 19, .ro, 64⟩, ⟨18, 15, .ro, 8⟩, ⟨14, 12, .ro, 6⟩, ⟨11, 9, .ro, 4⟩]⟩,
    ⟨"GLB_PART_EN", 0xc, 4, 1, .owner, .none, [⟨3, 0, .rwl, 15⟩]⟩,
    ⟨"GLB_LOCK", 0x10, 4, 1, .owner, .none, [⟨0, 0, .w1s, 0⟩]⟩,
    ⟨"GLB_WHOAMI", 0x14, 4, 1, .part, .none, [⟨7, 7, .ro, 0⟩, ⟨6, 6, .ro, 1⟩, ⟨5, 5, .ro, 0⟩, ⟨4, 4, .ro, 0⟩, ⟨1, 0, .ro, 0⟩]⟩,
    ⟨"GLB_STATUS", 0x18, 4, 1, .part, .none, [⟨31, 31, .ro, 0⟩, ⟨30, 30, .ro, 0⟩, ⟨29, 29, .ro, 0⟩]⟩,
    ⟨"GLB_FLAG_SUM", 0x1c, 4, 1, .owner, .none, [⟨18, 0, .ro, 0⟩]⟩,
    ⟨"GLB_FLAGS", 0x20, 4, 1, .owner, .none, [⟨5, 5, .w1c, 0⟩, ⟨4, 4, .w1c, 0⟩, ⟨3, 3, .w1c, 0⟩, ⟨2, 2, .w1c, 0⟩, ⟨1, 1, .w1c, 0⟩, ⟨0, 0, .w1c, 0⟩]⟩,
    ⟨"GLB_DENY_CNT", 0x24, 4, 1, .part, .none, [⟨31, 0, .ro, 0⟩]⟩,
    ⟨"GLB_DENY_HEAD", 0x28, 4, 1, .owner, .none, [⟨31, 31, .wo, 0⟩, ⟨3, 3, .ro, 0⟩, ⟨2, 0, .ro, 0⟩]⟩,
    ⟨"GLB_DENY_LOG", 0x40, 4, 8, .owner, .none, [⟨31, 31, .ro, 0⟩, ⟨30, 29, .ro, 0⟩, ⟨28, 26, .ro, 0⟩, ⟨20, 2, .ro, 0⟩]⟩ ]

/-- The registers of the TBS block (its chapter's register tables). -/
def regsTBS0 : List RegDesc :=
  [ ⟨"TBS_CTRL", 0x10000, 4, 1, .owner, .none, [⟨3, 2, .rwl, 0⟩, ⟨1, 1, .rwl, 0⟩, ⟨0, 0, .rwl, 0⟩]⟩,
    ⟨"TBS_SYNC_PERIOD", 0x10004, 4, 1, .owner, .none, [⟨31, 0, .rwl, 16666667⟩]⟩,
    ⟨"TBS_SYNC_PERIOD_FRAC", 0x10008, 4, 1, .owner, .none, [⟨15, 0, .rwl, 0⟩]⟩,
    ⟨"TBS_DPLL_CFG", 0x1000c, 4, 1, .owner, .none, [⟨23, 16, .rwl, 10⟩, ⟨15, 8, .rwl, 10⟩, ⟨7, 4, .rwl, 4⟩, ⟨1, 0, .rwl, 1⟩]⟩,
    ⟨"TBS_DPLL_STATUS", 0x10010, 4, 1, .owner, .none, [⟨31, 30, .ro, 0⟩, ⟨29, 29, .ro, 0⟩, ⟨28, 28, .ro, 0⟩, ⟨27, 27, .w1c, 0⟩, ⟨15, 0, .ro, 0⟩]⟩,
    ⟨"TBS_FREQ_EST", 0x10014, 4, 1, .owner, .none, [⟨31, 0, .ro, 0⟩]⟩,
    ⟨"TBS_FREQ_ADJ", 0x10018, 4, 1, .owner, .none, [⟨31, 0, .ro, 0⟩]⟩,
    ⟨"TBS_PHASE_ADJ", 0x1001c, 4, 1, .owner, .none, [⟨31, 0, .ro, 0⟩]⟩,
    ⟨"TBS_SLEW", 0x10020, 4, 1, .owner, .none, [⟨31, 12, .rwl, 1000⟩, ⟨9, 0, .rwl, 100⟩]⟩,
    ⟨"TBS_OUT_CFG", 0x10024, 4, 1, .owner, .none, [⟨31, 16, .rwl, 10⟩, ⟨3, 3, .rwl, 0⟩, ⟨2, 0, .rwl, 0⟩]⟩,
    ⟨"TBS_SHUT_CFG", 0x10028, 4, 1, .owner, .none, [⟨15, 14, .rwl, 0⟩, ⟨13, 11, .rwl, 1⟩, ⟨7, 4, .rwl, 0⟩, ⟨3, 0, .rwl, 0⟩]⟩,
    ⟨"TBS_SHUT_MAP", 0x1002c, 4, 1, .owner, .none, [⟨19, 0, .rwl, 274960⟩]⟩,
    ⟨"TBS_SHUT_OFFSET", 0x10030, 4, 4, .owner, .none, [⟨31, 0, .rwl, 0⟩]⟩,
    ⟨"TBS_SHUT_TOL", 0x10040, 4, 1, .owner, .none, [⟨15, 0, .rwl, 2000⟩]⟩,
    ⟨"TBS_SHUT_STATUS", 0x10044, 4, 1, .owner, .none, [⟨19, 16, .ro, 0⟩, ⟨3, 0, .ro, 0⟩]⟩,
    ⟨"TBS_MS_QUOTA", 0x10048, 4, 1, .owner, .none, [⟨31, 24, .rwl, 64⟩, ⟨23, 16, .rwl, 64⟩, ⟨15, 8, .rwl, 64⟩, ⟨7, 0, .rwl, 64⟩]⟩,
    ⟨"TBS_MS_USED", 0x1004c, 4, 1, .part, .none, [⟨27, 16, .ro, 0⟩, ⟨11, 0, .ro, 0⟩]⟩,
    ⟨"TBS_SNAP", 0x10050, 4, 1, .part, .none, [⟨0, 0, .wo, 0⟩]⟩,
    ⟨"TBS_SNAP_TB_LO", 0x10054, 4, 1, .part, .none, [⟨31, 0, .ro, 0⟩]⟩,
    ⟨"TBS_SNAP_TB_HI", 0x10058, 4, 1, .part, .none, [⟨31, 0, .ro, 0⟩]⟩ ]
def regsTBS1 : List RegDesc :=
  [ ⟨"TBS_SNAP_FRAC", 0x1005c, 4, 1, .part, .none, [⟨31, 0, .ro, 0⟩]⟩,
    ⟨"TBS_SNAP_FRAME", 0x10060, 4, 1, .part, .none, [⟨31, 0, .ro, 0⟩]⟩,
    ⟨"TBS_TB_LOAD_LO", 0x10064, 4, 1, .owner, .none, [⟨31, 0, .rwl, 0⟩]⟩,
    ⟨"TBS_TB_LOAD_HI", 0x10068, 4, 1, .owner, .none, [⟨31, 0, .rwl, 0⟩]⟩,
    ⟨"TBS_TB_LOAD_GO", 0x1006c, 4, 1, .owner, .none, [⟨0, 0, .wo, 0⟩]⟩,
    ⟨"TBS_AON_PERIOD", 0x10070, 4, 1, .owner, .none, [⟨31, 0, .ro, 2000000000⟩]⟩ ]
def regsTBS : List RegDesc := regsTBS0 ++ regsTBS1

/-- The registers of the MOD block (its chapter's register tables). -/
def regsMOD : List RegDesc :=
  [ ⟨"MOD_BOOK_ADDR_LO", 0x20000, 4, 1, .owner, .none, [⟨31, 12, .rwl, 0⟩]⟩,
    ⟨"MOD_BOOK_ADDR_HI", 0x20004, 4, 1, .owner, .none, [⟨15, 0, .rwl, 0⟩]⟩,
    ⟨"MOD_BOOK_STATUS", 0x20008, 4, 1, .owner, .none, [⟨31, 31, .ro, 0⟩, ⟨23, 16, .ro, 0⟩, ⟨11, 0, .ro, 0⟩]⟩,
    ⟨"MOD_BOOK_SEQ", 0x2000c, 4, 1, .owner, .none, [⟨31, 0, .ro, 0⟩]⟩,
    ⟨"MOD_STATUS", 0x20010, 4, 1, .owner, .none, [⟨11, 11, .ro, 0⟩, ⟨10, 10, .ro, 0⟩, ⟨9, 9, .ro, 0⟩, ⟨7, 4, .ro, 0⟩, ⟨3, 0, .ro, 10⟩]⟩,
    ⟨"MOD_ENTRY", 0x20014, 4, 1, .owner, .none, [⟨3, 0, .ro, 0⟩]⟩,
    ⟨"MOD_SWITCH_COUNT", 0x20018, 4, 1, .owner, .none, [⟨31, 0, .ro, 0⟩]⟩,
    ⟨"MOD_FLAGS", 0x2001c, 4, 1, .owner, .none, [⟨2, 2, .w1c, 0⟩, ⟨1, 1, .w1c, 0⟩, ⟨0, 0, .w1c, 0⟩]⟩,
    ⟨"MOD_CTRL", 0x20020, 4, 1, .owner, .none, [⟨0, 0, .rwl, 1⟩]⟩ ]

/-- The registers of the LNK block (its chapter's register tables). -/
def regsLNK : List RegDesc :=
  [ ⟨"LNK_SEL", 0x30000, 4, 1, .part, .none, [⟨8, 0, .rw, 0⟩]⟩,
    ⟨"LNK_RX_CFG", 0x30004, 4, 1, .owner, .laneRx, [⟨31, 27, .rwl, 31⟩, ⟨26, 23, .rwl, 15⟩, ⟨22, 19, .rwl, 15⟩, ⟨18, 15, .rwl, 0⟩, ⟨14, 12, .rwl, 3⟩, ⟨7, 5, .rwl, 2⟩, ⟨4, 4, .rwl, 0⟩, ⟨3, 3, .rwl, 1⟩, ⟨2, 2, .rwl, 1⟩, ⟨1, 1, .rwl, 1⟩, ⟨0, 0, .rwl, 0⟩]⟩,
    ⟨"LNK_RX_STATE", 0x30008, 4, 1, .part, .laneRx, [⟨31, 30, .ro, 0⟩, ⟨29, 26, .ro, 0⟩, ⟨25, 20, .ro, 0⟩, ⟨19, 15, .ro, 0⟩, ⟨14, 10, .ro, 0⟩, ⟨9, 5, .ro, 0⟩, ⟨4, 0, .ro, 0⟩]⟩,
    ⟨"LNK_RX_MARGIN", 0x3000c, 4, 1, .part, .laneRx, [⟨31, 24, .ro, 0⟩, ⟨23, 18, .ro, 0⟩, ⟨17, 17, .ro, 0⟩, ⟨16, 16, .ro, 0⟩, ⟨15, 11, .ro, 31⟩, ⟨10, 7, .ro, 15⟩]⟩,
    ⟨"LNK_TX_CFG", 0x30010, 4, 1, .owner, .laneTx, [⟨11, 8, .rwl, 15⟩, ⟨4, 2, .rwl, 1⟩, ⟨1, 1, .rwl, 0⟩]⟩,
    ⟨"LNK_EI_CFG", 0x30014, 4, 1, .owner, .lane, [⟨31, 24, .rwl, 32⟩, ⟨23, 16, .rwl, 10⟩, ⟨15, 8, .rwl, 8⟩]⟩,
    ⟨"LNK_CNT_CODE", 0x30018, 4, 1, .part, .lane, [⟨31, 0, .ro, 0⟩]⟩,
    ⟨"LNK_CNT_DISP", 0x3001c, 4, 1, .part, .lane, [⟨31, 0, .ro, 0⟩]⟩,
    ⟨"LNK_CNT_LOCK", 0x30020, 4, 1, .part, .lane, [⟨31, 0, .ro, 0⟩]⟩,
    ⟨"LNK_CNT_EIX", 0x30024, 4, 1, .part, .lane, [⟨31, 0, .ro, 0⟩]⟩,
    ⟨"LNK_CNT_CLR", 0x30028, 4, 1, .owner, .lane, [⟨0, 0, .wo, 0⟩]⟩,
    ⟨"LNK_DEG_CFG", 0x3002c, 4, 1, .owner, .none, [⟨31, 31, .rwl, 1⟩, ⟨15, 0, .rwl, 100⟩]⟩,
    ⟨"LNK_LOCK_MAP", 0x30040, 4, 9, .part, .none, [⟨31, 0, .ro, 0⟩]⟩ ]

/-- The registers of the MSP block (its chapter's register tables). -/
def regsMSP : List RegDesc :=
  [ ⟨"MSP_PORT_CFG", 0x40000, 4, 8, .owner, .none, [⟨23, 16, .rwl, 10⟩, ⟨15, 15, .rwl, 0⟩, ⟨11, 10, .rwl, 0⟩, ⟨7, 6, .rwl, 3⟩, ⟨5, 4, .rwl, 3⟩, ⟨0, 0, .rw, 0⟩]⟩,
    ⟨"MSP_PORT_STATUS", 0x40020, 4, 8, .part, .none, [⟨31, 29, .ro, 0⟩, ⟨28, 27, .ro, 0⟩, ⟨26, 24, .ro, 0⟩, ⟨23, 16, .ro, 0⟩, ⟨15, 8, .ro, 0⟩, ⟨7, 0, .ro, 0⟩]⟩,
    ⟨"MSP_PORT_CTRL", 0x40040, 4, 8, .owner, .none, [⟨0, 0, .wo, 0⟩]⟩,
    ⟨"MSP_PORT_DOWN", 0x40060, 4, 8, .part, .none, [⟨31, 0, .ro, 0⟩]⟩,
    ⟨"MSP_CREDIT_CFG", 0x40080, 4, 1, .owner, .none, [⟨15, 8, .rwl, 10⟩, ⟨7, 0, .rwl, 8⟩]⟩,
    ⟨"MSP_STREAM_SEL", 0x40084, 4, 1, .part, .none, [⟨9, 0, .rw, 0⟩]⟩,
    ⟨"MSP_STREAM_STATE", 0x40088, 4, 1, .part, .stream, [⟨31, 30, .ro, 0⟩, ⟨29, 28, .ro, 0⟩, ⟨27, 20, .ro, 0⟩, ⟨19, 19, .ro, 0⟩, ⟨17, 9, .ro, 0⟩, ⟨8, 0, .ro, 0⟩]⟩,
    ⟨"MSP_STREAM_FRAME", 0x4008c, 4, 1, .part, .stream, [⟨31, 31, .ro, 0⟩, ⟨23, 0, .ro, 0⟩]⟩,
    ⟨"MSP_STREAM_CNT_DONE", 0x40090, 4, 1, .part, .stream, [⟨31, 0, .ro, 0⟩]⟩,
    ⟨"MSP_STREAM_CNT_INC", 0x40094, 4, 1, .part, .stream, [⟨31, 0, .ro, 0⟩]⟩,
    ⟨"MSP_STREAM_CNT_DROP", 0x40098, 4, 1, .part, .stream, [⟨31, 0, .ro, 0⟩]⟩,
    ⟨"MSP_STREAM_CNT_VIOL", 0x4009c, 4, 1, .part, .stream, [⟨31, 0, .ro, 0⟩]⟩,
    ⟨"MSP_STREAM_CNT_CRC", 0x400a0, 4, 1, .part, .stream, [⟨31, 0, .ro, 0⟩]⟩,
    ⟨"MSP_STREAM_FLAGS", 0x400a4, 4, 1, .part, .stream, [⟨3, 3, .w1c, 0⟩, ⟨2, 2, .w1c, 0⟩, ⟨1, 1, .w1c, 0⟩, ⟨0, 0, .w1c, 0⟩]⟩,
    ⟨"MSP_STREAM_CNT_CLR", 0x400a8, 4, 1, .part, .stream, [⟨0, 0, .wo, 0⟩]⟩ ]

/-- The registers of the LYR block (its chapter's register tables). -/
def regsLYR0 : List RegDesc :=
  [ ⟨"LYR_OWN", 0x50000, 4, 1, .owner, .none, [⟨23, 0, .rwl, 0⟩]⟩,
    ⟨"LYR_ZORDER_LO", 0x50004, 4, 1, .owner, .none, [⟨31, 0, .rwl, 1985229328⟩]⟩,
    ⟨"LYR_ZORDER_HI", 0x50008, 4, 1, .owner, .none, [⟨15, 0, .rwl, 47768⟩]⟩,
    ⟨"LYR_BG", 0x5000c, 4, 1, .owner, .none, [⟨29, 20, .rwl, 0⟩, ⟨19, 10, .rwl, 0⟩, ⟨9, 0, .rwl, 0⟩]⟩,
    ⟨"LYR_FETCH_LIMIT", 0x50010, 4, 1, .owner, .none, [⟨15, 0, .rwl, 784⟩]⟩,
    ⟨"LYR_FETCH_USED", 0x50014, 4, 1, .owner, .none, [⟨15, 0, .ro, 0⟩]⟩,
    ⟨"LYR_SEL", 0x50020, 4, 1, .part, .none, [⟨3, 0, .rw, 0⟩]⟩,
    ⟨"LYR_L_CTRL", 0x50024, 4, 1, .owner, .layer, [⟨31, 31, .ro, 0⟩, ⟨30, 30, .rwl, 0⟩, ⟨29, 25, .rwl, 31⟩, ⟨24, 24, .rwl, 0⟩, ⟨23, 23, .rwl, 1⟩, ⟨15, 8, .rwl, 0⟩, ⟨7, 0, .rwl, 3⟩]⟩,
    ⟨"LYR_L_BASE_LO", 0x50028, 4, 1, .owner, .layer, [⟨31, 12, .rwl, 0⟩]⟩,
    ⟨"LYR_L_BASE_HI", 0x5002c, 4, 1, .owner, .layer, [⟨15, 0, .rwl, 0⟩]⟩,
    ⟨"LYR_L_STRIDE", 0x50030, 4, 1, .owner, .layer, [⟨19, 0, .rwl, 0⟩]⟩,
    ⟨"LYR_L_PLANE1", 0x50034, 4, 1, .owner, .layer, [⟨31, 12, .rwl, 0⟩]⟩,
    ⟨"LYR_L_PLANE2", 0x50038, 4, 1, .owner, .layer, [⟨31, 12, .rwl, 0⟩]⟩,
    ⟨"LYR_L_SRC", 0x5003c, 4, 1, .owner, .layer, [⟨29, 16, .rwl, 8640⟩, ⟨13, 0, .rwl, 15360⟩]⟩,
    ⟨"LYR_L_DST", 0x50040, 4, 1, .owner, .layer, [⟨29, 16, .rwl, 8640⟩, ⟨13, 0, .rwl, 15360⟩]⟩,
    ⟨"LYR_L_POS", 0x50044, 4, 1, .owner, .layer, [⟨31, 16, .rwl, 0⟩, ⟨15, 0, .rwl, 0⟩]⟩,
    ⟨"LYR_L_STATUS", 0x50048, 4, 1, .owner, .layer, [⟨31, 31, .ro, 0⟩, ⟨30, 30, .ro, 0⟩, ⟨29, 25, .ro, 0⟩, ⟨23, 0, .ro, 0⟩]⟩,
    ⟨"LYR_L_CNT_REPEAT", 0x5004c, 4, 1, .owner, .layer, [⟨31, 0, .ro, 0⟩]⟩,
    ⟨"LYR_L_CNT_DROP", 0x50050, 4, 1, .owner, .layer, [⟨31, 0, .ro, 0⟩]⟩,
    ⟨"LYR_S_CTRL", 0x50060, 4, 1, .safety, .none, [⟨31, 31, .rwl, 1⟩, ⟨30, 30, .rwl, 1⟩, ⟨29, 29, .rwl, 0⟩, ⟨25, 16, .rwl, 100⟩]⟩ ]
def regsLYR1 : List RegDesc :=
  [ ⟨"LYR_S_SAFE_LO", 0x50064, 4, 1, .safety, .none, [⟨31, 12, .rwl, 0⟩]⟩,
    ⟨"LYR_S_SAFE_HI", 0x50068, 4, 1, .safety, .none, [⟨15, 0, .rwl, 0⟩]⟩,
    ⟨"LYR_S_STATUS", 0x5006c, 4, 1, .safety, .none, [⟨31, 31, .ro, 0⟩, ⟨30, 28, .ro, 0⟩, ⟨27, 27, .ro, 0⟩]⟩,
    ⟨"LYR_S_CRC_CALC", 0x50070, 4, 1, .safety, .none, [⟨31, 0, .ro, 0⟩]⟩,
    ⟨"LYR_S_CRC_EXP", 0x50074, 4, 1, .safety, .none, [⟨31, 0, .ro, 0⟩]⟩ ]
def regsLYR : List RegDesc := regsLYR0 ++ regsLYR1

/-- The registers of the SCN block (its chapter's register tables). -/
def regsSCN0 : List RegDesc :=
  [ ⟨"SCN_VSYNC_VBACK", 0x60000, 4, 1, .owner, .none, [⟨27, 16, .rwl, 32⟩, ⟨7, 0, .rwl, 8⟩]⟩,
    ⟨"SCN_VACTIVE_VFRONT", 0x60004, 4, 1, .owner, .none, [⟨29, 16, .rwl, 32⟩, ⟨13, 0, .rwl, 8640⟩]⟩,
    ⟨"SCN_LINE_TIME", 0x60008, 4, 1, .owner, .none, [⟨23, 0, .rwl, 122436⟩]⟩,
    ⟨"SCN_SYNC_CFG", 0x6000c, 4, 1, .owner, .none, [⟨11, 8, .rwl, 0⟩, ⟨1, 0, .rwl, 0⟩]⟩,
    ⟨"SCN_PHASE", 0x60010, 4, 1, .owner, .none, [⟨31, 0, .rwl, 0⟩]⟩,
    ⟨"SCN_LATCH_LINE", 0x60014, 4, 1, .owner, .none, [⟨31, 31, .rwl, 1⟩, ⟨15, 0, .rwl, 0⟩]⟩,
    ⟨"SCN_STRETCH", 0x60018, 4, 1, .owner, .none, [⟨21, 0, .rwl, 0⟩]⟩,
    ⟨"SCN_CTRL", 0x6001c, 4, 1, .owner, .none, [⟨0, 0, .rw, 0⟩]⟩,
    ⟨"SCN_LM_CFG", 0x60020, 4, 8, .owner, .none, [⟨31, 31, .rwl, 0⟩, ⟨15, 0, .rwl, 0⟩]⟩,
    ⟨"SCN_EVT_EN", 0x60040, 4, 1, .part, .none, [⟨4, 4, .rw, 1⟩, ⟨3, 3, .rw, 1⟩, ⟨2, 2, .rw, 0⟩, ⟨1, 1, .rw, 0⟩, ⟨0, 0, .rw, 0⟩]⟩,
    ⟨"SCN_STATUS", 0x60044, 4, 1, .part, .none, [⟨31, 30, .ro, 0⟩, ⟨29, 29, .ro, 0⟩, ⟨28, 28, .ro, 0⟩, ⟨27, 27, .ro, 0⟩, ⟨15, 0, .ro, 0⟩]⟩,
    ⟨"SCN_FRAME", 0x60048, 4, 1, .part, .none, [⟨31, 0, .ro, 0⟩]⟩,
    ⟨"SCN_PHASE_ERR", 0x6004c, 4, 1, .owner, .none, [⟨31, 0, .ro, 0⟩]⟩,
    ⟨"SCN_LAT_TOL", 0x60050, 4, 1, .owner, .none, [⟨31, 0, .ro, 4294967295⟩]⟩,
    ⟨"SCN_STRETCH_POS", 0x60054, 4, 1, .part, .none, [⟨21, 0, .ro, 0⟩]⟩,
    ⟨"SCN_UNDERRUN_CNT", 0x60058, 4, 1, .owner, .none, [⟨31, 0, .ro, 0⟩]⟩,
    ⟨"SCN_LATE_CNT", 0x6005c, 4, 1, .owner, .none, [⟨31, 0, .ro, 0⟩]⟩,
    ⟨"SCN_FLAGS", 0x60060, 4, 1, .owner, .none, [⟨4, 4, .w1c, 0⟩, ⟨3, 3, .w1c, 0⟩, ⟨2, 2, .w1c, 0⟩, ⟨1, 1, .w1c, 0⟩, ⟨0, 0, .w1c, 0⟩]⟩,
    ⟨"SCN_PAT_CFG", 0x60070, 4, 1, .owner, .none, [⟨11, 8, .rw, 6⟩, ⟨2, 0, .rw, 0⟩]⟩,
    ⟨"SCN_PAT_C0", 0x60074, 4, 1, .owner, .none, [⟨29, 20, .rw, 0⟩, ⟨19, 10, .rw, 0⟩, ⟨9, 0, .rw, 0⟩]⟩ ]
def regsSCN1 : List RegDesc :=
  [ ⟨"SCN_PAT_C1", 0x60078, 4, 1, .owner, .none, [⟨29, 20, .rw, 1023⟩, ⟨19, 10, .rw, 1023⟩, ⟨9, 0, .rw, 1023⟩]⟩ ]
def regsSCN : List RegDesc := regsSCN0 ++ regsSCN1

/-- The registers of the CMP block (its chapter's register tables). -/
def regsCMP : List RegDesc :=
  [ ⟨"CMP_CTRL", 0x70000, 4, 1, .owner, .none, [⟨8, 8, .rwl, 1⟩, ⟨7, 7, .rwl, 1⟩, ⟨6, 6, .rwl, 0⟩, ⟨5, 5, .rwl, 1⟩, ⟨3, 1, .rwl, 1⟩, ⟨0, 0, .rwl, 0⟩]⟩,
    ⟨"CMP_SRC_LO", 0x70004, 4, 1, .owner, .none, [⟨31, 12, .rwl, 0⟩]⟩,
    ⟨"CMP_WORK_LO", 0x7000c, 4, 1, .owner, .none, [⟨31, 12, .rwl, 0⟩]⟩,
    ⟨"CMP_VINT_LO", 0x70014, 4, 1, .owner, .none, [⟨31, 12, .rwl, 0⟩]⟩,
    ⟨"CMP_SRC_HI", 0x70008, 4, 1, .owner, .none, [⟨15, 0, .rwl, 0⟩]⟩,
    ⟨"CMP_WORK_HI", 0x70010, 4, 1, .owner, .none, [⟨15, 0, .rwl, 0⟩]⟩,
    ⟨"CMP_VINT_HI", 0x70018, 4, 1, .owner, .none, [⟨15, 0, .rwl, 0⟩]⟩,
    ⟨"CMP_SENSE", 0x7001c, 4, 1, .owner, .none, [⟨8, 0, .rwl, 128⟩]⟩,
    ⟨"CMP_DITH", 0x70020, 4, 1, .owner, .none, [⟨31, 30, .rwl, 3⟩, ⟨23, 16, .rwl, 160⟩, ⟨15, 8, .rwl, 68⟩, ⟨7, 0, .rwl, 0⟩]⟩,
    ⟨"CMP_STATUS", 0x70024, 4, 1, .owner, .none, [⟨31, 31, .ro, 0⟩, ⟨30, 30, .ro, 0⟩, ⟨29, 29, .ro, 0⟩, ⟨28, 28, .ro, 0⟩, ⟨27, 27, .ro, 0⟩, ⟨26, 26, .ro, 0⟩, ⟨24, 16, .ro, 0⟩, ⟨8, 0, .ro, 0⟩]⟩,
    ⟨"CMP_FLAGS", 0x70028, 4, 1, .owner, .none, [⟨3, 3, .w1c, 0⟩, ⟨2, 2, .w1c, 0⟩, ⟨1, 1, .w1c, 0⟩, ⟨0, 0, .w1c, 0⟩]⟩,
    ⟨"CMP_SUM_SEL", 0x7002c, 4, 1, .owner, .none, [⟨17, 0, .rw, 0⟩]⟩,
    ⟨"CMP_SUM_RG", 0x70030, 4, 1, .owner, .none, [⟨31, 16, .ro, 0⟩, ⟨15, 0, .ro, 0⟩]⟩,
    ⟨"CMP_SUM_B", 0x70034, 4, 1, .owner, .none, [⟨15, 0, .ro, 0⟩]⟩,
    ⟨"CMP_BUILD_CNT", 0x70038, 4, 1, .owner, .none, [⟨31, 0, .ro, 0⟩]⟩ ]

/-- The registers of the ODV block (its chapter's register tables). -/
def regsODV0 : List RegDesc :=
  [ ⟨"ODV_CTRL", 0x80000, 4, 1, .owner, .none, [⟨11, 8, .rwl, 1⟩, ⟨2, 1, .rwl, 0⟩, ⟨0, 0, .rwl, 0⟩]⟩,
    ⟨"ODV_HIST_LO", 0x80004, 4, 1, .owner, .none, [⟨31, 12, .rwl, 0⟩]⟩,
    ⟨"ODV_HIST_HI", 0x80008, 4, 1, .owner, .none, [⟨15, 0, .rwl, 0⟩]⟩,
    ⟨"ODV_BAND_EDGE1", 0x80010, 4, 1, .owner, .none, [⟨15, 0, .rwl, 240⟩]⟩,
    ⟨"ODV_BAND_EDGE2", 0x80014, 4, 1, .owner, .none, [⟨15, 0, .rwl, 320⟩]⟩,
    ⟨"ODV_BAND_EDGE3", 0x80018, 4, 1, .owner, .none, [⟨15, 0, .rwl, 400⟩]⟩,
    ⟨"ODV_BAND_EDGE4", 0x8001c, 4, 1, .owner, .none, [⟨15, 0, .rwl, 480⟩]⟩,
    ⟨"ODV_BAND_EDGE5", 0x80020, 4, 1, .owner, .none, [⟨15, 0, .rwl, 560⟩]⟩,
    ⟨"ODV_BAND_EDGE6", 0x80024, 4, 1, .owner, .none, [⟨15, 0, .rwl, 640⟩]⟩,
    ⟨"ODV_BAND_EDGE7", 0x80028, 4, 1, .owner, .none, [⟨15, 0, .rwl, 720⟩]⟩,
    ⟨"ODV_TEMP_CFG", 0x8002c, 4, 1, .owner, .none, [⟨16, 16, .rwl, 0⟩, ⟨15, 0, .rwl, 0⟩]⟩,
    ⟨"ODV_TEMP_DEFAULT", 0x80030, 4, 1, .owner, .none, [⟨15, 0, .rwl, 400⟩]⟩,
    ⟨"ODV_NTC_POS", 0x80040, 4, 8, .owner, .none, [⟨31, 31, .rwl, 0⟩, ⟨24, 16, .rwl, 0⟩, ⟨8, 0, .rwl, 0⟩]⟩,
    ⟨"ODV_NTC_TEMP", 0x80060, 4, 8, .owner, .none, [⟨31, 31, .ro, 0⟩, ⟨27, 16, .ro, 0⟩, ⟨15, 0, .ro, 0⟩]⟩,
    ⟨"ODV_STATUS", 0x80080, 4, 1, .owner, .none, [⟨16, 16, .ro, 0⟩, ⟨15, 8, .ro, 0⟩, ⟨0, 0, .ro, 0⟩]⟩,
    ⟨"ODV_TILE_SEL", 0x80084, 4, 1, .part, .none, [⟨17, 0, .rw, 0⟩]⟩,
    ⟨"ODV_TILE_STATE", 0x80088, 4, 1, .part, .none, [⟨31, 31, .ro, 0⟩, ⟨30, 30, .ro, 0⟩, ⟨29, 28, .ro, 0⟩, ⟨27, 26, .ro, 0⟩, ⟨25, 23, .ro, 0⟩, ⟨22, 20, .ro, 0⟩, ⟨15, 0, .ro, 0⟩]⟩,
    ⟨"ODV_TILE_RU", 0x8008c, 4, 1, .part, .none, [⟨31, 31, .ro, 0⟩, ⟨12, 0, .ro, 0⟩]⟩,
    ⟨"ODV_DRV_SEL", 0x80090, 4, 1, .part, .none, [⟨5, 0, .rw, 0⟩]⟩,
    ⟨"ODV_DRV_TEMP", 0x80094, 4, 1, .part, .none, [⟨31, 31, .ro, 0⟩, ⟨15, 0, .ro, 0⟩]⟩ ]
def regsODV1 : List RegDesc :=
  [ ⟨"ODV_BAND_CNT", 0x80098, 4, 1, .owner, .none, [⟨31, 0, .ro, 0⟩]⟩,
    ⟨"ODV_RU_ACTIVE", 0x8009c, 4, 1, .owner, .none, [⟨13, 0, .ro, 0⟩]⟩,
    ⟨"ODV_FLAGS", 0x800a0, 4, 1, .owner, .none, [⟨2, 2, .w1c, 0⟩, ⟨1, 1, .w1c, 0⟩, ⟨0, 0, .w1c, 0⟩]⟩,
    ⟨"ODV_HIST_INVAL", 0x800a4, 4, 1, .owner, .none, [⟨0, 0, .wo, 0⟩]⟩ ]
def regsODV : List RegDesc := regsODV0 ++ regsODV1

/-- The registers of the ENG block (its chapter's register tables). -/
def regsENG : List RegDesc :=
  [ ⟨"ENG_OWN_LO", 0x90000, 4, 1, .owner, .none, [⟨31, 0, .rwl, 0⟩]⟩,
    ⟨"ENG_OWN_HI", 0x90004, 4, 1, .owner, .none, [⟨31, 0, .rwl, 0⟩]⟩,
    ⟨"ENG_CTRL", 0x90008, 4, 1, .owner, .none, [⟨2, 2, .rwl, 1⟩, ⟨1, 1, .rwl, 1⟩, ⟨0, 0, .rwl, 1⟩]⟩,
    ⟨"ENG_WD", 0x9000c, 4, 1, .owner, .none, [⟨19, 16, .rwl, 2⟩, ⟨11, 0, .rwl, 2048⟩]⟩,
    ⟨"ENG_SEL", 0x90010, 4, 1, .part, .none, [⟨12, 8, .rw, 0⟩, ⟨4, 0, .rw, 0⟩]⟩,
    ⟨"ENG_CL_STATUS", 0x90014, 4, 1, .part, .cluster, [⟨31, 30, .ro, 0⟩, ⟨29, 28, .ro, 0⟩, ⟨27, 24, .ro, 0⟩, ⟨23, 23, .ro, 0⟩, ⟨9, 0, .ro, 0⟩]⟩,
    ⟨"ENG_CL_BYPASS", 0x90018, 4, 1, .part, .cluster, [⟨15, 0, .ro, 0⟩]⟩,
    ⟨"ENG_CL_MISS", 0x9001c, 4, 1, .part, .cluster, [⟨31, 0, .ro, 0⟩]⟩,
    ⟨"ENG_CL_TAKEOVER", 0x90020, 4, 1, .part, .cluster, [⟨31, 0, .ro, 0⟩]⟩,
    ⟨"ENG_CONF_LO", 0x90024, 4, 1, .part, .cluster, [⟨31, 0, .ro, 0⟩]⟩,
    ⟨"ENG_CONF_HI", 0x90028, 4, 1, .part, .cluster, [⟨15, 0, .ro, 0⟩]⟩,
    ⟨"ENG_BUDGET", 0x9002c, 4, 1, .owner, .none, [⟨16, 0, .ro, 565⟩]⟩,
    ⟨"ENG_JOBS", 0x90030, 4, 1, .owner, .none, [⟨10, 0, .ro, 0⟩]⟩,
    ⟨"ENG_FLAGS", 0x90034, 4, 1, .owner, .none, [⟨4, 4, .w1c, 0⟩, ⟨3, 3, .w1c, 0⟩, ⟨2, 2, .w1c, 0⟩, ⟨1, 1, .w1c, 0⟩, ⟨0, 0, .w1c, 0⟩]⟩ ]

/-- The registers of the KDL block (its chapter's register tables). -/
def regsKDL : List RegDesc :=
  [ ⟨"KDL_CFG", 0xa0000, 4, 1, .owner, .none, [⟨31, 31, .rwl, 1⟩, ⟨30, 30, .rwl, 0⟩, ⟨17, 8, .rwl, 20⟩, ⟨1, 0, .rwl, 3⟩]⟩,
    ⟨"KDL_DRV_EN_LO", 0xa0004, 4, 1, .owner, .none, [⟨31, 0, .rwl, 4294967295⟩]⟩,
    ⟨"KDL_DRV_EN_HI", 0xa0008, 4, 1, .owner, .none, [⟨31, 0, .rwl, 4294967295⟩]⟩,
    ⟨"KDL_CTRL", 0xa000c, 4, 1, .owner, .none, [⟨0, 0, .wo, 0⟩]⟩,
    ⟨"KDL_STATUS", 0xa0010, 4, 1, .part, .none, [⟨22, 16, .ro, 0⟩, ⟨6, 0, .ro, 0⟩]⟩,
    ⟨"KDL_POL", 0xa0014, 4, 1, .owner, .none, [⟨2, 2, .rwl, 1⟩, ⟨1, 0, .rwl, 1⟩]⟩,
    ⟨"KDL_CS", 0xa0018, 4, 1, .owner, .none, [⟨31, 16, .rwl, 32⟩, ⟨15, 0, .rwl, 0⟩]⟩,
    ⟨"KDL_OE", 0xa001c, 4, 1, .owner, .none, [⟨31, 16, .rwl, 32⟩, ⟨15, 0, .rwl, 0⟩]⟩,
    ⟨"KDL_DRV_SEL", 0xa0020, 4, 1, .part, .none, [⟨5, 0, .rw, 0⟩]⟩,
    ⟨"KDL_DRV_STATE", 0xa0024, 4, 1, .part, .driver, [⟨31, 29, .ro, 0⟩, ⟨28, 28, .ro, 0⟩, ⟨27, 27, .ro, 0⟩, ⟨26, 26, .ro, 0⟩, ⟨25, 25, .ro, 0⟩, ⟨7, 0, .ro, 0⟩]⟩,
    ⟨"KDL_DRV_FLIGHT", 0xa0028, 4, 1, .part, .driver, [⟨15, 0, .ro, 0⟩]⟩,
    ⟨"KDL_DRV_DECL", 0xa002c, 4, 1, .part, .driver, [⟨31, 16, .ro, 0⟩, ⟨15, 0, .ro, 0⟩]⟩,
    ⟨"KDL_DRV_CNT_CRC", 0xa0030, 4, 1, .part, .driver, [⟨31, 0, .ro, 0⟩]⟩,
    ⟨"KDL_DRV_CNT_HOLD", 0xa0034, 4, 1, .part, .driver, [⟨31, 0, .ro, 0⟩]⟩,
    ⟨"KDL_DRV_CNT_CTL", 0xa0038, 4, 1, .part, .driver, [⟨31, 0, .ro, 0⟩]⟩,
    ⟨"KDL_DRV_CNT_RETRAIN", 0xa003c, 4, 1, .part, .driver, [⟨31, 0, .ro, 0⟩]⟩,
    ⟨"KDL_DRV_CNT_BC", 0xa0040, 4, 1, .part, .driver, [⟨31, 0, .ro, 0⟩]⟩,
    ⟨"KDL_FLAGS", 0xa0044, 4, 1, .owner, .none, [⟨4, 4, .w1c, 0⟩, ⟨3, 3, .w1c, 0⟩, ⟨2, 2, .w1c, 0⟩, ⟨1, 1, .w1c, 0⟩, ⟨0, 0, .w1c, 0⟩]⟩,
    ⟨"KDL_HV_STATUS", 0xa0048, 4, 1, .owner, .none, [⟨31, 31, .ro, 0⟩, ⟨30, 16, .ro, 0⟩, ⟨13, 0, .ro, 0⟩]⟩ ]

/-- The registers of the PNL block (its chapter's register tables). -/
def regsPNL : List RegDesc :=
  [ ⟨"PNL_PANEL", 0xb0000, 4, 1, .owner, .none, [⟨16, 16, .rwl, 0⟩, ⟨15, 15, .rwl, 0⟩, ⟨14, 14, .rwl, 0⟩, ⟨13, 0, .rwl, 8640⟩]⟩,
    ⟨"PNL_GATE_CFG", 0xb0004, 4, 1, .owner, .none, [⟨15, 15, .rwl, 1⟩, ⟨14, 14, .rwl, 0⟩, ⟨13, 10, .rwl, 0⟩, ⟨7, 4, .rwl, 1⟩, ⟨3, 0, .rwl, 8⟩]⟩,
    ⟨"PNL_STV_ON", 0xb0008, 4, 1, .owner, .none, [⟨23, 0, .rwl, 16775216⟩]⟩,
    ⟨"PNL_STV_OFF", 0xb000c, 4, 1, .owner, .none, [⟨23, 0, .rwl, 100⟩]⟩,
    ⟨"PNL_CKV_ON", 0xb0010, 4, 1, .owner, .none, [⟨23, 0, .rwl, 16776916⟩]⟩,
    ⟨"PNL_CKV_OFF", 0xb0014, 4, 1, .owner, .none, [⟨23, 0, .rwl, 700⟩]⟩,
    ⟨"PNL_GRST", 0xb0018, 4, 1, .owner, .none, [⟨15, 0, .rwl, 1600⟩]⟩,
    ⟨"PNL_HV", 0xb001c, 4, 1, .owner, .none, [⟨31, 16, .rwl, 10⟩, ⟨15, 0, .rwl, 320⟩]⟩,
    ⟨"PNL_SEQ", 0xb0020, 4, 8, .owner, .none, [⟨31, 31, .rwl, 0⟩, ⟨30, 30, .rwl, 1⟩, ⟨29, 24, .rwl, 10⟩, ⟨23, 12, .rwl, 100⟩, ⟨11, 0, .rwl, 100⟩]⟩,
    ⟨"PNL_DIS", 0xb0040, 4, 1, .owner, .none, [⟨25, 16, .rwl, 0⟩, ⟨9, 0, .rwl, 0⟩]⟩,
    ⟨"PNL_DIS_TIME", 0xb0044, 4, 1, .owner, .none, [⟨31, 16, .rwl, 20⟩, ⟨6, 0, .rwl, 50⟩]⟩,
    ⟨"PNL_PWR_CTRL", 0xb0048, 4, 1, .owner, .none, [⟨1, 1, .wo, 0⟩, ⟨0, 0, .wo, 0⟩]⟩,
    ⟨"PNL_PWR_STATUS", 0xb004c, 4, 1, .part, .none, [⟨31, 29, .ro, 0⟩, ⟨28, 26, .ro, 0⟩, ⟨15, 8, .ro, 0⟩, ⟨7, 0, .ro, 0⟩]⟩,
    ⟨"PNL_CRK_CFG", 0xb0050, 4, 1, .owner, .none, [⟨31, 24, .rwl, 64⟩, ⟨23, 8, .rwl, 240⟩, ⟨5, 4, .rwl, 0⟩, ⟨3, 0, .rwl, 0⟩]⟩,
    ⟨"PNL_CRK_CTRL", 0xb0054, 4, 1, .owner, .none, [⟨0, 0, .wo, 0⟩]⟩,
    ⟨"PNL_CRK_STATUS", 0xb0058, 4, 1, .owner, .none, [⟨31, 31, .ro, 0⟩, ⟨30, 30, .ro, 0⟩, ⟨7, 4, .ro, 0⟩, ⟨3, 0, .ro, 0⟩]⟩,
    ⟨"PNL_CRK_CODE", 0xb0060, 4, 4, .owner, .none, [⟨27, 16, .ro, 0⟩, ⟨11, 0, .ro, 0⟩]⟩,
    ⟨"PNL_FLAGS", 0xb0070, 4, 1, .owner, .none, [⟨4, 4, .w1c, 0⟩, ⟨3, 3, .w1c, 0⟩, ⟨2, 2, .w1c, 0⟩, ⟨1, 1, .w1c, 0⟩, ⟨0, 0, .w1c, 0⟩]⟩ ]

/-- The registers of the HIF block (its chapter's register tables). -/
def regsHIF : List RegDesc :=
  [ ⟨"HIF_QALLOC0", 0xc0000, 4, 1, .owner, .none, [⟨22, 16, .rwl, 16⟩, ⟨5, 0, .rwl, 0⟩]⟩,
    ⟨"HIF_QALLOC1", 0xc0004, 4, 1, .owner, .none, [⟨22, 16, .rwl, 16⟩, ⟨5, 0, .rwl, 16⟩]⟩,
    ⟨"HIF_QALLOC2", 0xc0008, 4, 1, .owner, .none, [⟨22, 16, .rwl, 16⟩, ⟨5, 0, .rwl, 32⟩]⟩,
    ⟨"HIF_QALLOC3", 0xc000c, 4, 1, .owner, .none, [⟨22, 16, .rwl, 16⟩, ⟨5, 0, .rwl, 48⟩]⟩,
    ⟨"HIF_Q_SEL", 0xc0010, 4, 1, .part, .none, [⟨13, 0, .rw, 0⟩]⟩,
    ⟨"HIF_Q_CFG", 0xc0014, 4, 1, .part, .queue, [⟨31, 31, .rw, 0⟩, ⟨30, 29, .rw, 0⟩, ⟨28, 28, .rw, 0⟩, ⟨27, 24, .rw, 4⟩, ⟨23, 20, .rw, 1⟩, ⟨11, 11, .rw, 0⟩, ⟨10, 0, .rw, 0⟩]⟩,
    ⟨"HIF_Q_BASE_LO", 0xc0018, 4, 1, .part, .queue, [⟨31, 0, .rw, 0⟩]⟩,
    ⟨"HIF_Q_BASE_HI", 0xc001c, 4, 1, .part, .queue, [⟨31, 0, .rw, 0⟩]⟩,
    ⟨"HIF_Q_AGG", 0xc0020, 4, 1, .part, .queue, [⟨31, 16, .rw, 0⟩, ⟨15, 0, .rw, 1⟩]⟩,
    ⟨"HIF_Q_PTR", 0xc0024, 4, 1, .part, .queue, [⟨31, 16, .ro, 0⟩, ⟨15, 0, .ro, 0⟩]⟩,
    ⟨"HIF_Q_STATUS", 0xc0028, 4, 1, .part, .queue, [⟨31, 30, .ro, 0⟩, ⟨29, 27, .ro, 0⟩]⟩,
    ⟨"HIF_Q_CNT", 0xc002c, 4, 1, .part, .queue, [⟨31, 16, .ro, 0⟩, ⟨15, 0, .ro, 0⟩]⟩,
    ⟨"HIF_EVT_EQ", 0xc0040, 4, 16, .part, .none, [⟨31, 31, .rw, 0⟩, ⟨13, 0, .rw, 0⟩]⟩,
    ⟨"HIF_DB_DROP", 0xc0080, 4, 1, .part, .none, [⟨31, 0, .ro, 0⟩]⟩,
    ⟨"HIF_HOLD", 0xc0084, 4, 1, .part, .none, [⟨31, 31, .ro, 0⟩, ⟨15, 0, .ro, 0⟩]⟩,
    ⟨"HIF_FLAGS", 0xc0088, 4, 1, .part, .none, [⟨4, 4, .w1c, 0⟩, ⟨3, 3, .w1c, 0⟩, ⟨2, 2, .w1c, 0⟩, ⟨1, 1, .w1c, 0⟩, ⟨0, 0, .w1c, 0⟩]⟩ ]

/-- The registers of the FST block (its chapter's register tables). -/
def regsFST : List RegDesc :=
  [ ⟨"FST_CFG", 0xd0000, 4, 1, .owner, .none, [⟨7, 7, .rwl, 1⟩, ⟨5, 4, .rwl, 0⟩, ⟨3, 2, .rwl, 0⟩, ⟨0, 0, .rwl, 0⟩]⟩,
    ⟨"FST_STATUS", 0xd0004, 4, 1, .part, .none, [⟨31, 29, .ro, 0⟩, ⟨28, 26, .ro, 0⟩, ⟨10, 0, .ro, 0⟩]⟩,
    ⟨"FST_PORT_STATUS", 0xd0010, 4, 6, .part, .none, [⟨31, 29, .ro, 0⟩, ⟨28, 28, .ro, 0⟩, ⟨8, 0, .ro, 0⟩]⟩,
    ⟨"FST_PORT_WAKE", 0xd0030, 4, 6, .owner, .none, [⟨31, 16, .ro, 0⟩, ⟨15, 0, .rwl, 100⟩]⟩,
    ⟨"FST_PORT_CTRL", 0xd0050, 4, 6, .owner, .none, [⟨0, 0, .wo, 0⟩]⟩,
    ⟨"FST_REBUILD", 0xd0070, 4, 1, .owner, .none, [⟨31, 29, .ro, 0⟩, ⟨12, 0, .ro, 0⟩]⟩,
    ⟨"FST_BAKED_LO", 0xd0080, 4, 1, .owner, .none, [⟨31, 12, .rwl, 0⟩]⟩,
    ⟨"FST_BAKED_HI", 0xd0084, 4, 1, .owner, .none, [⟨15, 0, .rwl, 0⟩]⟩,
    ⟨"FST_WIN_BASE_LO", 0xd0088, 4, 1, .part, .none, [⟨31, 15, .rw, 0⟩]⟩,
    ⟨"FST_WIN_BASE_HI", 0xd008c, 4, 1, .part, .none, [⟨15, 0, .rw, 0⟩]⟩,
    ⟨"FST_CNT_RECON", 0xd0090, 4, 1, .owner, .none, [⟨31, 0, .ro, 0⟩]⟩,
    ⟨"FST_CNT_RMW", 0xd0094, 4, 1, .owner, .none, [⟨31, 0, .ro, 0⟩]⟩,
    ⟨"FST_CNT_WD", 0xd0098, 4, 1, .owner, .none, [⟨31, 0, .ro, 0⟩]⟩,
    ⟨"FST_DENY_CNT", 0xd009c, 4, 1, .part, .none, [⟨31, 0, .ro, 0⟩]⟩,
    ⟨"FST_FLAGS", 0xd00a0, 4, 1, .owner, .none, [⟨5, 5, .w1c, 0⟩, ⟨4, 4, .w1c, 0⟩, ⟨3, 3, .w1c, 0⟩, ⟨2, 2, .w1c, 0⟩, ⟨1, 1, .w1c, 0⟩, ⟨0, 0, .w1c, 0⟩]⟩,
    ⟨"FST_RGN_BASE", 0xd1000, 16, 64, .owner, .none, [⟨31, 0, .rwl, 0⟩]⟩,
    ⟨"FST_RGN_SIZE", 0xd1004, 16, 64, .owner, .none, [⟨31, 0, .rwl, 0⟩]⟩,
    ⟨"FST_RGN_CFG", 0xd1008, 16, 64, .owner, .none, [⟨31, 31, .rwl, 0⟩, ⟨11, 8, .rwl, 0⟩, ⟨1, 0, .rwl, 0⟩]⟩ ]

/-- The registers of the MEM block (its chapter's register tables). -/
def regsMEM : List RegDesc :=
  [ ⟨"MEM_INST_SEL", 0xe0000, 4, 1, .owner, .none, [⟨9, 0, .rw, 0⟩]⟩,
    ⟨"MEM_INST_STATUS", 0xe0004, 4, 1, .owner, .none, [⟨31, 31, .ro, 0⟩, ⟨27, 24, .ro, 0⟩, ⟨15, 8, .ro, 0⟩, ⟨7, 0, .ro, 0⟩]⟩,
    ⟨"MEM_INST_PERR", 0xe0008, 4, 1, .owner, .none, [⟨31, 0, .ro, 0⟩]⟩,
    ⟨"MEM_REMAP", 0xe0010, 4, 8, .owner, .none, [⟨31, 31, .ro, 0⟩, ⟨15, 0, .ro, 0⟩]⟩,
    ⟨"MEM_PAR_LAST", 0xe0030, 4, 1, .owner, .none, [⟨31, 22, .ro, 0⟩, ⟨21, 16, .ro, 0⟩, ⟨15, 0, .ro, 0⟩]⟩,
    ⟨"MEM_CONF_SEL", 0xe0034, 4, 1, .part, .none, [⟨9, 8, .rw, 0⟩, ⟨2, 0, .rw, 0⟩]⟩,
    ⟨"MEM_CONF_LO", 0xe0038, 4, 1, .part, .none, [⟨31, 0, .ro, 0⟩]⟩,
    ⟨"MEM_CONF_HI", 0xe003c, 4, 1, .part, .none, [⟨15, 0, .ro, 0⟩]⟩,
    ⟨"MEM_XRAM_CFG", 0xe0040, 4, 1, .owner, .none, [⟨7, 4, .rwl, 15⟩, ⟨0, 0, .rwl, 1⟩]⟩,
    ⟨"MEM_XBUSY", 0xe0044, 4, 1, .part, .none, [⟨31, 31, .w1c, 0⟩, ⟨14, 0, .ro, 0⟩]⟩,
    ⟨"MEM_XBUSY_CNT", 0xe0048, 4, 1, .part, .none, [⟨31, 0, .ro, 0⟩]⟩,
    ⟨"MEM_FILL", 0xe004c, 4, 1, .owner, .none, [⟨31, 31, .ro, 0⟩, ⟨9, 0, .ro, 0⟩]⟩,
    ⟨"MEM_FLAGS", 0xe0050, 4, 1, .owner, .none, [⟨4, 4, .w1c, 0⟩, ⟨3, 3, .w1c, 0⟩, ⟨2, 2, .w1c, 0⟩, ⟨1, 1, .w1c, 0⟩, ⟨0, 0, .w1c, 0⟩]⟩ ]

/-- The registers of the PWR block (its chapter's register tables). -/
def regsPWR0 : List RegDesc :=
  [ ⟨"PWR_DOM_SEL", 0xf0000, 4, 1, .owner, .none, [⟨6, 0, .rw, 0⟩]⟩,
    ⟨"PWR_DOM_CFG", 0xf0004, 4, 1, .owner, .domain, [⟨31, 16, .rwl, 1000⟩, ⟨1, 0, .rwl, 2⟩]⟩,
    ⟨"PWR_DOM_STATE", 0xf0008, 4, 1, .owner, .domain, [⟨31, 30, .ro, 0⟩, ⟨29, 29, .ro, 0⟩, ⟨28, 28, .ro, 0⟩, ⟨27, 26, .ro, 0⟩, ⟨23, 0, .ro, 16777215⟩]⟩,
    ⟨"PWR_ON_MAP", 0xf0010, 4, 3, .part, .none, [⟨31, 0, .ro, 0⟩]⟩,
    ⟨"PWR_WAKE_CFG", 0xf0020, 4, 1, .owner, .none, [⟨31, 31, .rwl, 0⟩, ⟨30, 24, .rwl, 76⟩, ⟨23, 20, .rwl, 1⟩, ⟨19, 19, .rwl, 0⟩, ⟨8, 8, .ro, 1⟩, ⟨7, 0, .rwl, 131⟩]⟩,
    ⟨"PWR_LAST_WAKE", 0xf0024, 4, 1, .owner, .none, [⟨31, 16, .ro, 0⟩, ⟨3, 0, .ro, 0⟩]⟩,
    ⟨"PWR_REFUSE", 0xf0028, 4, 1, .owner, .none, [⟨31, 28, .ro, 0⟩, ⟨27, 27, .ro, 0⟩, ⟨6, 0, .ro, 0⟩]⟩,
    ⟨"PWR_REFUSE_CNT", 0xf002c, 4, 1, .owner, .none, [⟨31, 0, .ro, 0⟩]⟩,
    ⟨"PWR_STATUS", 0xf0030, 4, 1, .owner, .none, [⟨31, 31, .ro, 1⟩, ⟨30, 30, .ro, 0⟩, ⟨29, 29, .ro, 0⟩]⟩,
    ⟨"PWR_VR_ADDR0", 0xf0040, 4, 1, .owner, .none, [⟨31, 31, .rwl, 1⟩, ⟨30, 30, .rwl, 1⟩, ⟨6, 0, .rwl, 64⟩]⟩,
    ⟨"PWR_VR_ADDR1", 0xf0044, 4, 1, .owner, .none, [⟨31, 31, .rwl, 1⟩, ⟨30, 30, .rwl, 1⟩, ⟨6, 0, .rwl, 65⟩]⟩,
    ⟨"PWR_VR_ADDR2", 0xf0048, 4, 1, .owner, .none, [⟨31, 31, .rwl, 1⟩, ⟨30, 30, .rwl, 1⟩, ⟨6, 0, .rwl, 66⟩]⟩,
    ⟨"PWR_VR_ADDR3", 0xf004c, 4, 1, .owner, .none, [⟨31, 31, .rwl, 1⟩, ⟨30, 30, .rwl, 1⟩, ⟨6, 0, .rwl, 67⟩]⟩,
    ⟨"PWR_VR_ADDR4", 0xf0050, 4, 1, .owner, .none, [⟨31, 31, .rwl, 1⟩, ⟨30, 30, .rwl, 1⟩, ⟨6, 0, .rwl, 68⟩]⟩,
    ⟨"PWR_VR_ADDR5", 0xf0054, 4, 1, .owner, .none, [⟨31, 31, .rwl, 1⟩, ⟨30, 30, .rwl, 1⟩, ⟨6, 0, .rwl, 69⟩]⟩,
    ⟨"PWR_VR_ADDR6", 0xf0058, 4, 1, .owner, .none, [⟨31, 31, .rwl, 1⟩, ⟨30, 30, .rwl, 1⟩, ⟨6, 0, .rwl, 70⟩]⟩,
    ⟨"PWR_VR_ADDR7", 0xf005c, 4, 1, .owner, .none, [⟨31, 31, .rwl, 0⟩, ⟨30, 30, .rwl, 1⟩, ⟨6, 0, .rwl, 71⟩]⟩,
    ⟨"PWR_VR_CFG", 0xf0060, 4, 1, .owner, .none, [⟨31, 16, .rwl, 100⟩, ⟨7, 0, .rwl, 5⟩]⟩,
    ⟨"PWR_VR_STATUS", 0xf0064, 4, 1, .owner, .none, [⟨31, 24, .ro, 0⟩, ⟨23, 16, .ro, 0⟩, ⟨15, 8, .w1c, 0⟩]⟩,
    ⟨"PWR_BOR", 0xf0068, 4, 1, .owner, .none, [⟨1, 1, .w1c, 0⟩, ⟨0, 0, .w1c, 0⟩]⟩ ]
def regsPWR1 : List RegDesc :=
  [ ⟨"PWR_THERM", 0xf006c, 4, 1, .owner, .none, [⟨31, 16, .rwl, 1840⟩, ⟨15, 0, .rwl, 1600⟩]⟩,
    ⟨"PWR_TEMP", 0xf0070, 4, 1, .owner, .none, [⟨15, 0, .ro, 0⟩]⟩,
    ⟨"PWR_FLAGS", 0xf0074, 4, 1, .owner, .none, [⟨3, 3, .w1c, 0⟩, ⟨2, 2, .w1c, 0⟩, ⟨1, 1, .w1c, 0⟩, ⟨0, 0, .w1c, 0⟩]⟩ ]
def regsPWR : List RegDesc := regsPWR0 ++ regsPWR1

/-- The registers of the NVS block (its chapter's register tables). -/
def regsNVS : List RegDesc :=
  [ ⟨"NVS_CFG", 0x100000, 4, 1, .owner, .none, [⟨16, 16, .rwl, 1⟩, ⟨15, 8, .rwl, 30⟩, ⟨7, 0, .rwl, 10⟩]⟩,
    ⟨"NVS_STATUS", 0x100004, 4, 1, .owner, .none, [⟨31, 31, .ro, 0⟩, ⟨30, 30, .ro, 0⟩, ⟨29, 28, .ro, 0⟩, ⟨15, 0, .ro, 0⟩]⟩,
    ⟨"NVS_KEY_SEL", 0x100008, 4, 1, .owner, .none, [⟨15, 0, .rw, 0⟩]⟩,
    ⟨"NVS_KEY_STATE", 0x10000c, 4, 1, .owner, .none, [⟨31, 31, .ro, 0⟩, ⟨30, 30, .ro, 0⟩, ⟨29, 29, .ro, 0⟩, ⟨28, 28, .ro, 0⟩]⟩,
    ⟨"NVS_KEY_SEQ_A", 0x100010, 4, 1, .owner, .none, [⟨31, 0, .ro, 0⟩]⟩,
    ⟨"NVS_KEY_SEQ_B", 0x100014, 4, 1, .owner, .none, [⟨31, 0, .ro, 0⟩]⟩,
    ⟨"NVS_ONTIME_LO", 0x100018, 4, 1, .owner, .none, [⟨31, 0, .ro, 0⟩]⟩,
    ⟨"NVS_ONTIME_HI", 0x10001c, 4, 1, .owner, .none, [⟨31, 0, .ro, 0⟩]⟩,
    ⟨"NVS_SCRUB", 0x100020, 4, 1, .owner, .none, [⟨16, 0, .ro, 0⟩]⟩,
    ⟨"NVS_REFRESH_CNT", 0x100024, 4, 1, .owner, .none, [⟨31, 0, .ro, 0⟩]⟩,
    ⟨"NVS_FLAGS", 0x100028, 4, 1, .owner, .none, [⟨4, 4, .w1c, 0⟩, ⟨3, 3, .w1c, 0⟩, ⟨2, 2, .w1c, 0⟩, ⟨1, 1, .w1c, 0⟩, ⟨0, 0, .w1c, 0⟩]⟩ ]

/-- The registers of the CAL block (its chapter's register tables). -/
def regsCAL : List RegDesc :=
  [ ⟨"CAL_STATUS", 0x110000, 4, 1, .owner, .none, [⟨31, 31, .ro, 0⟩, ⟨30, 30, .ro, 0⟩, ⟨29, 29, .ro, 0⟩, ⟨28, 28, .ro, 0⟩, ⟨27, 27, .ro, 0⟩, ⟨20, 16, .ro, 0⟩, ⟨12, 8, .ro, 0⟩, ⟨4, 0, .ro, 0⟩]⟩,
    ⟨"CAL_REFIN", 0x110004, 4, 1, .owner, .none, [⟨15, 0, .ro, 0⟩]⟩,
    ⟨"CAL_TEMP_CFG", 0x110008, 4, 1, .owner, .none, [⟨31, 31, .rwl, 0⟩, ⟨28, 24, .rwl, 31⟩, ⟨23, 16, .rwl, 10⟩, ⟨15, 0, .rwl, 160⟩]⟩,
    ⟨"CAL_TEMP_LAST", 0x11000c, 4, 1, .owner, .none, [⟨15, 0, .ro, 0⟩]⟩,
    ⟨"CAL_REPLAN_CFG", 0x110010, 4, 1, .owner, .none, [⟨31, 31, .rwl, 1⟩, ⟨30, 24, .rwl, 30⟩, ⟨23, 20, .rwl, 2⟩, ⟨19, 16, .rwl, 3⟩, ⟨15, 0, .rwl, 40⟩]⟩,
    ⟨"CAL_REPLAN_DUE", 0x110014, 4, 1, .owner, .none, [⟨31, 0, .ro, 0⟩]⟩,
    ⟨"CAL_CORE", 0x110018, 4, 1, .owner, .none, [⟨15, 0, .ro, 750⟩]⟩,
    ⟨"CAL_MON_SEL", 0x11001c, 4, 1, .owner, .none, [⟨5, 0, .rw, 0⟩]⟩,
    ⟨"CAL_MON", 0x110020, 4, 1, .owner, .none, [⟨31, 16, .ro, 0⟩, ⟨15, 0, .ro, 0⟩]⟩,
    ⟨"CAL_LOG_SEL", 0x110024, 4, 1, .owner, .none, [⟨31, 0, .rw, 0⟩]⟩,
    ⟨"CAL_LOG_NEXT", 0x110028, 4, 1, .owner, .none, [⟨31, 0, .ro, 0⟩]⟩,
    ⟨"CAL_LOG_ACK", 0x11002c, 4, 1, .owner, .none, [⟨31, 0, .rw, 0⟩]⟩,
    ⟨"CAL_LOG_OVF", 0x110030, 4, 1, .owner, .none, [⟨31, 0, .ro, 0⟩]⟩,
    ⟨"CAL_SVC_RST", 0x110034, 4, 1, .owner, .none, [⟨31, 0, .ro, 0⟩]⟩,
    ⟨"CAL_FLAGS", 0x110038, 4, 1, .owner, .none, [⟨5, 5, .w1c, 0⟩, ⟨4, 4, .w1c, 0⟩, ⟨3, 3, .w1c, 0⟩, ⟨2, 2, .w1c, 0⟩, ⟨1, 1, .w1c, 0⟩, ⟨0, 0, .w1c, 0⟩]⟩,
    ⟨"CAL_LOG_DATA", 0x110040, 4, 8, .owner, .none, [⟨31, 0, .ro, 0⟩]⟩ ]

/-- The registers of the SEC block (its chapter's register tables). -/
def regsSEC : List RegDesc :=
  [ ⟨"SEC_FUSE", 0x120000, 4, 1, .owner, .none, [⟨15, 8, .ro, Config.fuseFwSvn.toNat⟩, ⟨6, 4, .ro, Config.fuseKeys.toNat⟩, ⟨1, 0, .ro, Config.fuseImgPolicy.toNat⟩]⟩,
    ⟨"SEC_UID_LO", 0x120004, 4, 1, .part, .none, [⟨31, 0, .ro, (Config.unitId.toNat % 2 ^ 32)⟩]⟩,
    ⟨"SEC_UID_HI", 0x120008, 4, 1, .part, .none, [⟨31, 0, .ro, (Config.unitId.toNat / 2 ^ 32)⟩]⟩,
    ⟨"SEC_ROLE", 0x12000c, 4, 1, .owner, .none, [⟨9, 8, .ro, 0⟩, ⟨7, 7, .rwl, 0⟩, ⟨6, 6, .rwl, 0⟩, ⟨5, 4, .rwl, 0⟩, ⟨1, 0, .rwl, 0⟩]⟩,
    ⟨"SEC_IMG_FLOOR", 0x120010, 4, 1, .owner, .none, [⟨31, 0, .rwl, 0⟩]⟩,
    ⟨"SEC_IMG_LAST", 0x120014, 4, 1, .part, .none, [⟨31, 30, .ro, 0⟩, ⟨29, 26, .ro, 0⟩, ⟨15, 0, .ro, 0⟩]⟩,
    ⟨"SEC_FLAGS", 0x120018, 4, 1, .owner, .none, [⟨2, 2, .w1c, 0⟩, ⟨1, 1, .w1c, 0⟩, ⟨0, 0, .w1c, 0⟩]⟩,
    ⟨"SEC_PIN", 0x120040, 4, 12, .owner, .none, [⟨31, 0, .rwl, 0⟩]⟩ ]

/-- The registers of the block at base `b` × 0x1_0000 (R454). -/
def regsOf (b : Nat) : List RegDesc :=
  match b with
  | 0 => regsGLB
  | 1 => regsTBS
  | 2 => regsMOD
  | 3 => regsLNK
  | 4 => regsMSP
  | 5 => regsLYR
  | 6 => regsSCN
  | 7 => regsCMP
  | 8 => regsODV
  | 9 => regsENG
  | 10 => regsKDL
  | 11 => regsPNL
  | 12 => regsHIF
  | 13 => regsFST
  | 14 => regsMEM
  | 15 => regsPWR
  | 16 => regsNVS
  | 17 => regsCAL
  | 18 => regsSEC
  | _ => []

/-! Names of registers and fields. -/

namespace Reg

abbrev MOD_BOOK_ADDR_LO : Nat := 0x20000
abbrev MOD_BOOK_ADDR_LO_addr_lo : Fld := ⟨0x20000, 31, 12⟩
abbrev MOD_BOOK_ADDR_HI : Nat := 0x20004
abbrev MOD_BOOK_ADDR_HI_addr_hi : Fld := ⟨0x20004, 15, 0⟩
abbrev MOD_BOOK_STATUS : Nat := 0x20008
abbrev MOD_BOOK_STATUS_valid : Fld := ⟨0x20008, 31, 31⟩
abbrev MOD_BOOK_STATUS_error : Fld := ⟨0x20008, 23, 16⟩
abbrev MOD_BOOK_STATUS_overlays : Fld := ⟨0x20008, 11, 0⟩
abbrev MOD_BOOK_SEQ : Nat := 0x2000c
abbrev MOD_BOOK_SEQ_sequence : Fld := ⟨0x2000c, 31, 0⟩
abbrev MOD_STATUS : Nat := 0x20010
abbrev MOD_STATUS_bake : Fld := ⟨0x20010, 11, 11⟩
abbrev MOD_STATUS_bridge : Fld := ⟨0x20010, 10, 10⟩
abbrev MOD_STATUS_pending : Fld := ⟨0x20010, 9, 9⟩
abbrev MOD_STATUS_pending_mode : Fld := ⟨0x20010, 7, 4⟩
abbrev MOD_STATUS_cur_mode : Fld := ⟨0x20010, 3, 0⟩
abbrev MOD_ENTRY : Nat := 0x20014
abbrev MOD_ENTRY_entry_mode : Fld := ⟨0x20014, 3, 0⟩
abbrev MOD_SWITCH_COUNT : Nat := 0x20018
abbrev MOD_SWITCH_COUNT_count : Fld := ⟨0x20018, 31, 0⟩
abbrev MOD_FLAGS : Nat := 0x2001c
abbrev MOD_FLAGS_superseded : Fld := ⟨0x2001c, 2, 2⟩
abbrev MOD_FLAGS_book_rejected : Fld := ⟨0x2001c, 1, 1⟩
abbrev MOD_FLAGS_auto_exit : Fld := ⟨0x2001c, 0, 0⟩
abbrev MOD_CTRL : Nat := 0x20020
abbrev MOD_CTRL_nvm_default_load : Fld := ⟨0x20020, 0, 0⟩
abbrev TBS_CTRL : Nat := 0x10000
abbrev TBS_CTRL_src : Fld := ⟨0x10000, 3, 2⟩
abbrev TBS_CTRL_sync_edge : Fld := ⟨0x10000, 1, 1⟩
abbrev TBS_CTRL_dpll_en : Fld := ⟨0x10000, 0, 0⟩
abbrev TBS_SYNC_PERIOD : Nat := 0x10004
abbrev TBS_SYNC_PERIOD_period : Fld := ⟨0x10004, 31, 0⟩
abbrev TBS_SYNC_PERIOD_FRAC : Nat := 0x10008
abbrev TBS_SYNC_PERIOD_FRAC_frac : Fld := ⟨0x10008, 15, 0⟩
abbrev TBS_DPLL_CFG : Nat := 0x1000c
abbrev TBS_DPLL_CFG_lock_thr : Fld := ⟨0x1000c, 23, 16⟩
abbrev TBS_DPLL_CFG_window : Fld := ⟨0x1000c, 15, 8⟩
abbrev TBS_DPLL_CFG_miss_count : Fld := ⟨0x1000c, 7, 4⟩
abbrev TBS_DPLL_CFG_bw : Fld := ⟨0x1000c, 1, 0⟩
abbrev TBS_DPLL_STATUS : Nat := 0x10010
abbrev TBS_DPLL_STATUS_state : Fld := ⟨0x10010, 31, 30⟩
abbrev TBS_DPLL_STATUS_coarse : Fld := ⟨0x10010, 29, 29⟩
abbrev TBS_DPLL_STATUS_slewing : Fld := ⟨0x10010, 28, 28⟩
abbrev TBS_DPLL_STATUS_load_refused : Fld := ⟨0x10010, 27, 27⟩
abbrev TBS_DPLL_STATUS_phase_err : Fld := ⟨0x10010, 15, 0⟩
abbrev TBS_FREQ_EST : Nat := 0x10014
abbrev TBS_FREQ_EST_est : Fld := ⟨0x10014, 31, 0⟩
abbrev TBS_FREQ_ADJ : Nat := 0x10018
abbrev TBS_FREQ_ADJ_adj : Fld := ⟨0x10018, 31, 0⟩
abbrev TBS_PHASE_ADJ : Nat := 0x1001c
abbrev TBS_PHASE_ADJ_delta : Fld := ⟨0x1001c, 31, 0⟩
abbrev TBS_SLEW : Nat := 0x10020
abbrev TBS_SLEW_step_min : Fld := ⟨0x10020, 31, 12⟩
abbrev TBS_SLEW_rate : Fld := ⟨0x10020, 9, 0⟩
abbrev TBS_OUT_CFG : Nat := 0x10024
abbrev TBS_OUT_CFG_width : Fld := ⟨0x10024, 31, 16⟩
abbrev TBS_OUT_CFG_pol : Fld := ⟨0x10024, 3, 3⟩
abbrev TBS_OUT_CFG_sel : Fld := ⟨0x10024, 2, 0⟩
abbrev TBS_SHUT_CFG : Nat := 0x10028
abbrev TBS_SHUT_CFG_ref : Fld := ⟨0x10028, 15, 14⟩
abbrev TBS_SHUT_CFG_slots : Fld := ⟨0x10028, 13, 11⟩
abbrev TBS_SHUT_CFG_edge : Fld := ⟨0x10028, 7, 4⟩
abbrev TBS_SHUT_CFG_en : Fld := ⟨0x10028, 3, 0⟩
abbrev TBS_SHUT_MAP : Nat := 0x1002c
abbrev TBS_SHUT_MAP_view : Fld := ⟨0x1002c, 19, 0⟩
abbrev TBS_SHUT_OFFSET (k : Nat) : Nat := 0x10030 + 4 * k
abbrev TBS_SHUT_OFFSET_offset (k : Nat) : Fld := ⟨0x10030 + 4 * k, 31, 0⟩
abbrev TBS_SHUT_TOL : Nat := 0x10040
abbrev TBS_SHUT_TOL_tol : Fld := ⟨0x10040, 15, 0⟩
abbrev TBS_SHUT_STATUS : Nat := 0x10044
abbrev TBS_SHUT_STATUS_cur_slot : Fld := ⟨0x10044, 19, 16⟩
abbrev TBS_SHUT_STATUS_locked : Fld := ⟨0x10044, 3, 0⟩
abbrev TBS_MS_QUOTA : Nat := 0x10048
abbrev TBS_MS_QUOTA_p3 : Fld := ⟨0x10048, 31, 24⟩
abbrev TBS_MS_QUOTA_p2 : Fld := ⟨0x10048, 23, 16⟩
abbrev TBS_MS_QUOTA_p1 : Fld := ⟨0x10048, 15, 8⟩
abbrev TBS_MS_QUOTA_p0 : Fld := ⟨0x10048, 7, 0⟩
abbrev TBS_MS_USED : Nat := 0x1004c
abbrev TBS_MS_USED_high : Fld := ⟨0x1004c, 27, 16⟩
abbrev TBS_MS_USED_armed : Fld := ⟨0x1004c, 11, 0⟩
abbrev TBS_SNAP : Nat := 0x10050
abbrev TBS_SNAP_take : Fld := ⟨0x10050, 0, 0⟩
abbrev TBS_SNAP_TB_LO : Nat := 0x10054
abbrev TBS_SNAP_TB_LO_value : Fld := ⟨0x10054, 31, 0⟩
abbrev TBS_SNAP_TB_HI : Nat := 0x10058
abbrev TBS_SNAP_TB_HI_value : Fld := ⟨0x10058, 31, 0⟩
abbrev TBS_SNAP_FRAC : Nat := 0x1005c
abbrev TBS_SNAP_FRAC_value : Fld := ⟨0x1005c, 31, 0⟩
abbrev TBS_SNAP_FRAME : Nat := 0x10060
abbrev TBS_SNAP_FRAME_value : Fld := ⟨0x10060, 31, 0⟩
abbrev TBS_TB_LOAD_LO : Nat := 0x10064
abbrev TBS_TB_LOAD_LO_value : Fld := ⟨0x10064, 31, 0⟩
abbrev TBS_TB_LOAD_HI : Nat := 0x10068
abbrev TBS_TB_LOAD_HI_value : Fld := ⟨0x10068, 31, 0⟩
abbrev TBS_TB_LOAD_GO : Nat := 0x1006c
abbrev TBS_TB_LOAD_GO_go : Fld := ⟨0x1006c, 0, 0⟩
abbrev TBS_AON_PERIOD : Nat := 0x10070
abbrev TBS_AON_PERIOD_period : Fld := ⟨0x10070, 31, 0⟩
abbrev LNK_SEL : Nat := 0x30000
abbrev LNK_SEL_lane : Fld := ⟨0x30000, 8, 0⟩
abbrev LNK_RX_CFG : Nat := 0x30004
abbrev LNK_RX_CFG_tap1_lim : Fld := ⟨0x30004, 31, 27⟩
abbrev LNK_RX_CFG_tapn_lim : Fld := ⟨0x30004, 26, 23⟩
abbrev LNK_RX_CFG_ctle_max : Fld := ⟨0x30004, 22, 19⟩
abbrev LNK_RX_CFG_ctle_min : Fld := ⟨0x30004, 18, 15⟩
abbrev LNK_RX_CFG_mu : Fld := ⟨0x30004, 14, 12⟩
abbrev LNK_RX_CFG_preset : Fld := ⟨0x30004, 7, 5⟩
abbrev LNK_RX_CFG_rx_inv : Fld := ⟨0x30004, 4, 4⟩
abbrev LNK_RX_CFG_dfe_en : Fld := ⟨0x30004, 3, 3⟩
abbrev LNK_RX_CFG_ctle_adapt : Fld := ⟨0x30004, 2, 2⟩
abbrev LNK_RX_CFG_dfe_adapt : Fld := ⟨0x30004, 1, 1⟩
abbrev LNK_RX_CFG_freeze : Fld := ⟨0x30004, 0, 0⟩
abbrev LNK_RX_STATE : Nat := 0x30008
abbrev LNK_RX_STATE_lock : Fld := ⟨0x30008, 31, 30⟩
abbrev LNK_RX_STATE_ctle : Fld := ⟨0x30008, 29, 26⟩
abbrev LNK_RX_STATE_tap1 : Fld := ⟨0x30008, 25, 20⟩
abbrev LNK_RX_STATE_tap2 : Fld := ⟨0x30008, 19, 15⟩
abbrev LNK_RX_STATE_tap3 : Fld := ⟨0x30008, 14, 10⟩
abbrev LNK_RX_STATE_tap4 : Fld := ⟨0x30008, 9, 5⟩
abbrev LNK_RX_STATE_tap5 : Fld := ⟨0x30008, 4, 0⟩
abbrev LNK_RX_MARGIN : Nat := 0x3000c
abbrev LNK_RX_MARGIN_eye_h : Fld := ⟨0x3000c, 31, 24⟩
abbrev LNK_RX_MARGIN_eye_w : Fld := ⟨0x3000c, 23, 18⟩
abbrev LNK_RX_MARGIN_tap_at_lim : Fld := ⟨0x3000c, 17, 17⟩
abbrev LNK_RX_MARGIN_ctle_at_lim : Fld := ⟨0x3000c, 16, 16⟩
abbrev LNK_RX_MARGIN_eff_tap1_lim : Fld := ⟨0x3000c, 15, 11⟩
abbrev LNK_RX_MARGIN_eff_tapn_lim : Fld := ⟨0x3000c, 10, 7⟩
abbrev LNK_TX_CFG : Nat := 0x30010
abbrev LNK_TX_CFG_amp : Fld := ⟨0x30010, 11, 8⟩
abbrev LNK_TX_CFG_preset : Fld := ⟨0x30010, 4, 2⟩
abbrev LNK_TX_CFG_tx_inv : Fld := ⟨0x30010, 1, 1⟩
abbrev LNK_EI_CFG : Nat := 0x30014
abbrev LNK_EI_CFG_burst_len : Fld := ⟨0x30014, 31, 24⟩
abbrev LNK_EI_CFG_min_idle : Fld := ⟨0x30014, 23, 16⟩
abbrev LNK_EI_CFG_exit_to : Fld := ⟨0x30014, 15, 8⟩
abbrev LNK_CNT_CODE : Nat := 0x30018
abbrev LNK_CNT_CODE_count : Fld := ⟨0x30018, 31, 0⟩
abbrev LNK_CNT_DISP : Nat := 0x3001c
abbrev LNK_CNT_DISP_count : Fld := ⟨0x3001c, 31, 0⟩
abbrev LNK_CNT_LOCK : Nat := 0x30020
abbrev LNK_CNT_LOCK_count : Fld := ⟨0x30020, 31, 0⟩
abbrev LNK_CNT_EIX : Nat := 0x30024
abbrev LNK_CNT_EIX_count : Fld := ⟨0x30024, 31, 0⟩
abbrev LNK_CNT_CLR : Nat := 0x30028
abbrev LNK_CNT_CLR_go : Fld := ⟨0x30028, 0, 0⟩
abbrev LNK_DEG_CFG : Nat := 0x3002c
abbrev LNK_DEG_CFG_en : Fld := ⟨0x3002c, 31, 31⟩
abbrev LNK_DEG_CFG_thr : Fld := ⟨0x3002c, 15, 0⟩
abbrev LNK_LOCK_MAP (k : Nat) : Nat := 0x30040 + 4 * k
abbrev LNK_LOCK_MAP_sync (k : Nat) : Fld := ⟨0x30040 + 4 * k, 31, 0⟩
abbrev MSP_PORT_CFG (k : Nat) : Nat := 0x40000 + 4 * k
abbrev MSP_PORT_CFG_fb_to (k : Nat) : Fld := ⟨0x40000 + 4 * k, 23, 16⟩
abbrev MSP_PORT_CFG_fallback (k : Nat) : Fld := ⟨0x40000 + 4 * k, 15, 15⟩
abbrev MSP_PORT_CFG_owner (k : Nat) : Fld := ⟨0x40000 + 4 * k, 11, 10⟩
abbrev MSP_PORT_CFG_rate (k : Nat) : Fld := ⟨0x40000 + 4 * k, 7, 6⟩
abbrev MSP_PORT_CFG_width (k : Nat) : Fld := ⟨0x40000 + 4 * k, 5, 4⟩
abbrev MSP_PORT_CFG_en (k : Nat) : Fld := ⟨0x40000 + 4 * k, 0, 0⟩
abbrev MSP_PORT_STATUS (k : Nat) : Nat := 0x40020 + 4 * k
abbrev MSP_PORT_STATUS_state (k : Nat) : Fld := ⟨0x40020 + 4 * k, 31, 29⟩
abbrev MSP_PORT_STATUS_act_width (k : Nat) : Fld := ⟨0x40020 + 4 * k, 28, 27⟩
abbrev MSP_PORT_STATUS_act_first (k : Nat) : Fld := ⟨0x40020 + 4 * k, 26, 24⟩
abbrev MSP_PORT_STATUS_blk_lock (k : Nat) : Fld := ⟨0x40020 + 4 * k, 23, 16⟩
abbrev MSP_PORT_STATUS_skew (k : Nat) : Fld := ⟨0x40020 + 4 * k, 15, 8⟩
abbrev MSP_PORT_STATUS_deskew_fail (k : Nat) : Fld := ⟨0x40020 + 4 * k, 7, 0⟩
abbrev MSP_PORT_CTRL (k : Nat) : Nat := 0x40040 + 4 * k
abbrev MSP_PORT_CTRL_restore (k : Nat) : Fld := ⟨0x40040 + 4 * k, 0, 0⟩
abbrev MSP_PORT_DOWN (k : Nat) : Nat := 0x40060 + 4 * k
abbrev MSP_PORT_DOWN_count (k : Nat) : Fld := ⟨0x40060 + 4 * k, 31, 0⟩
abbrev MSP_CREDIT_CFG : Nat := 0x40080
abbrev MSP_CREDIT_CFG_batch_time : Fld := ⟨0x40080, 15, 8⟩
abbrev MSP_CREDIT_CFG_batch : Fld := ⟨0x40080, 7, 0⟩
abbrev MSP_STREAM_SEL : Nat := 0x40084
abbrev MSP_STREAM_SEL_ctx : Fld := ⟨0x40084, 9, 0⟩
abbrev MSP_STREAM_STATE : Nat := 0x40088
abbrev MSP_STREAM_STATE_state : Fld := ⟨0x40088, 31, 30⟩
abbrev MSP_STREAM_STATE_target : Fld := ⟨0x40088, 29, 28⟩
abbrev MSP_STREAM_STATE_format : Fld := ⟨0x40088, 27, 20⟩
abbrev MSP_STREAM_STATE_held : Fld := ⟨0x40088, 19, 19⟩
abbrev MSP_STREAM_STATE_credit_init : Fld := ⟨0x40088, 17, 9⟩
abbrev MSP_STREAM_STATE_avail : Fld := ⟨0x40088, 8, 0⟩
abbrev MSP_STREAM_FRAME : Nat := 0x4008c
abbrev MSP_STREAM_FRAME_complete : Fld := ⟨0x4008c, 31, 31⟩
abbrev MSP_STREAM_FRAME_frame : Fld := ⟨0x4008c, 23, 0⟩
abbrev MSP_STREAM_CNT_DONE : Nat := 0x40090
abbrev MSP_STREAM_CNT_DONE_count : Fld := ⟨0x40090, 31, 0⟩
abbrev MSP_STREAM_CNT_INC : Nat := 0x40094
abbrev MSP_STREAM_CNT_INC_count : Fld := ⟨0x40094, 31, 0⟩
abbrev MSP_STREAM_CNT_DROP : Nat := 0x40098
abbrev MSP_STREAM_CNT_DROP_count : Fld := ⟨0x40098, 31, 0⟩
abbrev MSP_STREAM_CNT_VIOL : Nat := 0x4009c
abbrev MSP_STREAM_CNT_VIOL_count : Fld := ⟨0x4009c, 31, 0⟩
abbrev MSP_STREAM_CNT_CRC : Nat := 0x400a0
abbrev MSP_STREAM_CNT_CRC_count : Fld := ⟨0x400a0, 31, 0⟩
abbrev MSP_STREAM_FLAGS : Nat := 0x400a4
abbrev MSP_STREAM_FLAGS_viol : Fld := ⟨0x400a4, 3, 3⟩
abbrev MSP_STREAM_FLAGS_crc : Fld := ⟨0x400a4, 2, 2⟩
abbrev MSP_STREAM_FLAGS_drop : Fld := ⟨0x400a4, 1, 1⟩
abbrev MSP_STREAM_FLAGS_inc : Fld := ⟨0x400a4, 0, 0⟩
abbrev MSP_STREAM_CNT_CLR : Nat := 0x400a8
abbrev MSP_STREAM_CNT_CLR_go : Fld := ⟨0x400a8, 0, 0⟩
abbrev LYR_OWN : Nat := 0x50000
abbrev LYR_OWN_part : Fld := ⟨0x50000, 23, 0⟩
abbrev LYR_ZORDER_LO : Nat := 0x50004
abbrev LYR_ZORDER_LO_slot7_0 : Fld := ⟨0x50004, 31, 0⟩
abbrev LYR_ZORDER_HI : Nat := 0x50008
abbrev LYR_ZORDER_HI_slot11_8 : Fld := ⟨0x50008, 15, 0⟩
abbrev LYR_BG : Nat := 0x5000c
abbrev LYR_BG_r : Fld := ⟨0x5000c, 29, 20⟩
abbrev LYR_BG_g : Fld := ⟨0x5000c, 19, 10⟩
abbrev LYR_BG_b : Fld := ⟨0x5000c, 9, 0⟩
abbrev LYR_FETCH_LIMIT : Nat := 0x50010
abbrev LYR_FETCH_LIMIT_limit : Fld := ⟨0x50010, 15, 0⟩
abbrev LYR_FETCH_USED : Nat := 0x50014
abbrev LYR_FETCH_USED_used : Fld := ⟨0x50014, 15, 0⟩
abbrev LYR_SEL : Nat := 0x50020
abbrev LYR_SEL_layer : Fld := ⟨0x50020, 3, 0⟩
abbrev LYR_L_CTRL : Nat := 0x50024
abbrev LYR_L_CTRL_en : Fld := ⟨0x50024, 31, 31⟩
abbrev LYR_L_CTRL_flip_mode : Fld := ⟨0x50024, 30, 30⟩
abbrev LYR_L_CTRL_views : Fld := ⟨0x50024, 29, 25⟩
abbrev LYR_L_CTRL_chroma_h : Fld := ⟨0x50024, 24, 24⟩
abbrev LYR_L_CTRL_chroma_v : Fld := ⟨0x50024, 23, 23⟩
abbrev LYR_L_CTRL_cfmt : Fld := ⟨0x50024, 15, 8⟩
abbrev LYR_L_CTRL_fmt : Fld := ⟨0x50024, 7, 0⟩
abbrev LYR_L_BASE_LO : Nat := 0x50028
abbrev LYR_L_BASE_LO_addr_lo : Fld := ⟨0x50028, 31, 12⟩
abbrev LYR_L_BASE_HI : Nat := 0x5002c
abbrev LYR_L_BASE_HI_addr_hi : Fld := ⟨0x5002c, 15, 0⟩
abbrev LYR_L_STRIDE : Nat := 0x50030
abbrev LYR_L_STRIDE_stride : Fld := ⟨0x50030, 19, 0⟩
abbrev LYR_L_PLANE1 : Nat := 0x50034
abbrev LYR_L_PLANE1_offset : Fld := ⟨0x50034, 31, 12⟩
abbrev LYR_L_PLANE2 : Nat := 0x50038
abbrev LYR_L_PLANE2_offset : Fld := ⟨0x50038, 31, 12⟩
abbrev LYR_L_SRC : Nat := 0x5003c
abbrev LYR_L_SRC_h : Fld := ⟨0x5003c, 29, 16⟩
abbrev LYR_L_SRC_w : Fld := ⟨0x5003c, 13, 0⟩
abbrev LYR_L_DST : Nat := 0x50040
abbrev LYR_L_DST_h : Fld := ⟨0x50040, 29, 16⟩
abbrev LYR_L_DST_w : Fld := ⟨0x50040, 13, 0⟩
abbrev LYR_L_POS : Nat := 0x50044
abbrev LYR_L_POS_y : Fld := ⟨0x50044, 31, 16⟩
abbrev LYR_L_POS_x : Fld := ⟨0x50044, 15, 0⟩
abbrev LYR_L_STATUS : Nat := 0x50048
abbrev LYR_L_STATUS_ready : Fld := ⟨0x50048, 31, 31⟩
abbrev LYR_L_STATUS_latched : Fld := ⟨0x50048, 30, 30⟩
abbrev LYR_L_STATUS_pending : Fld := ⟨0x50048, 29, 25⟩
abbrev LYR_L_STATUS_shown : Fld := ⟨0x50048, 23, 0⟩
abbrev LYR_L_CNT_REPEAT : Nat := 0x5004c
abbrev LYR_L_CNT_REPEAT_count : Fld := ⟨0x5004c, 31, 0⟩
abbrev LYR_L_CNT_DROP : Nat := 0x50050
abbrev LYR_L_CNT_DROP_count : Fld := ⟨0x50050, 31, 0⟩
abbrev LYR_S_CTRL : Nat := 0x50060
abbrev LYR_S_CTRL_hb_en : Fld := ⟨0x50060, 31, 31⟩
abbrev LYR_S_CTRL_crc_act : Fld := ⟨0x50060, 30, 30⟩
abbrev LYR_S_CTRL_safe_solo : Fld := ⟨0x50060, 29, 29⟩
abbrev LYR_S_CTRL_hb_win : Fld := ⟨0x50060, 25, 16⟩
abbrev LYR_S_SAFE_LO : Nat := 0x50064
abbrev LYR_S_SAFE_LO_addr_lo : Fld := ⟨0x50064, 31, 12⟩
abbrev LYR_S_SAFE_HI : Nat := 0x50068
abbrev LYR_S_SAFE_HI_addr_hi : Fld := ⟨0x50068, 15, 0⟩
abbrev LYR_S_STATUS : Nat := 0x5006c
abbrev LYR_S_STATUS_safe : Fld := ⟨0x5006c, 31, 31⟩
abbrev LYR_S_STATUS_reason : Fld := ⟨0x5006c, 30, 28⟩
abbrev LYR_S_STATUS_safe_valid : Fld := ⟨0x5006c, 27, 27⟩
abbrev LYR_S_CRC_CALC : Nat := 0x50070
abbrev LYR_S_CRC_CALC_crc : Fld := ⟨0x50070, 31, 0⟩
abbrev LYR_S_CRC_EXP : Nat := 0x50074
abbrev LYR_S_CRC_EXP_crc : Fld := ⟨0x50074, 31, 0⟩
abbrev SCN_VSYNC_VBACK : Nat := 0x60000
abbrev SCN_VSYNC_VBACK_vback : Fld := ⟨0x60000, 27, 16⟩
abbrev SCN_VSYNC_VBACK_vsync : Fld := ⟨0x60000, 7, 0⟩
abbrev SCN_VACTIVE_VFRONT : Nat := 0x60004
abbrev SCN_VACTIVE_VFRONT_vfront : Fld := ⟨0x60004, 29, 16⟩
abbrev SCN_VACTIVE_VFRONT_vactive : Fld := ⟨0x60004, 13, 0⟩
abbrev SCN_LINE_TIME : Nat := 0x60008
abbrev SCN_LINE_TIME_lt : Fld := ⟨0x60008, 23, 0⟩
abbrev SCN_SYNC_CFG : Nat := 0x6000c
abbrev SCN_SYNC_CFG_div : Fld := ⟨0x6000c, 11, 8⟩
abbrev SCN_SYNC_CFG_lock : Fld := ⟨0x6000c, 1, 0⟩
abbrev SCN_PHASE : Nat := 0x60010
abbrev SCN_PHASE_offset : Fld := ⟨0x60010, 31, 0⟩
abbrev SCN_LATCH_LINE : Nat := 0x60014
abbrev SCN_LATCH_LINE_auto : Fld := ⟨0x60014, 31, 31⟩
abbrev SCN_LATCH_LINE_line : Fld := ⟨0x60014, 15, 0⟩
abbrev SCN_STRETCH : Nat := 0x60018
abbrev SCN_STRETCH_lines : Fld := ⟨0x60018, 21, 0⟩
abbrev SCN_CTRL : Nat := 0x6001c
abbrev SCN_CTRL_run : Fld := ⟨0x6001c, 0, 0⟩
abbrev SCN_LM_CFG (k : Nat) : Nat := 0x60020 + 4 * k
abbrev SCN_LM_CFG_en (k : Nat) : Fld := ⟨0x60020 + 4 * k, 31, 31⟩
abbrev SCN_LM_CFG_line (k : Nat) : Fld := ⟨0x60020 + 4 * k, 15, 0⟩
abbrev SCN_EVT_EN : Nat := 0x60040
abbrev SCN_EVT_EN_late_commit : Fld := ⟨0x60040, 4, 4⟩
abbrev SCN_EVT_EN_underrun : Fld := ⟨0x60040, 3, 3⟩
abbrev SCN_EVT_EN_frame_done : Fld := ⟨0x60040, 2, 2⟩
abbrev SCN_EVT_EN_line_match : Fld := ⟨0x60040, 1, 1⟩
abbrev SCN_EVT_EN_sob : Fld := ⟨0x60040, 0, 0⟩
abbrev SCN_STATUS : Nat := 0x60044
abbrev SCN_STATUS_lock_state : Fld := ⟨0x60044, 31, 30⟩
abbrev SCN_STATUS_stretch : Fld := ⟨0x60044, 29, 29⟩
abbrev SCN_STATUS_blank : Fld := ⟨0x60044, 28, 28⟩
abbrev SCN_STATUS_running : Fld := ⟨0x60044, 27, 27⟩
abbrev SCN_STATUS_line : Fld := ⟨0x60044, 15, 0⟩
abbrev SCN_FRAME : Nat := 0x60048
abbrev SCN_FRAME_frame : Fld := ⟨0x60048, 31, 0⟩
abbrev SCN_PHASE_ERR : Nat := 0x6004c
abbrev SCN_PHASE_ERR_e : Fld := ⟨0x6004c, 31, 0⟩
abbrev SCN_LAT_TOL : Nat := 0x60050
abbrev SCN_LAT_TOL_lt : Fld := ⟨0x60050, 31, 0⟩
abbrev SCN_STRETCH_POS : Nat := 0x60054
abbrev SCN_STRETCH_POS_pos : Fld := ⟨0x60054, 21, 0⟩
abbrev SCN_UNDERRUN_CNT : Nat := 0x60058
abbrev SCN_UNDERRUN_CNT_count : Fld := ⟨0x60058, 31, 0⟩
abbrev SCN_LATE_CNT : Nat := 0x6005c
abbrev SCN_LATE_CNT_count : Fld := ⟨0x6005c, 31, 0⟩
abbrev SCN_FLAGS : Nat := 0x60060
abbrev SCN_FLAGS_refused : Fld := ⟨0x60060, 4, 4⟩
abbrev SCN_FLAGS_bridge : Fld := ⟨0x60060, 3, 3⟩
abbrev SCN_FLAGS_causeway : Fld := ⟨0x60060, 2, 2⟩
abbrev SCN_FLAGS_late_commit : Fld := ⟨0x60060, 1, 1⟩
abbrev SCN_FLAGS_underrun : Fld := ⟨0x60060, 0, 0⟩
abbrev SCN_PAT_CFG : Nat := 0x60070
abbrev SCN_PAT_CFG_size : Fld := ⟨0x60070, 11, 8⟩
abbrev SCN_PAT_CFG_pattern : Fld := ⟨0x60070, 2, 0⟩
abbrev SCN_PAT_C0 : Nat := 0x60074
abbrev SCN_PAT_C0_r : Fld := ⟨0x60074, 29, 20⟩
abbrev SCN_PAT_C0_g : Fld := ⟨0x60074, 19, 10⟩
abbrev SCN_PAT_C0_b : Fld := ⟨0x60074, 9, 0⟩
abbrev SCN_PAT_C1 : Nat := 0x60078
abbrev SCN_PAT_C1_r : Fld := ⟨0x60078, 29, 20⟩
abbrev SCN_PAT_C1_g : Fld := ⟨0x60078, 19, 10⟩
abbrev SCN_PAT_C1_b : Fld := ⟨0x60078, 9, 0⟩
abbrev CMP_CTRL : Nat := 0x70000
abbrev CMP_CTRL_catchup : Fld := ⟨0x70000, 8, 8⟩
abbrev CMP_CTRL_sense_en : Fld := ⟨0x70000, 7, 7⟩
abbrev CMP_CTRL_vint_en : Fld := ⟨0x70000, 6, 6⟩
abbrev CMP_CTRL_sweep_en : Fld := ⟨0x70000, 5, 5⟩
abbrev CMP_CTRL_build_rows : Fld := ⟨0x70000, 3, 1⟩
abbrev CMP_CTRL_map_fmt : Fld := ⟨0x70000, 0, 0⟩
abbrev CMP_SRC_LO : Nat := 0x70004
abbrev CMP_SRC_LO_addr_lo : Fld := ⟨0x70004, 31, 12⟩
abbrev CMP_WORK_LO : Nat := 0x7000c
abbrev CMP_WORK_LO_addr_lo : Fld := ⟨0x7000c, 31, 12⟩
abbrev CMP_VINT_LO : Nat := 0x70014
abbrev CMP_VINT_LO_addr_lo : Fld := ⟨0x70014, 31, 12⟩
abbrev CMP_SRC_HI : Nat := 0x70008
abbrev CMP_SRC_HI_addr_hi : Fld := ⟨0x70008, 15, 0⟩
abbrev CMP_WORK_HI : Nat := 0x70010
abbrev CMP_WORK_HI_addr_hi : Fld := ⟨0x70010, 15, 0⟩
abbrev CMP_VINT_HI : Nat := 0x70018
abbrev CMP_VINT_HI_addr_hi : Fld := ⟨0x70018, 15, 0⟩
abbrev CMP_SENSE : Nat := 0x7001c
abbrev CMP_SENSE_weight : Fld := ⟨0x7001c, 8, 0⟩
abbrev CMP_DITH : Nat := 0x70020
abbrev CMP_DITH_mode : Fld := ⟨0x70020, 31, 30⟩
abbrev CMP_DITH_blue : Fld := ⟨0x70020, 23, 16⟩
abbrev CMP_DITH_green : Fld := ⟨0x70020, 15, 8⟩
abbrev CMP_DITH_red : Fld := ⟨0x70020, 7, 0⟩
abbrev CMP_STATUS : Nat := 0x70024
abbrev CMP_STATUS_work_valid : Fld := ⟨0x70024, 31, 31⟩
abbrev CMP_STATUS_src_loaded : Fld := ⟨0x70024, 30, 30⟩
abbrev CMP_STATUS_tab_loaded : Fld := ⟨0x70024, 29, 29⟩
abbrev CMP_STATUS_vint_ready : Fld := ⟨0x70024, 28, 28⟩
abbrev CMP_STATUS_building : Fld := ⟨0x70024, 27, 27⟩
abbrev CMP_STATUS_active_set : Fld := ⟨0x70024, 26, 26⟩
abbrev CMP_STATUS_build_row : Fld := ⟨0x70024, 24, 16⟩
abbrev CMP_STATUS_sweep_row : Fld := ⟨0x70024, 8, 0⟩
abbrev CMP_FLAGS : Nat := 0x70028
abbrev CMP_FLAGS_superseded : Fld := ⟨0x70028, 3, 3⟩
abbrev CMP_FLAGS_catchup : Fld := ⟨0x70028, 2, 2⟩
abbrev CMP_FLAGS_sense : Fld := ⟨0x70028, 1, 1⟩
abbrev CMP_FLAGS_vint_sat : Fld := ⟨0x70028, 0, 0⟩
abbrev CMP_SUM_SEL : Nat := 0x7002c
abbrev CMP_SUM_SEL_tile : Fld := ⟨0x7002c, 17, 0⟩
abbrev CMP_SUM_RG : Nat := 0x70030
abbrev CMP_SUM_RG_g : Fld := ⟨0x70030, 31, 16⟩
abbrev CMP_SUM_RG_r : Fld := ⟨0x70030, 15, 0⟩
abbrev CMP_SUM_B : Nat := 0x70034
abbrev CMP_SUM_B_b : Fld := ⟨0x70034, 15, 0⟩
abbrev CMP_BUILD_CNT : Nat := 0x70038
abbrev CMP_BUILD_CNT_count : Fld := ⟨0x70038, 31, 0⟩
abbrev ODV_CTRL : Nat := 0x80000
abbrev ODV_CTRL_thr : Fld := ⟨0x80000, 11, 8⟩
abbrev ODV_CTRL_rate_set : Fld := ⟨0x80000, 2, 1⟩
abbrev ODV_CTRL_en : Fld := ⟨0x80000, 0, 0⟩
abbrev ODV_HIST_LO : Nat := 0x80004
abbrev ODV_HIST_LO_addr_lo : Fld := ⟨0x80004, 31, 12⟩
abbrev ODV_HIST_HI : Nat := 0x80008
abbrev ODV_HIST_HI_addr_hi : Fld := ⟨0x80008, 15, 0⟩
abbrev ODV_BAND_EDGE (k : Nat) : Nat := 0x8000c + 4 * k
abbrev ODV_BAND_EDGE_edge (k : Nat) : Fld := ⟨0x8000c + 4 * k, 15, 0⟩
abbrev ODV_TEMP_CFG : Nat := 0x8002c
abbrev ODV_TEMP_CFG_edge : Fld := ⟨0x8002c, 16, 16⟩
abbrev ODV_TEMP_CFG_drv_off : Fld := ⟨0x8002c, 15, 0⟩
abbrev ODV_TEMP_DEFAULT : Nat := 0x80030
abbrev ODV_TEMP_DEFAULT_temp : Fld := ⟨0x80030, 15, 0⟩
abbrev ODV_NTC_POS (k : Nat) : Nat := 0x80040 + 4 * k
abbrev ODV_NTC_POS_en (k : Nat) : Fld := ⟨0x80040 + 4 * k, 31, 31⟩
abbrev ODV_NTC_POS_row (k : Nat) : Fld := ⟨0x80040 + 4 * k, 24, 16⟩
abbrev ODV_NTC_POS_strip (k : Nat) : Fld := ⟨0x80040 + 4 * k, 8, 0⟩
abbrev ODV_NTC_TEMP (k : Nat) : Nat := 0x80060 + 4 * k
abbrev ODV_NTC_TEMP_valid (k : Nat) : Fld := ⟨0x80060 + 4 * k, 31, 31⟩
abbrev ODV_NTC_TEMP_code (k : Nat) : Fld := ⟨0x80060 + 4 * k, 27, 16⟩
abbrev ODV_NTC_TEMP_temp (k : Nat) : Fld := ⟨0x80060 + 4 * k, 15, 0⟩
abbrev ODV_STATUS : Nat := 0x80080
abbrev ODV_STATUS_ntc_tab : Fld := ⟨0x80080, 16, 16⟩
abbrev ODV_STATUS_nf : Fld := ⟨0x80080, 15, 8⟩
abbrev ODV_STATUS_loading : Fld := ⟨0x80080, 0, 0⟩
abbrev ODV_TILE_SEL : Nat := 0x80084
abbrev ODV_TILE_SEL_tile : Fld := ⟨0x80084, 17, 0⟩
abbrev ODV_TILE_STATE : Nat := 0x80088
abbrev ODV_TILE_STATE_hist_valid : Fld := ⟨0x80088, 31, 31⟩
abbrev ODV_TILE_STATE_damage : Fld := ⟨0x80088, 30, 30⟩
abbrev ODV_TILE_STATE_wf : Fld := ⟨0x80088, 29, 28⟩
abbrev ODV_TILE_STATE_rs_l : Fld := ⟨0x80088, 27, 26⟩
abbrev ODV_TILE_STATE_band_l : Fld := ⟨0x80088, 25, 23⟩
abbrev ODV_TILE_STATE_band_c : Fld := ⟨0x80088, 22, 20⟩
abbrev ODV_TILE_STATE_temp : Fld := ⟨0x80088, 15, 0⟩
abbrev ODV_TILE_RU : Nat := 0x8008c
abbrev ODV_TILE_RU_valid : Fld := ⟨0x8008c, 31, 31⟩
abbrev ODV_TILE_RU_id : Fld := ⟨0x8008c, 12, 0⟩
abbrev ODV_DRV_SEL : Nat := 0x80090
abbrev ODV_DRV_SEL_drv : Fld := ⟨0x80090, 5, 0⟩
abbrev ODV_DRV_TEMP : Nat := 0x80094
abbrev ODV_DRV_TEMP_valid : Fld := ⟨0x80094, 31, 31⟩
abbrev ODV_DRV_TEMP_temp : Fld := ⟨0x80094, 15, 0⟩
abbrev ODV_BAND_CNT : Nat := 0x80098
abbrev ODV_BAND_CNT_count : Fld := ⟨0x80098, 31, 0⟩
abbrev ODV_RU_ACTIVE : Nat := 0x8009c
abbrev ODV_RU_ACTIVE_running : Fld := ⟨0x8009c, 13, 0⟩
abbrev ODV_FLAGS : Nat := 0x800a0
abbrev ODV_FLAGS_ru_superseded : Fld := ⟨0x800a0, 2, 2⟩
abbrev ODV_FLAGS_hist_err : Fld := ⟨0x800a0, 1, 1⟩
abbrev ODV_FLAGS_band : Fld := ⟨0x800a0, 0, 0⟩
abbrev ODV_HIST_INVAL : Nat := 0x800a4
abbrev ODV_HIST_INVAL_go : Fld := ⟨0x800a4, 0, 0⟩
abbrev ENG_OWN_LO : Nat := 0x90000
abbrev ENG_OWN_LO_part : Fld := ⟨0x90000, 31, 0⟩
abbrev ENG_OWN_HI : Nat := 0x90004
abbrev ENG_OWN_HI_part : Fld := ⟨0x90004, 31, 0⟩
abbrev ENG_CTRL : Nat := 0x90008
abbrev ENG_CTRL_spare_en : Fld := ⟨0x90008, 2, 2⟩
abbrev ENG_CTRL_miss_pass : Fld := ⟨0x90008, 1, 1⟩
abbrev ENG_CTRL_wd_en : Fld := ⟨0x90008, 0, 0⟩
abbrev ENG_WD : Nat := 0x9000c
abbrev ENG_WD_miss_lim : Fld := ⟨0x9000c, 19, 16⟩
abbrev ENG_WD_stall_cyc : Fld := ⟨0x9000c, 11, 0⟩
abbrev ENG_SEL : Nat := 0x90010
abbrev ENG_SEL_master : Fld := ⟨0x90010, 12, 8⟩
abbrev ENG_SEL_cluster : Fld := ⟨0x90010, 4, 0⟩
abbrev ENG_CL_STATUS : Nat := 0x90014
abbrev ENG_CL_STATUS_job : Fld := ⟨0x90014, 31, 30⟩
abbrev ENG_CL_STATUS_spare : Fld := ⟨0x90014, 29, 28⟩
abbrev ENG_CL_STATUS_spare_for : Fld := ⟨0x90014, 27, 24⟩
abbrev ENG_CL_STATUS_retired : Fld := ⟨0x90014, 23, 23⟩
abbrev ENG_CL_STATUS_ctx : Fld := ⟨0x90014, 9, 0⟩
abbrev ENG_CL_BYPASS : Nat := 0x90018
abbrev ENG_CL_BYPASS_strip : Fld := ⟨0x90018, 15, 0⟩
abbrev ENG_CL_MISS : Nat := 0x9001c
abbrev ENG_CL_MISS_count : Fld := ⟨0x9001c, 31, 0⟩
abbrev ENG_CL_TAKEOVER : Nat := 0x90020
abbrev ENG_CL_TAKEOVER_count : Fld := ⟨0x90020, 31, 0⟩
abbrev ENG_CONF_LO : Nat := 0x90024
abbrev ENG_CONF_LO_count : Fld := ⟨0x90024, 31, 0⟩
abbrev ENG_CONF_HI : Nat := 0x90028
abbrev ENG_CONF_HI_count : Fld := ⟨0x90028, 15, 0⟩
abbrev ENG_BUDGET : Nat := 0x9002c
abbrev ENG_BUDGET_cycles : Fld := ⟨0x9002c, 16, 0⟩
abbrev ENG_JOBS : Nat := 0x90030
abbrev ENG_JOBS_used : Fld := ⟨0x90030, 10, 0⟩
abbrev ENG_FLAGS : Nat := 0x90034
abbrev ENG_FLAGS_fetch_late : Fld := ⟨0x90034, 4, 4⟩
abbrev ENG_FLAGS_wb_denied : Fld := ⟨0x90034, 3, 3⟩
abbrev ENG_FLAGS_hv_drop : Fld := ⟨0x90034, 2, 2⟩
abbrev ENG_FLAGS_over_budget : Fld := ⟨0x90034, 1, 1⟩
abbrev ENG_FLAGS_takeover : Fld := ⟨0x90034, 0, 0⟩
abbrev KDL_CFG : Nat := 0xa0000
abbrev KDL_CFG_ei_en : Fld := ⟨0xa0000, 31, 31⟩
abbrev KDL_CFG_skip_en : Fld := ⟨0xa0000, 30, 30⟩
abbrev KDL_CFG_ei_min : Fld := ⟨0xa0000, 17, 8⟩
abbrev KDL_CFG_rate : Fld := ⟨0xa0000, 1, 0⟩
abbrev KDL_DRV_EN_LO : Nat := 0xa0004
abbrev KDL_DRV_EN_LO_en : Fld := ⟨0xa0004, 31, 0⟩
abbrev KDL_DRV_EN_HI : Nat := 0xa0008
abbrev KDL_DRV_EN_HI_en : Fld := ⟨0xa0008, 31, 0⟩
abbrev KDL_CTRL : Nat := 0xa000c
abbrev KDL_CTRL_train : Fld := ⟨0xa000c, 0, 0⟩
abbrev KDL_STATUS : Nat := 0xa0010
abbrev KDL_STATUS_run : Fld := ⟨0xa0010, 22, 16⟩
abbrev KDL_STATUS_down : Fld := ⟨0xa0010, 6, 0⟩
abbrev KDL_POL : Nat := 0xa0014
abbrev KDL_POL_frame_inv : Fld := ⟨0xa0014, 2, 2⟩
abbrev KDL_POL_pattern : Fld := ⟨0xa0014, 1, 0⟩
abbrev KDL_CS : Nat := 0xa0018
abbrev KDL_CS_width : Fld := ⟨0xa0018, 31, 16⟩
abbrev KDL_CS_start : Fld := ⟨0xa0018, 15, 0⟩
abbrev KDL_OE : Nat := 0xa001c
abbrev KDL_OE_width : Fld := ⟨0xa001c, 31, 16⟩
abbrev KDL_OE_start : Fld := ⟨0xa001c, 15, 0⟩
abbrev KDL_DRV_SEL : Nat := 0xa0020
abbrev KDL_DRV_SEL_drv : Fld := ⟨0xa0020, 5, 0⟩
abbrev KDL_DRV_STATE : Nat := 0xa0024
abbrev KDL_DRV_STATE_state : Fld := ⟨0xa0024, 31, 29⟩
abbrev KDL_DRV_STATE_lane_a : Fld := ⟨0xa0024, 28, 28⟩
abbrev KDL_DRV_STATE_lane_b : Fld := ⟨0xa0024, 27, 27⟩
abbrev KDL_DRV_STATE_deskew : Fld := ⟨0xa0024, 26, 26⟩
abbrev KDL_DRV_STATE_bc_sync : Fld := ⟨0xa0024, 25, 25⟩
abbrev KDL_DRV_STATE_cseq : Fld := ⟨0xa0024, 7, 0⟩
abbrev KDL_DRV_FLIGHT : Nat := 0xa0028
abbrev KDL_DRV_FLIGHT_phi : Fld := ⟨0xa0028, 15, 0⟩
abbrev KDL_DRV_DECL : Nat := 0xa002c
abbrev KDL_DRV_DECL_t_rxd : Fld := ⟨0xa002c, 31, 16⟩
abbrev KDL_DRV_DECL_t_conv : Fld := ⟨0xa002c, 15, 0⟩
abbrev KDL_DRV_CNT_CRC : Nat := 0xa0030
abbrev KDL_DRV_CNT_CRC_count : Fld := ⟨0xa0030, 31, 0⟩
abbrev KDL_DRV_CNT_HOLD : Nat := 0xa0034
abbrev KDL_DRV_CNT_HOLD_count : Fld := ⟨0xa0034, 31, 0⟩
abbrev KDL_DRV_CNT_CTL : Nat := 0xa0038
abbrev KDL_DRV_CNT_CTL_count : Fld := ⟨0xa0038, 31, 0⟩
abbrev KDL_DRV_CNT_RETRAIN : Nat := 0xa003c
abbrev KDL_DRV_CNT_RETRAIN_count : Fld := ⟨0xa003c, 31, 0⟩
abbrev KDL_DRV_CNT_BC : Nat := 0xa0040
abbrev KDL_DRV_CNT_BC_count : Fld := ⟨0xa0040, 31, 0⟩
abbrev KDL_FLAGS : Nat := 0xa0044
abbrev KDL_FLAGS_sense_miss : Fld := ⟨0xa0044, 4, 4⟩
abbrev KDL_FLAGS_echo_drift : Fld := ⟨0xa0044, 3, 3⟩
abbrev KDL_FLAGS_bc_lost : Fld := ⟨0xa0044, 2, 2⟩
abbrev KDL_FLAGS_lane_down : Fld := ⟨0xa0044, 1, 1⟩
abbrev KDL_FLAGS_retrain : Fld := ⟨0xa0044, 0, 0⟩
abbrev KDL_HV_STATUS : Nat := 0xa0048
abbrev KDL_HV_STATUS_running : Fld := ⟨0xa0048, 31, 31⟩
abbrev KDL_HV_STATUS_missing : Fld := ⟨0xa0048, 30, 16⟩
abbrev KDL_HV_STATUS_done : Fld := ⟨0xa0048, 13, 0⟩
abbrev PNL_PANEL : Nat := 0xb0000
abbrev PNL_PANEL_scan_dir : Fld := ⟨0xb0000, 16, 16⟩
abbrev PNL_PANEL_double_row : Fld := ⟨0xb0000, 15, 15⟩
abbrev PNL_PANEL_type : Fld := ⟨0xb0000, 14, 14⟩
abbrev PNL_PANEL_lines : Fld := ⟨0xb0000, 13, 0⟩
abbrev PNL_GATE_CFG : Nat := 0xb0004
abbrev PNL_GATE_CFG_grst_frame : Fld := ⟨0xb0004, 15, 15⟩
abbrev PNL_GATE_CFG_stv_stagger : Fld := ⟨0xb0004, 14, 14⟩
abbrev PNL_GATE_CFG_inv : Fld := ⟨0xb0004, 13, 10⟩
abbrev PNL_GATE_CFG_stv_en : Fld := ⟨0xb0004, 7, 4⟩
abbrev PNL_GATE_CFG_nphase : Fld := ⟨0xb0004, 3, 0⟩
abbrev PNL_STV_ON : Nat := 0xb0008
abbrev PNL_STV_ON_offset : Fld := ⟨0xb0008, 23, 0⟩
abbrev PNL_STV_OFF : Nat := 0xb000c
abbrev PNL_STV_OFF_offset : Fld := ⟨0xb000c, 23, 0⟩
abbrev PNL_CKV_ON : Nat := 0xb0010
abbrev PNL_CKV_ON_offset : Fld := ⟨0xb0010, 23, 0⟩
abbrev PNL_CKV_OFF : Nat := 0xb0014
abbrev PNL_CKV_OFF_offset : Fld := ⟨0xb0014, 23, 0⟩
abbrev PNL_GRST : Nat := 0xb0018
abbrev PNL_GRST_width : Fld := ⟨0xb0018, 15, 0⟩
abbrev PNL_HV : Nat := 0xb001c
abbrev PNL_HV_hold : Fld := ⟨0xb001c, 31, 16⟩
abbrev PNL_HV_pass : Fld := ⟨0xb001c, 15, 0⟩
abbrev PNL_SEQ (k : Nat) : Nat := 0xb0020 + 4 * k
abbrev PNL_SEQ_en (k : Nat) : Fld := ⟨0xb0020 + 4 * k, 31, 31⟩
abbrev PNL_SEQ_pg_used (k : Nat) : Fld := ⟨0xb0020 + 4 * k, 30, 30⟩
abbrev PNL_SEQ_pg_to (k : Nat) : Fld := ⟨0xb0020 + 4 * k, 29, 24⟩
abbrev PNL_SEQ_off_delay (k : Nat) : Fld := ⟨0xb0020 + 4 * k, 23, 12⟩
abbrev PNL_SEQ_on_delay (k : Nat) : Fld := ⟨0xb0020 + 4 * k, 11, 0⟩
abbrev PNL_DIS : Nat := 0xb0040
abbrev PNL_DIS_dis_code : Fld := ⟨0xb0040, 25, 16⟩
abbrev PNL_DIS_black : Fld := ⟨0xb0040, 9, 0⟩
abbrev PNL_DIS_TIME : Nat := 0xb0044
abbrev PNL_DIS_TIME_t_dis : Fld := ⟨0xb0044, 31, 16⟩
abbrev PNL_DIS_TIME_t_pfw : Fld := ⟨0xb0044, 6, 0⟩
abbrev PNL_PWR_CTRL : Nat := 0xb0048
abbrev PNL_PWR_CTRL_off : Fld := ⟨0xb0048, 1, 1⟩
abbrev PNL_PWR_CTRL_on : Fld := ⟨0xb0048, 0, 0⟩
abbrev PNL_PWR_STATUS : Nat := 0xb004c
abbrev PNL_PWR_STATUS_state : Fld := ⟨0xb004c, 31, 29⟩
abbrev PNL_PWR_STATUS_step : Fld := ⟨0xb004c, 28, 26⟩
abbrev PNL_PWR_STATUS_pg : Fld := ⟨0xb004c, 15, 8⟩
abbrev PNL_PWR_STATUS_en : Fld := ⟨0xb004c, 7, 0⟩
abbrev PNL_CRK_CFG : Nat := 0xb0050
abbrev PNL_CRK_CFG_tol : Fld := ⟨0xb0050, 31, 24⟩
abbrev PNL_CRK_CFG_period : Fld := ⟨0xb0050, 23, 8⟩
abbrev PNL_CRK_CFG_action : Fld := ⟨0xb0050, 5, 4⟩
abbrev PNL_CRK_CFG_en : Fld := ⟨0xb0050, 3, 0⟩
abbrev PNL_CRK_CTRL : Nat := 0xb0054
abbrev PNL_CRK_CTRL_capture : Fld := ⟨0xb0054, 0, 0⟩
abbrev PNL_CRK_STATUS : Nat := 0xb0058
abbrev PNL_CRK_STATUS_base_valid : Fld := ⟨0xb0058, 31, 31⟩
abbrev PNL_CRK_STATUS_busy : Fld := ⟨0xb0058, 30, 30⟩
abbrev PNL_CRK_STATUS_out : Fld := ⟨0xb0058, 7, 4⟩
abbrev PNL_CRK_STATUS_cracked : Fld := ⟨0xb0058, 3, 0⟩
abbrev PNL_CRK_CODE (k : Nat) : Nat := 0xb0060 + 4 * k
abbrev PNL_CRK_CODE_base (k : Nat) : Fld := ⟨0xb0060 + 4 * k, 27, 16⟩
abbrev PNL_CRK_CODE_code (k : Nat) : Fld := ⟨0xb0060 + 4 * k, 11, 0⟩
abbrev PNL_FLAGS : Nat := 0xb0070
abbrev PNL_FLAGS_refused : Fld := ⟨0xb0070, 4, 4⟩
abbrev PNL_FLAGS_holdup : Fld := ⟨0xb0070, 3, 3⟩
abbrev PNL_FLAGS_crack : Fld := ⟨0xb0070, 2, 2⟩
abbrev PNL_FLAGS_pg_lost : Fld := ⟨0xb0070, 1, 1⟩
abbrev PNL_FLAGS_pg_to : Fld := ⟨0xb0070, 0, 0⟩
abbrev HIF_QALLOC (k : Nat) : Nat := 0xc0000 + 4 * k
abbrev HIF_QALLOC_count (k : Nat) : Fld := ⟨0xc0000 + 4 * k, 22, 16⟩
abbrev HIF_QALLOC_base (k : Nat) : Fld := ⟨0xc0000 + 4 * k, 5, 0⟩
abbrev HIF_Q_SEL : Nat := 0xc0010
abbrev HIF_Q_SEL_q : Fld := ⟨0xc0010, 13, 0⟩
abbrev HIF_Q_CFG : Nat := 0xc0014
abbrev HIF_Q_CFG_en : Fld := ⟨0xc0014, 31, 31⟩
abbrev HIF_Q_CFG_kind : Fld := ⟨0xc0014, 30, 29⟩
abbrev HIF_Q_CFG_loc : Fld := ⟨0xc0014, 28, 28⟩
abbrev HIF_Q_CFG_log2size : Fld := ⟨0xc0014, 27, 24⟩
abbrev HIF_Q_CFG_weight : Fld := ⟨0xc0014, 23, 20⟩
abbrev HIF_Q_CFG_msix_en : Fld := ⟨0xc0014, 11, 11⟩
abbrev HIF_Q_CFG_vector : Fld := ⟨0xc0014, 10, 0⟩
abbrev HIF_Q_BASE_LO : Nat := 0xc0018
abbrev HIF_Q_BASE_LO_addr : Fld := ⟨0xc0018, 31, 0⟩
abbrev HIF_Q_BASE_HI : Nat := 0xc001c
abbrev HIF_Q_BASE_HI_addr : Fld := ⟨0xc001c, 31, 0⟩
abbrev HIF_Q_AGG : Nat := 0xc0020
abbrev HIF_Q_AGG_agg_time : Fld := ⟨0xc0020, 31, 16⟩
abbrev HIF_Q_AGG_agg_cnt : Fld := ⟨0xc0020, 15, 0⟩
abbrev HIF_Q_PTR : Nat := 0xc0024
abbrev HIF_Q_PTR_head : Fld := ⟨0xc0024, 31, 16⟩
abbrev HIF_Q_PTR_tail : Fld := ⟨0xc0024, 15, 0⟩
abbrev HIF_Q_STATUS : Nat := 0xc0028
abbrev HIF_Q_STATUS_state : Fld := ⟨0xc0028, 31, 30⟩
abbrev HIF_Q_STATUS_err : Fld := ⟨0xc0028, 29, 27⟩
abbrev HIF_Q_CNT : Nat := 0xc002c
abbrev HIF_Q_CNT_dropped : Fld := ⟨0xc002c, 31, 16⟩
abbrev HIF_Q_CNT_rejected : Fld := ⟨0xc002c, 15, 0⟩
abbrev HIF_EVT_EQ (k : Nat) : Nat := 0xc0040 + 4 * k
abbrev HIF_EVT_EQ_en (k : Nat) : Fld := ⟨0xc0040 + 4 * k, 31, 31⟩
abbrev HIF_EVT_EQ_eq (k : Nat) : Fld := ⟨0xc0040 + 4 * k, 13, 0⟩
abbrev HIF_DB_DROP : Nat := 0xc0080
abbrev HIF_DB_DROP_count : Fld := ⟨0xc0080, 31, 0⟩
abbrev HIF_HOLD : Nat := 0xc0084
abbrev HIF_HOLD_hold : Fld := ⟨0xc0084, 31, 31⟩
abbrev HIF_HOLD_waiting : Fld := ⟨0xc0084, 15, 0⟩
abbrev HIF_FLAGS : Nat := 0xc0088
abbrev HIF_FLAGS_alloc_refused : Fld := ⟨0xc0088, 4, 4⟩
abbrev HIF_FLAGS_evt_ovf : Fld := ⟨0xc0088, 3, 3⟩
abbrev HIF_FLAGS_q_err : Fld := ⟨0xc0088, 2, 2⟩
abbrev HIF_FLAGS_bad_cq : Fld := ⟨0xc0088, 1, 1⟩
abbrev HIF_FLAGS_db_drop : Fld := ⟨0xc0088, 0, 0⟩
abbrev FST_CFG : Nat := 0xd0000
abbrev FST_CFG_l1_en : Fld := ⟨0xd0000, 7, 7⟩
abbrev FST_CFG_rate_max : Fld := ⟨0xd0000, 5, 4⟩
abbrev FST_CFG_layout : Fld := ⟨0xd0000, 3, 2⟩
abbrev FST_CFG_en : Fld := ⟨0xd0000, 0, 0⟩
abbrev FST_STATUS : Nat := 0xd0004
abbrev FST_STATUS_state : Fld := ⟨0xd0004, 31, 29⟩
abbrev FST_STATUS_lost : Fld := ⟨0xd0004, 28, 26⟩
abbrev FST_STATUS_usable : Fld := ⟨0xd0004, 10, 0⟩
abbrev FST_PORT_STATUS (k : Nat) : Nat := 0xd0010 + 4 * k
abbrev FST_PORT_STATUS_state (k : Nat) : Fld := ⟨0xd0010 + 4 * k, 31, 29⟩
abbrev FST_PORT_STATUS_rate (k : Nat) : Fld := ⟨0xd0010 + 4 * k, 28, 28⟩
abbrev FST_PORT_STATUS_cap (k : Nat) : Fld := ⟨0xd0010 + 4 * k, 8, 0⟩
abbrev FST_PORT_WAKE (k : Nat) : Nat := 0xd0030 + 4 * k
abbrev FST_PORT_WAKE_obs (k : Nat) : Fld := ⟨0xd0030 + 4 * k, 31, 16⟩
abbrev FST_PORT_WAKE_cfg (k : Nat) : Fld := ⟨0xd0030 + 4 * k, 15, 0⟩
abbrev FST_PORT_CTRL (k : Nat) : Nat := 0xd0050 + 4 * k
abbrev FST_PORT_CTRL_rebuild (k : Nat) : Fld := ⟨0xd0050 + 4 * k, 0, 0⟩
abbrev FST_REBUILD : Nat := 0xd0070
abbrev FST_REBUILD_port : Fld := ⟨0xd0070, 31, 29⟩
abbrev FST_REBUILD_done : Fld := ⟨0xd0070, 12, 0⟩
abbrev FST_BAKED_LO : Nat := 0xd0080
abbrev FST_BAKED_LO_addr_lo : Fld := ⟨0xd0080, 31, 12⟩
abbrev FST_BAKED_HI : Nat := 0xd0084
abbrev FST_BAKED_HI_addr_hi : Fld := ⟨0xd0084, 15, 0⟩
abbrev FST_WIN_BASE_LO : Nat := 0xd0088
abbrev FST_WIN_BASE_LO_addr_lo : Fld := ⟨0xd0088, 31, 15⟩
abbrev FST_WIN_BASE_HI : Nat := 0xd008c
abbrev FST_WIN_BASE_HI_addr_hi : Fld := ⟨0xd008c, 15, 0⟩
abbrev FST_CNT_RECON : Nat := 0xd0090
abbrev FST_CNT_RECON_count : Fld := ⟨0xd0090, 31, 0⟩
abbrev FST_CNT_RMW : Nat := 0xd0094
abbrev FST_CNT_RMW_count : Fld := ⟨0xd0094, 31, 0⟩
abbrev FST_CNT_WD : Nat := 0xd0098
abbrev FST_CNT_WD_count : Fld := ⟨0xd0098, 31, 0⟩
abbrev FST_DENY_CNT : Nat := 0xd009c
abbrev FST_DENY_CNT_count : Fld := ⟨0xd009c, 31, 0⟩
abbrev FST_FLAGS : Nat := 0xd00a0
abbrev FST_FLAGS_rebuilt : Fld := ⟨0xd00a0, 5, 5⟩
abbrev FST_FLAGS_rgn_refused : Fld := ⟨0xd00a0, 4, 4⟩
abbrev FST_FLAGS_region_miss : Fld := ⟨0xd00a0, 3, 3⟩
abbrev FST_FLAGS_denied : Fld := ⟨0xd00a0, 2, 2⟩
abbrev FST_FLAGS_data_lost : Fld := ⟨0xd00a0, 1, 1⟩
abbrev FST_FLAGS_port_lost : Fld := ⟨0xd00a0, 0, 0⟩
abbrev FST_RGN_BASE (k : Nat) : Nat := 0xd1000 + 16 * k
abbrev FST_RGN_BASE_value (k : Nat) : Fld := ⟨0xd1000 + 16 * k, 31, 0⟩
abbrev FST_RGN_SIZE (k : Nat) : Nat := 0xd1004 + 16 * k
abbrev FST_RGN_SIZE_value (k : Nat) : Fld := ⟨0xd1004 + 16 * k, 31, 0⟩
abbrev FST_RGN_CFG (k : Nat) : Nat := 0xd1008 + 16 * k
abbrev FST_RGN_CFG_en (k : Nat) : Fld := ⟨0xd1008 + 16 * k, 31, 31⟩
abbrev FST_RGN_CFG_kind (k : Nat) : Fld := ⟨0xd1008 + 16 * k, 11, 8⟩
abbrev FST_RGN_CFG_owner (k : Nat) : Fld := ⟨0xd1008 + 16 * k, 1, 0⟩
abbrev MEM_INST_SEL : Nat := 0xe0000
abbrev MEM_INST_SEL_inst : Fld := ⟨0xe0000, 9, 0⟩
abbrev MEM_INST_STATUS : Nat := 0xe0004
abbrev MEM_INST_STATUS_full : Fld := ⟨0xe0004, 31, 31⟩
abbrev MEM_INST_STATUS_remap_used : Fld := ⟨0xe0004, 27, 24⟩
abbrev MEM_INST_STATUS_red_used : Fld := ⟨0xe0004, 15, 8⟩
abbrev MEM_INST_STATUS_macros : Fld := ⟨0xe0004, 7, 0⟩
abbrev MEM_INST_PERR : Nat := 0xe0008
abbrev MEM_INST_PERR_count : Fld := ⟨0xe0008, 31, 0⟩
abbrev MEM_REMAP (k : Nat) : Nat := 0xe0010 + 4 * k
abbrev MEM_REMAP_valid (k : Nat) : Fld := ⟨0xe0010 + 4 * k, 31, 31⟩
abbrev MEM_REMAP_word (k : Nat) : Fld := ⟨0xe0010 + 4 * k, 15, 0⟩
abbrev MEM_PAR_LAST : Nat := 0xe0030
abbrev MEM_PAR_LAST_inst : Fld := ⟨0xe0030, 31, 22⟩
abbrev MEM_PAR_LAST_byte : Fld := ⟨0xe0030, 21, 16⟩
abbrev MEM_PAR_LAST_word : Fld := ⟨0xe0030, 15, 0⟩
abbrev MEM_CONF_SEL : Nat := 0xe0034
abbrev MEM_CONF_SEL_array : Fld := ⟨0xe0034, 9, 8⟩
abbrev MEM_CONF_SEL_master : Fld := ⟨0xe0034, 2, 0⟩
abbrev MEM_CONF_LO : Nat := 0xe0038
abbrev MEM_CONF_LO_count : Fld := ⟨0xe0038, 31, 0⟩
abbrev MEM_CONF_HI : Nat := 0xe003c
abbrev MEM_CONF_HI_count : Fld := ⟨0xe003c, 15, 0⟩
abbrev MEM_XRAM_CFG : Nat := 0xe0040
abbrev MEM_XRAM_CFG_wr : Fld := ⟨0xe0040, 7, 4⟩
abbrev MEM_XRAM_CFG_int_en : Fld := ⟨0xe0040, 0, 0⟩
abbrev MEM_XBUSY : Nat := 0xe0044
abbrev MEM_XBUSY_busy : Fld := ⟨0xe0044, 31, 31⟩
abbrev MEM_XBUSY_word : Fld := ⟨0xe0044, 14, 0⟩
abbrev MEM_XBUSY_CNT : Nat := 0xe0048
abbrev MEM_XBUSY_CNT_count : Fld := ⟨0xe0048, 31, 0⟩
abbrev MEM_FILL : Nat := 0xe004c
abbrev MEM_FILL_done : Fld := ⟨0xe004c, 31, 31⟩
abbrev MEM_FILL_time : Fld := ⟨0xe004c, 9, 0⟩
abbrev MEM_FLAGS : Nat := 0xe0050
abbrev MEM_FLAGS_x_denied : Fld := ⟨0xe0050, 4, 4⟩
abbrev MEM_FLAGS_table : Fld := ⟨0xe0050, 3, 3⟩
abbrev MEM_FLAGS_remap_full : Fld := ⟨0xe0050, 2, 2⟩
abbrev MEM_FLAGS_remap : Fld := ⟨0xe0050, 1, 1⟩
abbrev MEM_FLAGS_parity : Fld := ⟨0xe0050, 0, 0⟩
abbrev PWR_DOM_SEL : Nat := 0xf0000
abbrev PWR_DOM_SEL_dom : Fld := ⟨0xf0000, 6, 0⟩
abbrev PWR_DOM_CFG : Nat := 0xf0004
abbrev PWR_DOM_CFG_idle : Fld := ⟨0xf0004, 31, 16⟩
abbrev PWR_DOM_CFG_max : Fld := ⟨0xf0004, 1, 0⟩
abbrev PWR_DOM_STATE : Nat := 0xf0008
abbrev PWR_DOM_STATE_state : Fld := ⟨0xf0008, 31, 30⟩
abbrev PWR_DOM_STATE_busy : Fld := ⟨0xf0008, 29, 29⟩
abbrev PWR_DOM_STATE_pending : Fld := ⟨0xf0008, 28, 28⟩
abbrev PWR_DOM_STATE_pend_state : Fld := ⟨0xf0008, 27, 26⟩
abbrev PWR_DOM_STATE_slack : Fld := ⟨0xf0008, 23, 0⟩
abbrev PWR_ON_MAP (k : Nat) : Nat := 0xf0010 + 4 * k
abbrev PWR_ON_MAP_on (k : Nat) : Fld := ⟨0xf0010 + 4 * k, 31, 0⟩
abbrev PWR_WAKE_CFG : Nat := 0xf0020
abbrev PWR_WAKE_CFG_evt : Fld := ⟨0xf0020, 31, 31⟩
abbrev PWR_WAKE_CFG_mg_addr : Fld := ⟨0xf0020, 30, 24⟩
abbrev PWR_WAKE_CFG_hostwake : Fld := ⟨0xf0020, 23, 20⟩
abbrev PWR_WAKE_CFG_sync_edge : Fld := ⟨0xf0020, 19, 19⟩
abbrev PWR_WAKE_CFG_en_pfw : Fld := ⟨0xf0020, 8, 8⟩
abbrev PWR_WAKE_CFG_en : Fld := ⟨0xf0020, 7, 0⟩
abbrev PWR_LAST_WAKE : Nat := 0xf0024
abbrev PWR_LAST_WAKE_count : Fld := ⟨0xf0024, 31, 16⟩
abbrev PWR_LAST_WAKE_source : Fld := ⟨0xf0024, 3, 0⟩
abbrev PWR_REFUSE : Nat := 0xf0028
abbrev PWR_REFUSE_refuser : Fld := ⟨0xf0028, 31, 28⟩
abbrev PWR_REFUSE_aborted : Fld := ⟨0xf0028, 27, 27⟩
abbrev PWR_REFUSE_dom : Fld := ⟨0xf0028, 6, 0⟩
abbrev PWR_REFUSE_CNT : Nat := 0xf002c
abbrev PWR_REFUSE_CNT_count : Fld := ⟨0xf002c, 31, 0⟩
abbrev PWR_STATUS : Nat := 0xf0030
abbrev PWR_STATUS_acct : Fld := ⟨0xf0030, 31, 31⟩
abbrev PWR_STATUS_recovery : Fld := ⟨0xf0030, 30, 30⟩
abbrev PWR_STATUS_ldo_lp : Fld := ⟨0xf0030, 29, 29⟩
abbrev PWR_VR_ADDR (k : Nat) : Nat := 0xf0040 + 4 * k
abbrev PWR_VR_ADDR_used (k : Nat) : Fld := ⟨0xf0040 + 4 * k, 31, 31⟩
abbrev PWR_VR_ADDR_pec (k : Nat) : Fld := ⟨0xf0040 + 4 * k, 30, 30⟩
abbrev PWR_VR_ADDR_addr (k : Nat) : Fld := ⟨0xf0040 + 4 * k, 6, 0⟩
abbrev PWR_VR_CFG : Nat := 0xf0060
abbrev PWR_VR_CFG_settle : Fld := ⟨0xf0060, 31, 16⟩
abbrev PWR_VR_CFG_to : Fld := ⟨0xf0060, 7, 0⟩
abbrev PWR_VR_STATUS : Nat := 0xf0064
abbrev PWR_VR_STATUS_on : Fld := ⟨0xf0064, 31, 24⟩
abbrev PWR_VR_STATUS_pg : Fld := ⟨0xf0064, 23, 16⟩
abbrev PWR_VR_STATUS_fault : Fld := ⟨0xf0064, 15, 8⟩
abbrev PWR_BOR : Nat := 0xf0068
abbrev PWR_BOR_lp : Fld := ⟨0xf0068, 1, 1⟩
abbrev PWR_BOR_bor : Fld := ⟨0xf0068, 0, 0⟩
abbrev PWR_THERM : Nat := 0xf006c
abbrev PWR_THERM_trip : Fld := ⟨0xf006c, 31, 16⟩
abbrev PWR_THERM_warn : Fld := ⟨0xf006c, 15, 0⟩
abbrev PWR_TEMP : Nat := 0xf0070
abbrev PWR_TEMP_temp : Fld := ⟨0xf0070, 15, 0⟩
abbrev PWR_FLAGS : Nat := 0xf0074
abbrev PWR_FLAGS_trip : Fld := ⟨0xf0074, 3, 3⟩
abbrev PWR_FLAGS_thermal : Fld := ⟨0xf0074, 2, 2⟩
abbrev PWR_FLAGS_vr_fault : Fld := ⟨0xf0074, 1, 1⟩
abbrev PWR_FLAGS_refused : Fld := ⟨0xf0074, 0, 0⟩
abbrev NVS_CFG : Nat := 0x100000
abbrev NVS_CFG_scrub_en : Fld := ⟨0x100000, 16, 16⟩
abbrev NVS_CFG_scrub_days : Fld := ⟨0x100000, 15, 8⟩
abbrev NVS_CFG_gather_ms : Fld := ⟨0x100000, 7, 0⟩
abbrev NVS_STATUS : Nat := 0x100004
abbrev NVS_STATUS_busy : Fld := ⟨0x100004, 31, 31⟩
abbrev NVS_STATUS_saving : Fld := ⟨0x100004, 30, 30⟩
abbrev NVS_STATUS_fw : Fld := ⟨0x100004, 29, 28⟩
abbrev NVS_STATUS_commit : Fld := ⟨0x100004, 15, 0⟩
abbrev NVS_KEY_SEL : Nat := 0x100008
abbrev NVS_KEY_SEL_key : Fld := ⟨0x100008, 15, 0⟩
abbrev NVS_KEY_STATE : Nat := 0x10000c
abbrev NVS_KEY_STATE_a_valid : Fld := ⟨0x10000c, 31, 31⟩
abbrev NVS_KEY_STATE_b_valid : Fld := ⟨0x10000c, 30, 30⟩
abbrev NVS_KEY_STATE_newest : Fld := ⟨0x10000c, 29, 29⟩
abbrev NVS_KEY_STATE_tie : Fld := ⟨0x10000c, 28, 28⟩
abbrev NVS_KEY_SEQ_A : Nat := 0x100010
abbrev NVS_KEY_SEQ_A_seq : Fld := ⟨0x100010, 31, 0⟩
abbrev NVS_KEY_SEQ_B : Nat := 0x100014
abbrev NVS_KEY_SEQ_B_seq : Fld := ⟨0x100014, 31, 0⟩
abbrev NVS_ONTIME_LO : Nat := 0x100018
abbrev NVS_ONTIME_LO_secs : Fld := ⟨0x100018, 31, 0⟩
abbrev NVS_ONTIME_HI : Nat := 0x10001c
abbrev NVS_ONTIME_HI_secs : Fld := ⟨0x10001c, 31, 0⟩
abbrev NVS_SCRUB : Nat := 0x100020
abbrev NVS_SCRUB_pos : Fld := ⟨0x100020, 16, 0⟩
abbrev NVS_REFRESH_CNT : Nat := 0x100024
abbrev NVS_REFRESH_CNT_count : Fld := ⟨0x100024, 31, 0⟩
abbrev NVS_FLAGS : Nat := 0x100028
abbrev NVS_FLAGS_write_fail : Fld := ⟨0x100028, 4, 4⟩
abbrev NVS_FLAGS_refresh : Fld := ⟨0x100028, 3, 3⟩
abbrev NVS_FLAGS_tie : Fld := ⟨0x100028, 2, 2⟩
abbrev NVS_FLAGS_rollback : Fld := ⟨0x100028, 1, 1⟩
abbrev NVS_FLAGS_replay : Fld := ⟨0x100028, 0, 0⟩
abbrev CAL_STATUS : Nat := 0x110000
abbrev CAL_STATUS_busy : Fld := ⟨0x110000, 31, 31⟩
abbrev CAL_STATUS_pending : Fld := ⟨0x110000, 30, 30⟩
abbrev CAL_STATUS_replan : Fld := ⟨0x110000, 29, 29⟩
abbrev CAL_STATUS_refin_ok : Fld := ⟨0x110000, 28, 28⟩
abbrev CAL_STATUS_log_busy : Fld := ⟨0x110000, 27, 27⟩
abbrev CAL_STATUS_pend_items : Fld := ⟨0x110000, 20, 16⟩
abbrev CAL_STATUS_failed : Fld := ⟨0x110000, 12, 8⟩
abbrev CAL_STATUS_items : Fld := ⟨0x110000, 4, 0⟩
abbrev CAL_REFIN : Nat := 0x110004
abbrev CAL_REFIN_mv10 : Fld := ⟨0x110004, 15, 0⟩
abbrev CAL_TEMP_CFG : Nat := 0x110008
abbrev CAL_TEMP_CFG_en : Fld := ⟨0x110008, 31, 31⟩
abbrev CAL_TEMP_CFG_items : Fld := ⟨0x110008, 28, 24⟩
abbrev CAL_TEMP_CFG_min_gap : Fld := ⟨0x110008, 23, 16⟩
abbrev CAL_TEMP_CFG_delta : Fld := ⟨0x110008, 15, 0⟩
abbrev CAL_TEMP_LAST : Nat := 0x11000c
abbrev CAL_TEMP_LAST_temp : Fld := ⟨0x11000c, 15, 0⟩
abbrev CAL_REPLAN_CFG : Nat := 0x110010
abbrev CAL_REPLAN_CFG_en : Fld := ⟨0x110010, 31, 31⟩
abbrev CAL_REPLAN_CFG_days : Fld := ⟨0x110010, 30, 24⟩
abbrev CAL_REPLAN_CFG_steps_max : Fld := ⟨0x110010, 23, 20⟩
abbrev CAL_REPLAN_CFG_retire_thr : Fld := ⟨0x110010, 19, 16⟩
abbrev CAL_REPLAN_CFG_slack_min : Fld := ⟨0x110010, 15, 0⟩
abbrev CAL_REPLAN_DUE : Nat := 0x110014
abbrev CAL_REPLAN_DUE_secs : Fld := ⟨0x110014, 31, 0⟩
abbrev CAL_CORE : Nat := 0x110018
abbrev CAL_CORE_mv : Fld := ⟨0x110018, 15, 0⟩
abbrev CAL_MON_SEL : Nat := 0x11001c
abbrev CAL_MON_SEL_mon : Fld := ⟨0x11001c, 5, 0⟩
abbrev CAL_MON : Nat := 0x110020
abbrev CAL_MON_min : Fld := ⟨0x110020, 31, 16⟩
abbrev CAL_MON_slack : Fld := ⟨0x110020, 15, 0⟩
abbrev CAL_LOG_SEL : Nat := 0x110024
abbrev CAL_LOG_SEL_n : Fld := ⟨0x110024, 31, 0⟩
abbrev CAL_LOG_NEXT : Nat := 0x110028
abbrev CAL_LOG_NEXT_n : Fld := ⟨0x110028, 31, 0⟩
abbrev CAL_LOG_ACK : Nat := 0x11002c
abbrev CAL_LOG_ACK_n : Fld := ⟨0x11002c, 31, 0⟩
abbrev CAL_LOG_OVF : Nat := 0x110030
abbrev CAL_LOG_OVF_count : Fld := ⟨0x110030, 31, 0⟩
abbrev CAL_SVC_RST : Nat := 0x110034
abbrev CAL_SVC_RST_count : Fld := ⟨0x110034, 31, 0⟩
abbrev CAL_FLAGS : Nat := 0x110038
abbrev CAL_FLAGS_svc_restart : Fld := ⟨0x110038, 5, 5⟩
abbrev CAL_FLAGS_margin_exhausted : Fld := ⟨0x110038, 4, 4⟩
abbrev CAL_FLAGS_retired : Fld := ⟨0x110038, 3, 3⟩
abbrev CAL_FLAGS_item_failed : Fld := ⟨0x110038, 2, 2⟩
abbrev CAL_FLAGS_refin_bad : Fld := ⟨0x110038, 1, 1⟩
abbrev CAL_FLAGS_temp_trigger : Fld := ⟨0x110038, 0, 0⟩
abbrev CAL_LOG_DATA (k : Nat) : Nat := 0x110040 + 4 * k
abbrev CAL_LOG_DATA_data (k : Nat) : Fld := ⟨0x110040 + 4 * k, 31, 0⟩
abbrev SEC_FUSE : Nat := 0x120000
abbrev SEC_FUSE_fw_svn : Fld := ⟨0x120000, 15, 8⟩
abbrev SEC_FUSE_keys : Fld := ⟨0x120000, 6, 4⟩
abbrev SEC_FUSE_img_policy : Fld := ⟨0x120000, 1, 0⟩
abbrev SEC_UID_LO : Nat := 0x120004
abbrev SEC_UID_LO_uid : Fld := ⟨0x120004, 31, 0⟩
abbrev SEC_UID_HI : Nat := 0x120008
abbrev SEC_UID_HI_uid : Fld := ⟨0x120008, 31, 0⟩
abbrev SEC_ROLE : Nat := 0x12000c
abbrev SEC_ROLE_safety_state : Fld := ⟨0x12000c, 9, 8⟩
abbrev SEC_ROLE_pin_en : Fld := ⟨0x12000c, 7, 7⟩
abbrev SEC_ROLE_safety_en : Fld := ⟨0x12000c, 6, 6⟩
abbrev SEC_ROLE_safety : Fld := ⟨0x12000c, 5, 4⟩
abbrev SEC_ROLE_owner : Fld := ⟨0x12000c, 1, 0⟩
abbrev SEC_IMG_FLOOR : Nat := 0x120010
abbrev SEC_IMG_FLOOR_svn : Fld := ⟨0x120010, 31, 0⟩
abbrev SEC_IMG_LAST : Nat := 0x120014
abbrev SEC_IMG_LAST_result : Fld := ⟨0x120014, 31, 30⟩
abbrev SEC_IMG_LAST_reason : Fld := ⟨0x120014, 29, 26⟩
abbrev SEC_IMG_LAST_tag : Fld := ⟨0x120014, 15, 0⟩
abbrev SEC_FLAGS : Nat := 0x120018
abbrev SEC_FLAGS_pin_fail : Fld := ⟨0x120018, 2, 2⟩
abbrev SEC_FLAGS_img_denied : Fld := ⟨0x120018, 1, 1⟩
abbrev SEC_FLAGS_refused : Fld := ⟨0x120018, 0, 0⟩
abbrev SEC_PIN (k : Nat) : Nat := 0x120040 + 4 * k
abbrev SEC_PIN_pin (k : Nat) : Fld := ⟨0x120040 + 4 * k, 31, 0⟩
abbrev GLB_ID : Nat := 0x0
abbrev GLB_ID_part : Fld := ⟨0x0, 31, 16⟩
abbrev GLB_ID_family : Fld := ⟨0x0, 15, 8⟩
abbrev GLB_ID_map : Fld := ⟨0x0, 7, 0⟩
abbrev GLB_REV : Nat := 0x4
abbrev GLB_REV_major : Fld := ⟨0x4, 15, 8⟩
abbrev GLB_REV_minor : Fld := ⟨0x4, 7, 0⟩
abbrev GLB_CAP : Nat := 0x8
abbrev GLB_CAP_clusters : Fld := ⟨0x8, 31, 26⟩
abbrev GLB_CAP_drivers : Fld := ⟨0x8, 25, 19⟩
abbrev GLB_CAP_msp : Fld := ⟨0x8, 18, 15⟩
abbrev GLB_CAP_cx : Fld := ⟨0x8, 14, 12⟩
abbrev GLB_CAP_hp : Fld := ⟨0x8, 11, 9⟩
abbrev GLB_PART_EN : Nat := 0xc
abbrev GLB_PART_EN_en : Fld := ⟨0xc, 3, 0⟩
abbrev GLB_LOCK : Nat := 0x10
abbrev GLB_LOCK_lock : Fld := ⟨0x10, 0, 0⟩
abbrev GLB_WHOAMI : Nat := 0x14
abbrev GLB_WHOAMI_locked : Fld := ⟨0x14, 7, 7⟩
abbrev GLB_WHOAMI_enabled : Fld := ⟨0x14, 6, 6⟩
abbrev GLB_WHOAMI_safety : Fld := ⟨0x14, 5, 5⟩
abbrev GLB_WHOAMI_owner : Fld := ⟨0x14, 4, 4⟩
abbrev GLB_WHOAMI_part : Fld := ⟨0x14, 1, 0⟩
abbrev GLB_STATUS : Nat := 0x18
abbrev GLB_STATUS_ready : Fld := ⟨0x18, 31, 31⟩
abbrev GLB_STATUS_svc : Fld := ⟨0x18, 30, 30⟩
abbrev GLB_STATUS_svc_restart : Fld := ⟨0x18, 29, 29⟩
abbrev GLB_FLAG_SUM : Nat := 0x1c
abbrev GLB_FLAG_SUM_blocks : Fld := ⟨0x1c, 18, 0⟩
abbrev GLB_FLAGS : Nat := 0x20
abbrev GLB_FLAGS_refused : Fld := ⟨0x20, 5, 5⟩
abbrev GLB_FLAGS_range : Fld := ⟨0x20, 4, 4⟩
abbrev GLB_FLAGS_rsvd : Fld := ⟨0x20, 3, 3⟩
abbrev GLB_FLAGS_unmapped : Fld := ⟨0x20, 2, 2⟩
abbrev GLB_FLAGS_size : Fld := ⟨0x20, 1, 1⟩
abbrev GLB_FLAGS_deny : Fld := ⟨0x20, 0, 0⟩
abbrev GLB_DENY_CNT : Nat := 0x24
abbrev GLB_DENY_CNT_count : Fld := ⟨0x24, 31, 0⟩
abbrev GLB_DENY_HEAD : Nat := 0x28
abbrev GLB_DENY_HEAD_clr : Fld := ⟨0x28, 31, 31⟩
abbrev GLB_DENY_HEAD_wrapped : Fld := ⟨0x28, 3, 3⟩
abbrev GLB_DENY_HEAD_next : Fld := ⟨0x28, 2, 0⟩
abbrev GLB_DENY_LOG (k : Nat) : Nat := 0x40 + 4 * k
abbrev GLB_DENY_LOG_valid (k : Nat) : Fld := ⟨0x40 + 4 * k, 31, 31⟩
abbrev GLB_DENY_LOG_part (k : Nat) : Fld := ⟨0x40 + 4 * k, 30, 29⟩
abbrev GLB_DENY_LOG_cause (k : Nat) : Fld := ⟨0x40 + 4 * k, 28, 26⟩
abbrev GLB_DENY_LOG_offset (k : Nat) : Fld := ⟨0x40 + 4 * k, 20, 2⟩

end Reg

end Sys2Proof.Machine
end

