-- ==== Sys2Proof/Machine/Sparse.lean ====
section
/-! DEFINITION. Collections of values by number in one canonical form: numbers rising, no entry equal to the value an
unlisted number reads as. Registers, memories and contexts are held so, and equal collections are equal lists. -/

namespace Sys2Proof.Machine

/-- The value at `n`; `d` is what an unlisted number reads as. -/
def Sparse.get {α : Type} (d : α) : List (Nat × α) → Nat → α
  | [], _ => d
  | e :: m, n => if e.1 = n then e.2 else Sparse.get d m n

/-- No entry for `n`. -/
def Sparse.erase {α : Type} (m : List (Nat × α)) (n : Nat) : List (Nat × α) :=
  m.filter (fun e => e.1 != n)

/-- An entry put before the first larger number. -/
def Sparse.insert {α : Type} : List (Nat × α) → Nat → α → List (Nat × α)
  | [], n, x => [(n, x)]
  | e :: m, n, x => if n < e.1 then (n, x) :: e :: m else e :: Sparse.insert m n x

/-- The collection with `x` at `n`; writing what an unlisted `n` reads as removes the entry. -/
def Sparse.set {α : Type} [DecidableEq α] (d : α) (m : List (Nat × α)) (n : Nat) (x : α) : List (Nat × α) :=
  if x = d then Sparse.erase m n else Sparse.insert (Sparse.erase m n) n x

/-- The value at `n` changed by `f`. -/
def Sparse.modify {α : Type} [DecidableEq α] (d : α) (m : List (Nat × α)) (n : Nat) (f : α → α) : List (Nat × α) :=
  Sparse.set d m n (f (Sparse.get d m n))

/-- The canonical form, for a default that may depend on the number. -/
abbrev Sparse.wf {α : Type} (d : Nat → α) (m : List (Nat × α)) : Prop :=
  m.Pairwise (fun a b => a.1 < b.1) ∧ ∀ e ∈ m, e.2 ≠ d e.1

/-- `n` values from `a`, in rising order of number. -/
def Sparse.read {α : Type} (d : α) (m : List (Nat × α)) (a n : Nat) : List α :=
  (List.range n).map (fun i => Sparse.get d m (a + i))

/-- Values written from `a` on. -/
def Sparse.write {α : Type} [DecidableEq α] (d : α) (m : List (Nat × α)) (a : Nat) : List α → List (Nat × α)
  | [] => m
  | x :: xs => Sparse.write d (Sparse.set d m a x) (a + 1) xs

end Sys2Proof.Machine
end

