-- ==== Sys2Proof/Machine/State.lean ====
section
/-! DEFINITION. The state of the part as plain data, unit by unit, and its value at reset.
BAR0 registers live in `regs` (see Machine/Regs.lean: an unlisted register reads as its reset value); the structures below
hold what the rules give the part beside its registers. Collections are lists of (number, value) pairs in the canonical
form of Machine/Sparse.lean: numbers rising, no entry equal to the default. -/

namespace Sys2Proof.Machine

open Sys2Proof

/-- Why the machine stops with a fault. -/
inductive Fault where
  /-- Raised by no meaning of this model: the part reports every fault of its own in its state. Safe. -/
  | none
  deriving DecidableEq, Repr

/-- Why a command has no meaning. -/
inductive Refusal where
  /-- Raised by an arm of Dispatch.lean whose meaning is not written. Safe. -/
  | notModelled (mnemonic : String)
  deriving DecidableEq, Repr

/-- A collection of values by number, in canonical form. -/
abbrev Sparse (α : Type) := List (Nat × α)

/-- The bytes 20 to 63 of a descriptor (R325), by opcode; host data read with it where the opcode reads any. -/
inductive Body where
  | nop
  | commit (len : Nat) (block : Option (List Byte))
  | flip (f : FlipArgs)
  /-- A closed chain of FLIPs (R147): its members, first to last. -/
  | flips (l : List (Hdr × FlipArgs))
  | regionUpdate (r : RegionArgs)
  | fenceSignal (fence : Nat) (v : Word)
  | fenceWait (timeout : Ns)
  | milestone (act b21 : Nat) (args : BitVec 64)
  | tableLoad (code len : Nat) (data : Option (List Byte))
  | readback (len src dst : Nat)
  | engineJob (j : JobArgs)
  | modeSwitch (target : Nat)
  | nvmWrite (key : Nat) (hot : Bool) (len addr : Nat) (data : Option (List Byte))
  | nvmRead (key copy len dst : Nat)
  | powerHint (kind t : Nat) (mask : BitVec 88)
  | harvest (kind : Nat) (a : HarvestArgs)
  | streamBind (b : BindArgs)
  | calRun (mask : Word)
  | unknown (op : Nat)
  deriving DecidableEq, Repr

/-- A dispatched descriptor: its header, the global number of its submission queue (R315), and its place in dispatch
order, which R13 and R57 use. -/
structure Req where
  h : Hdr
  g : Nat
  ord : Nat
  deriving DecidableEq, Repr

/-- What the part puts on its links, pins and hosts' ports, for `State.sent`. -/
inductive Out where
  /-- An MSI-X message of a partition's vector (R343). -/
  | msix (p vec : Nat)
  /-- Data written to or returned to a host: partition, address, bytes (R329, R417). -/
  | hostWrite (p addr : Nat) (data : List Byte)
  /-- A read of BAR0, BAR4, FST_WIN or port B returned this value; `busy` is BUSY of R371. -/
  | readData (p : Nat) (data : List Byte) (busy : Bool)
  /-- A configuration request answered with Configuration Request Retry Status (`retry`) or served (R489). -/
  | config (n : Nat) (retry : Bool)
  /-- CREDIT on a port's reverse lane (R113): port, stream, init bit, CL. -/
  | credit (port stream : Nat) (init : Bool) (cl : BitVec 24)
  /-- STATUS on a port's reverse lane (R119): port, arg, TB. -/
  | mspStatus (port arg : Nat) (tb : BitVec 64)
  /-- A line burst to a driver (R274): driver, line, flags, frame, latch sequence, 720 drive levels. -/
  | burst (drv line flags frame seq : Nat) (levels : List Nat)
  /-- A LATCH for a driver (R278): driver, latch sequence, fine delay, time of the id symbol's end at the pins in ps. -/
  | latch (drv seq fine at_ : Nat)
  /-- A control packet to a driver (R280): driver, type, apply byte, control sequence, body. -/
  | control (drv type apply cseq : Nat) (body : List Byte)
  /-- A K28.0 on both lanes of a driver (R288). -/
  | skip (drv : Nat)
  /-- The burst in progress to a driver is abandoned (R289). -/
  | abandon (drv : Nat)
  /-- A transmitter's electrical idle: entry or exit with a training burst of so many symbols (R79, R80). -/
  | idle (lane : Nat) (enter : Bool) (burst : Nat)
  /-- 10-bit groups on a transmit lane's pins, bit a lowest, polarity applied (R68, R78). -/
  | symbols (lane : Nat) (groups : List Nat)
  /-- So many blocks of nothing but idle pairs on a reverse lane, from this sequence byte on (R92). -/
  | idleBlocks (lane first n : Nat)
  /-- A gate output edge (R299): output name, index, level, TB time in units of 1/256 ns. -/
  | gate (name : String) (k : Nat) (level : Bool) (at_ : Int)
  /-- A SYNC_OUT pulse (R54): TB of its leading edge, width in ns, active high. -/
  | syncOut (at_ width : Ns) (high : Bool)
  /-- A pin driven to a level. -/
  | pin (name : String) (k : Nat) (level : Bool)
  /-- A PMBus command (R394): rail, its address, whether PEC is used, command code, data. -/
  | pmbus (rail addr : Nat) (pec : Bool) (cmd data : Nat)
  /-- The outputs of a power domain are driven, or high-impedance in OFF (R404). -/
  | outputs (d : Nat) (driven : Bool)
  /-- An SPDM or DOE response on a port (R441): port, request code, bytes. -/
  | spdm (n code : Nat) (data : List Byte)
  /-- The TAP's output bits (R472). -/
  | tap (bits : List Bool)
  deriving DecidableEq, Repr

/-- A descriptor armed in a milestone context (R55). -/
structure Armed where
  req : Req
  body : Body
  launch : Ns
  deriving DecidableEq, Repr

/-- One SHUTTER_IN input (R64). -/
structure Shutter where
  lastEdge : Option Ns := none
  /-- The expected instant of the last period judged (R64). -/
  judged : Option Int := none
  inRun : Nat := 0
  outRun : Nat := 0
  deriving DecidableEq, Repr

/-- Timebase, DPLL and milestones (R45 to R66), beside the TBS registers. -/
structure Tbs where
  /-- DPLL frequency term, 0.01 ppb, and its last 64 values (R49). -/
  freq : Int := 0
  freqHist : List Int := []
  /-- The last valid edge, the nominal periods ended since it, and that the next accepted edge is valid (R48). -/
  lastEdge : Option Ns := none
  periods : Nat := 0
  fresh : Bool := true
  /-- Consecutive valid edges, those within lock_thr, and missed periods (R49). -/
  validRun : Nat := 0
  lockRun : Nat := 0
  /-- First edge of the run toward lock, and the nominal periods since (R49). -/
  runAt : Ns := 0
  runPer : Nat := 0
  missRun : Nat := 0
  /-- Phase correction being absorbed (R51), ns, and the TB at which it ends. -/
  slewLeft : Int := 0
  slewEnd : Ns := 0
  /-- The TB up to which the correction being absorbed has moved the DPLL's reference (R50). -/
  slewAt : Ns := 0
  /-- The last reference instant that the DPLL derived from a valid edge outside HOLDOVER (R50, R161). -/
  refAt : Option Ns := none
  /-- SHUTTER_IN inputs, and inputs now in lock that were reported (R64). -/
  shut : Sparse Shutter := []
  armed : List Armed := []
  /-- Instants of SYNC_OUT pulses due (R54, sel 2). -/
  outDue : List Ns := []
  /-- TB of the last whole second pulsed, or since which whole seconds count (R54, sel 3). -/
  outAt : Ns := 0
  /-- TB has stepped forward in this command: launch times it passed fire (R57). -/
  stepped : Bool := false
  deriving DecidableEq, Repr

/-- A serial lane (R67 to R85). Equaliser values in units of 1/64 code: CTLE, then taps 1 to 5. -/
structure Lane where
  /-- 0 IDLE, 1 HUNT, 2 CHECK, 3 SYNC (R70). -/
  st : Nat := 0
  commas : Nat := 0
  bc : Nat := 0
  good : Nat := 0
  /-- Running disparity of the received stream, true for positive (R69). -/
  rdPos : Bool := false
  /-- Consecutive K28.3 symbols (R79). -/
  k283 : Nat := 0
  eq : List Int := []
  /-- The next HUNT starts from the preset (R75). -/
  fresh : Bool := true
  code : Nat := 0
  disp : Nat := 0
  lock : Nat := 0
  eix : Nat := 0
  /-- Errors in the running 1 ms window; taps, and the CTLE, seen off their limits in it (R85). -/
  winErr : Nat := 0
  tapOff : List Nat := []
  ctleOff : Bool := false
  /-- TB of the last LANE_DEGRADED of reasons 1 to 3. -/
  degPost : List (Option Ns) := [none, none, none]
  /-- Time of the signal detect that SYNC has not followed yet (R81). -/
  sdAt : Option Ns := none
  /-- The last ten bits received, and the alignment in force, from 1 to 10 bits into them and the next ten (R70). -/
  raw : Option Nat := none
  align : Nat := 10
  /-- The CDR's frequency estimate, ppm from REFCLK, and its phase, 1/64 UI (R71). -/
  cdrFreq : Int := 0
  cdrPhase : Nat := 0
  /-- Transmitter: electrically idle from txIdleSince on; a held exit request, with the symbols of its training burst; preset and amp
  in force (R78 to R82). -/
  txIdle : Bool := true
  txHeldExit : Option Nat := none
  txIdleSince : Ns := 0
  txPreset : Nat := 1
  txAmp : Nat := 15
  /-- Running disparity of what it sends, true for positive (R68), and the end of its last training burst (R80). -/
  txRd : Bool := false
  txSince : Ns := 0
  /-- A reverse lane's sequence byte of the first block after that burst, and its payload symbols sent since (R92). -/
  txSeq : Nat := 0
  txPay : Nat := 0
  /-- Effective tap limits set by a re-plan (R77, R430); none: those of LNK_RX_CFG. -/
  effTap1 : Option Nat := none
  effTapn : Option Nat := none
  /-- Largest |tap 1| and |taps 2 to 5| and tap_at_lim seen since the last re-plan (R430). -/
  m1 : Nat := 0
  mn : Nat := 0
  atLim : Bool := false
  /-- Calibrated termination or swing code in force and waiting for its moment (R423). -/
  calCode : Nat := 0
  calNext : Option Nat := none
  deriving DecidableEq, Repr

/-- Block lock of one forward lane of a port (R95). -/
structure BlkLane where
  /-- 0 HUNT, 1 CHECK, 2 LOCK. -/
  st : Nat := 0
  expect : Nat := 0
  run : Nat := 0
  /-- Validity of the last headers, newest first, at most 64. -/
  hist : List Bool := []
  seq : Nat := 0
  arrival : Nat := 0
  /-- Place of the next symbol in its block (0 and 1 the header); the symbol before it was K28.1, and when that arrived. -/
  pos : Nat := 0
  hdrK : Bool := false
  hdrAt : Nat := 0
  /-- Payload symbols of the block so far, newest first, and whole payloads not yet gathered into rows, oldest first, each
  with its sequence byte (R93). -/
  pay : List Sym := []
  rows : List (Nat × List Sym) := []
  deriving DecidableEq, Repr

/-- A Mermel Stream Port (R90 to R120). -/
structure Port where
  /-- 0 OFF, 1 TRAIN, 2 DESKEW, 3 UP, 4 SLEEP (R97). -/
  st : Nat := 0
  /-- Width and rate in force since the last enable (R90), coded as in MSP_PORT_CFG. -/
  width : Nat := 3
  rate : Nat := 3
  /-- Active set: width code and first port lane (R99); it has changed and the port has not been UP since (R98, cause 2). -/
  actW : Nat := 0
  actFirst : Nat := 0
  wchg : Bool := false
  blk : Sparse BlkLane := []
  skew : Nat := 0
  deskewFail : Nat := 0
  /-- Blocks until the next deskew comparison (R96); a failed compare waits. -/
  waiting : Bool := false
  trainSince : Ns := 0
  wokeAt : Option Ns := none
  /-- Lanes whose electrical idle was recognised in UP, first to last, and when the first was (R114), in symbol times. -/
  idleLanes : List Nat := []
  idleAt : Nat := 0
  down : Nat := 0
  /-- The packet whose SOP has been received, its symbols newest first (R100). -/
  packet : Option (List Sym) := none
  /-- Reverse lane: the next packet's seq (R101), the arg of the last STATUS, and when the last periodic one was due (R119). -/
  revSeq : Nat := 0
  statusArg : Option Nat := none
  statusAt : Ns := 0
  deriving DecidableEq, Repr

/-- A stream context (R105 to R113). -/
structure Stream where
  bound : Bool := false
  b : BindArgs := ⟨0, 0, 0, 0, 0, 0, 0, 0, 0, false⟩
  rebind : Option BindArgs := none
  cl : BitVec 24 := 0
  cc : BitVec 24 := 0
  /-- Credits accrued and not yet sent, and the TB of the first of them (R113). -/
  accrued : Nat := 0
  accSince : Ns := 0
  /-- Credits of data still in the ingress buffer. -/
  buffered : Nat := 0
  /-- Packets in the ingress buffer that wait for a slot of the layer (R126), each with a gap of seq before it (R108). -/
  queue : List (Packet × Bool) := []
  grantDue : Bool := false
  /-- Held by STREAM_GATE (R59), by the raster (R22, R117), by its layer's slots (R126). -/
  gated : Bool := false
  held : Bool := false
  slotHeld : Bool := false
  inFrame : Bool := false
  frameNo : Nat := 0
  bad : Bool := false
  /-- The open frame is not the one its layer's slot holds (R125). -/
  lost : Bool := false
  line : Nat := 0
  x : Nat := 0
  seq : Nat := 0
  lastFrame : Nat := 0
  lastDone : Bool := false
  cDone : Nat := 0
  cInc : Nat := 0
  cDrop : Nat := 0
  cViol : Nat := 0
  cCrc : Nat := 0
  /-- Raster frame of the last STREAM_CREDIT event (R112). -/
  violFrame : Option Nat := none
  deriving DecidableEq, Repr

/-- A layer buffer slot (R126): 0 free, 1 writing, 2 ready, 3 latched, 4 shown. -/
structure Slot where
  st : Nat := 0
  frame : Nat := 0
  /-- Stream contexts that have ended this frame complete (R125). -/
  doneBy : List Nat := []
  age : Nat := 0
  deriving DecidableEq, Repr

/-- A colour table (R130, R131, R137). -/
structure ColourTab where
  m : List Int
  pre : List Int
  post : List Int
  lutFirst : Bool
  lut : List Nat
  deriving DecidableEq, Repr

/-- A layer (R122 to R127). -/
structure Layer where
  en : Bool := false
  x : Int := 0
  y : Int := 0
  galpha : Nat := 0
  slots : Sparse Slot := []
  shown : Nat := 0
  expCrc : Word := 0
  cRepeat : Nat := 0
  cDrop : Nat := 0
  ctab : Option ColourTab := none
  coeff : Option (List Int) := none
  /-- Changed at this boundary: damages its tiles (R204). -/
  changed : Bool := false
  deriving DecidableEq, Repr

/-- A FLIP waiting in the front end, or a chain of them (R142, R147). -/
structure FlipGroup where
  members : List (Req × FlipArgs)
  chain : Bool
  /-- The earliest latch point is the first at or after this TB. -/
  arrived : Ns
  /-- Latch points missed, and per member those missed for its own fence (R145). -/
  slips : Nat := 0
  fenceSlips : List Nat := []
  /-- Latched, and the layers whose members a later FLIP superseded at that latch point (R146). -/
  latched : Bool := false
  dead : List Nat := []
  deriving DecidableEq, Repr

/-- A line of the line-store stream in the ingress buffer (R118): source frame, line, samples received from its start, credits. -/
structure SrcLine where
  frame : Nat
  line : Nat
  got : Nat
  credits : Nat
  deriving DecidableEq, Repr

/-- Layers and composition (R122 to R155). -/
structure Lyr where
  layers : Sparse Layer := []
  flips : List FlipGroup := []
  /-- Open chains by (partition, local SQ) (R147). -/
  open_ : List (Nat × Nat × List (Req × FlipArgs)) := []
  postLut : Option (List Nat) := none
  /-- The line-store stream of SHORTCUT (R118): its format, the bytes of the lines in the ingress buffer, by line and sample, and
  those lines, oldest first. -/
  lineFmt : Option Nat := none
  lineBuf : Sparse Byte := []
  lineIn : List SrcLine := []
  /-- The source frame whose lines are taken, and the raster frame that takes them. -/
  lineFrame : Option Nat := none
  lineFor : Option Nat := none
  /-- The SAFETY heartbeat's expiry time while it runs (R152). -/
  hbAt : Option Ns := none
  /-- The safe image is due from the next frame boundary (R151, R152), with its reason. -/
  safeDue : Option Nat := none
  /-- A FLIP has selected the frame that leaves the safe image (R154), and that frame has passed its check in a composed frame. -/
  leaveSafe : Bool := false
  safePassed : Bool := false
  crcPosted : Bool := false
  /-- An LYR register was written by BAR0, or a table or register took effect: damages every tile (R204). -/
  damageAll : Bool := false
  /-- Layers blended in the last slot frame (R204, SHUTTER). -/
  lastView : Nat := 0
  deriving DecidableEq, Repr

/-- One register entry of a COMMIT block or mode book (R28): BAR0 offset, index, value. -/
structure Entry where
  off : Nat
  idx : Nat
  val : Word
  deriving DecidableEq, Repr

/-- A COMMIT waiting for its boundary (R166, R167). -/
structure Commit where
  id : Nat
  req : Req
  entries : List Entry
  arrived : Ns
  /-- Time at which both halves held the block. -/
  stagedAt : Option Ns := none
  late : Bool := false
  latched : Bool := false
  deriving DecidableEq, Repr

/-- A TABLE_LOAD waiting to be latched (R493) or for its own moment (R192, R283). -/
structure Table where
  id : Nat
  req : Req
  code : Nat
  data : List Byte
  readyAt : Option Ns := none
  late : Bool := false
  latched : Bool := false
  deriving DecidableEq, Repr

/-- A bridge in progress (R164): the stretch lines of the bridge frames still to run, the first new frame's start in
units of 1/256 ns (none: it follows them, free-running), and whether the lock was lost. -/
structure Bridge where
  left : List Nat
  start : Option Nat
  lost : Bool
  deriving DecidableEq, Repr

/-- The raster (R156 to R176) beside the SCN registers. Times in units of 1/256 ns of TB. -/
structure Scn where
  /-- Start and planned end of the frame in progress; the end is fixed by a bridge. -/
  frameAt : Nat := 0
  endAt : Nat := 0
  fixedEnd : Bool := false
  /-- The line in progress, counted over programmed and stretch lines; its start and the next line's start; it is the
  frame's last. -/
  idx : Nat := 0
  lineAt : Nat := 0
  nextAt : Nat := 0
  last : Bool := false
  /-- Programmed lines, least stretch lines and line time of this frame, and its latch line. -/
  total : Nat := 8712
  stretch : Nat := 0
  lt : Nat := 0
  latchLn : Nat := 0
  bridge : Option Bridge := none
  /-- Frame 0 waits for this start; it is at a target instant (R160). -/
  starting : Option Nat := none
  startLocked : Bool := false
  stopping : Bool := false
  commits : List Commit := []
  tables : List Table := []
  /-- Serial number given to COMMITs and TABLE_LOADs, and to dispatched descriptors. -/
  serial : Nat := 0
  /-- Clusters that posted UNDERRUN in this frame (R171). -/
  under : List Nat := []
  /-- Time at which the first line starts whose data the scan-out readers do not hold (R173); line times mod 256 (R288). -/
  needAt : Nat := 0
  skips : Nat := 0
  /-- SHUTTER slot of the frame. -/
  slot : Nat := 0
  /-- SCN_PAT_CFG, C0 and C1 in force since the last boundary (R175). -/
  pat : List Nat := []
  deriving DecidableEq, Repr

/-- An active mode book (R27, R28): base entries, and by mode the limit mode and the overlay entries. -/
structure Book where
  base : List Entry
  overlays : Sparse (Nat × List Entry)
  deriving DecidableEq, Repr

/-- A mode switch pending or committed (R35); `req` is none for a switch of the part's own. -/
structure Switch where
  req : Option Req
  target : Nat
  arrived : Ns
  deriving DecidableEq, Repr

/-- The mode unit (R23 to R44) beside the MOD registers. -/
structure Mod where
  book : Option Book := none
  pend : Option Switch := none
  comm : Option Switch := none
  /-- The committed switch still has its bake frame to run. -/
  bakeDue : Bool := false
  /-- R37: leave CELLAR or LAYBY at the next boundary. -/
  autoExit : Bool := false
  /-- SHUTTER's limit mode in force (R23, R30). -/
  limit : Nat := 2
  /-- MOD_CTRL.nvm_default_load was 1 at start-up, and the defaults have not been loaded yet (R26). -/
  defaultsDue : Bool := false
  /-- In a bake frame above 120 Hz, the layers and registers that the last composed frame was composed from (R22). -/
  bakeShown : Option (Lyr × List (Nat × Word)) := none
  deriving DecidableEq, Repr

/-- The vintage tables of R191: S, A, E, D, M. -/
structure VintTabs where
  s : List Nat
  a : List Nat
  e : List Nat
  d : List Int
  m : List Nat
  deriving DecidableEq, Repr

/-- Compensation (R177 to R197) beside the CMP registers and the maps in the frame store. -/
structure Cmp where
  tabs : Option VintTabs := none
  /-- The TABLE_LOAD whose build runs (R192). -/
  build : Option Req := none
  buildDone : Bool := false
  /-- Data read by loads whose build has not taken effect: demura map, vintage tables. -/
  newSrc : Bool := false
  newTabs : Bool := false
  /-- Frame of each tile row's last sweep (R187). -/
  lastQ : Sparse Nat := []
  /-- Row swept in this frame (R186), and the temporal dither's phase (R196). -/
  swept : Bool := false
  phase : Nat := 0
  /-- The phase of the last bake frame. -/
  bakePhase : Nat := 0
  deriving DecidableEq, Repr

/-- One overdrive rate set (R199): nframes and the table words. -/
structure RateSet where
  nf : Nat := 0
  w : List Nat := []
  deriving DecidableEq, Repr

/-- A tile context (R203, R189, R9). -/
structure Tile where
  wf : Nat := 0
  bandL : Nat := 0
  bandC : Nat := 0
  rsL : Nat := 0
  nL : Nat := 0
  histValid : Bool := false
  damage : Bool := false
  ru : Option Nat := none
  temp : Int := 0
  /-- Vintage summaries by colour. -/
  sums : List Nat := []
  /-- Sum, count and maximum of the drive levels by colour in the frame (statistics of R9), and those of the last frame. -/
  acc : List Nat := []
  stats : List Nat := []
  /-- Some subpixel took the table branch in this frame (R205). -/
  moved : Bool := false
  /-- Lines of the tile on which a subpixel took the table branch in this frame, with the 8-bit targets of the line (R42). -/
  tgt : List (Nat × List Nat) := []
  /-- Waveform frame driven in this frame; hist_valid was 0 when this frame began (R206); damage of the last frame. -/
  k : Nat := 1
  seed : Bool := false
  damageLast : Bool := false
  /-- Dithered targets of the tile under a patch, by stored line: 90 drive levels each, for the baked frame (R9, R214). -/
  bake : List (Nat × List Nat) := []
  deriving DecidableEq, Repr

/-- A running REGION_UPDATE (R211 to R216). -/
structure Region where
  id : Nat
  req : Req
  a : RegionArgs
  arrived : Ns
  /-- Frame number and TB of its effect, once in effect. -/
  eff : Option (Nat × Ns) := none
  late : Bool := false
  latched : Bool := false
  /-- Tiles not yet settled or passed; some tile passed to a newer update. -/
  left : List Nat := []
  passed : Bool := false
  deriving DecidableEq, Repr

/-- Overdrive (R198 to R217) beside the ODV registers. -/
structure Odv where
  sets : Sparse RateSet := []
  ntcTab : Option (List Int) := none
  tiles : Sparse Tile := []
  regions : List Region := []
  histInval : Bool := false
  /-- A temperature field has been computed since reset (R209); the field of the last SOB, by tile (R207). -/
  fieldDone : Bool := false
  field : List Int := []
  /-- Delivered levels of the tile row in progress, by active line: 46,080 each (R202, R357). -/
  hist : List (Nat × List Nat) := []
  deriving DecidableEq, Repr

/-- An open loop level (R250). -/
structure LoopLv where
  start : Nat
  stop : Nat
  left : Nat
  deriving DecidableEq, Repr

/-- The line slot in progress (R224, R262): active, active line carried, programmed line, frame of the line carried,
TB at its start. -/
structure LineSlotInfo where
  active : Bool := false
  line : Nat := 0
  prog : Nat := 0
  frame : Nat := 0
  tb : Ns := 0
  deriving DecidableEq, Repr

/-- A pixel engine or a spare (R244), numbered 0 to 511, and 512 + c for the spare of cluster c. -/
structure Eng where
  /-- 0 no job, 1 running, 2 asleep in WAITL, 3 halted by HALT, 4 stopped by the watchdog, 5 halted by a fault while the
  watchdog is off. -/
  st : Nat := 0
  s : Sparse Word := []
  v : Sparse (List Half) := []
  a : Sparse (List (BitVec 40)) := []
  p : Sparse Half := []
  pc : BitVec 12 := 0
  /-- Open loop levels, innermost first. -/
  loops : List LoopLv := []
  q : List Half := []
  msflag : Half := 0
  code : List Word := []
  mem : Sparse Byte := []
  /-- The slot returned by the last WAITL. -/
  slot : LineSlotInfo := {}
  /-- Line slots begun in service (R235), vectors taken and given in the slot in progress (R227). -/
  slots : BitVec 32 := 0
  gets : Nat := 0
  puts : List (List Half) := []
  /-- In service when the slot in progress began; a slot began while it ran (R262); consecutive missed slots (R236). -/
  counted : Bool := false
  overrun : Bool := false
  misses : Nat := 0
  /-- CSR_ESTAT (R267): from entry until the first WAITL return; from a spare's resume until the next. -/
  started : Bool := false
  resumed : Bool := false
  /-- Destination of the WAITL it sleeps in; a spare without a checkpoint starts at entry. -/
  waitRd : BitVec 4 := 0
  atEntry : Bool := false
  /-- Vectors of sensed lines taken (R261). -/
  hv : Nat := 0
  /-- Watchdog firings of cause 0, 2 or 3 since the last re-plan (R430). -/
  firings : Nat := 0
  /-- Last engine fault code and the index it was taken at (R269). -/
  fault : Nat := 0
  faultAt : Nat := 0
  deriving DecidableEq, Repr

/-- The image of a job as loaded (R231). -/
structure Image where
  codeLen : Nat
  dataLen : Nat
  dataAddr : Nat
  entry : Nat
  argAddr : Nat
  ckptBase : Nat
  ckptLen : Nat
  streams : List (List Nat)
  budget : Nat
  sigLen : Nat
  code : List Word
  data : List Byte
  deriving DecidableEq, Repr

/-- An engine-job context (R232 to R234). -/
structure Job where
  id : Nat
  req : Req
  a : JobArgs
  image : Image
  argData : List Byte
  /-- Ready at the cluster job interfaces at this TB; latched; holding clusters. -/
  readyAt : Option Ns := none
  late : Bool := false
  latched : Bool := false
  running : Bool := false
  /-- The frame it takes effect in, once latched; an ENGINE_JOB with image 0 (R232). -/
  eff : Nat := 0
  stop : Bool := false
  /-- Clusters it holds, and clusters it has still to take at its boundary. -/
  holds : List Nat := []
  todo : List Nat := []
  /-- Verified bytes are protected (R448). The digest of the image as copied (R442). -/
  sealed_ : Bool := false
  digest : List Byte := []
  deriving DecidableEq, Repr

/-- A cluster (R220 to R243). -/
structure Cluster where
  mem : Sparse Byte := []
  /-- Engine-job context holding the cluster; 0 none, 1 latched, 2 running, 3 loading. -/
  job : Option Nat := none
  jobSt : Nat := 0
  /-- Spare: 0 idle, 1 loading, 2 in service, 3 disabled; the local index it replaces; why; it waits for its first slot. -/
  spare : Nat := 0
  spareFor : Nat := 0
  retired : Bool := false
  takeCause : Nat := 0
  resumeDue : Bool := false
  /-- Milestone flags set since the newest whole checkpoint of each engine was captured, and since the one being drained (R267). -/
  flagsSince : Sparse Half := []
  flagsNew : Sparse Half := []
  bypass : Half := 0
  miss : Nat := 0
  fires : Nat := 0
  slot : LineSlotInfo := {}
  /-- Partition of the job whose engines post write-backs. -/
  wbPart : Nat := 0
  /-- Write-back posted and completed counts by engine (R263, R267), and signal counters 1 to 7. -/
  wbPost : Sparse Half := []
  wbCnt : Sparse Half := []
  sig : Sparse Half := []
  /-- By engine: the newest whole checkpoint copy plus 1 (0 none), whether the other copy is whole too, and the
  checkpoint being drained (R235). The image copy of the job that runs (R220). -/
  imgCopy : Nat := 0
  whole : Sparse Nat := []
  older : Sparse Bool := []
  drain : Sparse (List Byte) := []
  /-- Sensed lines in the harvest ring (R229), 1,440 entries each, oldest first, and the number of the oldest. -/
  harvest : List (List Nat) := []
  hvBase : Nat := 0
  /-- Fetch-stream units wholly arrived in their rings, stream × 2^16 + unit (R228). -/
  units : List Nat := []
  /-- Tile rows whose history the line fetch unit holds, each with a mask of the tiles that could be read (R228, R357). -/
  hist : List (Nat × Half) := []
  /-- The kernel's 17 node columns of the active working set, rows 0 to 360 (R184); empty until it has read them. -/
  nodes : List Byte := []
  /-- Conflict counters by master, and the masters that have made requests since their counter was read (R223). -/
  conf : Sparse (BitVec 48) := []
  asked : List Nat := []
  /-- SHA-384 of the image that runs, its signature apart (R453). -/
  digest : List Byte := []
  deriving DecidableEq, Repr

/-- A composed line in the line stores (R21): frame, active line, 46,080 subpixel levels, and the clusters on which it is an underrun. -/
structure StoreLine where
  frame : Nat
  line : Nat
  px : List Nat
  late : List LateLine
  deriving DecidableEq, Repr

/-- Engines and clusters, the line stores and the cellar prefetch before them, and the lines in the engine stage
(R218 to R243). -/
structure EngSt where
  engines : Sparse Eng := []
  clusters : Sparse Cluster := []
  jobs : List Job := []
  serial : Nat := 0
  /-- The slot that the line just started gives the clusters, the line at their inputs and the line that left the engine
  stage, each an active line and its 46,080 subpixel levels (R224); clusters whose line in the stage, and in the slot in
  progress, is an underrun (R170, R228). -/
  next : LineSlotInfo := {}
  input : Option (Nat × List Nat) := none
  stage : Option (Nat × List Nat) := none
  late : List LateLine := []
  slotLate : List LateLine := []
  /-- Clusters for which the slot carries the line: all in modes 0 to 6, those under a patch in CELLAR and LAYBY (R242). -/
  carry : Word := 0
  /-- Composed lines ahead of their slots, oldest first; the frame and line composed next, and when the front end is free for it, in
  units of 1/256 ns (R21). -/
  lines : List StoreLine := []
  front : Nat × Nat := (0, 0)
  frontAt : Nat := 0
  /-- The cellar prefetch buffer: stored lines of the baked frame, 46,080 drive levels each (R10, R174). -/
  prefetch : List (Nat × List Nat) := []
  deriving DecidableEq, Repr

/-- A column driver as the part sees it (R284 to R291). -/
structure Driver where
  /-- 0 OFF, 1 TRAIN, 2 ECHO, 3 RUN, 4 RETRAIN, 5 DOWN. -/
  st : Nat := 0
  tries : Nat := 0
  attempt : Nat := 0
  since : Ns := 0
  laneA : Bool := false
  laneB : Bool := false
  deskew : Bool := false
  bcSync : Bool := false
  bcDown : Option Ns := none
  bcLost : Bool := false
  cseqAcc : Nat := 0
  cseq : Nat := 0
  /-- cseq of the last DISCHARGE packet, whose second copy repeats it (R282). -/
  disSeq : Nat := 0
  phi : Nat := 0
  tRxd : Nat := 0
  tConv : Nat := 0
  samples : List Nat := []
  echoRepeat : Bool := false
  check : Bool := false
  lastCrc : Nat := 0
  lastHold : Nat := 0
  lastCtl : Nat := 0
  cCrc : Nat := 0
  cHold : Nat := 0
  cCtl : Nat := 0
  cRetrain : Nat := 0
  cBc : Nat := 0
  temp : Option Int := none
  tempAt : Ns := 0
  /-- Bursts start at the next frame's first active line (R285 step 4). -/
  live : Bool := false
  /-- It went to DOWN and has not been in RUN since. -/
  wasDown : Bool := false
  /-- Back channel: the packet whose SOC has been received, its symbols newest first, and when that SOC arrived (R284, R286). -/
  bcPacket : Option (List Sym) := none
  bcSocAt : Nat := 0
  /-- When the next packet of training is due: TRAIN every microsecond, ECHO_REQ every 2 (R285); ECHO_REQs of the step left. -/
  nextAt : Ns := 0
  echoes : Nat := 0
  /-- Byte 2 of the last STATUS without its alert bit (R289), and the end of the last burst sent to the driver. -/
  lastFlags : Nat := 0
  burstEnd : Ns := 0
  /-- A full training is due in the next vertical blanking (R290). -/
  retryDue : Bool := false
  deriving DecidableEq, Repr

/-- A control packet waiting for its windows (R282). -/
structure Ctl where
  drv : Nat
  type : Nat
  apply : Nat
  cseq : Nat
  body : List Byte
  copies : Nat
  deriving DecidableEq, Repr

/-- A HARVEST sweep (R292 to R295). -/
structure Sweep where
  req : Req
  kind : Nat
  a : HarvestArgs
  started : Bool := false
  /-- Next sensed line, line times until its LATCH, the line whose burst is out and its drivers, lines outstanding (index, driver,
  t_latch), lines to retry, in retry. -/
  next : Nat := 0
  wait : Nat := 0
  sent : Option (Nat × List Nat) := none
  out : List (Nat × Nat × Ns) := []
  retry : List (Nat × Nat) := []
  retrying : Bool := false
  missing : List Nat := []
  /-- Lines returned by one driver of a cluster while the other's is outstanding: index, driver, entries; and lines that a harvest
  ring took: cluster, active line, entries (R188). -/
  part : List (Nat × Nat × List Nat) := []
  taken : List (Nat × Nat × List Nat) := []
  deriving DecidableEq, Repr

/-- The drive link (R270 to R297). -/
structure Kdl where
  drivers : Sparse Driver := []
  setup : List (Nat × Nat) := []
  setupReq : Option Req := none
  ctl : List Ctl := []
  sweep : Option Sweep := none
  /-- A sweep has the row timing; it rejoins the raster at the frame boundary after it (R302). -/
  rejoin : Bool := false
  rate : Nat := 3
  /-- End of the line's traffic on the forward lanes (R287). -/
  busyTo : Ns := 0
  /-- TB of the last round of ECHO_REQs in RUN, and one is due in the next vertical blanking (R286). -/
  echoAt : Ns := 0
  echoDue : Bool := false
  deriving DecidableEq, Repr

/-- The stage of a discharge (R305): the black frame is due, or runs; DISCHARGE copies are left to send, none meaning
that AGO follows at the next line start; the AGO hold; the release of the rails. -/
inductive DisStage where
  | none | blackDue | black | copies (left : Nat) | ago | rails
  deriving DecidableEq, Repr

/-- Panel power, discharge and crack loops (R298 to R311), beside the PNL registers. -/
structure Pnl where
  stage : DisStage := .none
  short : Bool := false
  /-- State entered when the discharge or the release ends, and its cause (R310). -/
  endState : Nat := 0
  endCause : Nat := 0
  agoUntil : Ns := 0
  /-- Rising: waiting for PG of the step (true) or for its delay; crack checks done in order 1. -/
  waitPg : Bool := false
  checks : Nat := 0
  capturing : Nat := 0
  sums : List Nat := []
  pfw : Bool := false
  blanked : Bool := false
  /-- Blanked from the next frame boundary (R310). -/
  blankDue : Bool := false
  /-- When the step in progress began its wait or its delay. -/
  stepAt : Ns := 0
  /-- Consecutive out-of-tolerance measurements by loop (R309); crack offsets in force. -/
  outRun : List Nat := [0, 0, 0, 0]
  measureDue : Bool := false
  live : Bool := false
  ago : Bool := false
  lsEn : Bool := false
  deriving DecidableEq, Repr

/-- A queue context beside its HIF registers (R316 to R343). -/
structure Queue where
  head : BitVec 16 := 0
  tail : BitVec 16 := 0
  /-- 0 none, else the cause of ERROR (R321, R331). -/
  err : Nat := 0
  dropped : Nat := 0
  rejected : Nat := 0
  /-- The descriptor the SQ stopped at (R324, R326), and its timeout. -/
  stop : Option (Req × Body) := none
  stopAt : Option Ns := none
  /-- Records since the last message, TB of the first, message sent and no doorbell yet (R343). -/
  recs : Nat := 0
  recAt : Ns := 0
  await : Bool := false
  /-- Events dropped since the last LOG_OVERFLOW (R341). -/
  lost : Nat := 0
  deriving DecidableEq, Repr

/-- A completion not yet written (R336): partition, local CQ, tag, status, frame, TB. -/
structure Cpl where
  p : Nat
  cq : Nat
  tag : BitVec 16
  status : Nat
  frame : Nat
  tb : Nat
  deriving DecidableEq, Repr

/-- Host interface (R312 to R345). -/
structure Hif where
  queues : Sparse Queue := []
  fences : Sparse Word := []
  held : List Cpl := []
  /-- MSI-X mask bits by partition × 2048 + vector, pending bits, function masks by partition (R342). -/
  mask : Sparse Bool := []
  pba : Sparse Bool := []
  fmask : Sparse Bool := []
  /-- MSI-X table words 0 to 2, message address and data, by (partition × 2048 + vector) × 4 + word. -/
  table : Sparse Word := []
  serial : Nat := 0
  /-- Bytes the part has written into host memory, by partition × 2^64 + address. -/
  hostMem : Sparse Byte := []
  released : Bool := false
  /-- Firmware recovery (R419): no firmware copy passed. -/
  noFw : Bool := false
  /-- Each port's link (R389), by number: 0 down, 1 L0, 2 L1, 3 L2. -/
  links : Sparse Nat := []
  deriving DecidableEq, Repr

/-- A CXL port (R346, R359 to R363). -/
structure CxPort where
  /-- 0 absent, 1 training, 2 L0, 3 L1, 4 lost, 5 rebuilding. -/
  st : Nat := 0
  capMiB : Nat := 0
  rate : Nat := 0
  /-- The link is in L0 again after a loss (R363). -/
  linkUp : Bool := false
  /-- Poisoned or uncorrectable reads: their TB values (R360). -/
  bad : List Ns := []
  exitAt : Option Ns := none
  corr : Nat := 0
  corrLog : Option Ns := none
  deriving DecidableEq, Repr

/-- A stripe buffer (R351): its stripe, the byte ranges of it that hold data (rising, from and up to), the time of its
last write, and the unit writes outstanding once it is written out; the default is a free buffer. -/
structure Buf where
  used : Bool := false
  stripe : Nat := 0
  cover : List (Nat × Nat) := []
  last : Ns := 0
  acks : List Nat := []
  deriving DecidableEq, Repr

/-- The frame store (R346 to R364). -/
structure Fst where
  mem : Sparse Byte := []
  /-- FST_CFG.layout and rate_max as the store was last brought up. -/
  layout : Nat := 0
  rateMax : Nat := 0
  ports : Sparse CxPort := []
  bufs : Sparse Buf := []
  /-- Units that read poisoned and could not be rewritten (R362): 8 × stripe + port. -/
  poisoned : List Nat := []
  filling : Bool := false
  /-- All ports of the layout are in L1, or on their way out. -/
  asleep : Bool := false
  rebuildPt : Nat := 0
  deriving DecidableEq, Repr

/-- An array instance (R365, R379). -/
structure Inst where
  perr : Nat := 0
  remaps : List Nat := []
  posted : Option Ns := none
  /-- Words whose rewrite or re-read is outstanding (R375). -/
  tests : List Nat := []
  deriving DecidableEq, Repr

/-- On-chip memory (R365 to R383). -/
structure Mem where
  insts : Sparse Inst := []
  xram : Sparse Byte := []
  conf : Sparse (BitVec 48) := []
  /-- Partitions that have accessed port A of the exchange RAM since their counter was read (R367). -/
  asked : List Nat := []
  bcbBusy : Bool := false
  bcbWait : Bool := false
  deriving DecidableEq, Repr

/-- A power domain (R384 to R393): 0 ON, 1 RET, 2 OFF. -/
structure Dom where
  st : Nat := 0
  /-- State a change in progress goes to; the pending slot. -/
  going : Option Nat := none
  pend : Option Nat := none
  slack : Nat := 0xFFFFFF
  exitAt : Option Ns := none
  /-- Hints: needed at, idle until (R393). -/
  need : Option Ns := none
  idle : Option Ns := none
  since : Ns := 0
  /-- Its condition of R384 and its next known need when it was last evaluated (R388). -/
  cond : Bool := false
  known : Option Ns := none
  deriving DecidableEq, Repr

/-- A rail request in progress (R395). -/
structure Rail where
  on : Bool := true
  pg : Bool := true
  busy : Bool := false
  retried : Bool := false
  volt : Bool := false
  deriving DecidableEq, Repr

/-- What deep sleep saves (R391, R53). -/
structure Saved where
  tb : Ns
  regs : List (Nat × Word)
  deriving DecidableEq, Repr

/-- Power management (R384 to R405). -/
structure Pwr where
  doms : Sparse Dom := []
  rails : Sparse Rail := []
  ldoLp : Bool := false
  /-- Brown-out latch (R396): occurred, in low-power mode. -/
  bor : Bool := false
  borLp : Bool := false
  /-- Deep sleep: 0 awake, 2 to 5 the order of R397 in progress, 6 asleep, 7 waking; its timed wake. -/
  deep : Nat := 0
  deepT : Nat := 0
  saved : Option Saved := none
  /-- Domains that the deep-sleep entry has taken down. -/
  taken : List Nat := []
  wakeSrc : Nat := 0
  /-- The wake that has ended the entry while SVC was on its way to OFF (R400), 0 for none: SVC comes back at once. -/
  abortSrc : Nat := 0
  /-- WAKE is due at the OWNER link's first L0 (R399). -/
  wakeDue : Bool := false
  aonTimer : Option Nat := none
  crystal : Bool := false
  hostWake : Sparse Bool := []
  /-- SYNC_IN is high: its level since its last edge (log 44). -/
  syncHigh : Bool := false
  hot : Bool := false
  xramIdle : Ns := 0
  deriving DecidableEq, Repr

/-- An item gathered for the journal (R413): a record of a key with its body, or (key 0) an error-log entry at its
offset; the descriptor that wrote it, if one did. Once its commit has begun: its target offset and whole bytes. -/
structure GItem where
  key : Nat
  off : Nat
  data : List Byte
  req : Option Req
  deriving DecidableEq, Repr

/-- A direct record write in progress or waiting (R411): its key, body and descriptor, and its target once begun. -/
structure Direct where
  key : Nat
  body : List Byte
  req : Option Req
  off : Nat
  seq : Nat
  deriving DecidableEq, Repr

/-- The record store (R406 to R422). -/
structure Nvs where
  mem : Sparse Byte := []
  gather : List GItem := []
  gatherAt : Ns := 0
  /-- The items of the commit in progress, when it began, and the last commit's number. -/
  commit : List GItem := []
  commitAt : Ns := 0
  commitNo : Nat := 0
  direct : Option Direct := none
  waiting : List Direct := []
  /-- NVM_READs waiting for earlier commits (R418). -/
  reads : List (Req × Body) := []
  saving : Bool := false
  saveReqs : List Req := []
  /-- Hot values (R415): the 32 lifetime counters and the panel on-time; read since reset (R490). -/
  counters : Sparse Nat := []
  onTime : Nat := 0
  loaded : Bool := false
  stopped : Bool := false
  rewrites : Nat := 0
  repaired : Bool := false
  /-- When the last scrub pass began (R420). -/
  scrubAt : Option Ns := none
  bootEvent : Option (Nat × Nat) := none
  deriving DecidableEq, Repr

/-- A calibration request (R427, R429): items, causes (bit 0 power-up, 1 CAL_RUN, 2 temperature), descriptors with their
masks. -/
structure CalReq where
  items : Nat
  causes : Nat
  reqs : List (Req × Nat)
  deriving DecidableEq, Repr

/-- A re-plan (R430): steps taken, a step's request that waits for its acknowledgement (mV), and the descriptors that asked for
the re-plan, with the status of their calibration run. -/
structure Replan where
  steps : Nat
  asked : Option Nat
  reqs : List (Req × Nat)
  deriving DecidableEq, Repr

/-- What the SVC keeps of the newest entry of the error log (R434, R435). -/
structure LogLast where
  code : Nat
  cls : Nat
  arg : Nat
  tb : Ns
  rep : Nat
  frame : Nat
  detail : Nat
  deriving DecidableEq, Repr

/-- Calibration, ageing and the error log (R423 to R438). -/
structure Cal where
  run : Option CalReq := none
  pend : Option CalReq := none
  result : Option CalOutcome := none
  lastEnd : Ns := 0
  replan : Option Replan := none
  due : Bool := false
  dueReqs : List (Req × Nat) := []
  /-- Last and least slack by monitor; 32,767 where none has been measured. -/
  slack : Sparse Int := []
  slackMin : Sparse Int := []
  planTime : Nat := 0
  retiredPlan : Sparse Nat := []
  /-- Crack-input offsets in force (R423 item 2). -/
  crackOff : List Int := []
  /-- The newest log entry (R435); entries lost since LOG_OVERFLOW, its last TB. -/
  last : Option LogLast := none
  lost : Nat := 0
  lostAt : Option Ns := none
  restarting : Bool := false
  /-- Log entries and records that the SVC has still to write once it runs again (R18): code, class, argument, detail, TB, frame; key,
  body. -/
  notes : List (Nat × Nat × Nat × Nat × Ns × Nat) := []
  records : List (Nat × List Byte) := []
  /-- Descriptors that wait for the SVC while it restarts (R432). -/
  held : List (Req × Body) := []
  /-- CAL_RUNs whose run has ended, with their status: they complete once the results record is committed, the flag saying that
  this record is in the commit in progress (R427). -/
  ended : List (Req × Nat × Bool) := []
  deriving DecidableEq, Repr

/-- One SPDM responder (R441). -/
structure Spdm where
  version : Bool := false
  caps : Bool := false
  algs : Bool := false
  /-- 0 none, 1 handshaking, 2 established; mutual authentication requested; digest of the peer's key (R451). -/
  session : Nat := 0
  mutAuth : Bool := false
  peer : List Byte := []
  keys : Nat := 0
  deriving DecidableEq, Repr

/-- Security (R439 to R453). -/
structure Sec where
  verify : List Nat := []
  spdm : Sparse Spdm := []
  imgKeys : List (List Byte) := []
  bootRec : List Byte := []
  /-- The firmware image that boot logic loaded at the last cold reset (R419, R442). -/
  fwImage : Option (List Byte) := none
  deriving DecidableEq, Repr

/-- The TAP (R472): instruction (0 BYPASS, 1 SAMPLE/PRELOAD, 2 EXTEST, 3 CLAMP, 4 HIGHZ), boundary cells, bypass bit. -/
structure Tap where
  inst : Nat := 0
  cells : List Bool := []
  bypassBit : Bool := false
  held : Bool := false
  deriving DecidableEq, Repr

/-- The state of the part. -/
structure State where
  /-- Commands waiting, first in, first out. -/
  pending : List Instr
  /-- TB and TB_FRAC (R45). -/
  tb : BitVec 64
  tbFrac : BitVec 32
  /-- BAR0 registers: (key, word) for those that differ from their reset values (Machine/Regs.lean). -/
  regs : List (Nat × Word)
  tbs : Tbs
  lnk : Sparse Lane
  ports : Sparse Port
  streams : Sparse Stream
  lyr : Lyr
  scn : Scn
  mod : Mod
  cmp : Cmp
  odv : Odv
  eng : EngSt
  kdl : Kdl
  pnl : Pnl
  hif : Hif
  fst : Fst
  mem : Mem
  pwr : Pwr
  nvs : Nvs
  cal : Cal
  sec : Sec
  tap : Tap
  /-- RST_N low, or start-up not yet run (R488). -/
  inReset : Bool
  /-- Reads and captures of the model's free values taken so far (no state of the part). -/
  free : Nat
  /-- What the part has sent, newest first (no state of the part: its links, pins and messages). -/
  sent : List Out
  deriving DecidableEq, Repr

/-- The part right after cold reset, before its start-up runs (R461, R488): every register at its reset value, TB at 0
(DESIGN CHOICE: the spec gives TB no reset value), every context empty, and an empty queue of commands. -/
def State.reset : State where
  pending := []
  tb := 0
  tbFrac := 0
  regs := []
  tbs := {}
  lnk := []
  ports := []
  streams := []
  lyr := {}
  scn := {}
  mod := {}
  cmp := {}
  odv := {}
  eng := {}
  kdl := {}
  pnl := {}
  hif := {}
  fst := {}
  mem := {}
  pwr := {}
  nvs := {}
  cal := {}
  sec := {}
  tap := {}
  inReset := true
  free := 0
  sent := []

end Sys2Proof.Machine
end

