-- ==== Sys2Proof/Machine/Regs.lean ====
section
/-! DEFINITION. BAR0 registers: one home for every register, and the accessors of its fields.
`State.regs` lists the words that differ from their reset values, by a key of the register's offset, the object it is
indexed by and the partition's bank (R457, R458). Registers whose value another part of the state determines are views,
computed in Machine/Views.lean. -/

namespace Sys2Proof.Machine

open Sys2Proof

/-- The key of a register word: its offset, the number of the object it is indexed by (0 if none), and the bank of a
PART-scope register (0 otherwise). -/
def regKey (off ix bank : Nat) : Nat := off / 4 + 2 ^ 20 * ix + 2 ^ 40 * bank

/-- The register at a BAR0 offset (R454), if any is mapped there. -/
def regAt (off : Nat) : Option RegDesc :=
  (regsOf (off / 0x10000)).find? fun d =>
    decide (d.base ≤ off) && decide (off < d.base + d.stride * d.count) && decide ((off - d.base) % d.stride = 0)

/-- The greatest state of a domain at reset (PWR_DOM_CFG.max, R405): XRAM reaches RET at most, AON, CTX0 and CTX1
stay ON. -/
def domMaxReset (d : Nat) : Nat :=
  if d = 81 then 1 else if d = 0 ∨ d = 79 ∨ d = 80 then 0 else 2

/-- The reset value of a register word. -/
def resetWord (off ix : Nat) : Nat :=
  if off = Reg.PWR_DOM_CFG then 1000 * 65536 + domMaxReset ix
  else
    match regAt off with
    | some d => d.flds.foldl (fun w f => w + f.reset * 2 ^ f.lo) 0
    | none => 0

/-- A register word. -/
def State.reg (s : State) (off ix bank : Nat) : Nat :=
  (Sparse.get (BitVec.ofNat 32 (resetWord off ix)) s.regs (regKey off ix bank)).toNat

/-- A register word written. -/
def State.setReg (s : State) (off ix bank : Nat) (w : Nat) : State :=
  { s with regs := Sparse.set (BitVec.ofNat 32 (resetWord off ix)) s.regs (regKey off ix bank) (BitVec.ofNat 32 w) }

/-- Bits hi to lo of a word. -/
def bits (w hi lo : Nat) : Nat := w / 2 ^ lo % 2 ^ (hi - lo + 1)

/-- A word with bits hi to lo replaced. -/
def setBits (w hi lo v : Nat) : Nat := w - bits w hi lo * 2 ^ lo + v % 2 ^ (hi - lo + 1) * 2 ^ lo

/-- A field of a register, for the object `ix` in the bank `bank`. -/
def State.fldAt (s : State) (f : Fld) (ix bank : Nat) : Nat := bits (s.reg f.off ix bank) f.hi f.lo

/-- A field of a register written. -/
def State.setFldAt (s : State) (f : Fld) (ix bank v : Nat) : State :=
  s.setReg f.off ix bank (setBits (s.reg f.off ix bank) f.hi f.lo v)

/-- A field of a shared register. -/
def State.fld (s : State) (f : Fld) : Nat := s.fldAt f 0 0

/-- A field of a shared register written. -/
def State.setFld (s : State) (f : Fld) (v : Nat) : State := s.setFldAt f 0 0 v

/-- A field of an indexed register. -/
def State.fldI (s : State) (f : Fld) (ix : Nat) : Nat := s.fldAt f ix 0

/-- A field of an indexed register written. -/
def State.setFldI (s : State) (f : Fld) (ix v : Nat) : State := s.setFldAt f ix 0 v

/-- A field of a partition's bank. -/
def State.fldP (s : State) (f : Fld) (p : Nat) : Nat := s.fldAt f 0 p

/-- A field of a partition's bank written. -/
def State.setFldP (s : State) (f : Fld) (p v : Nat) : State := s.setFldAt f 0 p v

/-- A one-bit field is 1. -/
def State.flag (s : State) (f : Fld) : Bool := s.fld f == 1

/-- A one-bit field set. -/
def State.setFlag (s : State) (f : Fld) : State := s.setFld f 1

/-- A counter field plus `n`, saturating at the field's largest value. -/
def State.addSat (s : State) (f : Fld) (ix bank n : Nat) : State :=
  s.setFldAt f ix bank (min (s.fldAt f ix bank + n) (2 ^ (f.hi - f.lo + 1) - 1))

/-- A 48-bit or 64-bit address from its LO and HI registers, where `lo` drops no bits of the address. -/
def State.addr (s : State) (lo hi : Nat) : Nat := s.reg lo 0 0 + 2 ^ 32 * s.reg hi 0 0

/-- A field value of `n` bits read as a signed number. -/
def signed (n v : Nat) : Int := if v < 2 ^ (n - 1) then (v : Int) else (v : Int) - 2 ^ n

/-- A signed number as a field value of `n` bits. -/
def unsigned (n : Nat) (v : Int) : Nat := (v % 2 ^ n).toNat

/-- A signed number held to an interval. -/
def clampInt (lo hi v : Int) : Int := max lo (min hi v)

/-- Rounding division by a positive number, halves up. -/
def roundDiv (a : Int) (b : Int) : Int := (2 * a + b) / (2 * b)

/-- Little-endian bytes as a number (R5). -/
def leNat : List Byte → Nat
  | [] => 0
  | b :: bs => b.toNat + 256 * leNat bs

/-- The `n` little-endian bytes of a number (R5). -/
def leBytes : Nat → Nat → List Byte
  | 0, _ => []
  | n + 1, v => BitVec.ofNat 8 v :: leBytes n (v / 256)

/-- Bytes `a` to `a + n - 1` of a byte string as a little-endian number. -/
def leAt (l : List Byte) (a n : Nat) : Nat := leNat ((l.drop a).take n)

end Sys2Proof.Machine
end

