-- ==== Sys2Proof/Machine/Ops.lean ====
section
/-! DEFINITION. Operations shared by the units: time, partitions and roles, free values, outputs, the CRC-32C and CRC-8 of
R102. -/

namespace Sys2Proof.Machine

open Sys2Proof Reg

/-! Time. -/

/-- TB as a number (R45). -/
def State.now (s : State) : Ns := s.tb.toNat

/-- TB is at least `t`: an event whose instant the state holds happens no earlier than it. -/
def State.reach (s : State) (t : Ns) : State :=
  { s with tb := BitVec.ofNat 64 (max s.now t) }

/-- The frame number in force (SCN_FRAME). -/
def State.frame (s : State) : Nat := s.fld SCN_FRAME_frame

/-- The raster runs (SCN_STATUS.running). -/
def State.running (s : State) : Bool := s.flag SCN_STATUS_running

/-- The mode in force (MOD_STATUS.cur_mode). -/
def State.mode (s : State) : Nat := s.fld MOD_STATUS_cur_mode

/-- Sends something to the outside. -/
def State.emit (s : State) (o : Out) : State := { s with sent := o :: s.sent }

/-- A word the spec leaves open, below `n`, and the state with the next one to come. -/
def State.draw (s : State) (n : Nat) : Nat × State :=
  ((Config.freeWord s.free).toNat % n, { s with free := s.free + 1 })

/-- Division rounded up. -/
def ceilDiv (a b : Nat) : Nat := (a + b - 1) / b

/-! Partitions and roles. -/

/-- The OWNER partition (R449). -/
def State.owner (s : State) : Nat := s.fld SEC_ROLE_owner

/-- Partition `p` holds the SAFETY role (R451). -/
def State.isSafety (s : State) (p : Nat) : Bool :=
  s.fld SEC_ROLE_safety_state == 2 && s.fld SEC_ROLE_safety == p

/-- Set-up is locked (R462). -/
def State.locked (s : State) : Bool := s.flag GLB_LOCK_lock

/-- Partition `p` is enabled (R463). -/
def State.partOn (s : State) (p : Nat) : Bool := (s.reg GLB_PART_EN 0 0).testBit p

/-- The host interface takes accesses of its ports: released (R489), and the part not asleep. -/
def State.reachable (s : State) (p : Nat) : Bool := decide (p < 4) && s.hif.released && decide (s.pwr.deep < 5)

/-- A calibration run trims the converters or the die sensors: their readings hold (R424). -/
def State.trimming (s : State) : Bool := s.cal.run.any fun r => r.items % 4 != 0

/-! CRCs. -/

/-- One bit of a reflected CRC step. -/
def crcBit (poly c : Nat) : Nat := if c % 2 = 1 then (c / 2) ^^^ poly else c / 2

/-- One byte of a reflected CRC. -/
def crcByte (poly c : Nat) (b : Byte) : Nat :=
  (List.range 8).foldl (fun c _ => crcBit poly c) (c ^^^ b.toNat)

/-- CRC-32C (R102): reflected, initial value and final XOR all ones. -/
def crc32c (l : List Byte) : Nat :=
  l.foldl (crcByte 0x82F63B78) 0xFFFFFFFF ^^^ 0xFFFFFFFF

/-- One bit of the CRC-8 of R102, most significant bit first. -/
def crc8Bit (c : Nat) : Nat := if c ≥ 128 then (2 * c % 256) ^^^ 7 else 2 * c % 256

/-- The CRC-8 of R102: polynomial x^8 + x^2 + x + 1, initial value 0. -/
def crc8 (l : List Byte) : Nat :=
  l.foldl (fun c b => (List.range 8).foldl (fun c _ => crc8Bit c) (c ^^^ b.toNat)) 0

end Sys2Proof.Machine
end

