-- ==== Sys2Proof/Machine/NvsCore.lean ====
section
/-! DEFINITION. The record store's slots, copies and journal (R408 to R413). -/

namespace Sys2Proof.Machine

open Sys2Proof Reg

/-- Offset of copy A and slot size of a listed key (R409). -/
def nvsSlot (key : Nat) : Option (Nat × Nat) :=
  if key = 0x0001 then some (0x100000, 0x100000)
  else if key = 0x0002 then some (0x10000, 0x2000)
  else if key = 0x0003 then some (0x14000, 0x1000)
  else if key = 0x0010 then some (0x16000, 0x4000)
  else if key = 0x0011 then some (0x1E000, 0x1000)
  else if key = 0x0020 then some (0x20000, 0x8000)
  else if key = 0x0021 then some (0x30000, 0x1000)
  else if key = 0x0030 then some (0x40000, 0x10000)
  else if key = 0x0040 then some (0x32000, 0x1000)
  else if key = 0x0041 then some (0x34000, 0x1000)
  else if key = 0x0042 then some (0x300000, 0x120000)
  else if key = 0x0051 then some (0x36000, 0x1000)
  else if 0x8000 ≤ key ∧ key ≤ 0x803F then some (0x80000 + 0x2000 * (key - 0x8000), 0x1000)
  else none

/-- NVS bytes. -/
def nvsBytes (m : Sparse Byte) (off n : Nat) : List Byte := Sparse.read 0 m off n

/-- The bytes of a record copy (R408): header, body and padding to a whole granule. -/
def copyBytes (key seq : Nat) (body : List Byte) : List Byte :=
  let h := leBytes 4 key ++ leBytes 4 body.length ++ leBytes 4 seq
  h ++ leBytes 4 (crc32c (h ++ body)) ++ List.replicate 48 0 ++ body ++
    List.replicate ((64 - body.length % 64) % 64) 0

/-- Sequence and body of the copy at `off`, if it is valid (R408). -/
def readCopy (m : Sparse Byte) (key off size : Nat) : Option (Nat × List Byte) :=
  let h := nvsBytes m off 16
  let len := leAt h 4 4
  if leAt h 0 2 = key ∧ 1 ≤ len ∧ len ≤ size - 64 then
    let body := nvsBytes m (off + 64) len
    if leAt h 12 4 = crc32c (h.take 12 ++ body) then some (leAt h 8 4, body) else none
  else none

/-- The winner of two valid copies by sequence (R410): copy A wins unless B's sequence is later. -/
def bWins (sa sb : Nat) : Bool := decide (sa ≠ sb) && decide ((sb + 2 ^ 32 - sa) % 2 ^ 32 < 2 ^ 31)

/-- Both copies of a key. -/
def copiesOf (m : Sparse Byte) (key : Nat) : Option (Nat × List Byte) × Option (Nat × List Byte) :=
  match nvsSlot key with
  | some (off, size) => (readCopy m key off size, readCopy m key (off + size) size)
  | none => (none, none)

/-- The newest valid copy (R410): whether it is B, its sequence and its body. -/
def newestCopy (m : Sparse Byte) (key : Nat) : Option (Bool × Nat × List Byte) :=
  match copiesOf m key with
  | (some a, some b) => if bWins a.1 b.1 then some (true, b) else some (false, a)
  | (some a, none) => some (false, a)
  | (none, some b) => some (true, b)
  | (none, none) => none

/-- Equal sequences with different bodies, which posts NVM_TIE (R410). -/
def tieOf (m : Sparse Byte) (key : Nat) : Bool :=
  match copiesOf m key with
  | (some a, some b) => a.1 == b.1 && a.2 != b.2
  | _ => false

/-- Where a new copy of a key goes, and its sequence (R410). -/
def nextCopy (m : Sparse Byte) (key : Nat) : Nat × Nat :=
  match nvsSlot key, newestCopy m key with
  | some (off, size), some (b, seq, _) => (if b then off else off + size, (seq + 1) % 2 ^ 32)
  | some (off, _), none => (off, 1)
  | none, _ => (0, 1)

/-- Buffer bytes of an item: a record takes its header and padded body, a log entry one granule (R413). -/
def itemSize (i : GItem) : Nat := if i.key = 0 then 64 else 64 + (i.data.length + 63) / 64 * 64

/-- An item that makes a commit carry the log-state record: a log entry, or the record itself. -/
def logItem (i : GItem) : Bool := i.key == 0 || i.key == 0x0051

/-- The gathered items that fit one commit: at most 16 KiB and 64 entries (R412, R413). The first item that makes the commit carry
the log-state record also takes that record's 128 bytes and entry (R435). -/
def fitItems : List GItem → Nat → Nat → Bool → List GItem × List GItem
  | [], _, _, _ => ([], [])
  | i :: is, room, n, logged =>
    let more := logItem i && !logged
    let size := itemSize i + (if more then 128 else 0)
    let entries := if more then 2 else 1
    if size ≤ room ∧ entries ≤ n then
      let r := fitItems is (room - size) (n - entries) (logged || more)
      (i :: r.1, r.2)
    else ([], i :: is)

/-- The items of the next commit and those left. -/
def splitItems (l : List GItem) : List GItem × List GItem := fitItems l 16384 64 false

/-- The items no longer fit one commit. -/
def overFull (l : List GItem) : Bool := !(splitItems l).2.isEmpty

/-- The number after the last log entry among the items, else the one stored last. -/
def nextLogNo (m : Sparse Byte) (l : List GItem) : Nat :=
  l.foldl (fun n i => if i.key = 0 then leAt i.data 24 4 + 1 else n)
    (match newestCopy m 0x0051 with
     | some (_, _, body) => leAt body 0 4
     | none => 0)

/-- The items with the log-state record that goes with their log entries: next number, acknowledged number and overflow
total (R435). -/
def withLogState (m : Sparse Byte) (ack ovf : Nat) (l : List GItem) : List GItem :=
  if l.any logItem then
    l.filter (fun i => i.key != 0x0051) ++
      [{ key := 0x0051, off := 0, data := leBytes 4 (nextLogNo m l) ++ leBytes 4 ack ++ leBytes 4 ovf ++ leBytes 4 0, req := none }]
  else l

/-- An item with its target and whole bytes. -/
def resolveItem (m : Sparse Byte) (i : GItem) : GItem :=
  if i.key = 0 then i
  else
    let t := nextCopy m i.key
    { i with off := t.1, data := copyBytes i.key t.2 i.data }

/-- The journal's entry list and data area for resolved items, from data offset `d`. -/
def journalOf : List GItem → Nat → List Byte × List Byte
  | [], _ => ([], [])
  | i :: is, d =>
    let padded := i.data ++ List.replicate ((64 - i.data.length % 64) % 64) 0
    let r := journalOf is (d + padded.length)
    (leBytes 4 i.off ++ leBytes 4 i.data.length ++ leBytes 4 d ++ leBytes 4 0 ++ r.1, padded ++ r.2)

/-- The marker of a commit (R412). -/
def markerOf (no n : Nat) (entries data : List Byte) : List Byte :=
  let b := leBytes 4 0x4C4E524A ++ leBytes 4 no ++ leBytes 2 n ++ leBytes 2 0 ++ leBytes 4 data.length ++
    leBytes 4 (crc32c (entries ++ data)) ++ List.replicate 40 0
  b ++ leBytes 4 (crc32c b)

/-- Steps 1 and 2 of R413: the gathered items that fit go into the journal, with its marker. -/
def nvsBegin (now : Ns) (ack ovf : Nat) (n : Nvs) : Nvs :=
  let parts := splitItems n.gather
  let items := (withLogState n.mem ack ovf parts.1).map (resolveItem n.mem)
  let j := journalOf items 0
  let no := (n.commitNo + 1) % 2 ^ 32
  let m := Sparse.write 0 n.mem 0x1040 j.1
  let m := Sparse.write 0 m 0x2000 j.2
  { n with
    mem := Sparse.write 0 m 0x1000 (markerOf no items.length j.1 j.2)
    gather := parts.2, gatherAt := now, commit := items, commitAt := now, commitNo := no }

/-- Nothing keeps a commit from starting: no commit and no direct write in progress (R418). -/
def nvsIdle (n : Nvs) : Bool := n.commit.isEmpty && n.direct.isNone

/-- The bytes of a commit's targets written and its marker cleared (steps 3 and 4 of R413). -/
def nvsApply (m : Sparse Byte) (items : List GItem) : Sparse Byte :=
  Sparse.write 0 (items.foldl (fun m i => Sparse.write 0 m i.off i.data) m) 0x1000 (List.replicate 64 0)

/-- A commit begins; NVS_STATUS shows its number. -/
def State.nvsStart (s : State) : State :=
  let s : State := { s with nvs := nvsBegin s.now (s.fld CAL_LOG_ACK_n) (s.fld CAL_LOG_OVF_count) s.nvs }
  let s : State := { s with
    cal := { s.cal with ended := s.cal.ended.map fun e => (e.1, e.2.1, e.2.2 || s.nvs.commit.any (·.key == 0x0010)) } }
  s.setFld NVS_STATUS_commit (s.nvs.commitNo % 65536)

/-- gather_ms has passed since the first gathered item (R413); 0 commits at once (R422). -/
def State.nvsOverdue (s : State) : Bool := decide (s.nvs.gatherAt + 1000000 * s.fld NVS_CFG_gather_ms ≤ s.now)

/-- A commit begins now if the next item does not fit, or gather_ms has passed. After PFW_N the NVS takes no further work
(R415); while the SVC restarts, there is none to begin it (R18). -/
def State.nvsPump (s : State) : State :=
  if s.cal.restarting then s
  else if nvsIdle s.nvs && !s.nvs.stopped && !s.nvs.gather.isEmpty && (overFull s.nvs.gather || s.nvsOverdue) then s.nvsStart
  else s

/-- An item gathered (R413), in place of one of the same key or log offset still in the buffer; in reset there is no SVC. -/
def State.gather (s : State) (i : GItem) : State :=
  if s.inReset then s else
  let rest := s.nvs.gather.filter (fun j => !(j.key == i.key && (i.key != 0 || j.off == i.off)))
  let at_ := if s.nvs.gather.isEmpty then s.now else s.nvs.gatherAt
  { s with nvs := { s.nvs with gather := rest ++ [i], gatherAt := at_ } }.nvsPump

/-- A lifetime counter plus one (R409, key 0x0040). -/
def State.countLife (s : State) (k : Nat) : State :=
  { s with nvs := { s.nvs with counters := Sparse.modify 0 s.nvs.counters k (fun n => (n + 1) % 2 ^ 64) } }

/-- A record of the SVC's own gathered, or queued for a direct write when it is too large for the journal (R411); while the SVC restarts
it waits (R18). -/
def State.gatherRecord (s : State) (key : Nat) (body : List Byte) : State :=
  if s.cal.restarting then { s with cal := { s.cal with records := s.cal.records ++ [(key, body)] } }
  else if body.length ≤ 16320 then s.gather { key := key, off := 0, data := body, req := none }
  else { s with nvs := { s.nvs with waiting := s.nvs.waiting ++ [{ key := key, body := body, req := none, off := 0, seq := 0 }] } }

end Sys2Proof.Machine
end

