-- ==== Sys2Proof/Machine/Ppa.lean ====
section
/-! DEFINITION. The frame store's address space: striping (R350), what can be read and written (R350, R361, R362), stripe
buffers and partial writes (R351), regions and areas (R352 to R354). -/

namespace Sys2Proof.Machine

open Sys2Proof Reg

/-- Ports of the layout (R349). -/
def layoutPorts (layout : Nat) : Nat := if layout = 0 then 6 else if layout = 1 then 4 else 3

/-- The layout in force: that of the last bring-up. -/
def State.layout (s : State) : Nat := s.fst.layout

/-- A CXL port. -/
def State.cxPort (s : State) (n : Nat) : CxPort := Sparse.get {} s.fst.ports n

/-- A CXL port changed. -/
def State.setCxPort (s : State) (n : Nat) (c : CxPort) : State :=
  { s with fst := { s.fst with ports := Sparse.set {} s.fst.ports n c } }

/-- C of R349, in bytes: the smallest capacity of the layout's ports, rounded down to 64 MiB. -/
def State.portCap (s : State) : Nat :=
  let caps := (List.range (layoutPorts s.layout)).map (fun n => (s.cxPort n).capMiB)
  caps.foldl min (caps.headD 0) / 64 * 64 * 2 ^ 20

/-- The frame store has been filled and not taken down (R348): FST_STATUS.state is optimal, degraded or rebuilding, or
failed with every port of the layout present. -/
def State.storeUp (s : State) : Bool :=
  let st := s.fld FST_STATUS_state
  !s.fst.filling && (st == 2 || st == 3 || st == 5 || (st == 4 && (List.range (layoutPorts s.layout)).all (fun n => (s.cxPort n).st != 0)))

/-- Usable capacity in bytes (R349), known from the end of the ports' enumeration; 0 before, and once the store is down. -/
def State.usable (s : State) : Nat :=
  if s.fst.filling || s.storeUp then (if s.layout = 0 then 5 else layoutPorts s.layout) * s.portCap else 0

/-- The stripe (or row of units) and the port of PPA unit `u` (R350). -/
def unitPlace (layout u : Nat) : Nat × Nat :=
  if layout = 0 then (u / 5, ((u / 5) % 6 + 1 + u % 5) % 6)
  else (u / layoutPorts layout, u % layoutPorts layout)

/-- The device address of a PPA (R350). -/
def deviceAddr (layout a : Nat) : Nat := (unitPlace layout (a / 4096)).1 * 4096 + a % 4096

/-- The PPA unit held by a port at a device unit, if it holds data there and not parity (R350). -/
def unitOf (layout port stripe : Nat) : Option Nat :=
  if layout = 0 then
    let j := (port + 6 - stripe % 6 + 5) % 6
    if j < 5 then some (stripe * 5 + j) else none
  else some (stripe * layoutPorts layout + port)

/-- The unit a port holds in a stripe can be read from the port (R361 to R363). -/
def State.unitHere (s : State) (stripe port : Nat) : Bool :=
  let c := s.cxPort port
  (c.st == 2 || c.st == 3 || (c.st == 5 && decide (stripe < s.fst.rebuildPt))) && !s.fst.poisoned.contains (8 * stripe + port)

/-- PPA unit `u` can be read, from its port or by reconstruction (R361, R362). -/
def State.unitReadable (s : State) (u : Nat) : Bool :=
  let pl := unitPlace s.layout u
  s.unitHere pl.1 pl.2 ||
    (s.layout == 0 && (List.range 6).all (fun n => n == pl.2 || s.unitHere pl.1 n))

/-- Units of an area that are read by reconstruction are counted (R361). -/
def State.countRecon (s : State) (a n : Nat) : State :=
  let whole := s.layout != 0 || (s.fst.poisoned.isEmpty && (List.range 6).all fun n => (s.cxPort n).st == 2 || (s.cxPort n).st == 3)
  let k := if whole then 0 else ((List.range ((a + n + 4095) / 4096 - a / 4096)).filter fun i =>
    let pl := unitPlace s.layout (a / 4096 + i)
    !s.unitHere pl.1 pl.2 && s.unitReadable (a / 4096 + i)).length
  if k = 0 then s else s.addSat FST_CNT_RECON_count 0 0 k

/-- `n` bytes from PPA `a` can be read intact. -/
def State.readable (s : State) (a n : Nat) : Bool :=
  s.storeUp && decide (a + n ≤ s.usable) && (List.range ((a + n + 4095) / 4096 - a / 4096)).all (fun k => s.unitReadable (a / 4096 + k))

/-- The stored bytes at PPA `a` onward: zero where nothing has been written since the fill (R348). -/
def State.bytes (s : State) (a n : Nat) : List Byte := Sparse.read 0 s.fst.mem a n

/-- Bytes read intact, or none. -/
def State.ppaRead (s : State) (a n : Nat) : Option (List Byte) :=
  if s.readable a n then some (s.bytes a n) else none

/-- A little-endian number stored at PPA `a`. -/
def State.ppaLe (s : State) (a n : Nat) : Nat := leNat (s.bytes a n)

/-- Bytes stored at PPA `a` onward, if the store is up and all of them lie below the usable capacity; units they cover whole
read good again. -/
def State.ppaStore (s : State) (a : Nat) (d : List Byte) : State :=
  if s.storeUp ∧ a + d.length ≤ s.usable then
    { s with fst := { s.fst with
        mem := Sparse.write 0 s.fst.mem a d
        poisoned := s.fst.poisoned.filter (fun k =>
          match unitOf s.layout (k % 8) (k / 8) with
          | some u => !(decide (a ≤ u * 4096) && decide ((u + 1) * 4096 ≤ a + d.length))
          | none => true) } }
  else s

/-- Stripes that `n` bytes at `a` touch and do not cover. -/
def partStripes (a n : Nat) : List Nat :=
  ((List.range ((a + n + 20479) / 20480 - a / 20480)).map (a / 20480 + ·)).filter fun k =>
    !(decide (a ≤ k * 20480) && decide ((k + 1) * 20480 ≤ a + n))

/-- A partial write of a stripe, of the ranges `cover` (R351): counted, and so are the units reconstructed to compute its parity, where the
agent reads the units that the write does not cover (R361). -/
def State.countPart (s : State) (stripe : Nat) (cover : List (Nat × Nat)) : State :=
  let s := s.addSat FST_CNT_RMW_count 0 0 1
  (List.range 5).foldl (fun s j =>
    if cover.any fun r => decide (r.1 ≤ j * 4096) && decide ((j + 1) * 4096 ≤ r.2) then s
    else s.countRecon (stripe * 20480 + j * 4096) 4096) s

/-- A write that does not pass a stripe buffer (R351): its partial stripes are counted. -/
def State.ppaWrite (s : State) (a : Nat) (d : List Byte) : State :=
  let n := d.length
  (partStripes a n).foldl (fun s k =>
    let base := k * 20480
    s.countPart k [(max a base - base, min (a + n) (base + 20480) - base)]) (s.ppaStore a d)

/-! Stripe buffers (R351). -/

/-- A range added to a rising list of ranges. -/
def addRange : List (Nat × Nat) → Nat → Nat → List (Nat × Nat)
  | [], lo, hi => [(lo, hi)]
  | r :: rs, lo, hi =>
    if hi < r.1 then (lo, hi) :: r :: rs
    else if r.2 < lo then r :: addRange rs lo hi
    else addRange rs (min lo r.1) (max hi r.2)

/-- The units of a stripe that a buffer's ranges touch. -/
def coverUnits (c : List (Nat × Nat)) : List Nat :=
  (List.range 5).filter (fun j => c.any (fun r => decide (r.1 < (j + 1) * 4096) && decide (j * 4096 < r.2)))

/-- A stripe buffer. -/
def State.buf (s : State) (k : Nat) : Buf := Sparse.get {} s.fst.bufs k

/-- A stripe buffer changed. -/
def State.setBuf (s : State) (k : Nat) (b : Buf) : State :=
  { s with fst := { s.fst with bufs := Sparse.set {} s.fst.bufs k b } }

/-- A buffer written out: a partial write unless all five units are complete; its unit writes, and in layout 0 the parity's,
are outstanding. -/
def State.bufOut (s : State) (k : Nat) : State :=
  let b := s.buf k
  let full := b.cover == [(0, 20480)]
  let s := if full then s else s.countPart b.stripe b.cover
  s.setBuf k { b with acks := coverUnits b.cover ++ (if s.layout = 0 then [5] else []) }

/-- The buffer that takes a write to a stripe: the one that holds it, else a free one, else the one written longest
ago, which is written out. That one is kept until its unit writes are acknowledged (R351), for which the write waits; the model
holds no waiting write and takes them as acknowledged (DESIGN CHOICE, log 40). -/
def State.bufFor (s : State) (stripe : Nat) : Nat × State :=
  match (List.range 48).find? (fun k => (s.buf k).used && (s.buf k).stripe == stripe && (s.buf k).acks.isEmpty) with
  | some k => (k, s)
  | none =>
    match (List.range 48).find? (fun k => !(s.buf k).used) with
    | some k => (k, s.setBuf k { used := true, stripe := stripe })
    | none =>
      let k := (List.range 48).foldl (fun k j => if (s.buf j).last < (s.buf k).last then j else k) 0
      let s := if (s.buf k).acks.isEmpty then s.bufOut k else s
      (k, s.setBuf k { used := true, stripe := stripe })

/-- The part of a write that lies in one stripe, taken by its buffer. -/
def State.bufPart (s : State) (stripe lo hi : Nat) : State :=
  let (k, s) := s.bufFor stripe
  let b := s.buf k
  let s := s.setBuf k { b with cover := addRange b.cover lo hi, last := s.now }
  if (s.buf k).cover == [(0, 20480)] then s.bufOut k else s

/-- A write that passes the stripe buffers: stream data, the history plane, the baked frame and compensation builds. -/
def State.bufWrite (s : State) (a : Nat) (d : List Byte) : State :=
  let n := d.length
  if s.storeUp ∧ a + n ≤ s.usable then
    (List.range ((a + n + 20479) / 20480 - a / 20480)).foldl (fun s k =>
      let base := (a / 20480 + k) * 20480
      s.bufPart (a / 20480 + k) (max a base - base) (min (a + n) (base + 20480) - base)) (s.ppaStore a d)
  else s

/-! Regions (R352 to R354). -/

/-- Base, end, kind and owner of a region. -/
def State.rgnBase (s : State) (k : Nat) : Nat := s.reg (FST_RGN_BASE k) 0 0 * 65536
def State.rgnEnd (s : State) (k : Nat) : Nat := s.rgnBase k + s.reg (FST_RGN_SIZE k) 0 0 * 65536
def State.rgnEn (s : State) (k : Nat) : Bool := s.fld (FST_RGN_CFG_en k) == 1
def State.rgnKind (s : State) (k : Nat) : Nat := s.fld (FST_RGN_CFG_kind k)
def State.rgnOwner (s : State) (k : Nat) : Nat := s.fld (FST_RGN_CFG_owner k)

/-- The enabled region that holds PPA `a`. -/
def State.rgnAt (s : State) (a : Nat) : Option Nat :=
  (List.range 64).find? (fun k => s.rgnEn k && decide (s.rgnBase k ≤ a) && decide (a < s.rgnEnd k))

/-- The whole area lies in enabled regions, adjoining ones counted together, that each meet `ok` of kind and owner (R354). -/
def State.areaIn (s : State) (ok : Nat → Nat → Bool) : Nat → Nat → Nat → Bool
  | 0, _, _ => false
  | fuel + 1, a, n =>
    match s.rgnAt a with
    | some k =>
      ok (s.rgnKind k) (s.rgnOwner k) &&
        (if a + n ≤ s.rgnEnd k then true else s.areaIn ok fuel (s.rgnEnd k) (a + n - s.rgnEnd k))
    | none => false

/-- An area of `n` bytes at `a` lies wholly in regions of one kind. -/
def State.inKind (s : State) (kind a n : Nat) : Bool := s.areaIn (fun k _ => k == kind) 65 a n

/-- An area lies wholly in regions of one kind that `p` owns. -/
def State.inOwn (s : State) (kind p a n : Nat) : Bool := s.areaIn (fun k o => k == kind && o == p) 65 a n

/-- FST_FLAGS.region_miss set where a required area does not lie in its regions (R354). -/
def State.regionMiss (s : State) : State := s.setFlag FST_FLAGS_region_miss

/-- A frame-store area of a descriptor can be used: the store is up and the area lies in its regions (R348, R354). -/
def State.areaReady (s : State) (kind a n : Nat) : Bool := s.storeUp && s.inKind kind a n

/-- Counts a denied frame-store write of `p` (R353). -/
def State.fstDeny (s : State) (p : Nat) : State :=
  (s.addSat FST_DENY_CNT_count 0 p 1).setFlag FST_FLAGS_denied

/-- Owner writes allowed by a region's kind (R353). -/
def ownerWrites (kind : Nat) : Bool := kind == 1 || (4 ≤ kind && kind ≤ 9 : Bool)

/-- Bytes of an image, its signature block included (R231). -/
def Image.total (m : Image) : Nat := 64 + 32 * m.streams.length + 4 * m.codeLen + m.dataLen + m.sigLen

/-- The area meets the verified bytes of an image that a job protects (R448). -/
def State.sealedArea (s : State) (a n : Nat) : Bool :=
  s.eng.jobs.any fun j => j.sealed_ && decide (a < j.a.image + j.image.total) && decide (j.a.image < a + n)

/-- Partition `p` may write the area through the aperture or by an engine write-back (R353, R354). -/
def State.mayWrite (s : State) (p a n : Nat) : Bool :=
  s.areaIn (fun k o => ownerWrites k && o == p && (k != 9 || s.isSafety p)) 65 a n && !s.sealedArea a n

/-- Partition `p` may read the area: its own regions, or any region for the OWNER (R353). -/
def State.mayRead (s : State) (p a n : Nat) : Bool :=
  s.areaIn (fun _ o => o == p || p == s.owner) 65 a n

end Sys2Proof.Machine
end

