-- ==== Sys2Proof/Machine/Records.lean ====
section
/-! DEFINITION. Records the part writes: queue contexts and ring indices (R315 to R319), completions (R332 to R336), events
(R337 to R341), MSI-X messages (R342, R343), and the error log (R434 to R436). -/

namespace Sys2Proof.Machine

open Sys2Proof Reg

/-! Queue contexts. -/

/-- The global number of partition `p`'s local queue `i`, within its allocation (R315). -/
def State.gq (s : State) (p i : Nat) : Option Nat :=
  if i < 256 * s.fld (HIF_QALLOC_count p) then some (256 * s.fld (HIF_QALLOC_base p) + i) else none

/-- The local number of global context `g` in partition `p`. -/
def State.lq (s : State) (p g : Nat) : Nat := g - 256 * s.fld (HIF_QALLOC_base p)

/-- A queue context by global number. -/
def State.queue (s : State) (g : Nat) : Queue := Sparse.get {} s.hif.queues g

/-- A queue context changed. -/
def State.setQueue (s : State) (g : Nat) (q : Queue) : State :=
  { s with hif := { s.hif with queues := Sparse.set {} s.hif.queues g q } }

/-- Configuration of a queue (R316): enabled, kind, local ring, entries, base. -/
def State.qEn (s : State) (g : Nat) : Bool := s.fldI HIF_Q_CFG_en g == 1
def State.qKind (s : State) (g : Nat) : Nat := s.fldI HIF_Q_CFG_kind g
def State.qLoc (s : State) (g : Nat) : Bool := s.fldI HIF_Q_CFG_loc g == 1
def State.qSize (s : State) (g : Nat) : Nat := 2 ^ (max 4 (s.fldI HIF_Q_CFG_log2size g))
def State.qBase (s : State) (g : Nat) : Nat :=
  s.reg HIF_Q_BASE_LO g 0 / 64 * 64 + 2 ^ 32 * s.reg HIF_Q_BASE_HI g 0

/-- pos and lin of a ring index, the entries between head and tail, and the index after one (R317). -/
def ringPos (i : Nat) : Nat := i % 32768
def ringLin (size i : Nat) : Nat := i / 32768 * size + i % 32768
def ringCount (size head tail : Nat) : Nat := (ringLin size tail + 2 * size - ringLin size head) % (2 * size)
def ringNext (size i : Nat) : Nat :=
  if i % 32768 + 1 < size then i + 1 else (i / 32768 + 1) % 2 * 32768

/-- Entries held by a queue. -/
def State.qCount (s : State) (g : Nat) : Nat :=
  ringCount (s.qSize g) (s.queue g).head.toNat (s.queue g).tail.toNat

/-- The partition's enabled CQ (`kind` 1) or EQ (2) of a local number (R333, R339). -/
def State.ringOf (s : State) (p kind i : Nat) : Option Nat :=
  match s.gq p i with
  | some g => if s.qEn g && s.qKind g == kind then some g else none
  | none => none

/-- A local ring and its header lie in LOCAL_RING regions the partition owns (R319). -/
def State.localOk (s : State) (p g : Nat) : Bool :=
  s.storeUp && decide (64 ≤ s.qBase g) &&
    s.inOwn 8 p (s.qBase g - 64) (64 + s.qSize g * (if s.qKind g = 0 then 64 else 16))

/-- Puts a queue into ERROR (R321, R331) with its cause, and sets the partition's q_err. -/
def State.qError (s : State) (p g cause : Nat) : State :=
  (s.setQueue g { s.queue g with err := cause }).setFldP HIF_FLAGS_q_err p 1

/-- Adds to HIF_Q_CNT.dropped, saturating. -/
def State.qDrop (s : State) (g n : Nat) : State :=
  s.setQueue g { s.queue g with dropped := min 65535 ((s.queue g).dropped + n) }

/-! MSI-X. -/

/-- A vector is masked, by its own bit or by the function's (R342). -/
def State.vecMasked (s : State) (p vec : Nat) : Bool :=
  Sparse.get true s.hif.mask (2048 * p + vec) || Sparse.get false s.hif.fmask p

/-- A message of a queue falls due (R343): it is sent, or waits in the PBA; the queue waits for its head doorbell. -/
def State.msixDue (s : State) (p g : Nat) : State :=
  let vec := s.fldI HIF_Q_CFG_vector g
  let s := s.setQueue g { s.queue g with recs := 0, await := true }
  if s.vecMasked p vec then { s with hif := { s.hif with pba := Sparse.set false s.hif.pba (2048 * p + vec) true } }
  else s.emit (.msix p vec)

/-- A record has been written to a CQ or EQ: its message falls due by count, or at once with agg_time 0 (R343). -/
def State.announce (s : State) (p g : Nat) : State :=
  if s.fldI HIF_Q_CFG_msix_en g = 1 ∧ s.qLoc g = false then
    let q := s.queue g
    let q := { q with recs := q.recs + 1, recAt := if q.recs = 0 then s.now else q.recAt }
    let s := s.setQueue g q
    if q.await then s
    else if s.fldI HIF_Q_AGG_agg_time g = 0 ∨ max 1 (s.fldI HIF_Q_AGG_agg_cnt g) ≤ q.recs then s.msixDue p g
    else s
  else s

/-! Records. -/

/-- Bytes 0 to 15 of a completion or event record (R332, R337), with a phase bit. -/
def recordBytes (b01 b2 phase w4 tb : Nat) : List Byte :=
  leBytes 2 b01 ++ leBytes 1 b2 ++ leBytes 1 phase ++ leBytes 4 w4 ++ leBytes 8 tb

/-- A record written at a ring's tail, in the two writes of R335, and its tail advanced; a local ring whose area is not
in the partition's LOCAL_RING regions goes to ERROR with cause 3. -/
def State.writeRecord (s : State) (p g b01 b2 w4 tb : Nat) : State :=
  let q := s.queue g
  let phase := 1 - q.tail.toNat / 32768
  let a := s.qBase g + 16 * ringPos q.tail.toNat
  let next := BitVec.ofNat 16 (ringNext (s.qSize g) q.tail.toNat)
  let d := recordBytes b01 b2 phase w4 tb
  if s.qLoc g then
    if s.localOk p g then
      let s := s.ppaWrite a d
      let s := s.setQueue g { q with tail := next }
      s.ppaWrite (s.qBase g - 62) (leBytes 2 next.toNat)
    else s.qError p g 3
  else
    let s := { s with hif := { s.hif with hostMem := Sparse.write 0 s.hif.hostMem (2 ^ 64 * p + a) d } }
    let s := s.emit (.hostWrite p a (recordBytes b01 b2 (1 - phase) w4 tb))
    let s := s.emit (.hostWrite p (a + 3) (leBytes 1 phase))
    (s.setQueue g { q with tail := next }).announce p g

/-! Completions. -/

/-- A completion that has fallen due: written, kept while its CQ is full or in ERROR or older ones wait (R336), or
discarded and counted when its CQ is no longer enabled (R316). -/
def State.postCpl (s : State) (c : Cpl) : State :=
  match s.gq c.p c.cq with
  | none => s
  | some g =>
    if !(s.qEn g && s.qKind g == 1) then s.qDrop g 1
    else if (s.queue g).err ≠ 0 ∨ s.qCount g = s.qSize g ∨ s.hif.held.any (fun d => d.p == c.p && d.cq == c.cq) then
      { s with hif := { s.hif with held := s.hif.held ++ [c] } }
    else s.writeRecord c.p g c.tag.toNat c.status c.frame c.tb

/-- A descriptor completes with a status, a frame number and a TB (R332 to R334). -/
def State.complete (s : State) (r : Req) (status frame tb : Nat) : State :=
  if status = 0 ∧ r.h.flags.getLsbD 2 = false then s
  else s.postCpl { p := r.h.part, cq := r.h.cq.toNat, tag := r.h.tag, status := status, frame := frame % 2 ^ 32, tb := tb }

/-- A descriptor completes with the frame in force and the TB now (R334). -/
def State.done (s : State) (r : Req) (status : Nat) : State := s.complete r status s.frame s.now

/-- Descriptors completed together. -/
def State.doneAll (s : State) (rs : List Req) (status : Nat) : State :=
  rs.foldl (fun s r => s.done r status) s

/-! The statuses of R332. -/
def OK : Nat := 0
def LATE : Nat := 1
def FENCE_TIMEOUT : Nat := 2
def SUPERSEDED : Nat := 3
def INVALID : Nat := 4
def DENIED : Nat := 5
def NO_RESOURCE : Nat := 6
def ABORTED : Nat := 7
def DATA_ERROR : Nat := 8
def NOT_READY : Nat := 9

/-! Events. -/

/-- An EQ is treated as full at size − 1 (R341). -/
def State.eqFull (s : State) (g : Nat) : Bool := decide (s.qSize g - 1 ≤ s.qCount g)

/-- An event offered to a partition (R339): taken into its EQ, or dropped and counted when that is full (R341). -/
def State.offer (s : State) (code cls arg tb p : Nat) : State :=
  let k := code / 16 % 16
  if s.fldP (HIF_EVT_EQ_en k) p = 0 then s
  else
    match s.ringOf p 2 (s.fldP (HIF_EVT_EQ_eq k) p) with
    | none => s
    | some g =>
      if (s.queue g).err ≠ 0 then s
      else if s.eqFull g then
        let s := (s.qDrop g 1).setFldP HIF_FLAGS_evt_ovf p 1
        s.setQueue g { s.queue g with lost := min (2 ^ 31 - 1) ((s.queue g).lost + 1) }
      else s.writeRecord p g code cls arg tb

/-- An event posted at a given TB to each of the partitions once. -/
def State.postAt (s : State) (code cls arg tb : Nat) (ps : List Nat) : State :=
  ps.dedup.foldl (fun s p => s.offer code cls (arg % 2 ^ 32) tb p) s

/-- An event posted now. -/
def State.post (s : State) (code cls arg : Nat) (ps : List Nat) : State := s.postAt code cls arg s.now ps

/-! The error log. -/

/-- The bytes of a log entry (R434). -/
def logBytes (code cls rep arg tb frame detail n : Nat) : List Byte :=
  let b := leBytes 2 code ++ leBytes 1 cls ++ leBytes 1 rep ++ leBytes 4 arg ++ leBytes 8 tb ++ leBytes 4 frame ++
    leBytes 4 detail ++ leBytes 4 n
  b ++ leBytes 4 (crc32c b)

/-- NVS offset of log entry `n`. -/
def logOff (n : Nat) : Nat := 0x8000 + n % 1024 * 32

/-- The newest entry, if it has this code, class and argument and is at most 1 s old (R435). -/
def State.sameLog (s : State) (code cls arg : Nat) (t : Ns) : Option LogLast :=
  match s.cal.last with
  | some e => if e.code = code ∧ e.cls = cls ∧ e.arg = arg ∧ t ≤ e.tb + 1000000000 then some e else none
  | none => none

/-- An entry gathered for the error log (R434 to R436): folded into the newest within 1 s if code, class and argument
are the same; an entry overwritten unread adds to the overflow total and posts LOG_OVERFLOW, once a second at most. -/
def State.logAt (s : State) (code cls arg detail : Nat) (t : Ns) (frame : Nat) : State :=
  match s.sameLog code cls arg t with
  | some e =>
    let n := (s.fld CAL_LOG_NEXT_n + 2 ^ 32 - 1) % 2 ^ 32
    let r := min 255 (e.rep + 1)
    let s := { s with cal := { s.cal with last := some { e with rep := r } } }
    s.gather { key := 0, off := logOff n, req := none, data := logBytes code cls r arg e.tb e.frame e.detail n }
  | none =>
    let n := s.fld CAL_LOG_NEXT_n
    let unread := decide (1024 ≤ n) && decide (s.fld CAL_LOG_ACK_n ≤ n - 1024)
    let s := { s with cal := { s.cal with last := some { code, cls, arg, tb := t, rep := 0, frame := frame, detail } } }
    let s := s.setFld CAL_LOG_NEXT_n (n + 1)
    let s := s.gather { key := 0, off := logOff n, req := none, data := logBytes code cls 0 arg t frame detail n }
    if unread then
      let s := s.addSat CAL_LOG_OVF_count 0 0 1
      let lost := min (2 ^ 31 - 1) (s.cal.lost + 1)
      let due := match s.cal.lostAt with
        | some t => decide (t + 1000000000 ≤ s.now)
        | none => true
      if due then
        ({ s with cal := { s.cal with lost := 0, lostAt := some s.now } }).post 0x90 0x12 lost [s.owner]
      else { s with cal := { s.cal with lost := lost } }
    else s

/-- An entry of now; while the SVC restarts it waits (R18). -/
def State.log (s : State) (code cls arg detail : Nat) : State :=
  if s.cal.restarting then
    { s with cal := { s.cal with notes := s.cal.notes ++ [(code, cls, arg, detail, s.now, s.frame)] } }
  else s.logAt code cls arg detail s.now s.frame

/-- An event to the OWNER alone (R339). -/
def State.raise (s : State) (code cls arg : Nat) : State := s.post code cls arg [s.owner]

/-- An event to the OWNER that the SVC also logs (R434). -/
def State.raiseLog (s : State) (code cls arg : Nat) : State := (s.raise code cls arg).log code cls arg 0

/-- The partition that holds the SAFETY role, if one does (R451). -/
def State.safetyPart (s : State) : List Nat :=
  if s.fld SEC_ROLE_safety_state = 2 then [s.fld SEC_ROLE_safety] else []

/-- A raster event offered to every partition whose SCN_EVT_EN enables it (R339). -/
def State.postRaster (s : State) (code arg tb : Nat) (en : Fld) : State :=
  s.postAt code 0x07 arg tb ((List.range 4).filter (fun p => s.fldP en p == 1))

end Sys2Proof.Machine
end

