-- ==== Sys2Proof/Machine/Timing.lean ====
section
/-! DEFINITION. Raster timing (R156 to R164): the parameters in force, target instants, the end of a frame, the phase
error, and bridges. Raster times are in units of 1/256 ns. -/

namespace Sys2Proof.Machine

open Sys2Proof Reg

/-- The timing parameters of R156 and R39. -/
structure Timing where
  vsync : Nat
  vback : Nat
  vactive : Nat
  vfront : Nat
  lt : Nat
  lock : Nat
  div : Nat
  phase : Nat
  doubleRow : Nat
  shutCfg : Nat
  shutOff : List Nat
  deriving DecidableEq, Repr

/-- The parameters in force. -/
def State.timing (s : State) : Timing where
  vsync := s.fld SCN_VSYNC_VBACK_vsync
  vback := s.fld SCN_VSYNC_VBACK_vback
  vactive := s.fld SCN_VACTIVE_VFRONT_vactive
  vfront := s.fld SCN_VACTIVE_VFRONT_vfront
  lt := s.fld SCN_LINE_TIME_lt
  lock := s.fld SCN_SYNC_CFG_lock
  div := s.fld SCN_SYNC_CFG_div
  phase := s.fld SCN_PHASE_offset
  doubleRow := s.fld PNL_PANEL_double_row
  shutCfg := s.fld TBS_SHUT_CFG_ref + 4 * s.fld TBS_SHUT_CFG_slots
  shutOff := (List.range 4).map (fun k => s.fld (TBS_SHUT_OFFSET_offset k))

/-- What R39 compares: line time, the four vertical counts, the lock selection (with lock 2 the SHUTTER_IN it selects), the phase
offset (with lock 2 that input's, R63) and double-row drive. -/
def Timing.key (t : Timing) : List Nat :=
  [t.lt, t.vactive, t.vfront, t.vsync, t.vback, t.lock, t.phase, t.doubleRow] ++
    (if t.lock = 2 then [t.shutCfg % 4, t.shutOff.getD (t.shutCfg % 4) 0] else [])

/-- The two timings differ in a parameter of R39: a timing change. -/
def Timing.changed (t u : Timing) : Bool := t.key != u.key

/-- T, the programmed lines (R156). -/
def Timing.lines (t : Timing) : Nat := t.vsync + t.vback + t.vactive + t.vfront

/-- The first active line. -/
def Timing.firstActive (t : Timing) : Nat := t.vsync + t.vback

/-- The first VFRONT line. -/
def Timing.firstFront (t : Timing) : Nat := t.vsync + t.vback + t.vactive

/-- The latch line (R156). -/
def State.latchLine (s : State) : Nat :=
  if s.fld SCN_LATCH_LINE_auto = 1 then s.timing.firstFront else s.fld SCN_LATCH_LINE_line

/-- m of R156: the most programmed lines trim omits from one frame. -/
def trimMax (t : Nat) : Nat := (2 * t + 9999) / 10000

/-- TB of a raster time, rounded down to the PCLK cycle in which it falls (R157): a PCLK cycle is 0.625 ns. -/
def rasterTb (x : Nat) : Ns := x / 160 * 160 / 256

/-- The DPLL's nominal input period P, in units of 2^-16 ns (R48). -/
def State.period16 (s : State) : Nat := s.fld TBS_SYNC_PERIOD_period * 65536 + s.fld TBS_SYNC_PERIOD_FRAC_frac

/-- n of R161. -/
def State.framesPer (s : State) (t : Timing) : Nat :=
  if t.lock = 2 then max 1 (s.fld TBS_SHUT_CFG_slots) else t.div + 1

/-- Tf of R161. -/
def State.tf (s : State) (t : Timing) : Nat := s.period16 / (256 * s.framesPer t)

/-- O of R161, in units of 2^-16 ns. -/
def State.offset16 (s : State) (t : Timing) : Nat :=
  if t.lock = 2 then s.period16 - t.shutOff.getD (t.shutCfg % 4) 0 * 65536 else t.phase * 65536

/-- The part of the correction being absorbed that TB has taken up by `t` (R51). -/
def State.absorbed (s : State) (t : Ns) : Int :=
  if s.tbs.slewEnd ≤ t then s.tbs.slewLeft
  else (s.tbs.slewLeft * ((t - s.tbs.slewAt : Nat) : Int)).tdiv ((s.tbs.slewEnd - s.tbs.slewAt : Nat) : Int)

/-- The last reference instant (R161), moved by what TB has absorbed of a correction (R50). -/
def State.refInstant (s : State) : Ns := ((s.tbs.refAt.getD 0 : Int) + s.absorbed s.now).toNat

/-- The first target instant (R161) at or after `x`, for the reference instant last seen. -/
def State.targetFrom (s : State) (t : Timing) (x : Nat) : Nat :=
  let n := s.framesPer t
  let a : Int := ((s.refInstant * 65536 + s.offset16 t) * n : Nat)
  let p : Int := max 1 s.period16
  let j := ((x : Int) * (256 * n) - a + p - 1) / p
  ((a + j * p) / (256 * n)).toNat

/-- The target instant nearest to `x`. -/
def State.targetNear (s : State) (t : Timing) (x : Nat) : Nat := s.targetFrom t (x - s.tf t / 2)

/-- The DPLL steers the raster: LOCKED or HOLDOVER with src 1 (R161). -/
def State.dpllOn (s : State) : Bool :=
  s.fld TBS_CTRL_src == 1 && (s.fld TBS_DPLL_STATUS_state == 2 || s.fld TBS_DPLL_STATUS_state == 3) && s.tbs.refAt.isSome

/-- Steady stretch lines (R156, R158): in LAYBY, but none on an LCD panel while a REGION_UPDATE runs (R215). -/
def State.steadyStretch (s : State) : Nat :=
  if s.mode = 8 then
    if s.fld PNL_PANEL_type = 0 ∧ s.odv.regions.any (fun r => r.eff.isSome) then 0 else s.fld SCN_STRETCH_lines
  else 0

/-- The end of the frame in progress: fixed by a bridge; at the next target instant when at phase (R162); pulled by at
most 100 ppm of Tf toward it (R163); else after its programmed and stretch lines (R159). -/
def State.planEnd (s : State) : Nat :=
  if s.scn.fixedEnd then s.scn.endAt
  else
    let t := s.timing
    let f := s.scn.frameAt
    let tf := s.tf t
    let ls := s.fld SCN_STATUS_lock_state
    if ls = 2 ∧ t.lock ≠ 0 then s.targetFrom t (f + tf / 2)
    else if ls = 1 ∧ t.lock ≠ 0 then
      let e := (f : Int) - s.targetNear t f
      (f + tf - clampInt (-(tf / 10000)) (tf / 10000) e).toNat
    else f + (s.scn.total + s.scn.stretch) * s.scn.lt

/-- Line `k` of the frame is its last: what is left from its start is at most 1.5 line times, and trim omits at most m
programmed lines (R162). -/
def State.isLast (s : State) (k : Nat) : Bool :=
  let rem := s.scn.endAt - (s.scn.frameAt + k * s.scn.lt)
  decide (s.scn.total ≤ k + 1 + trimMax s.scn.total) &&
    (decide (2 * rem < 3 * s.scn.lt) || (decide (2 * rem = 3 * s.scn.lt) && decide (s.scn.total ≤ k + 1)))

/-- The end of the frame and the next line start planned anew. -/
def State.replan (s : State) : State :=
  if s.scn.idx = 0 ∧ s.scn.lt = 0 then s
  else
    let s := { s with scn := { s.scn with endAt := s.planEnd } }
    let l := s.isLast s.scn.idx
    { s with scn := { s.scn with
        last := l, nextAt := if l then s.scn.endAt else s.scn.frameAt + (s.scn.idx + 1) * s.scn.lt } }

/-- SYNC_LOCK's and SYNC_LOSS's input: 0 SYNC_IN, 1 + k SHUTTER_IN[k] in SHUTTER (R62, R65). -/
def State.dpllInput (s : State) : Nat := if s.mode = 4 then 1 + s.fld TBS_SHUT_CFG_ref else 0

/-- SYNC_LOCK of kind 1 (R65). -/
def State.postSyncLock (s : State) : State := s.raise 0x20 0x02 (256 + s.dpllInput)

/-- SYNC_LOSS of kind 1 (R65). -/
def State.postSyncLoss (s : State) : State := s.raise 0x21 0x02 (256 + s.dpllInput)

/-- The bridge rule (R164) run at the end `e` of the last old frame: bridges and their stretch lines. -/
structure BridgePlan where
  bridges : Nat
  start : Nat
  s : Nat
  lost : Bool
  deriving DecidableEq, Repr

/-- The rule's inner loop: targets stepped by Tf until `lo` is reached. -/
def stepTarget : Nat → Nat → Nat → Nat → Nat
  | 0, t, _, _ => t
  | fuel + 1, t, tf, lo => if t < lo then stepTarget fuel (t + tf) tf lo else t

/-- R164's arithmetic. -/
def bridgeRule (e fo line tf t0 : Nat) : BridgePlan :=
  let h := line / 2
  if t0 ≤ e + h then { bridges := 0, start := t0, s := 0, lost := false }
  else
    let t := stepTarget (fo / max 1 tf + 2) t0 tf (e + fo - h)
    let b := if t ≤ e + 2 * fo + h then 1 else 2
    if t ≤ e + 4 * fo + h then
      { bridges := b, start := t, s := (t + h - e - b * fo) / max 1 line, lost := false }
    else { bridges := 2, start := e + 2 * fo, s := 0, lost := true }

/-- A bridge to the timing `new` planned after the frame in progress (R40, R164). -/
def State.planBridge (s : State) (new : Timing) : State :=
  let e := s.scn.endAt
  let p := bridgeRule e (s.scn.total * s.scn.lt) s.scn.lt (s.tf new) (s.targetFrom new (e - s.scn.lt / 2))
  if p.bridges = 0 then
    let br : Bridge := { left := [], start := some p.start, lost := false }
    ({ s with scn := { s.scn with endAt := p.start, fixedEnd := true, bridge := some br } }).replan
  else
    let left := if p.bridges = 1 then [p.s] else [p.s - p.s / 2, p.s / 2]
    let br : Bridge := { left := left, start := if p.lost then none else some p.start, lost := p.lost }
    { s with scn := { s.scn with bridge := some br, fixedEnd := true } }

/-- The frame in progress starts at its target instant: both fall in one PCLK cycle (R163). -/
def State.atTarget (s : State) : Bool := s.scn.frameAt / 160 == s.targetNear s.timing s.scn.frameAt / 160

/-- The length of the frames that follow the one in progress: Tf while the raster is locked, the programmed length else. -/
def State.frameLen (s : State) (t : Timing) : Nat :=
  if s.fld SCN_STATUS_lock_state = 0 then max 1 (t.lines * t.lt) else max 1 (s.tf t)

/-- The start of the frame nearest `x`: of the one in progress, or of one that follows it. -/
def State.frameNear (s : State) (t : Timing) (x : Nat) : Nat :=
  let a := s.scn.frameAt
  let e := s.scn.endAt
  if 2 * x ≤ a + e then a else if x ≤ e then e else e + (2 * (x - e) + s.frameLen t) / (2 * s.frameLen t) * s.frameLen t

/-- The phase error of R163 in units of 1/256 ns: the start of the frame nearest r_j + O, less r_j + O. -/
def State.phaseErr (s : State) (t : Timing) : Int :=
  let x := (s.refInstant * 65536 + s.offset16 t) / 256
  (s.frameNear t x : Int) - x

/-- A reference instant derived from a valid edge while the DPLL is LOCKED: the phase error is measured and shown, and acted on
(R163) unless a bridge is planned or runs, which brings the raster to its phase by itself. An error within a PCLK cycle counts
as 0: the raster that has not been at phase is so at once. -/
def State.measure (s : State) : State :=
  let t := s.timing
  if s.running && s.scn.starting.isNone && t.lock != 0 then
    let e := s.phaseErr t
    let s := s.setFld SCN_PHASE_ERR_e (unsigned 32 (clampInt (-2 ^ 31) (2 ^ 31 - 1) (e / 256)))
    if s.scn.bridge.isSome ∨ s.fld SCN_STATUS_lock_state = 3 then s
    else if 20000 * 256 < e.natAbs then s.planBridge t
    else if 160 ≤ e.natAbs then (s.setFld SCN_STATUS_lock_state 1).replan
    else if s.fld SCN_STATUS_lock_state = 0 then ((s.setFld SCN_STATUS_lock_state 2).postSyncLock).replan
    else s.replan
  else s

end Sys2Proof.Machine
end

