-- ==== Sys2Proof/Machine/Timebase.lean ====
section
/-! DEFINITION. The timebase (R45 to R54), the DPLL (R48 to R50), host corrections (R51), TB load and snapshots (R52, R66),
SYNC_OUT (R54) and shutter lock (R62 to R64). -/

namespace Sys2Proof.Machine

open Sys2Proof Reg

/-! The counter. -/

/-- One part per million, in the units of TBS_FREQ_EST (0.01 ppb). -/
def ppm : Int := 100000

/-- The slew term of f (R46, R51). -/
def State.slewTerm (s : State) : Int :=
  let r : Int := (max 1 (s.fld TBS_SLEW_rate) : Nat) * ppm
  if 0 < s.tbs.slewLeft then r else if s.tbs.slewLeft < 0 then -r else 0

/-- f of R46, held to ±1,100 ppm: the DPLL's term, the host's while src is 2 (R51), and the slew. -/
def State.freqTerm (s : State) : Int :=
  let dpll := if s.fld TBS_DPLL_STATUS_state = 0 then 0 else s.tbs.freq
  let host := if s.fld TBS_CTRL_src = 2 then signed 32 (s.fld TBS_FREQ_ADJ_adj) else 0
  clampInt (-1100 * ppm) (1100 * ppm) (dpll + host + s.slewTerm)

/-- INC of R46, in units of 2^-32 ns. -/
def State.inc (s : State) : Nat := (roundDiv (0xD5555555 * (100000000000 + s.freqTerm)) 100000000000).toNat

/-- One ECLK cycle: INC is added to TB:TB_FRAC (R46). In deep sleep the timebase, which lies in the SVC domain (R385), stands. -/
def tick (s : State) : State :=
  if s.inReset ∨ 6 ≤ s.pwr.deep then s else
  let v := s.tb.toNat * 2 ^ 32 + s.tbFrac.toNat + s.inc
  { s with tb := BitVec.ofNat 64 (v / 2 ^ 32), tbFrac := BitVec.ofNat 32 v }

/-! SYNC_OUT (R54). -/

/-- A SYNC_OUT pulse at `t`, if TBS_OUT_CFG.sel chooses this source. -/
def State.syncPulse (s : State) (sel : Nat) (t : Ns) : State :=
  if s.fld TBS_OUT_CFG_sel = sel then s.emit (.syncOut t (100 * s.fld TBS_OUT_CFG_width) (s.fld TBS_OUT_CFG_pol == 0)) else s

/-- TBS_OUT_CFG has changed from `old`: the inactive level follows its polarity (R54), and whole seconds count from now on. -/
def State.outFollow (s old : State) : State :=
  let s := if s.fld TBS_OUT_CFG_pol = old.fld TBS_OUT_CFG_pol then s else s.emit (.pin "SYNC_OUT" 0 (s.fld TBS_OUT_CFG_pol == 1))
  if s.fld TBS_OUT_CFG_sel = old.fld TBS_OUT_CFG_sel then s else { s with tbs := { s.tbs with outAt := s.now, outDue := [] } }

/-! The DPLL (R48 to R50). -/

/-- The DPLL's reference moved by `d`: its last valid edge and the raster's reference instant (R50). -/
def State.moveRef (s : State) (d : Int) : State :=
  let mv (x : Option Ns) : Option Ns := x.map (fun t => ((t : Int) + d).toNat)
  { s with tbs := { s.tbs with lastEdge := mv s.tbs.lastEdge, refAt := mv s.tbs.refAt } }

/-- TB has absorbed a correction up to `t`: the DPLL's reference has moved with it (R50), and the slew ends with the last
of it (R51). -/
def State.absorb (s : State) (t : Ns) : State :=
  if s.tbs.slewLeft = 0 then s
  else
    let a := s.absorbed t
    let s := s.moveRef a
    let s := { s with tbs := { s.tbs with slewLeft := s.tbs.slewLeft - a, slewAt := max s.tbs.slewAt t } }
    if s.tbs.slewLeft = 0 then s.setFld TBS_DPLL_STATUS_slewing 0 else s

/-- TBS_SLEW.rate has changed: what is left of the correction is absorbed at the new rate (R51). -/
def State.slewFollow (s : State) : State :=
  let s := s.absorb s.now
  if s.tbs.slewLeft = 0 then s
  else
    { s with tbs := { s.tbs with
        slewAt := s.now, slewEnd := s.now + s.tbs.slewLeft.natAbs * 1000000 / max 1 (s.fld TBS_SLEW_rate) } }

/-- While the DPLL is in FREE or ACQUIRE the raster runs free with lock_state 0 (R161); bridge frames that run are not cut. -/
def State.unlockRaster (s : State) : State :=
  if s.fld SCN_STATUS_lock_state = 1 ∨ s.fld SCN_STATUS_lock_state = 2 then (s.setFld SCN_STATUS_lock_state 0).replan else s

/-- The DPLL enters ACQUIRE: the next accepted edge is valid (R48, R49). -/
def State.acquire (s : State) : State :=
  let s := (s.setFld TBS_DPLL_STATUS_state 1).unlockRaster
  { s with tbs := { s.tbs with fresh := true, validRun := 0, lockRun := 0, missRun := 0 } }

/-- The DPLL enters FREE: no frequency term (R49). -/
def State.dpllFree (s : State) : State :=
  let s := (s.setFld TBS_DPLL_STATUS_state 0).unlockRaster
  { s with tbs := { s.tbs with freq := 0, freqHist := [], lastEdge := none, refAt := none, fresh := true, validRun := 0, lockRun := 0, missRun := 0 } }

/-- The DPLL runs: src is 1 and dpll_en is set. -/
def State.dpllEn (s : State) : Bool := s.fld TBS_CTRL_src == 1 && s.fld TBS_CTRL_dpll_en == 1

/-- What the DPLL's set-up has changed from `old` (R49): it starts, stops, or acquires anew when its period or its input
changes. -/
def State.dpllFollow (s old : State) : State :=
  if !s.dpllEn then if s.fld TBS_DPLL_STATUS_state = 0 then s else s.dpllFree
  else if !old.dpllEn || s.period16 != old.period16 || s.dpllInput != old.dpllInput then s.acquire
  else s

/-- The window of an expected instant, in units of 2^-16 ns. -/
def State.window16 (s : State) : Nat := s.fld TBS_DPLL_CFG_window * 1000 * 65536

/-- An accepted edge's whole periods since the last valid edge, and its distance from that instant in units of 2^-16 ns. -/
def State.edgeErr (s : State) (t : Ns) : Int × Int :=
  let p : Int := max 1 s.period16
  let d : Int := ((t : Int) - s.tbs.lastEdge.getD 0) * 65536
  let k := roundDiv d p
  (k, d - k * p)

/-- An accepted edge is valid (R48). -/
def State.edgeValid (s : State) (t : Ns) : Bool :=
  s.tbs.fresh || s.tbs.lastEdge.isNone ||
    (decide (1 ≤ (s.edgeErr t).1) && decide ((s.edgeErr t).2.natAbs ≤ s.window16))

/-- The DPLL's frequency term after a valid edge: the spec bounds it by ±100 ppm and leaves the loop open (R49). -/
def State.pullFreq (s : State) : State :=
  let (v, s) := s.draw 20000001
  let f : Int := (v : Int) - 10000000
  { s with tbs := { s.tbs with freq := f, freqHist := (f :: s.tbs.freqHist).take 64 } }

/-- A valid edge's phase error is shown, and counted toward lock and return (R49). In HOLDOVER it makes no reference instant:
those go on from the last one (R50). The run toward lock remembers its first edge and the nominal periods since. DESIGN CHOICE
(log 13): the phase error is the edge's distance from the last valid edge plus whole nominal periods; the spec does not define
it. -/
def State.noteEdge (s : State) (t : Ns) : State :=
  let first := s.tbs.fresh || s.tbs.lastEdge.isNone
  let e : Int := if first then 0 else (s.edgeErr t).2 / 65536
  let k : Nat := if first then 0 else (s.edgeErr t).1.toNat
  let near := !first && decide (e.natAbs ≤ s.fld TBS_DPLL_CFG_lock_thr * 10)
  let s := s.setFld TBS_DPLL_STATUS_phase_err (unsigned 16 (clampInt (-32768) 32767 e))
  { s with tbs := { s.tbs with
      lastEdge := some t, refAt := if s.fld TBS_DPLL_STATUS_state = 3 then s.tbs.refAt else some t, periods := 0, fresh := false, missRun := 0, validRun := s.tbs.validRun + 1
      lockRun := if near then s.tbs.lockRun + 1 else 0
      runAt := if near ∧ s.tbs.lockRun ≠ 0 then s.tbs.runAt else t
      runPer := if near ∧ s.tbs.lockRun ≠ 0 then s.tbs.runPer + k else 0 } }

/-- The input lies within ±100 ppm of its nominal period, from the first edge of the run toward lock to the last (R49). -/
def State.inRange (s : State) : Bool :=
  let d : Int := (((s.tbs.lastEdge.getD 0 : Nat) : Int) - s.tbs.runAt) * 65536 - s.tbs.runPer * s.period16
  decide (d.natAbs * 10000 ≤ s.tbs.runPer * s.period16 + 10000 * 65536)

/-- Sixteen edges within lock_thr of an input outside ±100 ppm lock nothing: the run starts anew (R49). -/
def State.restartRun (s : State) : State :=
  { s with tbs := { s.tbs with lockRun := 0, runAt := s.tbs.lastEdge.getD 0, runPer := 0 } }

/-- The DPLL reaches LOCKED: SYNC_LOCK kind 0, and the coarse mark clears (R49, R53). -/
def State.dpllLocked (s : State) : State :=
  ((s.setFld TBS_DPLL_STATUS_state 2).setFld TBS_DPLL_STATUS_coarse 0).raise 0x20 0x02 s.dpllInput

/-- An accepted edge of the DPLL's input, stamped `t` (R48, R49, R163). An invalid one ends a run of consecutive valid
edges. -/
def State.dpllEdge (s : State) (t : Ns) : State :=
  if !s.dpllEn then s
  else
  let s := s.absorb t
  if s.edgeValid t then
    let s := s.noteEdge t
    let s := if s.fld TBS_OUT_CFG_sel = 2 ∧ s.dpllInput = 0 then
        { s with tbs := { s.tbs with outDue := s.tbs.outDue ++ [t + 1000] } } else s
    match s.fld TBS_DPLL_STATUS_state with
    | 3 => if 4 ≤ s.tbs.validRun then s.acquire else s
    | 2 => s.pullFreq.measure
    | _ =>
      if s.tbs.lockRun < 16 then s.pullFreq
      else if s.inRange then s.pullFreq.dpllLocked.measure
      else s.restartRun.pullFreq
  else { s with tbs := { s.tbs with validRun := 0, lockRun := 0 } }

/-- The mean of the last valid edges' frequency terms (R49). -/
def meanFreq (l : List Int) : Int := if l.isEmpty then 0 else l.foldl (· + ·) 0 / l.length

/-- An expected period ends without a valid edge: it counts once as missed (R48); miss_count of them in LOCKED enter
HOLDOVER (R49). -/
def State.periodMissed (s : State) : State :=
  match s.tbs.lastEdge with
  | some t0 =>
    if s.dpllEn && !s.tbs.fresh then
      let k := s.tbs.periods + 1
      let s := s.reach (t0 + (k * s.period16 + s.window16) / 65536)
      let s := { s with tbs := { s.tbs with periods := k, missRun := s.tbs.missRun + 1, validRun := 0, lockRun := 0 } }
      if s.fld TBS_DPLL_STATUS_state = 2 ∧ max 1 (s.fld TBS_DPLL_CFG_miss_count) ≤ s.tbs.missRun then
        let s := s.setFld TBS_DPLL_STATUS_state 3
        ({ s with tbs := { s.tbs with freq := meanFreq s.tbs.freqHist } }).raise 0x21 0x02 s.dpllInput
      else s
    else s
  | none => s

/-! Host corrections (R51). -/

/-- TBS_FREQ_ADJ takes a new value, saturating at ±100 ppm. -/
def State.adjFreq (s : State) (v : Nat) : State :=
  s.setFld TBS_FREQ_ADJ_adj (unsigned 32 (clampInt (-100 * ppm) (100 * ppm) (signed 32 v)))

/-- A phase correction takes effect: a step when positive and at least step_min, else a slew of |Δ| ÷ rate; it replaces
what remains of an earlier one, and the DPLL's reference moves by it as TB takes it up (R50, R51, R53). -/
def State.adjPhase (s : State) (v : Nat) : State :=
  let d := signed 32 v
  let s := s.absorb s.now
  let s := s.setFld TBS_PHASE_ADJ_delta v
  let s := s.setFld TBS_DPLL_STATUS_coarse 0
  let s := { s with tbs := { s.tbs with slewLeft := 0 } }
  if 0 < d ∧ (s.fld TBS_SLEW_step_min * 1000 : Nat) ≤ d then
    let t : State := { s.moveRef d with tb := s.tb + BitVec.ofInt 64 d }
    ({ t with tbs := { t.tbs with stepped := true, outAt := max t.tbs.outAt t.now } }).setFld TBS_DPLL_STATUS_slewing 0
  else if d = 0 then s.setFld TBS_DPLL_STATUS_slewing 0
  else
    let e := s.now + d.natAbs * 1000000 / max 1 (s.fld TBS_SLEW_rate)
    { s with tbs := { s.tbs with slewLeft := d, slewEnd := e, slewAt := s.now } }.setFld TBS_DPLL_STATUS_slewing 1

/-- Raster and reference instants, and the correction being absorbed, moved with a load of TB. -/
def State.shiftTimes (s : State) (d : Int) : State :=
  let mv (x : Nat) : Nat := ((x : Int) + 256 * d).toNat
  { s with
    scn := { s.scn with
      frameAt := mv s.scn.frameAt, endAt := mv s.scn.endAt, lineAt := mv s.scn.lineAt
      nextAt := mv s.scn.nextAt, starting := s.scn.starting.map mv }
    tbs := { (s.moveRef d).tbs with
      slewAt := ((s.tbs.slewAt : Int) + d).toNat, slewEnd := ((s.tbs.slewEnd : Int) + d).toNat } }

/-- A write of 1 to TBS_TB_LOAD_GO.go (R52). -/
def State.loadTb (s : State) : State :=
  if s.mode = 10 ∧ s.tbs.armed = [] ∧ s.locked = false then
    let v := s.addr TBS_TB_LOAD_LO TBS_TB_LOAD_HI
    let s := s.shiftTimes ((v : Int) - s.now)
    { s with tb := BitVec.ofNat 64 v, tbFrac := 0, tbs := { s.tbs with outAt := v } }
  else s.setFlag TBS_DPLL_STATUS_load_refused

/-- A write of 1 to TBS_SNAP.take by partition `p` (R66). -/
def State.takeSnap (s : State) (p : Nat) : State :=
  let t := s.now
  let fr := s.frame
  let s := s.setReg TBS_SNAP_TB_LO 0 p (t % 2 ^ 32)
  let s := s.setReg TBS_SNAP_TB_HI 0 p (t / 2 ^ 32)
  let s := s.setReg TBS_SNAP_FRAC 0 p s.tbFrac.toNat
  s.setReg TBS_SNAP_FRAME 0 p fr

/-! Shutter inputs (R62 to R64). -/

/-- The view of a slot: 0xF repeats the previous slot's (R63). -/
def State.viewOf (s : State) : Nat → Nat
  | 0 => bits (s.fld TBS_SHUT_MAP_view) 3 0
  | k + 1 =>
    let v := s.fld TBS_SHUT_MAP_view / 2 ^ (4 * (k + 1)) % 16
    if v = 15 then s.viewOf k else v

/-- The first slot that shows view `k`, if any does (R63). -/
def State.slotOf (s : State) (k : Nat) : Option Nat :=
  (List.range (max 1 (s.fld TBS_SHUT_CFG_slots))).find? (fun q => s.viewOf q == k)

/-- A shutter input. -/
def State.shutter (s : State) (k : Nat) : Shutter := Sparse.get {} s.tbs.shut k

/-- A shutter input changed. -/
def State.setShutter (s : State) (k : Nat) (x : Shutter) : State :=
  { s with tbs := { s.tbs with shut := Sparse.set {} s.tbs.shut k x } }

/-- An input is enabled (TBS_SHUT_CFG.en). -/
def State.shutEn (s : State) (k : Nat) : Bool := (s.fld TBS_SHUT_CFG_en).testBit k

/-- The start of the display period in progress, in units of 1/256 ns: slot 0's frame. -/
def State.slot0At (s : State) : Nat :=
  s.scn.frameAt - s.scn.slot * (s.period16 / 256 / max 1 (s.fld TBS_SHUT_CFG_slots))

/-- How far an edge at `t` lies from its expected time, ns; from one period after the last edge for an input whose view
is in no slot (R63, R64). -/
def State.shutErr (s : State) (k : Nat) (t : Ns) : Int :=
  let p : Int := max 1 (s.period16 / 65536)
  let x : Int := match s.slotOf k with
    | some q => ((s.slot0At + q * (s.period16 / 256 / max 1 (s.fld TBS_SHUT_CFG_slots))) / 256 + s.fld (TBS_SHUT_OFFSET_offset k) : Nat)
    | none => (s.shutter k).lastEdge.getD t
  let d := (t : Int) - x
  d - roundDiv d p * p

/-- All enabled inputs in tolerance for 16 consecutive periods set their bits and post SHUTTER_LOCK (R64, R65). -/
def State.shutLock (s : State) : State :=
  let en := s.fld TBS_SHUT_CFG_en
  let old := s.fld TBS_SHUT_STATUS_locked
  if (List.range 4).all (fun k => !s.shutEn k || decide (16 ≤ (s.shutter k).inRun)) && old != en then
    (s.setFld TBS_SHUT_STATUS_locked en).raise 0x22 0x02 en
  else s

/-- The window of an expected instant `x` of SHUTTER_IN[k] has already been judged: the same period does not count twice (R64). -/
def State.shutJudged (s : State) (k : Nat) (x : Int) : Bool :=
  match (s.shutter k).judged with
  | some y => decide (2 * (x - y) ≤ (s.period16 / 65536 : Nat))
  | none => false

/-- An accepted edge of SHUTTER_IN[k], tested against its expected time if the input is enabled (R64): the first edge in
tolerance counts its period; one out of tolerance ends the run of periods in tolerance. -/
def State.shutTest (s : State) (k : Nat) (t : Ns) : State :=
  let e := s.shutErr k t
  let x := s.shutter k
  if s.shutEn k = false then s
  else if s.fld TBS_SHUT_TOL_tol * 10 < e.natAbs then s.setShutter k { x with lastEdge := some t, inRun := 0 }
  else if s.shutJudged k (t - e) then s.setShutter k { x with lastEdge := some t }
  else (s.setShutter k { x with lastEdge := some t, judged := some (t - e), inRun := x.inRun + 1, outRun := 0 }).shutLock

/-- An accepted edge of SHUTTER_IN[k]; the reference input is the DPLL's (R62). -/
def State.shutEdge (s : State) (k : Nat) (t : Ns) : State :=
  let s := s.shutTest k t
  if s.dpllInput = 1 + k then s.dpllEdge t else s

/-- The tolerance window of SHUTTER_IN[k] ends without an edge in it: the period counts toward loss of lock (R64). -/
def State.shutWindowEnd (s : State) (k : Nat) : State :=
  let x := s.shutter k
  let p : Int := max 1 (s.period16 / 65536)
  let s := s.setShutter k { x with judged := x.judged.map (· + p), inRun := 0, outRun := x.outRun + 1 }
  let old := s.fld TBS_SHUT_STATUS_locked
  if 4 ≤ x.outRun + 1 ∧ old.testBit k then
    (s.setFld TBS_SHUT_STATUS_locked (old - 2 ^ k)).raise 0x22 0x02 (old - 2 ^ k + 16 * 2 ^ k)
  else s

/-! Commands. -/

/-- SYNC_IN_EDGE (R48): a pulse shorter than 50 ns, and an edge that is not of the polarity of sync_edge, is ignored; in SHUTTER
the DPLL's input is a SHUTTER_IN. -/
def execSyncInEdge (e : Edge) (width : Ns) (s : State) : Host.Outcome State Fault Refusal :=
  if width < 50 then .next s
  else
    let s : State := { s with pwr := { s.pwr with syncHigh := e.rising } }
    if e.rising = (s.fld TBS_CTRL_sync_edge == 1) then .next s
    else
      let s := s.reach (e.stamp + 50)
      .next (if s.dpllInput = 0 then s.dpllEdge e.stamp else s)

/-- SYNC_PERIOD_END (R48). -/
def execSyncPeriodEnd (s : State) : Host.Outcome State Fault Refusal := .next (s.absorb s.now).periodMissed

/-- SHUTTER_IN_EDGE (R62, R64), in SHUTTER, of the polarity that TBS_SHUT_CFG.edge gives the input: the reference is the DPLL's
input, enabled or not, since R62 does not ask its en bit (DEDUCED, log entry 13); an enabled input is watched. -/
def execShutterInEdge (k : Nat) (e : Edge) (width : Ns) (s : State) : Host.Outcome State Fault Refusal :=
  if width < 50 ∨ s.mode ≠ 4 ∨ e.rising = (s.fld TBS_SHUT_CFG_edge).testBit k then .next s
  else .next ((s.reach (e.stamp + 50)).shutEdge k e.stamp)

/-- SHUTTER_WINDOW_END (R64). -/
def execShutterWindowEnd (k : Nat) (s : State) : Host.Outcome State Fault Refusal :=
  if s.mode ≠ 4 ∨ s.shutEn k = false then .next s else .next (s.shutWindowEnd k)

/-- SYNC_OUT_PULSE (R54): the next instant of sel 2 or 3; the pulses of sel 1 and 4 come with the frame's start and the
PULSE action. -/
def execSyncOutPulse (s : State) : Host.Outcome State Fault Refusal :=
  if s.fld TBS_OUT_CFG_sel = 3 then
    let t := (s.tbs.outAt / 1000000000 + 1) * 1000000000
    let s := s.reach t
    .next (({ s with tbs := { s.tbs with outAt := t } }).syncPulse 3 t)
  else
    match s.tbs.outDue with
    | t :: ts =>
      let s := { s with tbs := { s.tbs with outDue := ts } }
      .next ((s.reach t).syncPulse 2 t)
    | [] => .next s

/-- PHASE_SLEW_END (R51): the slew term returns to 0. -/
def execPhaseSlewEnd (s : State) : Host.Outcome State Fault Refusal :=
  if s.tbs.slewLeft = 0 then .next s
  else
    let s := s.reach s.tbs.slewEnd
    .next (s.absorb s.tbs.slewEnd)

end Sys2Proof.Machine
end

