-- ==== Sys2Proof/Machine/EngCore.lean ====
section
/-! DEFINITION. Engines and clusters: their state, memories (R219, R220, R251), faults, the watchdog and takeover (R236 to
R240), checkpoints (R235, R268), and how an instruction retires (R249, R250). Engine g is the engine of strip g for
g = 0 to 511; 512 + c is the spare of cluster c. -/

namespace Sys2Proof.Machine

open Sys2Proof Reg

/-! Modes as the pipeline sees them. -/

/-- The mode whose depth, frames and maps apply (R23): SHUTTER takes the limit mode in
force, CELLAR and LAYBY the entry mode's. -/
def State.pipeMode (s : State) : Nat :=
  let m := if s.mode = 7 ∨ s.mode = 8 then s.fld MOD_ENTRY_entry_mode else s.mode
  if m = 4 then s.mod.limit else m

/-- d, the internal depth of the mode in force (R23, R135). -/
def State.depth (s : State) : Nat :=
  match s.pipeMode with
  | 0 => 14
  | 3 => 10
  | 1 => 12
  | 2 => 12
  | 5 => 12
  | 6 => 12
  | _ => Config.depthNone.toNat

/-! Clusters and engines. -/

/-- A cluster. -/
def State.cl (s : State) (c : Nat) : Cluster := Sparse.get {} s.eng.clusters c

/-- A cluster changed. -/
def State.setCl (s : State) (c : Nat) (x : Cluster) : State :=
  { s with eng := { s.eng with clusters := Sparse.set {} s.eng.clusters c x } }

/-- An engine. -/
def State.en (s : State) (g : Nat) : Eng := Sparse.get {} s.eng.engines g

/-- An engine changed. -/
def State.setEn (s : State) (g : Nat) (x : Eng) : State :=
  { s with eng := { s.eng with engines := Sparse.set {} s.eng.engines g x } }

/-- The cluster of an engine or spare. -/
def clusterOf (g : Nat) : Nat := if g < 512 then g / 16 else g - 512

/-- The local index an engine works as: its own, or the one its cluster's spare replaces. -/
def State.localOf (s : State) (g : Nat) : Nat := if g < 512 then g % 16 else (s.cl (g - 512)).spareFor

/-- The strip an engine serves (CSR_EID). -/
def State.stripOf (s : State) (g : Nat) : Nat := 16 * clusterOf g + s.localOf g

/-- The partition of a cluster (ENG_OWN). -/
def State.clOwner (s : State) (c : Nat) : Nat :=
  if c < 16 then s.reg ENG_OWN_LO 0 0 / 4 ^ c % 4 else s.reg ENG_OWN_HI 0 0 / 4 ^ (c - 16) % 4

/-- The job that holds a cluster. -/
def State.jobOf (s : State) (c : Nat) : Option Job :=
  match (s.cl c).job with
  | some k => s.eng.jobs.find? (fun j => j.id == k)
  | none => none

/-! Registers (R244). -/

/-- s-register n: s0 reads 0. -/
def Eng.sreg (e : Eng) (n : Nat) : Word := if n = 0 then 0 else Sparse.get 0 e.s n

/-- s-register n written: s0 ignores writes. -/
def Eng.setS (e : Eng) (n : Nat) (x : Word) : Eng := if n = 0 then e else { e with s := Sparse.set 0 e.s n x }

/-- A vector of zeros. -/
def zeroVec : List Half := List.replicate 16 0

/-- A v-register. -/
def Eng.vreg (e : Eng) (n : Nat) : List Half := Sparse.get zeroVec e.v n

/-- A v-register written. -/
def Eng.setV (e : Eng) (n : Nat) (x : List Half) : Eng := { e with v := Sparse.set zeroVec e.v n x }

/-- An accumulator. -/
def Eng.acc (e : Eng) (n : Nat) : List (BitVec 40) := Sparse.get (List.replicate 16 0) e.a n

/-- An accumulator written. -/
def Eng.setA (e : Eng) (n : Nat) (x : List (BitVec 40)) : Eng := { e with a := Sparse.set (List.replicate 16 0) e.a n x }

/-- Predicate n: p0 reads all ones. -/
def Eng.preg (e : Eng) (n : Nat) : Half := if n = 0 then 0xFFFF else Sparse.get 0 e.p n

/-- Predicate n written: p0 ignores writes. -/
def Eng.setP (e : Eng) (n : Nat) (x : Half) : Eng := if n = 0 then e else { e with p := Sparse.set 0 e.p n x }

/-! Requests for cluster memory (R222, R223). -/

/-- A master of a cluster's memory makes requests: 0 to 15 the engines, 16 the spare, 17 line fetch, 18 harvest, 19 host DMA. -/
def Cluster.ask (cl : Cluster) (m : Nat) : Cluster := if cl.asked.contains m then cl else { cl with asked := m :: cl.asked }

/-! The harvest ring (R229). -/

/-- The number of the engine that serves local index `i` of a cluster: its spare while that is loading or in service for it. -/
def State.serverOf (s : State) (c i : Nat) : Nat :=
  let cl := s.cl c
  if (cl.spare = 1 ∨ cl.spare = 2) ∧ cl.spareFor = i then 512 + c else 16 * c + i

/-- Vectors of sensed lines that a strip has taken; an engine that has halted or a strip in bypass takes every one (R261). -/
def State.hvTaken (s : State) (c i : Nat) : Option Nat :=
  let e := s.en (s.serverOf c i)
  if e.st = 3 ∨ e.st = 5 ∨ (s.cl c).bypass.getLsbD i then none else some e.hv

/-- Lines leave the harvest ring once all 16 engines have taken their 6 vectors (R229). -/
def State.hvPrune (s : State) (c : Nat) : State :=
  let cl := s.cl c
  let done := ((List.range 16).filterMap (s.hvTaken c)).foldl (fun n v => min n (v / 6)) (cl.hvBase + cl.harvest.length)
  s.setCl c { cl with harvest := cl.harvest.drop (done - cl.hvBase), hvBase := max cl.hvBase done }

/-! Faults, watchdog and takeover. -/

/-- ENGINE_TAKEOVER posted and logged with the fault code and index (R240, R269, R434). -/
def State.postTakeover (s : State) (c i cause bypass : Nat) : State :=
  let e := s.en (16 * c + i)
  let arg := c + 32 * i + 512 * cause + 4096 * bypass
  let s := (s.raise 0x42 0x0B arg).log 0x42 0x0B arg (e.fault % 8 + 65536 * e.faultAt)
  s.countLife 5

/-- A spare that is idle is held in RET (R242): it takes no part in anything until it is restored for a takeover (R238). -/
def State.spareHeld (s : State) (c : Nat) : Bool := (s.cl c).spare == 0

/-- The watchdog fires for an engine (R236): the idle spare takes over (R238), or the strip goes into bypass (R239). -/
def State.watchdog (s : State) (g cause : Nat) : State :=
  let c := clusterOf g
  let i := s.localOf g
  let e := s.en g
  let cl := s.cl c
  let s := s.setFlag ENG_FLAGS_takeover
  let s := s.setEn g { e with
    st := 4, firings := if cause = 0 ∨ cause = 2 ∨ cause = 3 then e.firings + 1 else e.firings }
  if g < 512 ∧ s.spareHeld c = true ∧ s.fld ENG_CTRL_spare_en = 1 then
    s.setCl c { cl with
      fires := min (2 ^ 32 - 1) (cl.fires + 1), spare := 1, spareFor := i, retired := decide (cause = 4), takeCause := cause }
  else
    let s := s.setCl c { cl with
      fires := min (2 ^ 32 - 1) (cl.fires + 1), bypass := cl.bypass ||| BitVec.ofNat 16 (2 ^ i)
      spare := if 512 ≤ g then 3 else cl.spare }
    (s.hvPrune c).postTakeover c i cause 1

/-- The watchdog runs for a cluster: wd_en is 1 and it has a job (R236). -/
def State.wdRuns (s : State) (c : Nat) : Bool := s.fld ENG_CTRL_wd_en == 1 && (s.cl c).job.isSome

/-- A cluster's domain is ON (R384): its engines are clocked. -/
def State.clOn (s : State) (c : Nat) : Bool := (Sparse.get {} s.pwr.doms (22 + c)).st == 0

/-- The watchdog watches engine g (R236, R242, R265): it serves a strip of a cluster with a job that is ON, and has not halted. A spare
is watched once it is in service. -/
def State.watched (s : State) (g : Nat) : Bool :=
  let c := clusterOf g
  s.wdRuns c && s.clOn c && !(s.cl c).bypass.getLsbD (s.localOf g) && (s.en g).st != 3 && (s.en g).st != 4 &&
    (if g < 512 then s.serverOf c (g % 16) == g else (s.cl c).spare == 2)

/-- An engine fault (R269): the instruction has no effect, the engine halts, and the watchdog fires at once, cause 2. -/
def State.engFault (s : State) (g code : Nat) : State :=
  let e := s.en g
  let s := s.setEn g { e with st := 5, fault := code, faultAt := e.pc.toNat }
  let s := if 512 ≤ g then
      let i := 16 * (g - 512) + (s.cl (g - 512)).spareFor % 16
      s.setEn i { s.en i with fault := code, faultAt := e.pc.toNat }
    else s
  if s.wdRuns (clusterOf g) then s.watchdog g 2 else s.hvPrune (clusterOf g)

/-! How an instruction retires. -/

/-- An instruction index lies in a level's body. -/
def LoopLv.has (l : LoopLv) (t : Nat) : Bool := decide (l.start ≤ t) && decide (t ≤ l.stop)

/-- The levels that stay open after a jump to `t`: a level whose body does not hold it closes, and every level inside it
(R250). -/
def keepLevels (ls : List LoopLv) (t : Nat) : List LoopLv := ((ls.reverse).takeWhile (fun l => l.has t)).reverse

/-- The level rule at the end of a body (R250), inner levels first: the next index and the levels left open. -/
def loopBack (pc : Nat) : List LoopLv → Nat × List LoopLv
  | [] => (pc + 1, [])
  | l :: ls =>
    if l.stop = pc then
      if 1 < l.left then (l.start, { l with left := l.left - 1 } :: ls) else loopBack pc ls
    else (pc + 1, l :: ls)

/-- The engine goes on at `t`; past 4,095 it is a fetch fault (R249). -/
def State.goTo (s : State) (g t : Nat) : State :=
  if t < 4096 then s.setEn g { s.en g with pc := BitVec.ofNat 12 t } else s.engFault g 4

/-- An instruction retires without having changed pc. -/
def State.retire (s : State) (g : Nat) : State :=
  let e := s.en g
  let r := loopBack e.pc.toNat e.loops
  (s.setEn g { e with loops := r.2 }).goTo g r.1

/-- An engine's register effect, and its instruction retires. -/
def State.engDo (s : State) (g : Nat) (f : Eng → Eng) : State := (s.setEn g (f (s.en g))).retire g

/-- An instruction on engine g: it runs while the engine does; a halted or sleeping engine, or one whose cluster is not
ON, retires nothing (R262, R265, R386). -/
def State.onEngine (s : State) (g : Nat) (f : State → State) : State :=
  if (s.en g).st = 1 ∧ s.clOn (clusterOf g) = true then f s else s

/-! Memory (R219, R220, R251). -/

/-- The engine's address space holds all `n` bytes at `a`: in local memory, or in the cluster window. -/
def addrOk (a n : Nat) : Bool := decide (a + n ≤ 0x10000) || (decide (0x100000 ≤ a) && decide (a + n ≤ 0x200000))

/-- A store is allowed: local memory, the kernel area, or the engine's own write-back ring (R220, R251). -/
def State.storeOk (s : State) (g a n : Nat) : Bool :=
  decide (a + n ≤ 0x10000) || (decide (0x180000 ≤ a) && decide (a + n ≤ 0x200000)) ||
    (let r := 0x11C000 + 128 * s.localOf g
     decide (r ≤ a) && decide (a + n ≤ r + 128))

/-- The history of tile row `q` in cluster memory (R220, R228): 16 blocks of R356 in slots of 2,176 bytes, then their 16 length bytes;
three rows are held. The spec gives the area and the blocks' format and not their places (DESIGN CHOICE, log entry 28). -/
def histOff (q : Nat) : Nat := 0x60000 + q % 3 * 0xA000

/-- A byte of the window: the reserved area reads 0 (R220); what the history area holds beside the rows' blocks is open. -/
def State.windowByte (s : State) (c o : Nat) : Byte :=
  if 0x1C800 ≤ o ∧ o < 0x20000 then 0
  else if 0x60000 ≤ o ∧ o < 0x80000 ∧ (0x7E000 ≤ o ∨ 0x8810 ≤ (o - 0x60000) % 0xA000) then (Config.freeWord (s.free + o)).setWidth 8
  else Sparse.get 0 (s.cl c).mem o

/-- Bytes read by an engine. -/
def State.engRead (s : State) (g a n : Nat) : List Byte :=
  if a < 0x10000 then Sparse.read 0 (s.en g).mem a n
  else (List.range n).map (fun k => s.windowByte (clusterOf g) (a - 0x100000 + k))

/-- Bytes written into cluster memory at an offset. -/
def State.clWrite (s : State) (c o : Nat) (d : List Byte) : State :=
  s.setCl c { s.cl c with mem := Sparse.write 0 (s.cl c).mem o d }

/-- A byte written by an engine. -/
def State.engWriteByte (s : State) (g a : Nat) (b : Byte) : State :=
  if a < 0x10000 then s.setEn g { s.en g with mem := Sparse.set 0 (s.en g).mem a b }
  else s.clWrite (clusterOf g) (a - 0x100000) [b]

/-- Bytes written by an engine. -/
def State.engWrite (s : State) (g a : Nat) : List Byte → State
  | [] => s
  | b :: bs => State.engWrite (s.engWriteByte g a b) g (a + 1) bs

/-! Checkpoints (R235, R268). -/

/-- The bytes of a loop level in a checkpoint. -/
def levelBytes : Option LoopLv → List Byte
  | some l => leBytes 2 l.left ++ leBytes 2 (l.start + 32768) ++ leBytes 2 l.stop
  | none => leBytes 6 0

/-- The outer and the inner open level. -/
def outerLv (ls : List LoopLv) : Option LoopLv := ls.getLast?
def innerLv (ls : List LoopLv) : Option LoopLv := if 1 < ls.length then ls.head? else none

/-- A checkpoint's bytes. -/
def checkpointOf (e : Eng) (ckptBase ckptLen : Nat) : List Byte :=
  leBytes 4 e.slots.toNat ++ leBytes 4 e.slot.frame ++ leBytes 2 e.slot.prog ++ leBytes 2 ckptLen ++
    leBytes 2 e.pc.toNat ++ leBytes 2 e.msflag.toNat ++ levelBytes (outerLv e.loops) ++ levelBytes (innerLv e.loops) ++
    ((List.range 16).map (fun l => leBytes 2 (e.q.getD l 0).toNat)).flatten ++ leBytes 4 0 ++
    ((List.range 16).map (fun n => leBytes 4 (e.sreg n).toNat)).flatten ++
    ((List.range 32).map (fun n => ((e.vreg n).map (fun x => leBytes 2 x.toNat)).flatten)).flatten ++
    ((List.range 4).map (fun n => ((e.acc n).map (fun x => leBytes 5 x.toNat)).flatten)).flatten ++
    ((List.range 8).map (fun n => leBytes 2 (e.preg n).toNat)).flatten ++ leBytes 48 0 ++
    Sparse.read 0 e.mem (64 * ckptBase) (64 * ckptLen)

/-- A loop level read back. -/
def levelOf (d : List Byte) (a : Nat) : List LoopLv :=
  if leAt d (a + 2) 2 / 32768 = 1 then [{ start := leAt d (a + 2) 2 % 4096, stop := leAt d (a + 4) 2 % 4096, left := leAt d a 2 }]
  else []

/-- The registers of a checkpoint loaded into an engine (R238). -/
def restoreFrom (e : Eng) (d : List Byte) : Eng :=
  { e with
    slots := BitVec.ofNat 32 (leAt d 0 4)
    pc := BitVec.ofNat 12 (leAt d 12 2)
    msflag := BitVec.ofNat 16 (leAt d 14 2)
    loops := levelOf d 22 ++ levelOf d 16
    q := (List.range 16).map (fun l => BitVec.ofNat 16 (leAt d (28 + 2 * l) 2))
    s := (List.range 16).foldl (fun m n => Sparse.set 0 m n (BitVec.ofNat 32 (leAt d (64 + 4 * n) 4))) []
    v := (List.range 32).foldl (fun m n =>
      Sparse.set zeroVec m n ((List.range 16).map (fun l => BitVec.ofNat 16 (leAt d (128 + 32 * n + 2 * l) 2)))) []
    a := (List.range 4).foldl (fun m n =>
      Sparse.set (List.replicate 16 0) m n ((List.range 16).map (fun l => BitVec.ofNat 40 (leAt d (1152 + 80 * n + 5 * l) 5)))) []
    p := (List.range 8).foldl (fun m n => if n = 0 then m else Sparse.set 0 m n (BitVec.ofNat 16 (leAt d (1472 + 2 * n) 2))) [] }

/-- The offset in cluster memory of checkpoint copy `k` of local engine `i` (R220). -/
def ckptOff (i k : Nat) : Nat := 0x20000 + (2 * i + k) * 0x1800

/-- A drain ends: the copy is in cluster memory and is the newest whole one (R235). -/
def State.drainDone (s : State) (g : Nat) : State :=
  let c := clusterOf g
  let i := s.localOf g
  let cl := s.cl c
  let d := Sparse.get [] cl.drain i
  if d = [] then s
  else
    let k := if Sparse.get 0 cl.whole i = 1 then 1 else 0
    s.setCl c { cl with
      mem := Sparse.write 0 cl.mem (ckptOff i k) d, whole := Sparse.set 0 cl.whole i (k + 1)
      older := Sparse.set false cl.older i (Sparse.get 0 cl.whole i != 0)
      flagsSince := Sparse.set 0 cl.flagsSince i (Sparse.get 0 cl.flagsNew i)
      drain := Sparse.set [] cl.drain i [] }

/-- LFSR seeds of a value (R260). -/
def rndSeed (w : Nat) : List Half :=
  (List.range 16).map fun l =>
    let x := BitVec.ofNat 16 w ^^^ BitVec.ofNat 16 (0x9E37 * (l + 1))
    if x = 0 then 1 else x

/-- B of R226 for a checkpoint window of `ckptLen` units: cycles of 1.2 per ns of line time. -/
def State.budget (s : State) (ckptLen : Nat) : Nat := s.fld SCN_LINE_TIME_lt * 12 / 2560 - 8 - ckptLen

end Sys2Proof.Machine
end

