-- ==== Sys2Proof/Machine/Parity.lean ====
section
/-! DEFINITION. Parity errors of the arrays (R365, R374, R375, R378), their remap tables (R379), and the actions of engine
and cluster memory (R236, R377). The actions of the other arrays are in Machine/Integrity.lean. -/

namespace Sys2Proof.Machine

open Sys2Proof Reg

/-- An array instance. -/
def State.inst (s : State) (i : Nat) : Inst := Sparse.get {} s.mem.insts i

/-- An array instance changed. -/
def State.setInst (s : State) (i : Nat) (x : Inst) : State :=
  { s with mem := { s.mem with insts := Sparse.set {} s.mem.insts i x } }

/-- Words of an instance (R365): 64 bytes each, 8 in the exchange RAM. Sizes given as 1.78 and 2.11 MiB are taken as the
whole words within them. -/
def instWords (i : Nat) : Nat :=
  if i < 544 then 1280
  else if i < 576 then 16384
  else if i < 578 then 65536
  else if i = 578 then 29163
  else if i < 581 then 34570
  else if i = 581 then 65536
  else if i = 582 then 16384
  else if i = 583 then 8192
  else if i = 584 then 8192
  else if i = 585 then 1024
  else if i < 594 then 2048
  else 0

/-- The instance is a re-read array (R375). -/
def reRead (i : Nat) : Bool := (decide (544 ≤ i) && decide (i < 576)) || (decide (582 ≤ i) && decide (i ≤ 585))

/-- The parity error names a word of an instance. -/
def parityOk (e : ParityErr) : Bool := decide (e.word < instWords e.inst)

/-- PARITY, at most once per instance per millisecond (R378). -/
def State.postParity (s : State) (i : Nat) (hard : Bool) : State :=
  let x := s.inst i
  let due := match x.posted with
    | some t => decide (t + 1000000 ≤ s.now)
    | none => true
  if due then (s.setInst i { x with posted := some s.now }).raiseLog 0x40 0x0F (i + (if hard then 1024 else 0)) else s

/-- The body of the remap record: instance and word of each entry in use, two bytes each. The spec does not lay it out. -/
def remapBody (m : Sparse Inst) : List Byte :=
  (m.map (fun e => (e.2.remaps.map (fun w => leBytes 2 e.1 ++ leBytes 2 w)).flatten)).flatten

/-- A hard fault (R379): the word enters the next free entry of its remap table, REMAP is posted and the remap record
gathered; with the table full the word stays faulty. -/
def State.remapWord (s : State) (i w : Nat) : State :=
  let x := s.inst i
  if x.remaps.length < 8 then
    let s := s.setInst i { x with remaps := x.remaps ++ [w] }
    let s := s.setFlag MEM_FLAGS_remap
    let s := s.raiseLog 0x41 0x0F (i + 1024 * x.remaps.length + 65536 * w)
    s.gatherRecord 0x0020 (remapBody s.mem.insts)
  else (s.setFlag MEM_FLAGS_remap_full).raiseLog 0x41 0x0F (i + 32768 + 65536 * w)

/-- A parity error is noted: flag, count and last error (R374, R383). -/
def State.noteParity (s : State) (e : ParityErr) : State :=
  let x := s.inst e.inst
  let s := s.setInst e.inst { x with perr := min (2 ^ 32 - 1) (x.perr + 1) }
  (s.setFlag MEM_FLAGS_parity).setReg MEM_PAR_LAST 0 0 (e.word + 65536 * (e.byte % 64) + 2 ^ 22 * e.inst)

/-- The test of R375 is known to have failed: PARITY with the hard bit, and the remap; else it is outstanding. -/
def State.parityTest (s : State) (e : ParityErr) : State :=
  if e.again then (s.postParity e.inst true).remapWord e.inst e.word
  else
    let x := s.inst e.inst
    s.setInst e.inst { x with tests := x.tests ++ [e.word] }

/-- A word of engine memory written with zeros: local memory first, then instruction memory. -/
def zeroEngWord (e : Eng) (w : Nat) : Eng :=
  if w < 1024 then { e with mem := Sparse.write 0 e.mem (64 * w) (List.replicate 64 0) }
  else { e with code := e.code.take (16 * (w - 1024)) ++ (List.replicate 16 0 ++ e.code.drop (16 * (w - 1024) + 16)).take (e.code.length - 16 * (w - 1024)) }

/-- A parity error in the memory of engine or spare `e.inst`: the word is rewritten as zero, and the watchdog fires with cause 3. The
test, and what the SVC records of it, come after the takeover has begun (R18). -/
def State.engParity (s : State) (e : ParityErr) : State :=
  let g := e.inst
  let s := s.noteParity e
  let s := s.setEn g (zeroEngWord (s.en g) e.word)
  (if s.watched g then s.watchdog g 3 else s).parityTest e

/-- A hard fault at an offset of cluster memory: zero, and in a checkpoint copy, that copy is not whole (R377). -/
def State.clFault (s : State) (c o : Nat) : State :=
  let s := s.clWrite c (o / 64 * 64) (List.replicate 64 0)
  if 0x20000 ≤ o ∧ o < 0x50000 then
    let cl := s.cl c
    let n := (o - 0x20000) / 0x1800
    let i := n / 2
    if Sparse.get 0 cl.whole i = n % 2 + 1 then
      s.setCl c { cl with
        whole := Sparse.set 0 cl.whole i (if Sparse.get false cl.older i then 2 - n % 2 else 0)
        older := Sparse.set false cl.older i false }
    else s.setCl c { cl with older := Sparse.set false cl.older i false }
  else if o < 0x1C000 then
    -- an image copy: copied again from its ENGINE_IMAGE region
    let cl := s.cl c
    let k := o / 0xE000
    let id := if k = cl.imgCopy then cl.job else (s.eng.jobs.find? (fun j => j.latched && !j.running && j.a.clusters.getLsbD c)).map (·.id)
    match id.bind (fun n => s.eng.jobs.find? (fun j => j.id == n)) with
    | some j => s.clWrite c (o / 64 * 64) (s.bytes (j.a.image + (o / 64 * 64 - k * 0xE000)) 64)
    | none => s
  else s

/-- A parity error in cluster memory: re-read; a second error is a hard fault. -/
def State.clParity (s : State) (e : ParityErr) : State :=
  let s := s.noteParity e
  (if e.again then s.clFault (e.inst - 544) (64 * e.word) else s).parityTest e

end Sys2Proof.Machine
end

