-- ==== Sys2Proof/Machine/Power.lean ====
section
/-! DEFINITION. The power manager's core (R384 to R396, R401): domains, their requests and changes, what OFF loses, regulator
rails and accounting. When each domain may leave ON and is needed again is in Machine/PowerNeed.lean. -/

namespace Sys2Proof.Machine

open Sys2Proof Reg

/-! Domains (R384). -/

/-- States of a domain besides ON that the table gives it: RET, OFF. -/
def domHas (d st : Nat) : Bool :=
  if st = 0 then true
  else if d = 0 ∨ 81 < d then false
  else if d = 1 ∨ d = 78 then st == 2
  else if d = 79 ∨ d = 80 then st == 1
  else st == 1 || st == 2

/-- Time to enter a state, ns. -/
def domEnter (d st : Nat) : Ns :=
  if st = 0 then 0
  else if d = 1 then 4000000
  else if st = 2 then (if d = 81 then 2000 else 5000)
  else if (20 ≤ d ∧ d ≤ 53) ∨ d = 79 ∨ d = 80 then 1000
  else 500

/-- Time to leave a state, ns. -/
def domExit (d st : Nat) : Ns :=
  if st = 0 then 0
  else if st = 1 then 2000
  else if d = 1 then 8000000
  else if d ≤ 5 then 120000
  else if d ≤ 13 then 80000
  else if d ≤ 19 then 150000
  else if d ≤ 21 then 300000
  else if d ≤ 53 then 400000
  else if d ≤ 77 then 60000
  else if d = 78 then 20000
  else 30000

/-- Least residency, ns. -/
def domResidency (d st : Nat) : Ns :=
  if st = 0 then 0 else if st = 1 then 4000 else if d = 1 then 100000000 else 10000000

/-- A domain with lanes, which needs the lane rails (R394). -/
def laneDom (d : Nat) : Bool := (decide (2 ≤ d) && decide (d ≤ 19)) || (decide (54 ≤ d) && decide (d ≤ 77))

/-- A domain. -/
def State.dom (s : State) (d : Nat) : Dom := Sparse.get {} s.pwr.doms d

/-- A domain changed. -/
def State.setDom (s : State) (d : Nat) (x : Dom) : State :=
  { s with pwr := { s.pwr with doms := Sparse.set {} s.pwr.doms d x } }

/-- A domain is ON. -/
def State.domOn (s : State) (d : Nat) : Bool := (s.dom d).st == 0

/-- The deepest state allowed (PWR_DOM_CFG.max). -/
def State.domMax (s : State) (d : Nat) : Nat := s.fldI PWR_DOM_CFG_max d

/-! Accounting (R401). -/

/-- Accounting is active. -/
def State.accounting (s : State) : Bool := s.mode == 10 || s.tap.held || s.pwr.bor

/-- A refused or aborted change of a domain (1 for deep sleep) is counted while accounting is active. -/
def State.refuse (s : State) (d code : Nat) (aborted : Bool) : State :=
  if s.accounting then
    (s.setReg PWR_REFUSE 0 0 (code * 2 ^ 28 + (if aborted then 2 ^ 27 else 0) + d)).addSat PWR_REFUSE_CNT_count 0 0 1
  else s

/-- POWER_REFUSED (R403). -/
def State.postRefused (s : State) (d code : Nat) (aborted : Bool) : State :=
  (s.refuse d code aborted).raise 0x60 0x10 (d + 256 * code + (if aborted then 4096 else 0))

/-! Rails (R394, R395). -/

/-- A rail. -/
def State.rail (s : State) (k : Nat) : Rail := Sparse.get {} s.pwr.rails k

/-- A rail changed. -/
def State.setRail (s : State) (k : Nat) (x : Rail) : State :=
  { s with pwr := { s.pwr with rails := Sparse.set {} s.pwr.rails k x } }

/-- The part commands and watches a rail. -/
def State.railUsed (s : State) (k : Nat) : Bool := s.fld (PWR_VR_ADDR_used k) == 1

/-- A PMBus command to a used rail (R394). -/
def State.pmbus (s : State) (k cmd data : Nat) : State :=
  if s.railUsed k then s.emit (.pmbus k (s.fld (PWR_VR_ADDR_addr k)) (s.fld (PWR_VR_ADDR_pec k) == 1) cmd data) else s

/-- The rails of the lane domains that the part may switch. -/
def laneRails : List Nat := [3, 4, 7]

/-- Every used lane rail is up. -/
def State.railsUp (s : State) : Bool :=
  laneRails.all fun k => !s.railUsed k || ((s.rail k).on && (s.rail k).pg && !(s.rail k).busy)

/-- A rail is requested on: OPERATION, and its acknowledgement is awaited (R395). -/
def State.railOn (s : State) (k : Nat) : State :=
  let r := s.rail k
  if s.railUsed k = false ∨ (r.on ∧ r.pg) ∨ r.busy then s
  else (s.setRail k { r with on := true, busy := true, retried := false, volt := false }).pmbus k 0x01 0x80

/-- The lane rails go off when every lane domain is OFF and no in-band wake is enabled, rail 7 with the last lane domain (R394). -/
def State.railsMayFall (s : State) : State :=
  if (List.range 82).all fun d => !laneDom d || (s.dom d).st == 2 then
    (if s.fld PWR_WAKE_CFG_en / 8 % 16 = 0 then laneRails else [7]).foldl (fun s k =>
      if s.railUsed k && (s.rail k).on then (s.setRail k { s.rail k with on := false, pg := false }).pmbus k 0x01 0x00 else s) s
  else s

/-! Changes of state. -/

/-- Lanes of a domain (R67): MSPp has MRX 8p to 8p + 7 and MTX p; KTXk and BRXk eight each. -/
def domLanes (d : Nat) : List Nat :=
  if 6 ≤ d ∧ d ≤ 13 then (List.range 8).map (fun i => 8 * (d - 6) + i) ++ [64 + (d - 6)]
  else if 54 ≤ d ∧ d ≤ 69 then (List.range 8).map (fun i => 72 + 8 * (d - 54) + i)
  else if 70 ≤ d ∧ d ≤ 77 then (List.range 8).map (fun i => 200 + 8 * (d - 70) + i)
  else []

/-- A receive lane, a transmit lane. -/
def isRx (l : Nat) : Bool := decide (l < 64) || (decide (200 ≤ l) && decide (l < 264))
def isTx (l : Nat) : Bool := decide (64 ≤ l) && decide (l < 200)

/-- A receiver goes to IDLE, where a waiting termination code takes effect (R70, R423). The CDR and the equaliser hold. -/
def Lane.toIdle (x : Lane) : Lane :=
  { x with st := 0, k283 := 0, commas := 0, sdAt := none, raw := none, calCode := x.calNext.getD x.calCode, calNext := none }

/-- The receive lanes of a domain that is restored are in IDLE (R70). -/
def State.restoreLanes (s : State) (d : Nat) : State :=
  ((domLanes d).filter isRx).foldl (fun s l => { s with lnk := Sparse.modify {} s.lnk l Lane.toIdle }) s

/-- What a domain loses in OFF (R386): lane state, a cluster's memories and engines, the exchange RAM. -/
def State.loseDom (s : State) (d : Nat) : State :=
  if 22 ≤ d ∧ d ≤ 53 then
    let c := d - 22
    let cl := s.cl c
    let s := s.setCl c { cl with
      mem := [], sig := [], whole := [], older := [], drain := [], harvest := [], wbPost := [], wbCnt := []
      flagsSince := [], flagsNew := [], units := [], hist := [], nodes := [] }
    (List.range 17).foldl (fun s i =>
      let g := if i = 16 then 512 + c else 16 * c + i
      s.setEn g { (({} : Eng)) with st := if (s.en g).st = 4 then 4 else 0, firings := (s.en g).firings }) s
  else if d = 81 then { s with mem := { s.mem with xram := [] } }
  else
    (domLanes d).foldl (fun s l =>
      { s with lnk := Sparse.modify {} s.lnk l (fun x => { x with
          st := 0, fresh := true, eq := [], raw := none, sdAt := none, cdrFreq := 0, cdrPhase := 0
          txIdle := true, txHeldExit := none, txRd := false }) }) s

/-- A change of state begins; for an exit from OFF the rails are requested. -/
def State.beginChange (s : State) (d st : Nat) : State :=
  let x := s.dom d
  let s := s.setDom d { x with going := some st, exitAt := if st = 0 then none else x.exitAt }
  if st = 0 ∧ x.st = 2 ∧ laneDom d then laneRails.foldl State.railOn s else s

/-- A state requested of a domain (R392): at once, or in its pending slot while a change is in progress; a request it
replaces there counts as aborted. -/
def State.requestDom (s : State) (d st : Nat) : State :=
  let x := s.dom d
  match x.going with
  | none => if x.st = st then s else s.beginChange d st
  | some _ =>
    let s := if x.pend.isSome then s.refuse d 12 true else s
    s.setDom d { s.dom d with pend := some st }

/-- A need at once: ON is requested unless the domain is ON or already on its way there. -/
def State.needNow (s : State) (d : Nat) : State :=
  let x := s.dom d
  if x.going = some 0 ∨ (x.going = none ∧ x.st = 0) then s else s.requestDom d 0

/-- A change completes: its state is in force, and what OFF loses is lost. In OFF the domain's outputs are high-impedance (R404). -/
def State.endChange (s : State) (d : Nat) : State :=
  let x := s.dom d
  match x.going with
  | none => s
  | some st =>
    let s := s.setDom d { x with st := st, going := none, since := s.now }
    let s := if st = 2 ∨ x.st = 2 then s.emit (.outputs d (st != 2)) else s
    let s := if st = 0 then s.restoreLanes d else if st = 2 then s.loseDom d else s
    if st = 2 ∧ laneDom d then s.railsMayFall else s

/-- An access that waits for the domain (R387): an entry in progress ends, the exit runs, and the domain is ON. -/
def State.wakeNow (s : State) (d : Nat) : State :=
  let x := s.dom d
  if x.st = 0 ∧ x.going = none then s
  else
    let t := (match x.going with
      | some st => if st = 0 then 0 else domEnter d st
      | none => 0)
    let s := if x.going.isSome ∧ x.going ≠ some 0 then s.endChange d else s
    let y := s.dom d
    let s := s.reach (s.now + t + domExit d y.st)
    let s := if y.st = 2 then s.emit (.outputs d true) else s
    (s.setDom d { y with st := 0, going := none, pend := none, exitAt := none, since := s.now }).restoreLanes d

end Sys2Proof.Machine
end

