-- ==== Sys2Proof/Machine/Memory.lean ====
section
/-! DEFINITION. The exchange RAM and the board bus (R368 to R373), and conflict counters read through a LO register (R223,
R243, R367, R383). What an access of the other port in the same window does comes with the command (R371). -/

namespace Sys2Proof.Machine

open Sys2Proof Reg

/-! Exchange RAM. -/

/-- Bytes of the exchange RAM. -/
def State.xramBytes (s : State) (off n : Nat) : List Byte := Sparse.read 0 s.mem.xram off n

/-- The level of BCB_INT_N (R372): low while enabled and word 0x7FFF is not zero. -/
def State.bcbIntN (s : State) : Bool :=
  !(s.fld MEM_XRAM_CFG_int_en == 1 && s.xramBytes 0xFFFE 2 != [0, 0])

/-- Bytes stored in the exchange RAM, with BCB_INT_N driven where its level changes. -/
def State.xramStore (s : State) (off : Nat) (d : List Byte) : State :=
  let n := { s with mem := { s.mem with xram := Sparse.write 0 s.mem.xram off d } }
  if n.bcbIntN = s.bcbIntN then n else n.emit (.pin "BCB_INT_N" 0 n.bcbIntN)

/-- The access restarts the idle time of the XRAM domain (R389). -/
def State.xramTouch (s : State) : State := { s with pwr := { s.pwr with xramIdle := s.now } }

/-- An undefined 16-bit word put at word `w` of the data read from byte `off` on. -/
def spoil (d : List Byte) (off w v : Nat) : List Byte :=
  (List.range d.length).map fun k =>
    if (off + k) / 2 = w then BitVec.ofNat 8 (if (off + k) % 2 = 0 then v else v / 256) else d.getD k 0

/-- What a read returns (R371): the word met by a write of the other port is undefined; and whether the read is the later
access of a collision. -/
def State.xramCollideRead (s : State) (off : Nat) (d : List Byte) : Collision → List Byte × Bool × State
  | .none => (d, false, s)
  | .later w wr _ =>
    if wr && decide (off / 2 ≤ w) && decide (2 * w < off + d.length) then
      let (v, s) := s.draw 65536
      (spoil d off w v, true, s)
    else (d, false, s)
  | .earlier w wr _ =>
    if wr && decide (off / 2 ≤ w) && decide (2 * w < off + d.length) then
      let (v, s) := s.draw 65536
      (spoil d off w v, false, s)
    else (d, false, s)

/-- What a write stores (R371): where two writes meet, the word holds one of the two values; and whether the write is the
later access of a collision. -/
def State.xramCollideWrite (s : State) (off : Nat) (d : List Byte) : Collision → List Byte × Bool × State
  | .none => (d, false, s)
  | .later w wr v =>
    if decide (off / 2 ≤ w) && decide (2 * w < off + d.length) then
      if wr then
        let (b, s) := s.draw 2
        (if b = 0 then d else spoil d off w v.toNat, true, s)
      else (d, true, s)
    else (d, false, s)
  | .earlier w wr v =>
    if wr && decide (off / 2 ≤ w) && decide (2 * w < off + d.length) then
      let (b, s) := s.draw 2
      (if b = 0 then d else spoil d off w v.toNat, false, s)
    else (d, false, s)

/-- The word in which two accesses met. -/
def collWord : Collision → Nat
  | .none => 0
  | .later w _ _ => w
  | .earlier w _ _ => w

/-- BUSY to a partition (R371). -/
def State.xbusy (s : State) (p w : Nat) : State :=
  (s.setReg MEM_XBUSY 0 p (2 ^ 31 + w % 2 ^ 15)).addSat MEM_XBUSY_CNT_count 0 p 1

/-- Port A takes an access of this size within BAR4 (R369). -/
def portAOk (off n : Nat) : Bool := (n == 1 || n == 2 || n == 4 || n == 8) && decide (off + n ≤ 0x10000)

/-- A partition has accessed port A (R367). -/
def State.xramAsk (s : State) (p : Nat) : State :=
  if s.mem.asked.contains p then s else { s with mem := { s.mem with asked := p :: s.mem.asked } }

/-- XRAM_READ (R371). -/
def execXramRead (p off size : Nat) (coll : Collision) (s : State) : Host.Outcome State Fault Refusal :=
  .next (
    if portAOk off size && s.reachable p then
      let s := ((s.wakeNow 81).xramTouch).xramAsk p
      let (d, busy, s) := s.xramCollideRead off (s.xramBytes off size) coll
      let s := if busy then s.xbusy p (collWord coll) else s
      s.emit (.readData p d busy)
    else s)

/-- XRAM_WRITE (R369): dropped for a partition without write rights, or disabled (R463). -/
def execXramWrite (p off : Nat) (data : List Byte) (coll : Collision) (s : State) : Host.Outcome State Fault Refusal :=
  .next (
    if portAOk off data.length && s.reachable p then
      if (s.fld MEM_XRAM_CFG_wr).testBit p && s.partOn p then
        let s := ((s.wakeNow 81).xramTouch).xramAsk p
        let (d, busy, s) := s.xramCollideWrite off data coll
        let s := if busy then s.xbusy p (collWord coll) else s
        s.xramStore off d
      else s.setFlag MEM_FLAGS_x_denied
    else s)

/-- BCB_READ (R370): the board's read of a word; its answer goes out as data of port number 4. While the domain is OFF it
reads 0xFFFF with BCB_BUSY_N low; while it restores, the access is ignored (R373). -/
def execBcbRead (w : BitVec 15) (coll : Collision) (s : State) : Host.Outcome State Fault Refusal :=
  .next (
    let x := s.dom 81
    if s.inReset then s
    else if x.st = 0 ∧ x.going = none then
      let s := s.xramTouch
      let (d, busy, s) := s.xramCollideRead (2 * w.toNat) (s.xramBytes (2 * w.toNat) 2) coll
      s.emit (.readData 4 d busy)
    else if x.st = 2 ∧ x.going = none then s.emit (.readData 4 [0xFF, 0xFF] true)
    else s)

/-- BCB_WRITE (R370): taken while the domain is ON, ignored otherwise (R373). -/
def execBcbWrite (w : BitVec 15) (v : Half) (coll : Collision) (s : State) : Host.Outcome State Fault Refusal :=
  .next (
    let x := s.dom 81
    if x.st = 0 ∧ x.going = none ∧ s.inReset = false then
      let s := s.xramTouch
      let (d, busy, s) := s.xramCollideWrite (2 * w.toNat) (leBytes 2 v.toNat) coll
      let s := if busy then s.emit (.pin "BCB_BUSY_N" 0 false) else s
      s.xramStore (2 * w.toNat) d
    else s)

/-- BCB_CS_WAKE (R373): in RET, ON is requested and BCB_BUSY_N is low until the restore has ended. -/
def execBcbCsWake (s : State) : Host.Outcome State Fault Refusal :=
  .next (if (s.dom 81).st = 1 then (s.needNow 81).emit (.pin "BCB_BUSY_N" 0 false) else s)

/-! Conflict counters. -/

/-- A counter read through its LO register: it has grown by an unknown number of conflicts since the last read; bits
47:32 are kept in HI. Returns the counters with the new count. -/
def bumpConf (m : Sparse (BitVec 48)) (k n : Nat) : Sparse (BitVec 48) :=
  Sparse.set 0 m k (Sparse.get 0 m k + BitVec.ofNat 48 n)

/-- Master `m` of a cluster goes on making requests: an engine with a job, and a spare in service. -/
def Cluster.busy (cl : Cluster) (m : Nat) : Bool := (decide (m < 16) && cl.jobSt != 0) || (m == 16 && cl.spare == 2)

/-- A read of ENG_CONF_LO by partition `p` (R223, R243): a cluster not assigned to it, and a master above 19, read 0. The counter has
grown only where the master has made requests since the last read. -/
def State.engConf (s : State) (p : Nat) : Nat × State :=
  let c := s.fldP ENG_SEL_cluster p
  let m := s.fldP ENG_SEL_master p
  if s.clOwner c = p ∧ m ≤ 19 then
    let r := if (s.cl c).asked.contains m then s.draw (2 ^ 48) else (0, s)
    let s := r.2
    let cl := s.cl c
    let conf := bumpConf cl.conf m r.1
    let v := (Sparse.get 0 conf m).toNat
    let asked := if cl.busy m then cl.asked else cl.asked.filter (· != m)
    (v % 2 ^ 32, (s.setCl c { cl with conf := conf, asked := asked }).setReg ENG_CONF_HI 0 p (v / 2 ^ 32))
  else (0, s.setReg ENG_CONF_HI 0 p 0)

/-- A master of an array listed in R367. -/
def confListed (a m : Nat) : Bool := (a == 0 && decide (m ≤ 7)) || ((a == 1 || a == 2) && decide (m ≤ 4))

/-- A master of an array has made requests since its counter was read: of the exchange RAM's port A, a partition's accesses; the model
does not follow the others'. -/
def State.confAsked (s : State) (a m : Nat) : Bool := a != 2 || decide (4 ≤ m) || s.mem.asked.contains m

/-- A read of MEM_CONF_LO by partition `p` (R367, R383). -/
def State.memConf (s : State) (p : Nat) : Nat × State :=
  let a := s.fldP MEM_CONF_SEL_array p
  let m := s.fldP MEM_CONF_SEL_master p
  if confListed a m then
    let r := if s.confAsked a m then s.draw (2 ^ 48) else (0, s)
    let s := r.2
    let conf := bumpConf s.mem.conf (8 * a + m) r.1
    let v := (Sparse.get 0 conf (8 * a + m)).toNat
    let asked := if a = 2 then s.mem.asked.filter (· != m) else s.mem.asked
    (v % 2 ^ 32, ({ s with mem := { s.mem with conf := conf, asked := asked } }).setReg MEM_CONF_HI 0 p (v / 2 ^ 32))
  else (0, s.setReg MEM_CONF_HI 0 p 0)

end Sys2Proof.Machine
end

