-- ==== Sys2Proof/Machine/Lanes.lean ====
section
/-! DEFINITION. Serial lanes (R67 to R85): the 8b/10b code, symbol lock, clock recovery, equalisation, transmission,
electrical idle, counters and degradation. A change of lock and every symbol received go to the lane's link, whose answer is in
Machine/Links.lean. The code table is that of IEEE 802.3 Clause 36, which the spec names (PRESUMED: it does not repeat it). -/

namespace Sys2Proof.Machine

open Sys2Proof Reg

/-! The lanes (R67). -/

/-- The power domain of a lane (R384). -/
def laneDomain (l : Nat) : Nat :=
  if l < 64 then 6 + l / 8 else if l < 72 then 6 + (l - 64) else if l < 200 then 54 + (l - 72) / 8 else 70 + (l - 200) / 8

/-- A lane. -/
def State.lane (s : State) (l : Nat) : Lane := Sparse.get {} s.lnk l

/-- A lane changed. -/
def State.setLane (s : State) (l : Nat) (x : Lane) : State := { s with lnk := Sparse.set {} s.lnk l x }

/-! 8b/10b (R68, R69). A code group is written with bit a lowest. -/

/-- 5b/6b codes at negative running disparity, written abcdei with a highest. -/
def code6 : List Nat :=
  [0b100111, 0b011101, 0b101101, 0b110001, 0b110101, 0b101001, 0b011001, 0b111000,
   0b111001, 0b100101, 0b010101, 0b110100, 0b001101, 0b101100, 0b011100, 0b010111,
   0b011011, 0b100011, 0b010011, 0b110010, 0b001011, 0b101010, 0b011010, 0b111010,
   0b110011, 0b100110, 0b010110, 0b110110, 0b001110, 0b101110, 0b011110, 0b101011]

/-- 3b/4b codes at negative running disparity, written fghj with f highest. -/
def code4 : List Nat := [0b1011, 0b1001, 0b0101, 0b1100, 0b1101, 0b1010, 0b0110, 0b1110]

/-- Ones among the low `n` bits. -/
def onesN (n v : Nat) : Nat := ((List.range n).filter (fun i => v.testBit i)).length

/-- Running disparity after a sub-block of `n` bits. -/
def rdAfter (n v : Nat) (rd : Bool) : Bool := if onesN n v * 2 = n then rd else decide (n < onesN n v * 2)

/-- The 6-bit code of x, or of K28. -/
def enc6 (rd k : Bool) (x : Nat) : Nat :=
  let c := if k ∧ x = 28 then 0b001111 else code6.getD x 0
  if rd ∧ (onesN 6 c ≠ 3 ∨ c = 0b111000) then 63 - c else c

/-- The 4-bit code of y after a 6-bit code that ended at `rd`. -/
def enc4 (rd k : Bool) (x y : Nat) : Nat :=
  if k ∧ x = 28 then
    let c := [0b0100, 0b1001, 0b0101, 0b0011, 0b0010, 0b1010, 0b0110, 0b1000].getD y 0
    if rd then c else 15 - c
  else
    let alt := y == 7 && (k || (if rd then x == 11 || x == 13 || x == 14 else x == 17 || x == 18 || x == 20))
    let c := if alt then 0b0111 else code4.getD y 0
    if rd ∧ (onesN 4 c ≠ 2 ∨ c = 0b1100) then 15 - c else c

/-- Bits of an `n`-bit number in reverse order. -/
def revBits (n v : Nat) : Nat := (List.range n).foldl (fun r i => if v.testBit i then r + 2 ^ (n - 1 - i) else r) 0

/-- The code group of a byte, bit a lowest. -/
def encGroup (rd k : Bool) (b : Nat) : Nat :=
  let c6 := enc6 rd k (b % 32)
  let c4 := enc4 (rdAfter 6 c6 rd) k (b % 32) (b / 32)
  revBits 10 (c6 * 16 + c4)

/-- The control codes of the code: K28.0 to K28.7, K23.7, K27.7, K29.7, K30.7. -/
def controlBytes : List Nat := (List.range 8).map (fun y => 28 + 32 * y) ++ [0xF7, 0xFB, 0xFD, 0xFE]

/-- A group is in the code table for a running disparity. -/
def inTable (rd : Bool) (g : Nat) : Bool :=
  (List.range 256).any (fun b => encGroup rd false b == g) || controlBytes.any (fun b => encGroup rd true b == g)

/-- Running disparity after a group: from each sub-block, 000111 and 0011 ending positive, 111000 and 1100 negative. -/
def rdGroup (rd : Bool) (g : Nat) : Bool :=
  let w := revBits 10 g
  let c6 := w / 16
  let c4 := w % 16
  let rd := if c6 = 0b000111 then true else if c6 = 0b111000 then false else rdAfter 6 c6 rd
  if c4 = 0b0011 then true else if c4 = 0b1100 then false else rdAfter 4 c4 rd

/-- How a receiver classifies a group (R69): 0 valid, 1 disparity error, 2 code violation. -/
def classify (rd : Bool) (g : Nat) : Nat := if inTable rd g then 0 else if inTable (!rd) g then 1 else 2

/-- The control codes that the links use (R91, R272), in the code of IEEE 802.3: K28.0, K28.1, K28.2, K28.3, K28.5, K27.7, K29.7
and K30.7. -/
def k280 : Byte := 0x1C
def k281 : Byte := 0x3C
def k282 : Byte := 0x5C
def k283 : Byte := 0x7C
def k285 : Byte := 0xBC
def k277 : Byte := 0xFB
def k297 : Byte := 0xFD
def k307 : Byte := 0xFE

/-- The symbol that a group stands for at a running disparity (R69): a group out of the table has no decoded value. -/
def decGroup (rd : Bool) (g : Nat) : Sym :=
  match (List.range 256).find? fun b => encGroup rd false b == g with
  | some b => .data (BitVec.ofNat 8 b)
  | none =>
    match controlBytes.find? fun b => encGroup rd true b == g with
    | some b => .ctl (BitVec.ofNat 8 b)
    | none => .bad

/-- The group that carries a symbol at a running disparity (R68). No transmitter sends an invalid symbol. -/
def symGroup (rd : Bool) : Sym → Nat
  | .data b => encGroup rd false b.toNat
  | .ctl b => encGroup rd true b.toNat
  | .bad => 0

/-- The groups of symbols sent in a row from a running disparity, and the disparity after them. -/
def encSyms : Bool → List Sym → List Nat × Bool
  | rd, [] => ([], rd)
  | rd, y :: ys =>
    let g := symGroup rd y
    let r := encSyms (rdGroup rd g) ys
    (g :: r.1, r.2)

/-- The group holds a comma at its first bits. -/
def isComma (g : Nat) : Bool := revBits 7 (g % 128) == 0b0011111 || revBits 7 (g % 128) == 0b1100000

/-- The group is K28.3. -/
def isK283 (g : Nat) : Bool := g == encGroup false true 0x7C || g == encGroup true true 0x7C

/-! Equaliser (R74 to R77): CTLE, then taps 1 to 5, in units of 1/64 code. -/

/-- Effective limits of |tap 1|, |taps 2 to 5| and the CTLE. -/
def State.tapLim (s : State) (l i : Nat) : Nat :=
  let x := s.lane l
  if i = 1 then min (s.fldI LNK_RX_CFG_tap1_lim l) (x.effTap1.getD 31) else min (s.fldI LNK_RX_CFG_tapn_lim l) (x.effTapn.getD 15)
def State.ctleMax (s : State) (l : Nat) : Nat := s.fldI LNK_RX_CFG_ctle_max l
def State.ctleMin (s : State) (l : Nat) : Nat := min (s.fldI LNK_RX_CFG_ctle_min l) (s.ctleMax l)

/-- A value of the equaliser held to its limits; with dfe_en 0 the taps are 0. -/
def State.eqClamp (s : State) (l i : Nat) (v : Int) : Int :=
  if i = 0 then clampInt (64 * s.ctleMin l) (64 * s.ctleMax l) v
  else if s.fldI LNK_RX_CFG_dfe_en l = 0 then 0
  else clampInt (-(64 * s.tapLim l i : Nat)) (64 * s.tapLim l i) v

/-- The code in use of element `i`. -/
def Lane.eqCode (x : Lane) (i : Nat) : Int := x.eq.getD i 0 / 64


/-- A preset's starting values (R76). -/
def State.presetEq (s : State) (l : Nat) : List Int :=
  let p := s.fldI LNK_RX_CFG_preset l
  let p := if 5 < p then 2 else p
  (List.range 6).map fun i => if i = 0 then s.eqClamp l 0 (64 * (2 * p + 2)) else 0

/-- Element `i` sits at its effective limit: none does before the first HUNT has given the equaliser its values (R89). -/
def State.atLimit (s : State) (l i : Nat) : Bool :=
  let x := s.lane l
  if x.eq.isEmpty then false
  else if i = 0 then x.eqCode 0 == s.ctleMax l || x.eqCode 0 == s.ctleMin l
  else s.fldI LNK_RX_CFG_dfe_en l == 1 && decide (s.tapLim l i ≤ (x.eqCode i).natAbs)

/-- What the running windows see of the equaliser: elements off their limits, and the history since the last re-plan. -/
def State.eqNote (s : State) (l : Nat) : State :=
  let x := s.lane l
  let off := ([1, 2, 3, 4, 5].filter fun i => !s.atLimit l i)
  s.setLane l { x with
    tapOff := (x.tapOff ++ off).dedup, ctleOff := x.ctleOff || !s.atLimit l 0
    m1 := max x.m1 (x.eqCode 1).natAbs
    mn := [2, 3, 4, 5].foldl (fun m i => max m (x.eqCode i).natAbs) x.mn
    atLim := x.atLim || [1, 2, 3, 4, 5].any (s.atLimit l) }

/-- The equaliser takes new values; what it sat at before and after is seen by the window (R85). -/
def State.setEq (s : State) (l : Nat) (eq : List Int) : State :=
  let s := s.eqNote l
  (s.setLane l { s.lane l with eq := eq }).eqNote l

/-- Every element held to its limits now (R77). -/
def State.eqHold (s : State) (l : Nat) : State :=
  let x := s.lane l
  if x.eq.isEmpty then s else s.setEq l ((List.range 6).map fun i => s.eqClamp l i (x.eq.getD i 0))

/-- The limits of a lane's equaliser have changed from those of `old`: a value off its limit before is off for the window (R85), and one
beyond a limit is clamped at once (R77). -/
def State.eqFollow (s old : State) (l : Nat) : State :=
  let z := (old.eqNote l).lane l
  (s.setLane l { s.lane l with tapOff := z.tapOff, ctleOff := z.ctleOff }).eqHold l

/-- One update of sign-sign LMS (R74): signs for the CTLE and the taps; the step is 2^(mu − 10) of full scale. The spec does not
say what full scale is (DESIGN CHOICE, log entry 22): the number of codes of R74's table, 16 for the CTLE, 64 for tap 1 and 32 for
taps 2 to 5. -/
def State.adapt (s : State) (l : Nat) (lms : List Int) : State :=
  if s.fldI LNK_RX_CFG_freeze l = 1 then s
  else
    let x := s.lane l
    let mu := s.fldI LNK_RX_CFG_mu l
    let eq := (List.range 6).map fun i =>
      let d : Int := lms.getD i 0
      let sign : Int := if 0 < d then 1 else if d < 0 then -1 else 0
      let on := if i = 0 then s.fldI LNK_RX_CFG_ctle_adapt l == 1 else s.fldI LNK_RX_CFG_dfe_adapt l == 1
      let step : Int := 2 ^ mu * (if i = 0 then 1 else if i = 1 then 4 else 2)
      s.eqClamp l i (if on then x.eq.getD i 0 + sign * step else x.eq.getD i 0)
    s.setEq l eq

/-! Clock recovery (R71). -/

/-- The CDR tracks the far end: its estimates come from the signal, and the frequency within ±300 ppm of REFCLK. -/
def State.cdrTrack (s : State) (l : Nat) : State :=
  let f := s.draw 601
  let p := f.2.draw 64
  p.2.setLane l { p.2.lane l with cdrFreq := (f.1 : Int) - 300, cdrPhase := p.1 }

/-! Symbol lock (R70). -/

/-- What a lane reports to its link. -/
inductive LaneReport where
  | none | sync | lost | idle | exitFailed
  deriving DecidableEq, Repr

/-- A lane enters HUNT: a preset start the first time and where its link asks for one, else a held one (R75). -/
def State.hunt (s : State) (l : Nat) : State :=
  let x := s.lane l
  let s := if x.fresh ∨ x.eq.isEmpty then s.setEq l (s.presetEq l) else s
  s.setLane l { s.lane l with st := 1, fresh := false, commas := 0, bc := 0, good := 0, k283 := 0 }

/-- The link asks for a preset start at the lane's next HUNT (R75). -/
def State.askPreset (s : State) (l : Nat) : State := s.setLane l { s.lane l with fresh := true }

/-- An error counted once (R69, R84), in the window too. -/
def Lane.countErr (x : Lane) (kind : Nat) : Lane :=
  let x := { x with winErr := x.winErr + 1 }
  if kind = 1 then { x with disp := min (2 ^ 32 - 1) (x.disp + 1) } else { x with code := min (2 ^ 32 - 1) (x.code + 1) }

/-- A symbol in SYNC: bc up by one for an invalid one, down by one for 16 valid in a row. -/
def Lane.syncSym (x : Lane) (bad : Bool) : Lane :=
  if bad then { x with bc := x.bc + 1, good := 0 }
  else if x.good = 15 then { x with good := 0, bc := x.bc - 1 }
  else { x with good := x.good + 1 }

/-- The ten bits from `k` bits into the last ten and the next ten. -/
def groupAt (prev next k : Nat) : Nat := (prev + 1024 * next) / 2 ^ k % 1024

/-- The first of the ten alignments at which a comma stands (R70). -/
def findComma (prev : Option Nat) (next : Nat) : Option Nat :=
  match prev with
  | some q => (List.range 10).find? (fun k => isComma (groupAt q next (k + 1))) |>.map (· + 1)
  | none => if isComma next then some 10 else none

/-- What a receiver makes of ten bits: its state, what it reports, and the symbol that its link gets. -/
structure RxOut where
  s : State
  report : LaneReport
  sym : Option Sym

/-- The symbol that crosses the elastic buffer: every K28.0 is deleted (R72). -/
def elastic (y : Sym) : Option Sym := if y = .ctl k280 then none else some y

/-- A group of a lane in CHECK or SYNC, at its alignment (R69, R70, R79). A lane that leaves SYNC delivers no symbol. -/
def State.rxGroup (s : State) (l g : Nat) (lms : List Int) : RxOut :=
  let x := s.lane l
  let k := classify x.rdPos g
  let y := if k = 0 then decGroup x.rdPos g else .bad
  let x := { x with rdPos := rdGroup x.rdPos g }
  let x := if k = 0 then x else x.countErr k
  if x.st = 2 then
    if k ≠ 0 then ⟨(s.setLane l x).hunt l, .none, none⟩
    else if isComma g then
      if x.commas = 2 then ⟨s.setLane l { x with st := 3, bc := 0, good := 0, k283 := 0, sdAt := none }, .sync, none⟩
      else ⟨s.setLane l { x with commas := x.commas + 1 }, .none, none⟩
    else ⟨s.setLane l x, .none, none⟩
  else if k = 0 ∧ isK283 g ∧ x.k283 = 1 then ⟨s.setLane l x.toIdle, .idle, none⟩
  else
    let z : Lane := { x.syncSym (k != 0) with k283 := if k = 0 ∧ isK283 g then 1 else 0 }
    if 4 ≤ z.bc then ⟨(s.setLane l { z with lock := min (2 ^ 32 - 1) (z.lock + 1) }).hunt l, .lost, none⟩
    else ⟨(s.setLane l z).adapt l lms, .none, elastic y⟩

/-- The next ten bits arrive at a receiver (R70). Polarity inversion is applied first (R78). In IDLE they are discarded and the CDR
holds; in HUNT all ten alignments are searched, and the first found is locked. -/
def State.rxSym (s : State) (l : Nat) (sym : BitVec 10) (lms : List Int) : RxOut :=
  let next := (if s.fldI LNK_RX_CFG_rx_inv l = 1 then ~~~sym else sym).toNat
  if (s.lane l).st = 0 then ⟨s, .none, none⟩
  else
    let s := s.cdrTrack l
    let x := s.lane l
    let s := s.setLane l { x with raw := some next }
    if x.st = 1 then
      match findComma x.raw next with
      | some k =>
        let g := groupAt (x.raw.getD 0) next k
        ⟨s.setLane l { s.lane l with st := 2, commas := 1, align := k, rdPos := rdGroup x.rdPos g, k283 := 0 }, .none, none⟩
      | none => ⟨s, .none, none⟩
    else s.rxGroup l (groupAt (x.raw.getD 0) next x.align) lms

/-- Signal detect (R81): from IDLE to HUNT, with the CDR's held estimates. -/
def State.sigDetect (s : State) (l : Nat) : State :=
  if (s.lane l).st = 0 then (s.setLane l { s.lane l with sdAt := some s.now }).hunt l else s

/-- Input below the signal-detect threshold for 32 UI (R70, R81): SYNC is lost, and HUNT goes to IDLE. The rules do not speak of
CHECK: the model takes it to HUNT without a lock loss (DESIGN CHOICE, log entry 22). -/
def State.sigLoss (s : State) (l : Nat) : State × LaneReport :=
  let x := s.lane l
  if x.st = 3 then ((s.setLane l { x with lock := min (2 ^ 32 - 1) (x.lock + 1) }).hunt l, .lost)
  else if x.st = 2 then (s.hunt l, .none)
  else if x.st = 1 then (s.setLane l x.toIdle, .none)
  else (s, .none)

/-- SYNC not reached in time after a signal detect (R81): counted once and reported. -/
def State.exitFail (s : State) (l : Nat) : State × LaneReport :=
  let x := s.lane l
  if x.sdAt.isSome ∧ (x.st = 1 ∨ x.st = 2) then
    (s.setLane l { x with eix := min (2 ^ 32 - 1) (x.eix + 1), sdAt := none }, .exitFailed)
  else (s, .none)

/-! Transmission (R68, R78): what a lane sends, coded from its running disparity. -/

/-- Symbols sent on a lane that is out of electrical idle. -/
def State.txSend (s : State) (l : Nat) (ys : List Sym) : State :=
  let x := s.lane l
  if x.txIdle then s
  else
    let r := encSyms x.txRd ys
    let g := if s.fldI LNK_TX_CFG_tx_inv l = 1 then r.1.map (1023 - ·) else r.1
    (s.setLane l { x with txRd := r.2 }).emit (.symbols l g)

/-! Electrical idle of a transmitter (R79 to R82). -/

/-- min_idle, ns. -/
def State.minIdle (s : State) (l : Nat) : Ns := 10 * s.fldI LNK_EI_CFG_min_idle l

/-- Pairs of symbols in the training burst (R80): other values are taken as the nearer end of 8 to 128. -/
def State.burstLen (s : State) (l : Nat) : Nat := max 8 (min 128 (s.fldI LNK_EI_CFG_burst_len l))

/-- Symbol time of a transmit lane, ps (R67): 6.25 Gbaud for MTX, the drive link's rate for KTX. -/
def State.txSymbolPs (s : State) (l : Nat) : Nat :=
  if l < 72 then 1600
  else if s.kdl.rate = 0 then 3200 else if s.kdl.rate = 1 then 1600 else if s.kdl.rate = 2 then 1000 else 800

/-- So many symbols of a transmit lane, whole ns. -/
def State.symNs (s : State) (l n : Nat) : Ns := ceilDiv (n * s.txSymbolPs l) 1000

/-- The idle entry, whole ns (R79): four K28.3, and idle 8 ns after the last. -/
def State.entryNs (s : State) (l : Nat) : Ns := s.symNs l 4 + 8

/-- The least gap for which a link may use electrical idle, ps (R83): entry, min_idle, exit and training burst. -/
def State.idleGapPs (s : State) (l : Nat) : Nat :=
  4 * s.txSymbolPs l + 8000 + 1000 * s.minIdle l + 16000 + 2 * s.burstLen l * s.txSymbolPs l

/-- K28.5 D10.2, `n` times (R80). -/
def burstSyms (n : Nat) : List Sym := (List.range n).flatMap fun _ => [.ctl k285, .data 0x4A]

/-- A training start or an exit from idle that begins at `t`: preset, swing and its code take effect (R78, R423), and the training
burst of `n` symbols is sent, from idle 16 ns later and with running disparity negative (R68, R80). A reverse lane's sequence bytes
go on from its last block's (R92 lets the first be any). -/
def State.txBurst (s : State) (l n : Nat) (t : Ns) : State :=
  let x := s.lane l
  let p := s.fldI LNK_TX_CFG_preset l
  let s := (s.setLane l { x with
    txIdle := false, txHeldExit := none, txPreset := if 5 < p then 1 else p, txAmp := s.fldI LNK_TX_CFG_amp l
    txRd := if x.txIdle then false else x.txRd, txSince := t + (if x.txIdle then 16 else 0) + s.symNs l n
    txSeq := (x.txSeq + ceilDiv x.txPay 62) % 256, txPay := 0
    calCode := x.calNext.getD x.calCode, calNext := none }).emit (.idle l false n)
  s.txSend l (burstSyms (n / 2))

/-- What a lane carries between its link's traffic: idle pairs of MSP, or K28.5 of KDL (R91, R272). -/
def restSyms (l n : Nat) : List Sym :=
  if l < 72 then (List.range (n / 2)).flatMap fun _ => [.ctl k285, .data 0xB5] else List.replicate n (.ctl k285)

/-- The entry that begins at `t`: four K28.3, then idle. During a training burst the burst completes and 16 symbols of link traffic
follow before it (R82). -/
def State.txEntryAt (s : State) (l : Nat) (t : Ns) : State :=
  let x := s.lane l
  let inBurst := decide (t < x.txSince)
  let t := if inBurst then x.txSince + s.symNs l 16 else t
  let s := if inBurst then s.txSend l (restSyms l 16) else s
  let s := s.txSend l (List.replicate 4 (.ctl k283))
  (s.setLane l { s.lane l with txIdle := true, txHeldExit := none, txIdleSince := t + s.entryNs l }).emit (.idle l true 0)

/-- Requests that reach a lane in one cycle, at `t`: an exit, with the symbols of its training burst, and an entry (R82). On an active
lane the entry proceeds, and the exit is held until min_idle has elapsed after it; on an idle lane the exit proceeds, held until
min_idle has elapsed, and the entry is discarded. An entry requested later on its own ends an exit that is still held (DESIGN CHOICE,
log entry 22: R82 does not say). -/
def State.txAsk (s : State) (l : Nat) (exit : Option Nat) (entry : Bool) (t : Ns) : State :=
  let x := s.lane l
  if x.txIdle then
    match exit with
    | some n => if x.txIdleSince + s.minIdle l ≤ t then s.txBurst l n t else s.setLane l { x with txHeldExit := some n }
    | none => if entry then s.setLane l { x with txHeldExit := none } else s
  else if entry then
    let s := s.txEntryAt l t
    s.setLane l { s.lane l with txHeldExit := exit }
  else s

/-- An exit request, an entry request. -/
def State.txExit (s : State) (l : Nat) : State := s.txAsk l (some (2 * s.burstLen l)) false s.now
def State.txEnter (s : State) (l : Nat) : State := s.txAsk l none true s.now

/-! Degradation (R85). -/

/-- At least `gap` has passed since the time noted, if one is. -/
def State.since (s : State) (gap : Ns) : Option Ns → Bool
  | some t => decide (t + gap ≤ s.now)
  | none => true

/-- LANE_DEGRADED for a reason, at most once a second for each lane and reason. -/
def State.degraded (s : State) (l r : Nat) : State :=
  let x := s.lane l
  if s.fld LNK_DEG_CFG_en = 1 ∧ s.since 1000000000 (x.degPost.getD (r - 1) none) = true then
    (s.setLane l { x with degPost := x.degPost.set (r - 1) (some s.now) }).raise 0x32 0x05 (l + 4096 * r)
  else s

/-- A 1 ms window ends for a receive lane. The spec does not say where in TB the windows lie: each DEGRADE_WINDOW is the end of one
and the start of the next (DESIGN CHOICE, log entry 22). -/
def State.degWindow (s : State) (l : Nat) : State :=
  let x := s.lane l
  let off := (x.tapOff ++ [1, 2, 3, 4, 5].filter fun i => !s.atLimit l i)
  let tap := [1, 2, 3, 4, 5].any fun i => !off.contains i
  let ctle := !x.ctleOff && s.atLimit l 0 && !x.eq.isEmpty
  let s := if s.fld LNK_DEG_CFG_thr < x.winErr then s.degraded l 1 else s
  let s := if tap ∧ x.eq ≠ [] then s.degraded l 2 else s
  let s := if ctle then s.degraded l 3 else s
  s.setLane l { s.lane l with winErr := 0, tapOff := [], ctleOff := false }

/-- DEGRADE_WINDOW (R85). -/
def execDegradeWindow (lane : Nat) (s : State) : Host.Outcome State Fault Refusal :=
  .next (if isRx lane then s.degWindow lane else s)

end Sys2Proof.Machine
end

