-- ==== Sys2Proof/Machine/Compose.lean ====
section
/-! DEFINITION. Composition of one pixel (R106, R124, R128 to R136, R138 to R140, R153): formats, fetch, expansion, chroma
up-sampling, colour tables, the scaler, the blend and the post-blend LUT. -/

namespace Sys2Proof.Machine

open Sys2Proof Reg

/-! Formats (R106). -/

/-- A format: components, bits of each, binary16, and subsampling across and down. -/
structure Fmt where
  comps : Nat
  bits : Nat
  flt : Bool
  hs : Nat
  vs : Nat
  deriving DecidableEq, Repr

/-- The format of a code; none for a reserved one. -/
def fmtOf : Nat → Option Fmt
  | 0x01 => some ⟨3, 8, false, 1, 1⟩
  | 0x02 => some ⟨4, 8, false, 1, 1⟩
  | 0x03 => some ⟨3, 10, false, 1, 1⟩
  | 0x04 => some ⟨4, 10, false, 1, 1⟩
  | 0x05 => some ⟨3, 12, false, 1, 1⟩
  | 0x06 => some ⟨4, 12, false, 1, 1⟩
  | 0x07 => some ⟨3, 16, true, 1, 1⟩
  | 0x08 => some ⟨4, 16, true, 1, 1⟩
  | 0x10 => some ⟨1, 10, false, 1, 1⟩
  | 0x11 => some ⟨1, 12, false, 1, 1⟩
  | 0x12 => some ⟨2, 10, false, 2, 2⟩
  | 0x13 => some ⟨2, 12, false, 2, 2⟩
  | 0x14 => some ⟨2, 10, false, 2, 1⟩
  | 0x15 => some ⟨2, 12, false, 2, 1⟩
  | 0x16 => some ⟨1, 10, false, 1, 1⟩
  | 0x17 => some ⟨1, 12, false, 1, 1⟩
  | _ => none

/-- The format of a code, any for a reserved one. -/
def fmtD (code : Nat) : Fmt := (fmtOf code).getD ⟨3, 10, false, 1, 1⟩

/-- Bits of a sample as sent, and as stored (R124): 24 and 30 bits in a 32-bit word. -/
def Fmt.sample (f : Fmt) : Nat := f.comps * f.bits
def Fmt.stored (f : Fmt) : Nat := if f.sample = 24 ∨ f.sample = 30 then 32 else f.sample

/-- Samples across and down of a plane of a `w` × `h` image. -/
def Fmt.pw (f : Fmt) (w : Nat) : Nat := ceilDiv w f.hs
def Fmt.ph (f : Fmt) (h : Nat) : Nat := ceilDiv h f.vs

/-- Pitch of a plane's lines in bytes (R124). -/
def Fmt.pitch (f : Fmt) (w : Nat) : Nat := ceilDiv (f.pw w * f.stored) 512 * 64

/-- Bytes of a plane. -/
def Fmt.planeBytes (f : Fmt) (w h : Nat) : Nat := f.pitch w * f.ph h

/-! Layer buffers (R124). -/

/-- Source and destination sizes of a layer. -/
def State.srcW (s : State) (l : Nat) : Nat := s.fldI LYR_L_SRC_w l
def State.srcH (s : State) (l : Nat) : Nat := s.fldI LYR_L_SRC_h l
def State.dstW (s : State) (l : Nat) : Nat := if l < 4 then s.fldI LYR_L_DST_w l else s.srcW l
def State.dstH (s : State) (l : Nat) : Nat := if l < 4 then s.fldI LYR_L_DST_h l else s.srcH l

/-- PPA of slot `k` of a layer. -/
def State.slotAddr (s : State) (l k : Nat) : Nat :=
  s.fldI LYR_L_BASE_LO_addr_lo l * 4096 + s.fldI LYR_L_BASE_HI_addr_hi l * 2 ^ 32 + k * s.fldI LYR_L_STRIDE_stride l * 4096

/-- Offset of a plane in its slot. -/
def State.planeOff (s : State) (l p : Nat) : Nat :=
  if p = 0 then 4096
  else if p = 1 then s.fldI LYR_L_PLANE1_offset l * 4096
  else s.fldI LYR_L_PLANE2_offset l * 4096

/-- Planes of a layer: one for RGB, two with a chroma pair, three for 4:4:4. -/
def State.planes (s : State) (l : Nat) : Nat :=
  let c := s.fldI LYR_L_CTRL_cfmt l
  if c = 0 then 1 else if c = 0x16 ∨ c = 0x17 then 3 else 2

/-- Format of a plane. -/
def State.planeFmt (s : State) (l p : Nat) : Fmt :=
  fmtD (if p = 0 then s.fldI LYR_L_CTRL_fmt l else s.fldI LYR_L_CTRL_cfmt l)

/-- Bytes of a slot that a layer uses. -/
def State.slotBytes (s : State) (l : Nat) : Nat :=
  (List.range (s.planes l)).foldl (fun n p => max n (s.planeOff l p + (s.planeFmt l p).planeBytes (s.srcW l) (s.srcH l))) 4096

/-- A slot lies in LAYER regions, a slot of S in regions of the SAFETY partition (R354). -/
def State.slotOk (s : State) (l k : Nat) : Bool :=
  s.storeUp && s.areaIn (fun kind o => kind == 1 && (l != 12 || s.isSafety o)) 65 (s.slotAddr l k) (s.slotBytes l)

/-! Samples. -/

/-- Bits of the frame store from a bit offset. -/
def State.storeBits (s : State) (a bit n : Nat) : Nat :=
  leNat (s.bytes (a + bit / 8) ((bit % 8 + n + 7) / 8)) / 2 ^ (bit % 8) % 2 ^ n

/-- A binary16 value clamped to [0, 1] in 65,535ths, rounded half up; a NaN is 0 (R128). -/
def half16 (v : Nat) : Nat :=
  let e := v / 1024 % 32
  let m := v % 1024
  if 32768 ≤ v ∨ (e = 31 ∧ m ≠ 0) then 0
  else
    let x := if e = 0 then m else (1024 + m) * 2 ^ (e - 1)
    let x := min x (2 ^ 24)
    (2 * x * 65535 + 2 ^ 24) / 2 ^ 25

/-- Expansion of an n-bit component to 16 bits (R128). -/
def expand16 (n v : Nat) : Nat := v * 2 ^ (16 - n) + v / 2 ^ (2 * n - 16)

/-- A component of a format as 16 bits. -/
def Fmt.to16 (f : Fmt) (v : Nat) : Nat := if f.flt then half16 v else expand16 f.bits v

/-- Component `c` of the sample at (x, y) of a plane at PPA `a`, as 16 bits. -/
def State.comp16 (s : State) (f : Fmt) (a pitch x y c : Nat) : Nat :=
  f.to16 (s.storeBits (a + y * pitch) (x * f.stored + c * f.bits) f.bits)

/-- Up-sampling along one axis (R129) of values `v` of `n` samples. -/
def upSample (siting n : Nat) (v : Nat → Nat) (i : Nat) : Nat :=
  let k := i / 2
  let at_ (j : Nat) : Nat := v (min j (n - 1))
  if siting = 0 then
    if i % 2 = 0 then at_ k else (at_ k + at_ (k + 1) + 1) / 2
  else if i % 2 = 0 then (3 * at_ k + at_ (k - 1) + 2) / 4
  else (3 * at_ k + at_ (k + 1) + 2) / 4

/-- Component `c` of a chroma plane at full resolution: vertically first for 4:2:0, then horizontally. -/
def State.chroma (s : State) (l : Nat) (f : Fmt) (a x y c : Nat) : Nat :=
  let pitch := f.pitch (s.srcW l)
  let vert (x' : Nat) : Nat :=
    if f.vs = 2 then upSample (s.fldI LYR_L_CTRL_chroma_v l) (f.ph (s.srcH l)) (fun j => s.comp16 f a pitch x' j c) y
    else s.comp16 f a pitch x' y c
  if f.hs = 2 then upSample (s.fldI LYR_L_CTRL_chroma_h l) (f.pw (s.srcW l)) vert x else vert x

/-- A source pixel of a layer before its colour table: three components and alpha, 16 bits each. -/
def State.srcPixel (s : State) (l base x y : Nat) : List Nat × Nat :=
  let f := s.planeFmt l 0
  let c (k : Nat) : Nat := s.comp16 f (base + s.planeOff l 0) (f.pitch (s.srcW l)) x y k
  if s.planes l = 1 then
    if f.comps = 4 then ([c 1, c 2, c 3], c 0) else ([c 0, c 1, c 2], 65535)
  else
    let g := s.planeFmt l 1
    let cb := s.chroma l g (base + s.planeOff l 1) x y 0
    let cr := if s.planes l = 2 then s.chroma l g (base + s.planeOff l 1) x y 1 else s.chroma l g (base + s.planeOff l 2) x y 0
    ([c 0, cb, cr], 65535)

/-! Colour tables (R130, R131). -/

/-- The colour table at reset: identity, L[i] = 64i. -/
def defaultTab : ColourTab where
  m := [4096, 0, 0, 0, 4096, 0, 0, 0, 4096]
  pre := [0, 0, 0]
  post := [0, 0, 0]
  lutFirst := false
  lut := (List.range 3072).map (fun i => 64 * (i % 1024))

/-- The CSC. -/
def cscOf (t : ColourTab) (px : List Nat) : List Nat :=
  (List.range 3).map fun i =>
    let acc : Int := (List.range 3).foldl (fun n j => n + t.m.getD (3 * i + j) 0 * ((px.getD j 0 : Int) + t.pre.getD j 0)) 0
    (clampInt 0 65535 ((acc + 2048) / 4096 + t.post.getD i 0)).toNat

/-- A LUT of `n` entries indexed by the bits of `x` above `sh`, interpolated, and extrapolated beyond its last entry. -/
def lutOf (lut : Nat → Nat) (n sh x : Nat) : Nat :=
  let i := x / 2 ^ sh
  let f := x % 2 ^ sh
  let a : Int := lut i
  let next : Int := if i = n - 1 then 2 * a - lut (n - 2) else lut (i + 1)
  (clampInt 0 65535 (a + ((next - a) * f + 2 ^ (sh - 1)) / 2 ^ sh)).toNat

/-- The pre-blend LUT. -/
def preLut (t : ColourTab) (px : List Nat) : List Nat :=
  (List.range 3).map fun k => lutOf (fun i => t.lut.getD (1024 * k + i) 0) 1024 6 (px.getD k 0)

/-- A colour table applied in its order. -/
def colourOf (t : ColourTab) (px : List Nat) : List Nat := if t.lutFirst then cscOf t (preLut t px) else preLut t (cscOf t px)

/-- A layer's record. -/
def State.layer (s : State) (l : Nat) : Layer := Sparse.get {} s.lyr.layers l

/-- A layer's record changed. -/
def State.setLayer (s : State) (l : Nat) (x : Layer) : State :=
  { s with lyr := { s.lyr with layers := Sparse.set {} s.lyr.layers l x } }

/-- A layer's colour table applied. -/
def State.layerColour (s : State) (l : Nat) (px : List Nat) : List Nat :=
  match (s.layer l).ctab with
  | some t => colourOf t px
  | none => px

/-- A source pixel after the colour table: three components and alpha. -/
def State.convPixel (s : State) (l base x y : Nat) : List Nat :=
  let (px, a) := s.srcPixel l base x y
  s.layerColour l px ++ [a]

/-! Scaler (R132). -/

/-- Coefficient `k` of phase `ph`; at reset bilinear. `vert` chooses the 6-tap vertical set. -/
def coeffOf (c : Option (List Int)) (vert : Bool) (ph k : Nat) : Int :=
  match c with
  | some l => if vert then l.getD (512 + 6 * ph + k) 0 else l.getD (8 * ph + k) 0
  | none =>
    let h := if vert then 3 else 4
    if k = h - 1 then 1024 - 16 * ph else if k = h then 16 * ph else 0

/-- One pass of the scaler along an axis: source size `n`, destination size `d`, output sample `x`. -/
def scalePass (c : Option (List Int)) (vert : Bool) (n d x : Nat) (src : Nat → Nat) : Nat :=
  let step := n * 65536 / max 1 d
  let p : Int := (x * step + step / 2 : Nat) - 32768
  let ip := p / 65536
  let ph := (p / 1024 % 64).toNat
  let h : Int := if vert then 3 else 4
  let taps := if vert then 6 else 8
  let acc : Int := (List.range taps).foldl (fun t k =>
    t + coeffOf c vert ph k * (src (clampInt 0 (n - 1) (ip - h + 1 + k)).toNat : Int)) 0
  (clampInt 0 65535 ((acc + 512) / 1024)).toNat

/-- A layer's pixel at (x, y) of its destination rectangle: vertical pass first, then horizontal. -/
def State.layerPixel (s : State) (l base x y : Nat) : List Nat :=
  if 4 ≤ l then s.convPixel l base x y
  else
    let co := (s.layer l).coeff
    (List.range 4).map fun k =>
      scalePass co false (s.srcW l) (s.dstW l) x fun sx =>
        scalePass co true (s.srcH l) (s.dstH l) y fun sy => (s.convPixel l base sx sy).getD k 0

/-! Blend (R133). -/

/-- A 16-bit value lifted to 20 bits. -/
def lift20 (c : Nat) : Nat := c * 16 + c / 4096

/-- A 10-bit background component lifted to 20 bits. -/
def lift10 (b : Nat) : Nat := b * 1024 + b

/-- One layer's pixel over one colour of the accumulator. -/
def blendOne (straight : Bool) (g acc c a : Nat) : Nat :=
  let g16 := g * 256 + g
  let alpha := g16 * (a + 1) / 65536
  let a16 := alpha + alpha / 32768
  if straight then (acc * (65536 - a16) + lift20 c * a16 + 32768) / 65536
  else min (2 ^ 20 - 1) (lift20 (c * (g16 + 1) / 65536) + (acc * (65536 - a16) + 32768) / 65536)

/-- The background's three components. -/
def State.bgLift (s : State) : List Nat := [s.fld LYR_BG_r, s.fld LYR_BG_g, s.fld LYR_BG_b].map lift10

/-- The layers of the z-order, bottom first, each at its lowest slot (R134). -/
def State.zOrder (s : State) : List Nat :=
  let w := s.fld LYR_ZORDER_LO_slot7_0 + 2 ^ 32 * s.fld LYR_ZORDER_HI_slot11_8
  ((List.range 12).map (fun k => w / 16 ^ k % 16)).foldl (fun l n => if n < 12 ∧ !l.contains n then l ++ [n] else l) []

/-- The slot that a layer shows. -/
def State.shownSlot (s : State) (l : Nat) : Option Nat := (List.range 3).find? fun k => (Sparse.get {} (s.layer l).slots k).st == 4

/-- The view of the SHUTTER slot of the frame in progress (R63). -/
def State.curView (s : State) : Nat := s.viewOf s.scn.slot

/-- A layer takes part in the frame's blend: enabled, holding a shown frame, and named by the slot's view in SHUTTER (R139). -/
def State.blended (s : State) (l : Nat) : Bool :=
  (s.layer l).en && (s.shownSlot l).isSome && (s.mode != 4 || (s.fldI LYR_L_CTRL_views l).testBit s.curView)

/-- The layers whose pixels the frame blends, bottom first: S last; with safe_solo the safe image alone (R152). -/
def State.blendList (s : State) : List Nat :=
  let safe := s.flag LYR_S_STATUS_safe
  if safe ∧ (s.fld LYR_S_STATUS_safe_valid = 0 ∨ s.fld LYR_S_CTRL_safe_solo = 1) then []
  else (s.zOrder.filter fun l => s.blended l) ++ (if !safe ∧ s.blended 12 then [12] else [])

/-- A layer's pixel over the accumulator at content position (X, Y). -/
def State.blendLayer (s : State) (X Y : Nat) (acc : List Nat) (l : Nat) : List Nat :=
  let y := s.layer l
  let x0 : Int := (X : Int) - y.x
  let y0 : Int := (Y : Int) - y.y
  if 0 ≤ x0 ∧ x0 < s.dstW l ∧ 0 ≤ y0 ∧ y0 < s.dstH l then
    match s.shownSlot l with
    | some k =>
      let px := s.layerPixel l (s.slotAddr l k) x0.toNat y0.toNat
      (List.range 3).map fun i => blendOne (decide (l < 4)) y.galpha (acc.getD i 0) (px.getD i 0) (px.getD 3 0)
    | none => acc
  else acc

/-- PPA of the safe image, and a field of its header (R153). -/
def State.safeAddr (s : State) : Nat := s.fld LYR_S_SAFE_LO_addr_lo * 4096 + s.fld LYR_S_SAFE_HI_addr_hi * 2 ^ 32
def State.safeFld (s : State) (a n : Nat) : Nat := s.ppaLe (s.safeAddr + a) n

/-- The safe image over the accumulator: global alpha 255, alpha 1.0 where its format has none. -/
def State.blendSafe (s : State) (X Y : Nat) (acc : List Nat) : List Nat :=
  let w := s.safeFld 0 2
  let h := s.safeFld 2 2
  let x0 : Int := (X : Int) - signed 16 (s.safeFld 4 2)
  let y0 : Int := (Y : Int) - signed 16 (s.safeFld 6 2)
  if 0 ≤ x0 ∧ x0 < w ∧ 0 ≤ y0 ∧ y0 < h then
    let f := fmtD (s.safeFld 8 1)
    let c (k : Nat) : Nat := s.comp16 f (s.safeAddr + 64) (f.pitch w) x0.toNat y0.toNat k
    let px := s.layerColour 12 (if f.comps = 4 then [c 1, c 2, c 3] else [c 0, c 1, c 2])
    let a := if f.comps = 4 then c 0 else 65535
    (List.range 3).map fun i => blendOne false 255 (acc.getD i 0) (px.getD i 0) a
  else acc

/-- The blend's starting value: the background, or in SHORTCUT the line-store stream through expansion and V0's colour
table (R138); `none` before that stream is bound. -/
def State.blendStart (s : State) (X Y : Nat) : List Nat :=
  if s.pipeMode = 5 ∧ (s.flag LYR_S_STATUS_safe = false ∨ s.fld LYR_S_CTRL_safe_solo = 0) then
    match s.lyr.lineFmt with
    | some code =>
      let f := fmtD code
      let d := Sparse.read 0 s.lyr.lineBuf (Y * f.pitch 15360 + X * f.stored / 8) 9
      let w := leNat d / 2 ^ (X * f.stored % 8)
      s.layerColour 0 ((List.range 3).map fun k => f.to16 (w / 2 ^ (k * f.bits) % 2 ^ f.bits))
        |>.map lift20
    | none => s.bgLift
  else s.bgLift

/-- The blended pixel at content position (X, Y), three 20-bit components (R133). -/
def State.blendPixel (s : State) (X Y : Nat) : List Nat :=
  if s.flag LYR_S_STATUS_safe ∧ s.fld LYR_S_STATUS_safe_valid = 0 then s.bgLift
  else
    let acc := s.blendList.foldl (s.blendLayer X Y) (s.blendStart X Y)
    if s.flag LYR_S_STATUS_safe then s.blendSafe X Y acc else acc

/-! Post-blend LUT (R135, R136). -/

/-- The post-blend LUT on one colour of a 20-bit value, rounded to depth `d`. -/
def State.postBlend (s : State) (d k x : Nat) : Nat :=
  let lut (i : Nat) : Nat := match s.lyr.postLut with
    | some t => t.getD (4096 * k + i) 0
    | none => 16 * i
  let l := lutOf lut 4096 8 x
  min (2 ^ d - 1) ((l + 2 ^ (15 - d)) / 2 ^ (16 - d))

/-- The background value at depth `d` (R136). -/
def State.background (s : State) (d k : Nat) : Nat := s.postBlend d k (s.bgLift.getD k 0)

/-- A composed panel line: 46,080 subpixel levels at the mode's depth; in EXPRESS, content pixels replicated (R140). -/
def State.composeLine (s : State) (a : Nat) : List Nat :=
  let d := s.depth
  let w := if s.pipeMode = 3 then 2 else 1
  ((List.range (15360 / w)).map fun X =>
    let px := s.blendPixel X a
    let out := (List.range 3).map fun k => s.postBlend d k (px.getD k 0)
    (List.replicate w out).flatten).flatten

end Sys2Proof.Machine
end

