-- ==== Sys2Proof/Machine/Compens.lean ====
section
/-! DEFINITION. Compensation (R177 to R193): the working values, the tile codec, the maintenance sweep, vintage, the loads and
builds; and the dither (R195, R196). The shipped kernel's work is the model's where a cluster's job runs the library image. -/

namespace Sys2Proof.Machine

open Sys2Proof Reg

/-! Values (R178, R179). -/

/-- The compensation kernel on one subpixel at depth `d` (R178). -/
def correct (d : Nat) (v : Nat) (g : Nat) (o : Int) : Nat :=
  let acc : Int := (v * g * 2 ^ (16 - d) : Nat) + o * 2 ^ 14
  (clampInt 0 (2 ^ d - 1) ((acc + 2 ^ (29 - d)) / 2 ^ (30 - d))).toNat

/-- interp of R179: nodes 0 to m, `step` apart. -/
def interp (t : Nat → Int) (m step v : Nat) : Int :=
  let i := v / step
  if m ≤ i then t m else t i + ((t (i + 1) - t i) * (v % step : Nat) + (step / 2 : Nat)) / step

/-- Nodes of the vintage tables by colour. -/
def VintTabs.sAt (t : VintTabs) (k i : Nat) : Int := t.s.getD (33 * k + i) 0
def VintTabs.aAt (t : VintTabs) (i : Nat) : Int := t.a.getD i 0
def VintTabs.eAt (t : VintTabs) (k i : Nat) : Int := t.e.getD (65 * k + i) 0
def VintTabs.dAt (t : VintTabs) (k i : Nat) : Int := t.d.getD (65 * k + i) 0
def VintTabs.mAt (t : VintTabs) (k i : Nat) : Int := t.m.getD (65 * k + i) 0

/-- The tables in use before any is loaded (R190). -/
def noTabs : VintTabs where
  s := []
  a := List.replicate 17 4096
  e := List.replicate 195 16384
  d := []
  m := []

/-- Working gain and offset from source values, vintage and tables (R179). -/
def working (lcd : Bool) (t : VintTabs) (k gd : Nat) (od : Int) (v : Nat) : Nat × Int :=
  let gv : Int := if lcd then 16384 else interp (t.eAt k) 64 1024 v
  (min 65535 ((gd * gv.toNat + 8192) / 16384), clampInt (-32768) 32767 (od + interp (t.dAt k) 64 1024 v))

/-! Areas (R181, R182). -/

def State.cmpSrc (s : State) : Nat := s.fld CMP_SRC_LO_addr_lo * 4096 + s.fld CMP_SRC_HI_addr_hi * 2 ^ 32
def State.cmpCodec (s : State) : Nat := s.cmpSrc + 0x60000000
def State.cmpWork (s : State) (set : Nat) : Nat := s.fld CMP_WORK_LO_addr_lo * 4096 + s.fld CMP_WORK_HI_addr_hi * 2 ^ 32 + set * 0x80000000
def State.cmpVint (s : State) : Nat := s.fld CMP_VINT_LO_addr_lo * 4096 + s.fld CMP_VINT_HI_addr_hi * 2 ^ 32

/-- The part's own write of an area (R354): not made where it leaves the regions of its kind. -/
def State.partWrite (s : State) (kind a : Nat) (d : List Byte) : State :=
  if s.inKind kind a d.length then s.bufWrite a d else s.regionMiss

/-- PPA of a vintage value. -/
def State.vAddr (s : State) (x y k : Nat) : Nat := s.cmpVint + (y * 15360 + x) * 6 + 2 * k

/-- The stored vintage value of a subpixel. -/
def State.vintV (s : State) (x y k : Nat) : Nat := s.ppaLe (s.vAddr x y k) 2

/-- A gain and offset pair of an uncompressed map at `base` (R182). -/
def State.mapPair (s : State) (base x y k : Nat) : Nat × Int :=
  let a := base + (y * 15360 + x) * 12 + 4 * k
  (s.ppaLe a 2, signed 16 (s.ppaLe (a + 2) 2))

/-- The bytes of a gain and offset pair. -/
def pairBytes (p : Nat × Int) : List Byte := leBytes 2 p.1 ++ leBytes 2 (unsigned 16 p.2)

/-- Flags of CMP_STATUS. -/
def State.workValid (s : State) : Bool := s.flag CMP_STATUS_work_valid
def State.vintReady (s : State) : Bool := s.flag CMP_STATUS_vint_ready

/-- The vintage map is in use: it is filled, and vint_en is 1 (R190, R197). -/
def State.vintOn (s : State) : Bool := s.vintReady && s.fld CMP_CTRL_vint_en == 1

/-- The panel is an LCD (R298). -/
def State.lcd (s : State) : Bool := s.fld PNL_PANEL_type == 0

/-- The tables in force (R190). -/
def State.tabs (s : State) : VintTabs := if s.flag CMP_STATUS_tab_loaded then s.cmp.tabs.getD noTabs else noTabs

/-- The target values of a subpixel of the full geometry: `src` and `tabs` as the build or the sweep uses them. -/
def State.target (s : State) (src : Bool) (tabs : VintTabs) (x y k : Nat) : Nat × Int :=
  let p := if src then s.mapPair s.cmpSrc x y k else (16384, 0)
  working s.lcd tabs k p.1 p.2 (if s.vintOn then s.vintV x y k else 0)

/-! The tile codec (R183 to R185). -/

/-- A node's fields from its 24 bytes: gain, offset, steps (R183). -/
def nodeFields (d : List Byte) (k : Nat) : Nat × Int × Nat × Nat :=
  (leAt d (2 * k) 2, signed 16 (leAt d (6 + 2 * k) 2), leAt d (12 + k) 1, leAt d (15 + k) 1)

/-- A node's fields at the grid `base`. -/
def State.nodeAt (s : State) (base i j k : Nat) : Nat × Int × Nat × Nat := nodeFields (s.bytes (base + (j * 513 + i) * 24) 24) k

/-- A node as the kernel of cluster `c` has it: from the 17 columns that the cluster holds, once it has read them (R184). -/
def State.heldNode (s : State) (c base i j k : Nat) : Nat × Int × Nat × Nat :=
  let h := (s.cl c).nodes
  if h.isEmpty then s.nodeAt base i j k else nodeFields ((h.drop ((j * 17 + (i - 16 * c)) * 24)).take 24) k

/-- The cluster's kernel reads its node columns of the active set (R184). -/
def State.readNodes (s : State) (c : Nat) : State :=
  let base := s.cmpWork (s.fld CMP_STATUS_active_set)
  s.setCl c { s.cl c with nodes := (List.range 361).flatMap fun j => s.bytes (base + (j * 513 + 16 * c) * 24) 408 }

/-- base(f) of R184 at local column `u` and line `w`. -/
def nodeBase (u w : Nat) (n00 n10 n01 n11 : Int) : Int :=
  let h : Int := ((256 * (2 * u + 1) + 30) / 60 : Nat)
  let g : Int := ((256 * (2 * w + 1) + 24) / 48 : Nat)
  (n00 * (256 - h) * (256 - g) + n10 * h * (256 - g) + n01 * (256 - h) * g + n11 * h * g + 32768) / 65536

/-- Base gain and offset of a subpixel from its tile's nodes. -/
def baseOf (node : Nat → Nat → Nat × Int × Nat × Nat) (x y : Nat) : Int × Int :=
  let i := x / 30
  let j := y / 24
  let n00 := node i j
  let n10 := node (i + 1) j
  let n01 := node i (j + 1)
  let n11 := node (i + 1) (j + 1)
  (nodeBase (x % 30) (y % 24) n00.1 n10.1 n01.1 n11.1, nodeBase (x % 30) (y % 24) n00.2.1 n10.2.1 n01.2.1 n11.2.1)

/-- Base gain and offset against the grid at `base`. -/
def State.baseAt (s : State) (base x y k : Nat) : Int × Int := baseOf (fun i j => s.nodeAt base i j k) x y

/-- A record's residual (R184). -/
def State.residual (s : State) (rec x y k : Nat) : Int :=
  let j := 3 * (x % 30) + k
  let b := s.ppaLe (rec + 1080 * (y / 24 * 512 + x / 30) + 45 * (y % 24) + j / 2) 1
  signed 4 (if j % 2 = 0 then b % 16 else b / 16)

/-- Values decoded from a codec form whose node grid is at `base`, with its nodes (R184). -/
def State.decodeWith (s : State) (node : Nat → Nat → Nat × Int × Nat × Nat) (base x y k : Nat) : Nat × Int :=
  let b := baseOf node x y
  let n := node (x / 30) (y / 24)
  let r := s.residual (base + 0x440000) x y k
  ((clampInt 0 65535 (b.1 + r * 4 * n.2.2.1)).toNat, clampInt (-32768) 32767 (b.2 + r * 4 * n.2.2.2))

/-- Values decoded from a codec form in the frame store. -/
def State.decodePair (s : State) (base x y k : Nat) : Nat × Int := s.decodeWith (fun i j => s.nodeAt base i j k) base x y k

/-- The working values that the kernel applies (R178, R180, R190) at panel line `y`. -/
def State.workPair (s : State) (x y k : Nat) : Nat × Int :=
  if s.workValid = false then (16384, 0)
  else
    let base := s.cmpWork (s.fld CMP_STATUS_active_set)
    if s.fld CMP_CTRL_map_fmt = 1 then s.mapPair (base + 0x10000000) x y k
    else s.decodeWith (fun i j => s.heldNode (x / 480) base i j k) base x y k

/-- The panel line whose working values correct active line `a`. -/
def State.panelLine (s : State) (a : Nat) : Nat := if s.pipeMode = 3 then 2 * a else a

/-- A line's node of the grid, without its steps (R185), from target values. -/
def nodeOf (tg : Nat → Nat → Nat → Nat × Int) (i j k : Nat) : Nat × Int :=
  let ys := [clampInt 0 8639 (24 * (j : Int) - 1), clampInt 0 8639 (24 * (j : Int))].map Int.toNat
  let xs := [clampInt 0 15359 (30 * (i : Int) - 1), clampInt 0 15359 (30 * (i : Int))].map Int.toNat
  let ps := ys.flatMap fun y => xs.map fun x => tg x y k
  ((ps.foldl (fun n p => n + p.1) 2) / 4, ((ps.foldl (fun n p => n + p.2) (2 : Int)) / 4))

/-- A node's gain and offset written, its steps as they stand; row 360 and column 512 have no tile, and steps of zero (R183). -/
def State.putNode (s : State) (base : Nat) (tg : Nat → Nat → Nat → Nat × Int) (i j : Nat) : State :=
  let a := base + (j * 513 + i) * 24
  let ns := (List.range 3).map fun k => nodeOf tg i j k
  let s := s.partWrite 4 a ((ns.flatMap fun n => leBytes 2 n.1) ++ (ns.flatMap fun n => leBytes 2 (unsigned 16 n.2)))
  s.partWrite 4 (a + if i = 512 ∨ j = 360 then 12 else 18) (List.replicate (if i = 512 ∨ j = 360 then 12 else 6) 0)

/-- The subpixels of a tile (strip, tile row). -/
def tilePixels (strip row : Nat) : List (Nat × Nat) :=
  (List.range 24).flatMap fun w => (List.range 30).map fun u => (30 * strip + u, 24 * row + w)

/-- gs or os of R185. -/
def stepOf (es : List Int) : Nat := min 255 ((es.foldl (fun m e => max m e.natAbs) 0 + 27) / 28)

/-- r of R185. -/
def residualOf (gs os : Nat) (eg eo : Int) : Int :=
  let r : Int :=
    if gs = 0 ∧ os = 0 then 0
    else if os = 0 then roundDiv eg (4 * gs)
    else if gs = 0 then roundDiv eo (4 * os)
    else roundDiv (eg * os + eo * gs) (8 * gs * os)
  clampInt (-8) 7 r

/-- A tile's record encoded against its nodes as they stand (R185), with its steps. -/
def State.encodeTile (s : State) (base : Nat) (tg : Nat → Nat → Nat → Nat × Int) (strip row : Nat) : State :=
  let errs (k : Nat) : List (Int × Int) := (tilePixels strip row).map fun p =>
    let b := s.baseAt base p.1 p.2 k
    let t := tg p.1 p.2 k
    ((t.1 : Int) - b.1, t.2 - b.2)
  let es := (List.range 3).map errs
  let gs := es.map fun l => stepOf (l.map (·.1))
  let os := es.map fun l => stepOf (l.map (·.2))
  let nib (k n : Nat) : Nat :=
    let e := (es.getD k []).getD n (0, 0)
    unsigned 4 (residualOf (gs.getD k 0) (os.getD k 0) e.1 e.2)
  let rec_ := (List.range 1080).map fun b =>
    let w := b / 45
    let j := 2 * (b % 45)
    let at_ (j : Nat) : Nat := nib (j % 3) (30 * w + j / 3)
    BitVec.ofNat 8 (at_ j + 16 * at_ (j + 1))
  let s := s.partWrite 4 (base + (row * 513 + strip) * 24 + 12) ((gs ++ os).map (BitVec.ofNat 8))
  s.partWrite 4 (base + 0x440000 + 1080 * (row * 512 + strip)) rec_

/-- A line of the uncompressed working map written for some strips. -/
def State.putMapRow (s : State) (base : Nat) (tg : Nat → Nat → Nat → Nat × Int) (strip row : Nat) : State :=
  (List.range 24).foldl (fun s w =>
    let y := 24 * row + w
    let d := (List.range 30).flatMap fun u => (List.range 3).flatMap fun k => pairBytes (tg (30 * strip + u) y k)
    s.partWrite 4 (base + 0x10000000 + (y * 15360 + 30 * strip) * 12) d) s

/-! Tiles. -/

/-- A tile context. -/
def State.tile (s : State) (t : Nat) : Tile := Sparse.get {} s.odv.tiles t

/-- A tile context changed. -/
def State.setTile (s : State) (t : Nat) (x : Tile) : State := { s with odv := { s.odv with tiles := Sparse.set {} s.odv.tiles t x } }

/-- Tiles of the full geometry. -/
def tileCount : Nat := 184320

/-- The summary of a tile from the vintage map (R189). -/
def State.tileSum (s : State) (t k : Nat) : Nat :=
  ((tilePixels (t % 512) (t / 512)).foldl (fun n p => n + s.vintV p.1 p.2 k) 360) / 720

/-- A tile's summaries refreshed; all zero is kept as none. -/
def State.refreshSums (s : State) (t : Nat) : State :=
  let l := (List.range 3).map fun k => s.tileSum t k
  s.setTile t { s.tile t with sums := if l = [0, 0, 0] then [] else l }

/-- The frame store and NVS being up, and vint_en set, the vintage map is filled from the stored summaries (R190). -/
def State.fillVintage (s : State) : State :=
  if s.fld CMP_CTRL_vint_en = 1 ∧ s.vintReady = false ∧ s.storeUp ∧ s.nvs.loaded then
    if s.inKind 5 s.cmpVint 796262400 then
      let s := (List.range 8640).foldl (fun s y =>
        let d := (List.range 15360).flatMap fun x => (List.range 3).flatMap fun k =>
          leBytes 2 ((s.tile (y / 24 * 512 + x / 30)).sums.getD k 0)
        s.bufWrite (s.vAddr 0 y 0) d) s
      s.setFld CMP_STATUS_vint_ready 1
    else s.regionMiss
  else s

/-! The kernel at work (R177, R186 to R188). -/

/-- A cluster's job runs the library's image. -/
def State.libraryRuns (s : State) (c : Nat) : Bool :=
  match s.jobOf c with
  | some j => j.running && Config.libraryImage j.image.code
  | none => false

/-- A subpixel as the kernel gives it, on active line `a`. -/
def State.kernelOut (s : State) (a x k v : Nat) : Nat :=
  let p := s.workPair x (s.panelLine a) k
  correct s.depth v p.1 p.2

/-- The sweep runs in this mode (R186). -/
def State.sweeps (s : State) : Bool := s.fld CMP_CTRL_sweep_en == 1 && decide (s.mode ≤ 6)

/-- The stress rule (R187) for a subpixel whose output is `out`. -/
def State.stress (s : State) (x y k out n : Nat) : State :=
  let v := s.vintV x y k
  let l := out / 2 ^ (s.depth - 10)
  let t := (clampInt 0 1280 (s.tile (y / 24 * 512 + x / 30)).temp).toNat
  let rate := (interp (s.tabs.sAt k) 32 32 (min 1023 l)).toNat * (interp s.tabs.aAt 16 80 t).toNat / 4096
  let (rnd, s) := s.draw 65536
  let w := min 65535 (v + (rate * n + rnd) / 65536)
  let s := if w = 65535 then s.setFlag CMP_FLAGS_vint_sat else s
  if w = v then s else s.partWrite 5 (s.vAddr x y k) (leBytes 2 w)

/-- n of R187 for a tile row. -/
def State.sweepAge (s : State) (q : Nat) : Nat := min 65535 ((s.frame + 2 ^ 32 - Sparse.get 0 s.cmp.lastQ q % 2 ^ 32) % 2 ^ 32)

/-- Panel lines that active line `a` drives. -/
def State.panelLines (s : State) (a : Nat) : List Nat := if s.pipeMode = 3 then [2 * a, 2 * a + 1] else [a]

/-- Step 1 of the sweep as active line `a` leaves the kernel with the levels `out`: V of the row's subpixels, in the strips that the
kernel has given (R187). -/
def State.sweepStress (s : State) (a : Nat) (out : List Nat) (gave : Nat → Bool) : State :=
  if s.sweeps && s.vintOn && s.panelLine a / 24 == s.fld CMP_STATUS_sweep_row then
    let n := s.sweepAge (s.fld CMP_STATUS_sweep_row)
    (s.panelLines a).foldl (fun s y =>
      let s := s.countRecon (s.vAddr 0 y 0) 92160
      (List.range 15360).foldl (fun s x =>
        if gave (x / 30) then (List.range 3).foldl (fun s k => s.stress x y k (out.getD (3 * x + k) 0) n) s else s) s) s
  else s

/-- Strips whose clusters run the kernel, and grid columns all of whose strips do. -/
def State.sweepStrips (s : State) : List Nat := (List.range 512).filter fun i => s.libraryRuns (i / 16)
def State.sweepCols (s : State) : List Nat :=
  (List.range 513).filter fun i => (i = 512 || s.libraryRuns (i / 16)) && (i = 0 || s.libraryRuns ((i - 1) / 16))

/-- Steps 2 and 3 of the sweep of row `q` (R186): node row q + 1 from the targets of row q and the uncompressed working map of row q + 1,
then the records of both rows, and the working map of row q; the kernel's node columns follow. -/
def State.sweepEncode (s : State) (q : Nat) : State :=
  let base := s.cmpWork (s.fld CMP_STATUS_active_set)
  let strips := s.sweepStrips
  let s := if s.flag CMP_STATUS_src_loaded then s.countRecon (s.cmpSrc + 24 * q * 184320) (24 * 184320) else s
  let tg := s.target (s.flag CMP_STATUS_src_loaded) s.tabs
  let old := s.mapPair (base + 0x10000000)
  let tgNode (x y k : Nat) : Nat × Int := if y / 24 = q then tg x y k else old x y k
  let cols := s.sweepCols
  let s := (if q = 0 then [0, 1] else [q + 1]).foldl (fun s j => cols.foldl (fun s i => s.putNode base tgNode i j) s) s
  let s := strips.foldl (fun s i => (s.encodeTile base tg i q).putMapRow base tg i q) s
  let s := if q < 359 then strips.foldl (fun s i => s.encodeTile base old i (q + 1)) s else s
  ((List.range 32).filter s.libraryRuns).foldl State.readNodes s

/-- Steps 2 to 4 of the sweep of the current row (R186). Before the first build there is no working set to re-encode (R190). -/
def State.sweepRow (s : State) : State :=
  let q := s.fld CMP_STATUS_sweep_row
  let strips := s.sweepStrips
  let s := if s.workValid then s.sweepEncode q else s
  let s := if s.vintOn then strips.foldl (fun s i => s.refreshSums (q * 512 + i)) s else s
  { s with cmp := { s.cmp with swept := true, lastQ := Sparse.set 0 s.cmp.lastQ q s.frame } }

/-- The sweep's re-encoding once the last line of row q + 1 has been decoded: active line `a` has left the kernel. -/
def State.sweepLineEnd (s : State) (a : Nat) : State :=
  let q := s.fld CMP_STATUS_sweep_row
  if s.sweeps && !s.cmp.swept && !s.sweepStrips.isEmpty && decide (q < 359) && (s.panelLines a).contains (24 * (q + 2) - 1) then s.sweepRow
  else s

/-- The frame's end: a row not yet re-encoded is, and the sweep goes on to the next. -/
def State.sweepFrameEnd (s : State) : State :=
  if s.sweeps && !s.sweepStrips.isEmpty then
    let s := if s.cmp.swept then s else s.sweepRow
    let s := s.setFld CMP_STATUS_sweep_row ((s.fld CMP_STATUS_sweep_row + 1) % 360)
    { s with cmp := { s.cmp with swept := false } }
  else { s with cmp := { s.cmp with swept := false } }

/-- The sensing kernel on one sensed line of a cluster (R188): `entries` are its 1,440 ring entries. -/
def State.senseCorrect (s : State) (c line : Nat) (entries : List Nat) : State :=
  if s.lcd = false ∧ s.fld CMP_CTRL_sense_en = 1 ∧ s.libraryRuns c ∧ s.flag CMP_STATUS_tab_loaded ∧ s.vintOn then
    let w := min 256 (s.fld CMP_SENSE_weight)
    let s := (List.range 1440).foldl (fun s j =>
      let e := entries.getD j 0
      if e < 32768 then s
      else
        let x := 480 * c + j / 3
        let v : Int := s.vintV x line (j % 3)
        let vm := interp (s.tabs.mAt (j % 3)) 64 64 (e % 4096)
        let n := clampInt 0 65535 (v + ((vm - v) * w + 128) / 256)
        s.partWrite 5 (s.vAddr x line (j % 3)) (leBytes 2 n.toNat)) s
    s.setFlag CMP_FLAGS_sense
  else s

/-! Loads and builds (R191 to R193). -/

/-- A load's areas lie in their regions (R181, R192): a map that is read in place brings its CRC with it (R191). -/
def State.cmpAreas (s : State) (code : Nat) : Bool :=
  s.storeUp && s.inKind 4 s.cmpSrc (if code = 0x0200 then 1592524804 else 1592524800) && s.inKind 4 (s.cmpWork 0) 1860960256 && s.inKind 4 (s.cmpWork 1) 1860960256 &&
    (code != 0x0201 || s.inKind 4 s.cmpCodec 203522052) &&
    ((code != 0x0202 && s.fld CMP_CTRL_vint_en == 0) || s.inKind 5 s.cmpVint (if code = 0x0202 then 796262404 else 796262400))

/-- Halfwords of a byte string from `a` on. -/
def halves (d : List Byte) (a n : Nat) : List Nat := (List.range n).map fun i => leAt d (a + 2 * i) 2

/-- The vintage tables from their bytes. -/
def vintTabsOf (d : List Byte) : VintTabs where
  s := halves d 0 99
  a := halves d 198 17
  e := halves d 232 195
  d := (halves d 622 195).map (signed 16)
  m := halves d 1012 195

/-- `n` bytes whose last four are the CRC-32C of those before. -/
def crcGood (d : List Byte) (n : Nat) : Bool := d.length == n && leAt d (n - 4) 4 == crc32c (d.take (n - 4))

/-- The codec form's zero fields (R183). -/
def State.codecClean (s : State) : Bool :=
  (List.range (513 * 361)).all fun n =>
    leNat (s.bytes (s.cmpCodec + 24 * n + 18) 6) == 0 &&
      ((n % 513 != 512 && n / 513 != 360) || leNat (s.bytes (s.cmpCodec + 24 * n + 12) 6) == 0)

/-- The map in codec form decoded into the source map. -/
def State.decodeSource (s : State) : State :=
  (List.range 8640).foldl (fun s y =>
    let d := (List.range 15360).flatMap fun x => (List.range 3).flatMap fun k => pairBytes (s.decodePair s.cmpCodec x y k)
    s.partWrite 4 (s.cmpSrc + y * 184320) d) s

/-- R193: one tile and colour of a restored map brought forward to its summary. -/
def State.catchTile (s : State) (t k : Nat) : State :=
  let m := s.tileSum t k
  let sum := (s.tile t).sums.getD k 0
  if m < sum then
    let s := (tilePixels (t % 512) (t / 512)).foldl (fun s p =>
      s.partWrite 5 (s.vAddr p.1 p.2 k) (leBytes 2 (min 65535 (s.vintV p.1 p.2 k + (sum - m))))) s
    s.setFlag CMP_FLAGS_catchup
  else s

/-- A restored vintage map becomes the part's (R193). -/
def State.restoreVintage (s : State) : State :=
  let s := if s.fld CMP_CTRL_catchup = 1 then
      (List.range tileCount).foldl (fun s t => (List.range 3).foldl (fun s k => s.catchTile t k) s) s else s
  ((List.range tileCount).foldl State.refreshSums s).setFld CMP_STATUS_vint_ready 1

/-- A load's data, read and checked (R191, R328): the status, and the part with the data. -/
def State.cmpRead (s : State) (code len : Nat) (data : Option (List Byte)) : Nat × State :=
  match code with
  | 0x0200 =>
    if s.readable s.cmpSrc 1592524804 = false then (DATA_ERROR, s)
    else if crcGood (s.bytes s.cmpSrc 1592524804) 1592524804 = false then (INVALID, s)
    else (OK, { s with cmp := { s.cmp with newSrc := true } })
  | 0x0201 =>
    if s.readable s.cmpCodec 203522052 = false then (DATA_ERROR, s)
    else if s.ppaLe (s.cmpCodec + 0xC218000) 4 ≠ crc32c (s.bytes s.cmpCodec 4444632 ++ s.bytes (s.cmpCodec + 0x440000) 199065600) ∨
        s.codecClean = false then (INVALID, s)
    else (OK, { s.decodeSource with cmp := { s.cmp with newSrc := true } })
  | 0x0202 =>
    if s.readable s.cmpVint 796262404 = false then (DATA_ERROR, s)
    else if crcGood (s.bytes s.cmpVint 796262404) 796262404 = false then (INVALID, s)
    else (OK, s.restoreVintage)
  | 0x0203 =>
    if len ≠ 1412 then (INVALID, s)
    else
      match data with
      | none => (DATA_ERROR, s)
      | some d =>
        if crcGood d 1412 = false ∨ leAt d 1402 6 ≠ 0 then (INVALID, s)
        else (OK, { s with cmp := { s.cmp with tabs := some (vintTabsOf d), newTabs := true } })
  | _ => (OK, s)

/-- The area that a load reads in the frame store (R191). -/
def State.loadArea (s : State) (code : Nat) : Nat × Nat :=
  if code = 0x0200 then (s.cmpSrc, 1592524804)
  else if code = 0x0201 then (s.cmpCodec, 203522052)
  else if code = 0x0202 then (s.cmpVint, 796262404)
  else (0, 0)

/-- A load of R191 from partition OWNER: areas, data, and its build (R192). -/
def State.cmpLoad (s : State) (r : Req) (code len : Nat) (data : Option (List Byte)) : State :=
  if s.cmpAreas code = false then
    (if s.storeUp then s.regionMiss else s).done r NOT_READY
  else
    let s := s.countRecon (s.loadArea code).1 (s.loadArea code).2
    let x := s.cmpRead code len data
    if x.1 ≠ OK then s.done r x.1
    else
      let s := x.2
      let old := s.cmp.build
      let s : State := { s with cmp := { s.cmp with build := some r, buildDone := false } }
      let s := (s.setFld CMP_STATUS_building 1).setFld CMP_STATUS_build_row 0
      match old with
      | some o => (s.setFlag CMP_FLAGS_superseded).done o SUPERSEDED
      | none => s

/-- One tile row built into the idle set, from the row's source and vintage values. -/
def State.buildRow (s : State) (q : Nat) : State :=
  let s := if s.flag CMP_STATUS_src_loaded || s.cmp.newSrc then s.countRecon (s.cmpSrc + 24 * q * 184320) (24 * 184320) else s
  let s := if s.vintOn then s.countRecon (s.cmpVint + 24 * q * 92160) (24 * 92160) else s
  let base := s.cmpWork (1 - s.fld CMP_STATUS_active_set)
  let tg := s.target (s.flag CMP_STATUS_src_loaded || s.cmp.newSrc) (s.cmp.tabs.getD noTabs)
  let s := (if q = 0 then [0, 1] else [q + 1]).foldl (fun s j => (List.range 513).foldl (fun s i => s.putNode base tg i j) s) s
  (List.range 512).foldl (fun s i => (s.encodeTile base tg i q).putMapRow base tg i q) s

/-- The frame's share of a build (R192): it pauses in modes 7 to 11. -/
def State.buildStep (s : State) : State :=
  if s.cmp.build.isSome && !s.cmp.buildDone && decide (s.mode ≤ 6) then
    let q := s.fld CMP_STATUS_build_row
    let n := min (360 - q) (max 1 (s.fld CMP_CTRL_build_rows))
    let s := (List.range n).foldl (fun s i => s.buildRow (q + i)) s
    let s := s.setFld CMP_STATUS_build_row (q + n)
    { s with cmp := { s.cmp with buildDone := decide (360 ≤ q + n) } }
  else s

/-- A finished build takes effect at a frame boundary (R192). -/
def State.buildEffect (s : State) (frame tb : Nat) : State :=
  match s.cmp.build with
  | some r =>
    if s.cmp.buildDone then
      let s := (s.setFld CMP_STATUS_active_set (1 - s.fld CMP_STATUS_active_set)).setFld CMP_STATUS_work_valid 1
      let s := if s.cmp.newSrc then s.setFld CMP_STATUS_src_loaded 1 else s
      let s := if s.cmp.newTabs then s.setFld CMP_STATUS_tab_loaded 1 else s
      let s := ((s.setFld CMP_STATUS_building 0).setFld CMP_STATUS_build_row 0).addSat CMP_BUILD_CNT_count 0 0 1
      let s : State := { s with cmp := { s.cmp with build := none, buildDone := false, newSrc := false, newTabs := false } }
      let s := ((List.range 32).filter s.libraryRuns).foldl State.readNodes s
      s.complete r OK frame tb
    else s
  | none => s

/-! Dither (R195, R196). -/

/-- B of R195. -/
def ditherB (y x : Nat) : Nat :=
  ([0, 32, 8, 40, 2, 34, 10, 42, 48, 16, 56, 24, 50, 18, 58, 26, 12, 44, 4, 36, 14, 46, 6, 38, 60, 28, 52, 20, 62, 30, 54, 22,
    3, 35, 11, 43, 1, 33, 9, 41, 51, 19, 59, 27, 49, 17, 57, 25, 15, 47, 7, 39, 13, 45, 5, 37, 63, 31, 55, 23, 61, 29, 53, 21] :
    List Nat).getD (8 * (y % 8) + x % 8) 0

/-- T and Q of R195. -/
def ditherT (phi : Nat) : Nat := if phi % 4 = 1 then 2 else if phi % 4 = 2 then 1 else phi % 4
def ditherQ (y x : Nat) : Nat := if y % 2 = 0 then (if x % 2 = 0 then 0 else 2) else (if x % 2 = 0 then 3 else 1)

/-- The dither of one value at depth `d`: mode of CMP_DITH, the colour's phases, the frame's phase (R195). -/
def dither (d mode cfg phase x y v : Nat) : Nat :=
  let f := d - 10
  if f = 0 ∨ mode = 0 then min 1023 ((v + (if 0 < f then 2 ^ (f - 1) else 0)) / 2 ^ f)
  else
    let xs := x + cfg % 8
    let ys := y + cfg / 8 % 8
    let phi := (phase + cfg / 64 % 4 + ditherQ ys xs) % 4
    let th := if mode = 1 then 4 * ditherB ys xs + 2
      else if mode = 2 then 64 * ditherT phi + 32
      else 64 * ditherT phi + ditherB ys xs
    let frac := v % 2 ^ f * 2 ^ (8 - f)
    min 1023 (v / 2 ^ f + if th < frac then 1 else 0)

/-- The phases of a colour. -/
def State.dithCfg (s : State) (k : Nat) : Nat :=
  if k = 0 then s.fld CMP_DITH_red else if k = 1 then s.fld CMP_DITH_green else s.fld CMP_DITH_blue

/-- A subpixel dithered. -/
def State.dithered (s : State) (x a k v : Nat) : Nat := dither s.depth (s.fld CMP_DITH_mode) (s.dithCfg k) s.cmp.phase x a v

/-- The temporal phase of a new frame (R196): the frame number mod 4; in SHUTTER it advances at slot 0, and in a bridge
frame as in any; in CELLAR and LAYBY it stays the bake frame's. -/
def State.ditherFrame (s : State) (bridge : Bool) : State :=
  let p := if s.mode = 7 ∨ s.mode = 8 then s.cmp.bakePhase
    else if s.mode = 4 then (if s.scn.slot = 0 ∨ bridge = true then (s.cmp.phase + 1) % 4 else s.cmp.phase)
    else s.frame % 4
  { s with cmp := { s.cmp with phase := p, bakePhase := if s.flag MOD_STATUS_bake then p else s.cmp.bakePhase } }

end Sys2Proof.Machine
end

