-- ==== Sys2Proof/Machine/Operands.lean ====
section
/-! DEFINITION. Operands of engine instructions (R246, R251): immediates, the second vector operand, lanes under a
predicate, and addresses. -/

namespace Sys2Proof.Machine

open Sys2Proof

/-- A signed immediate as a 32-bit value. -/
def sxt {n : Nat} (x : BitVec n) : Word := x.signExtend 32

/-- An unsigned immediate as a 32-bit value. -/
def zxt {n : Nat} (x : BitVec n) : Word := x.setWidth 32

/-- An effective address: s[ra] + off, mod 2^32, with off signed (R251). -/
def Eng.ea (e : Eng) (ra : BitVec 4) (off : BitVec 14) : Nat := (e.sreg ra.toNat + sxt off).toNat

/-- A vector by lanes. -/
def lanes (f : Nat → Half) : List Half := (List.range 16).map f

/-- Lane `l` of a vector. -/
def laneAt (v : List Half) (l : Nat) : Half := v.getD l 0

/-- Lane `l` of an accumulator. -/
def alane (a : List (BitVec 40)) (l : Nat) : BitVec 40 := a.getD l 0

/-- The second vector operand (R246); none where src, or vb beside it, is reserved. -/
def Eng.vsrc (e : Eng) (src : BitVec 2) (vb : BitVec 5) : Option (List Half) :=
  if src = 0 then some (e.vreg vb.toNat)
  else if src = 1 then
    if vb.getLsbD 4 then none else some (lanes (fun _ => (e.sreg vb.toNat).setWidth 16))
  else if src = 2 then some (lanes (fun _ => vb.setWidth 16))
  else none

/-- A result under a predicate: lanes masked off keep the old value. -/
def masked (pg : Half) (old : List Half) (f : Nat → Half) : List Half :=
  lanes (fun l => if pg.getLsbD l then f l else laneAt old l)

/-- An engine's v-register written under a predicate. -/
def Eng.putV (e : Eng) (vd : BitVec 5) (pg : BitVec 3) (f : Nat → Half) : Eng :=
  e.setV vd.toNat (masked (e.preg pg.toNat) (e.vreg vd.toNat) f)

/-- A number as a lane of 16 bits, mod 2^16. -/
def toLane (x : Int) : Half := BitVec.ofInt 16 x

/-- A 16-bit number from two bytes of a byte string. -/
def halfAt (d : List Byte) (a : Nat) : Half := BitVec.ofNat 16 (leAt d a 2)

end Sys2Proof.Machine
end

