-- ==== Sys2Proof/Machine/Flags.lean ====
section
/-! DEFINITION. Conditions and saturation. The engine has no condition flags (R244): a condition is computed where an
instruction names it, a comparison's lanes go to a predicate, and saturation is silent. -/

namespace Sys2Proof.Machine

open Sys2Proof

/-- The condition of BR (R249); none for a reserved code. -/
def brCond (cond : BitVec 3) (a b : Word) : Option Bool :=
  match cond.toNat with
  | 0 => some (a == b)
  | 1 => some (a != b)
  | 2 => some (a.slt b)
  | 3 => some (!a.slt b)
  | 4 => some (a.ult b)
  | 5 => some (!a.ult b)
  | _ => none

/-- The condition of VCMP in one lane (R254); none for a reserved code. -/
def vCond (cond : BitVec 4) (a b : Half) : Option Bool :=
  match cond.toNat with
  | 0 => some (a == b)
  | 1 => some (a != b)
  | 2 => some (a.slt b)
  | 3 => some (a.sle b)
  | 4 => some (b.slt a)
  | 5 => some (b.sle a)
  | 6 => some (a.ult b)
  | 7 => some (a.ule b)
  | 8 => some (b.ult a)
  | 9 => some (b.ule a)
  | _ => none

/-- A word with bit l set for each lane l below 16 that `f` holds in. -/
def maskOf (f : Nat → Bool) : Half := BitVec.ofNat 16 ((List.range 16).foldl (fun n l => if f l then n + 2 ^ l else n) 0)

/-- Saturation of an exact result to signed 16 bits. -/
def satS (x : Int) : Half := toLane (clampInt (-32768) 32767 x)

/-- Saturation of an exact result to unsigned 16 bits. -/
def satU (x : Int) : Half := toLane (clampInt 0 65535 x)

/-- The number of ones in a predicate. -/
def ones (p : Half) : Nat := ((List.range 16).filter (fun l => p.getLsbD l)).length

end Sys2Proof.Machine
end

