-- ==== Sys2Proof/Machine/Scalar.lean ====
section
/-! DEFINITION. Scalar engine instructions (R248 to R251, R262 to R267): SALU, immediates, branches, LOOP, CSRs, scalar
loads and stores. Each command runs one instruction at the engine's pc; it does nothing on an engine that is not running. -/

namespace Sys2Proof.Machine

open Sys2Proof Reg

/-! Shared forms. -/

/-- rd := f(s[ra], s[rb]). -/
def State.salu (s : State) (g : Nat) (rd ra rb : BitVec 4) (f : Word → Word → Word) : State :=
  s.onEngine g fun s => s.engDo g fun e => e.setS rd.toNat (f (e.sreg ra.toNat) (e.sreg rb.toNat))

/-- rd := f(s[ra], imm). -/
def State.saluImm (s : State) (g : Nat) (rd ra : BitVec 4) (b : Word) (f : Word → Word → Word) : State :=
  s.onEngine g fun s => s.engDo g fun e => e.setS rd.toNat (f (e.sreg ra.toNat) b)

/-- 1 for true, 0 for false. -/
def wordOf (b : Bool) : Word := if b then 1 else 0

/-- A shift's amount: bits 4:0. -/
def shAmt (b : Word) : Nat := b.toNat % 32

/-- High 32 bits of the signed product. -/
def mulhS (a b : Word) : Word := BitVec.ofInt 32 (a.toInt * b.toInt / 2 ^ 32)

/-- High 32 bits of the unsigned product. -/
def mulhU (a b : Word) : Word := BitVec.ofNat 32 (a.toNat * b.toNat / 2 ^ 32)

/-- A jump to `t` with a register effect; a target outside 0 to 4,095 is a fetch fault at the jump (R249). -/
def State.jump (s : State) (g : Nat) (t : Int) (f : Eng → Eng) : State :=
  if 0 ≤ t ∧ t < 4096 then
    let e := f (s.en g)
    s.setEn g { e with pc := BitVec.ofNat 12 t.toNat, loops := keepLevels e.loops t.toNat }
  else s.engFault g 4

/-- SLD (R251): `n` bytes extended to 32 bits. -/
def State.sld (s : State) (g : Nat) (rd ra : BitVec 4) (off : BitVec 14) (n : Nat) (sgn : Bool) : State :=
  s.onEngine g fun s =>
    let a := (s.en g).ea ra off
    if addrOk a n then
      let v := leNat (s.engRead g a n)
      let x : Word := if sgn then BitVec.ofInt 32 (signed (8 * n) v) else BitVec.ofNat 32 v
      ({ s with free := if a < 0x10000 then s.free else s.free + 2 ^ 20 }).engDo g fun e => e.setS rd.toNat x
    else s.engFault g 2

/-- SST (R251): the low `n` bytes of s[rb]. -/
def State.sst (s : State) (g : Nat) (rb ra : BitVec 4) (off : BitVec 14) (n : Nat) : State :=
  s.onEngine g fun s =>
    let e := s.en g
    let a := e.ea ra off
    if addrOk a n && s.storeOk g a n then (s.engWrite g a (leBytes n (e.sreg rb.toNat).toNat)).retire g
    else s.engFault g 2

/-! LOOP (R250). -/

/-- The instruction word ends no body: a BR, JAL, JALR, LOOP or HALT. -/
def endsBadly (w : Word) : Bool :=
  let op := w.toNat / 2 ^ 26
  (decide (0x0A ≤ op) && decide (op ≤ 0x0D)) || (op == 0x0E && w.toNat % 16 == 3)

/-- LOOP's faults at the LOOP. -/
def loopBad (e : Eng) (n len : Nat) : Bool :=
  let pc := e.pc.toNat
  len == 0 || decide (4095 < pc + len) || endsBadly (e.code.getD (pc + len) 0) ||
    (n != 0 && (decide (2 ≤ e.loops.length) ||
      (match e.loops with
       | l :: _ => decide (l.stop < pc + len)
       | [] => false)))

/-- LOOP's effect. -/
def State.loopOp (s : State) (g : Nat) (n len : Nat) : State :=
  let e := s.en g
  let pc := e.pc.toNat
  if loopBad e n len then s.engFault g 1
  else if n = 0 then s.goTo g (pc + len + 1)
  else (s.setEn g { e with loops := { start := pc + 1, stop := pc + len, left := n } :: e.loops }).goTo g (pc + 1)

/-! CSRs (R266, R267). -/

/-- What a CSR is. -/
inductive CsrKind where
  | ro | rw | wo
  deriving DecidableEq, Repr

/-- The listed CSRs. -/
def csrKind (n : Nat) : Option CsrKind :=
  if n ≤ 7 then some .ro
  else if n = 0x10 then some .rw
  else if 0x11 ≤ n ∧ n ≤ 0x19 then some .ro
  else if n = 0x20 then some .wo
  else if n = 0x30 ∨ n = 0x31 then some .ro
  else none

/-- CSR_MODE. -/
def State.csrMode (s : State) : Nat :=
  s.mode + 16 * s.depth + 256 * s.fld PNL_PANEL_type + (if s.pipeMode = 3 then 512 else 0)

/-- The remaining count of a level; 0 when closed. -/
def leftOf : Option LoopLv → Nat
  | some l => l.left
  | none => 0

/-- The value of a CSR, and the state with free values moved on: the cycle count is not modelled. -/
def State.csrVal (s : State) (g n : Nat) : Nat × State :=
  let e := s.en g
  let c := clusterOf g
  let i := s.localOf g
  let cl := s.cl c
  match n with
  | 0 => (s.stripOf g + (if 512 ≤ g then 65536 else 0), s)
  | 1 => (s.csrMode, s)
  | 2 => (e.slot.frame, s)
  | 3 => (e.slot.tb % 2 ^ 32, s)
  | 4 => (e.slot.tb / 2 ^ 32, s)
  | 5 => s.draw (2 ^ 32)
  | 6 => (s.budget (match s.jobOf c with | some j => j.image.ckptLen | none => 0), s)
  | 7 => ((if e.resumed then 1 else 0) + (if e.started then 2 else 0), s)
  | 0x10 => (e.msflag.toNat, s)
  | 0x11 => ((Sparse.get 0 cl.wbPost i).toNat, s)
  | 0x12 => ((Sparse.get 0 cl.wbCnt i).toNat, s)
  | 0x30 => (leftOf (outerLv e.loops), s)
  | 0x31 => (leftOf (innerLv e.loops), s)
  | _ => if 0x13 ≤ n ∧ n ≤ 0x19 then ((Sparse.get 0 cl.sig (n - 0x12)).toNat, s) else (0, s)

/-- A value written to a CSR that is not read-only. -/
def Eng.csrPut (e : Eng) (n : Nat) (v : Word) : Eng :=
  if n = 0x10 then { e with msflag := v.setWidth 16 }
  else if n = 0x20 then { e with q := rndSeed (v.toNat % 65536) }
  else e

/-- A CSR instruction: rd := old value, then `f` of the old value and s[ra] is written. -/
def State.csrOp (s : State) (g : Nat) (rd ra : BitVec 4) (csr : BitVec 12) (f : Option (Word → Word → Word)) : State :=
  s.onEngine g fun s =>
    let n := csr.toNat
    match csrKind n, f with
    | none, _ => s.engFault g 1
    | some .ro, some _ => s.engFault g 1
    | some _, none =>
      if ra = 0 then
        let (v, s) := s.csrVal g n
        s.engDo g fun e => e.setS rd.toNat (BitVec.ofNat 32 v)
      else s.engFault g 1
    | some _, some f =>
      let (v, s) := s.csrVal g n
      s.engDo g fun e =>
        let e := e.setS rd.toNat (BitVec.ofNat 32 v)
        e.csrPut n (f (BitVec.ofNat 32 v) (e.sreg ra.toNat))

/-! Commands. -/

def execSaluAdd (g : Nat) (rd ra rb : BitVec 4) (s : State) : Host.Outcome State Fault Refusal :=
  .next (s.salu g rd ra rb fun a b => a + b)
def execSaluSub (g : Nat) (rd ra rb : BitVec 4) (s : State) : Host.Outcome State Fault Refusal :=
  .next (s.salu g rd ra rb fun a b => a - b)
def execSaluAnd (g : Nat) (rd ra rb : BitVec 4) (s : State) : Host.Outcome State Fault Refusal :=
  .next (s.salu g rd ra rb fun a b => a &&& b)
def execSaluOr (g : Nat) (rd ra rb : BitVec 4) (s : State) : Host.Outcome State Fault Refusal :=
  .next (s.salu g rd ra rb fun a b => a ||| b)
def execSaluXor (g : Nat) (rd ra rb : BitVec 4) (s : State) : Host.Outcome State Fault Refusal :=
  .next (s.salu g rd ra rb fun a b => a ^^^ b)
def execSaluSll (g : Nat) (rd ra rb : BitVec 4) (s : State) : Host.Outcome State Fault Refusal :=
  .next (s.salu g rd ra rb fun a b => a <<< shAmt b)
def execSaluSrl (g : Nat) (rd ra rb : BitVec 4) (s : State) : Host.Outcome State Fault Refusal :=
  .next (s.salu g rd ra rb fun a b => a >>> shAmt b)
def execSaluSra (g : Nat) (rd ra rb : BitVec 4) (s : State) : Host.Outcome State Fault Refusal :=
  .next (s.salu g rd ra rb fun a b => a.sshiftRight (shAmt b))
def execSaluSlt (g : Nat) (rd ra rb : BitVec 4) (s : State) : Host.Outcome State Fault Refusal :=
  .next (s.salu g rd ra rb fun a b => wordOf (a.slt b))
def execSaluSltu (g : Nat) (rd ra rb : BitVec 4) (s : State) : Host.Outcome State Fault Refusal :=
  .next (s.salu g rd ra rb fun a b => wordOf (a.ult b))
def execSaluMul (g : Nat) (rd ra rb : BitVec 4) (s : State) : Host.Outcome State Fault Refusal :=
  .next (s.salu g rd ra rb fun a b => a * b)
def execSaluMulh (g : Nat) (rd ra rb : BitVec 4) (s : State) : Host.Outcome State Fault Refusal :=
  .next (s.salu g rd ra rb mulhS)
def execSaluMulhu (g : Nat) (rd ra rb : BitVec 4) (s : State) : Host.Outcome State Fault Refusal :=
  .next (s.salu g rd ra rb mulhU)
def execSaluMin (g : Nat) (rd ra rb : BitVec 4) (s : State) : Host.Outcome State Fault Refusal :=
  .next (s.salu g rd ra rb fun a b => if b.slt a then b else a)
def execSaluMax (g : Nat) (rd ra rb : BitVec 4) (s : State) : Host.Outcome State Fault Refusal :=
  .next (s.salu g rd ra rb fun a b => if a.slt b then b else a)
def execSaluMinu (g : Nat) (rd ra rb : BitVec 4) (s : State) : Host.Outcome State Fault Refusal :=
  .next (s.salu g rd ra rb fun a b => if b.ult a then b else a)
def execSaluMaxu (g : Nat) (rd ra rb : BitVec 4) (s : State) : Host.Outcome State Fault Refusal :=
  .next (s.salu g rd ra rb fun a b => if a.ult b then b else a)

def execAddi (g : Nat) (rd ra : BitVec 4) (imm : BitVec 18) (s : State) : Host.Outcome State Fault Refusal :=
  .next (s.saluImm g rd ra (sxt imm) fun a b => a + b)
def execSlti (g : Nat) (rd ra : BitVec 4) (imm : BitVec 18) (s : State) : Host.Outcome State Fault Refusal :=
  .next (s.saluImm g rd ra (sxt imm) fun a b => wordOf (a.slt b))
def execSltiu (g : Nat) (rd ra : BitVec 4) (imm : BitVec 18) (s : State) : Host.Outcome State Fault Refusal :=
  .next (s.saluImm g rd ra (sxt imm) fun a b => wordOf (a.ult b))
def execAndi (g : Nat) (rd ra : BitVec 4) (imm : BitVec 18) (s : State) : Host.Outcome State Fault Refusal :=
  .next (s.saluImm g rd ra (zxt imm) fun a b => a &&& b)
def execOri (g : Nat) (rd ra : BitVec 4) (imm : BitVec 18) (s : State) : Host.Outcome State Fault Refusal :=
  .next (s.saluImm g rd ra (zxt imm) fun a b => a ||| b)
def execXori (g : Nat) (rd ra : BitVec 4) (imm : BitVec 18) (s : State) : Host.Outcome State Fault Refusal :=
  .next (s.saluImm g rd ra (zxt imm) fun a b => a ^^^ b)
def execSlli (g : Nat) (rd ra : BitVec 4) (sh : BitVec 5) (s : State) : Host.Outcome State Fault Refusal :=
  .next (s.saluImm g rd ra (zxt sh) fun a b => a <<< shAmt b)
def execSrli (g : Nat) (rd ra : BitVec 4) (sh : BitVec 5) (s : State) : Host.Outcome State Fault Refusal :=
  .next (s.saluImm g rd ra (zxt sh) fun a b => a >>> shAmt b)
def execSrai (g : Nat) (rd ra : BitVec 4) (sh : BitVec 5) (s : State) : Host.Outcome State Fault Refusal :=
  .next (s.saluImm g rd ra (zxt sh) fun a b => a.sshiftRight (shAmt b))
def execLui (g : Nat) (rd : BitVec 4) (imm : BitVec 16) (s : State) : Host.Outcome State Fault Refusal :=
  .next (s.saluImm g rd 0 (zxt imm) fun _ b => b <<< 16)

/-- BR (R249). -/
def execBr (g : Nat) (ra rb : BitVec 4) (cond : BitVec 3) (off : BitVec 15) (s : State) : Host.Outcome State Fault Refusal :=
  .next (s.onEngine g fun s =>
    let e := s.en g
    match brCond cond (e.sreg ra.toNat) (e.sreg rb.toNat) with
    | none => s.engFault g 1
    | some true => s.jump g ((e.pc.toNat : Int) + off.toInt) id
    | some false => s.retire g)

/-- JAL (R249). -/
def execJal (g : Nat) (off : BitVec 26) (s : State) : Host.Outcome State Fault Refusal :=
  .next (s.onEngine g fun s =>
    let pc := (s.en g).pc.toNat
    s.jump g ((pc : Int) + off.toInt) fun e => e.setS 15 (BitVec.ofNat 32 (pc + 1)))

/-- JALR (R249). -/
def execJalr (g : Nat) (rd ra : BitVec 4) (s : State) : Host.Outcome State Fault Refusal :=
  .next (s.onEngine g fun s =>
    let e := s.en g
    s.jump g ((e.sreg ra.toNat).toNat : Nat) fun e => e.setS rd.toNat (BitVec.ofNat 32 (e.pc.toNat + 1)))

/-- LOOP (R250). -/
def execLoop (g : Nat) (rc : BitVec 4) (count : BitVec 12) (len : BitVec 10) (s : State) : Host.Outcome State Fault Refusal :=
  .next (s.onEngine g fun s =>
    s.loopOp g (if rc = 0 then count.toNat else ((s.en g).sreg rc.toNat).toNat % 65536) len.toNat)

def execCsrRead (g : Nat) (rd ra : BitVec 4) (csr : BitVec 12) (s : State) : Host.Outcome State Fault Refusal :=
  .next (s.csrOp g rd ra csr none)
def execCsrWrite (g : Nat) (rd ra : BitVec 4) (csr : BitVec 12) (s : State) : Host.Outcome State Fault Refusal :=
  .next (s.csrOp g rd ra csr (some fun _ b => b))
def execCsrSet (g : Nat) (rd ra : BitVec 4) (csr : BitVec 12) (s : State) : Host.Outcome State Fault Refusal :=
  .next (s.csrOp g rd ra csr (some fun a b => a ||| b))
def execCsrClear (g : Nat) (rd ra : BitVec 4) (csr : BitVec 12) (s : State) : Host.Outcome State Fault Refusal :=
  .next (s.csrOp g rd ra csr (some fun a b => a &&& ~~~b))

def execLb (g : Nat) (rd ra : BitVec 4) (off : BitVec 14) (s : State) : Host.Outcome State Fault Refusal :=
  .next (s.sld g rd ra off 1 true)
def execLbu (g : Nat) (rd ra : BitVec 4) (off : BitVec 14) (s : State) : Host.Outcome State Fault Refusal :=
  .next (s.sld g rd ra off 1 false)
def execLh (g : Nat) (rd ra : BitVec 4) (off : BitVec 14) (s : State) : Host.Outcome State Fault Refusal :=
  .next (s.sld g rd ra off 2 true)
def execLhu (g : Nat) (rd ra : BitVec 4) (off : BitVec 14) (s : State) : Host.Outcome State Fault Refusal :=
  .next (s.sld g rd ra off 2 false)
def execLw (g : Nat) (rd ra : BitVec 4) (off : BitVec 14) (s : State) : Host.Outcome State Fault Refusal :=
  .next (s.sld g rd ra off 4 false)
def execSb (g : Nat) (rb ra : BitVec 4) (off : BitVec 14) (s : State) : Host.Outcome State Fault Refusal :=
  .next (s.sst g rb ra off 1)
def execSh (g : Nat) (rb ra : BitVec 4) (off : BitVec 14) (s : State) : Host.Outcome State Fault Refusal :=
  .next (s.sst g rb ra off 2)
def execSw (g : Nat) (rb ra : BitVec 4) (off : BitVec 14) (s : State) : Host.Outcome State Fault Refusal :=
  .next (s.sst g rb ra off 4)

/-- ILLEGAL_INSTRUCTION (R245): a fetched word that is no instruction. -/
def execIllegalInstruction (g : Nat) (w : Word) (s : State) : Host.Outcome State Fault Refusal :=
  .next (s.onEngine g fun s => if (decodeEngine g w).isNone then s.engFault g 1 else s)

end Sys2Proof.Machine
end

