-- ==== Sys2Proof/Machine/Vector.lean ====
section
/-! DEFINITION. Vector engine instructions (R251 to R260): loads and stores, VALU, comparisons and predicates, moves and
reductions, accumulators, table interpolation and random numbers. -/

namespace Sys2Proof.Machine

open Sys2Proof Reg

/-! Loads and stores (R251). -/

/-- A parity error met by a load of `n` bytes at `a` of engine g: in its own memory, or in its cluster's. -/
def State.loadParity (s : State) (g a : Nat) (e : ParityErr) : Option State :=
  if parityOk e = false then none
  else if a < 0x10000 ∧ e.inst = g ∧ e.word < 1024 then some (s.engParity e)
  else if 0x10000 ≤ a ∧ e.inst = 544 + clusterOf g then some (s.clParity e)
  else none

/-- VLD: the lanes of pg from 32 bytes. A parity error takes its array's action first; if that stops the engine, the load
does not complete. -/
def State.vldOp (s : State) (g : Nat) (vd : BitVec 5) (ra : BitVec 4) (pg : BitVec 3) (off : BitVec 14)
    (perr : Option ParityErr) : State :=
  s.onEngine g fun s =>
    let a := (s.en g).ea ra off
    if addrOk a 32 then
      let s := (perr.bind (s.loadParity g a)).getD s
      s.onEngine g fun s =>
        let d := s.engRead g a 32
        let s := { s with free := if a < 0x10000 then s.free else s.free + 2 ^ 20 }
        s.engDo g fun e => e.putV vd pg (fun l => halfAt d (2 * l))
    else s.engFault g 2

/-- VST: the bytes of the lanes of pg. -/
def State.vstOp (s : State) (g : Nat) (vb : BitVec 5) (ra : BitVec 4) (pg : BitVec 3) (off : BitVec 14) : State :=
  s.onEngine g fun s =>
    let e := s.en g
    let a := e.ea ra off
    if addrOk a 32 && s.storeOk g a 32 then
      ((List.range 16).foldl (fun s l =>
        if (e.preg pg.toNat).getLsbD l then s.engWrite g (a + 2 * l) (leBytes 2 (laneAt (e.vreg vb.toNat) l).toNat) else s) s).retire g
    else s.engFault g 2

/-! VALU, VCMP, PLOG, VMOVE. -/

/-- vd[l] := op(va[l], b[l]) in the lanes of pg (R253). -/
def State.valu (s : State) (g : Nat) (vd va vb : BitVec 5) (pg : BitVec 3) (src : BitVec 2) (f : Half → Half → Half) : State :=
  s.onEngine g fun s =>
    match (s.en g).vsrc src vb with
    | some b => s.engDo g fun e => e.putV vd pg fun l => f (laneAt (e.vreg va.toNat) l) (laneAt b l)
    | none => s.engFault g 1

/-- A VALU shift's amount: b mod 16. -/
def vsh (b : Half) : Nat := b.toNat % 16

/-- SRAR (R253): an arithmetic shift rounded half up. -/
def srarOf (a b : Half) : Half :=
  if vsh b = 0 then a else toLane ((a.toInt + 2 ^ (vsh b - 1)) / 2 ^ vsh b)

/-- A predicate operation on an engine (R254). -/
def State.plog (s : State) (g : Nat) (f : Eng → Eng) : State := s.onEngine g fun s => s.engDo g f

/-- Lanes 0 to n − 1; all for n of 16 or more. -/
def firstLanes (n : Nat) : Half := maskOf (fun l => decide (l < n))

/-- A reduction of the lanes of ps into s-register vd[3:0], from the first lane's value on; 0 over no lane (R255). -/
def State.vred (s : State) (g : Nat) (vd va : BitVec 5) (ps : BitVec 3) (ext : Half → Word) (f : Word → Word → Word) : State :=
  s.onEngine g fun s =>
    if vd.getLsbD 4 then s.engFault g 1
    else
      s.engDo g fun e =>
        let xs := ((List.range 16).filter (fun l => (e.preg ps.toNat).getLsbD l)).map (fun l => ext (laneAt (e.vreg va.toNat) l))
        e.setS vd.toNat (match xs with
          | [] => 0
          | x :: xs => xs.foldl f x)

/-- Sign and zero extension of a lane. -/
def sLane (x : Half) : Word := x.signExtend 32
def uLane (x : Half) : Word := x.setWidth 32

/-! Accumulators (R256, R257). -/

/-- The product of VMAC, extended to 40 bits; none for sgn 3. -/
def macProd (sgn : BitVec 2) (a b : Half) : BitVec 40 :=
  if sgn = 0 then BitVec.ofNat 40 (a.toNat * b.toNat)
  else if sgn = 1 then BitVec.ofInt 40 (a.toInt * (b.toNat : Int))
  else BitVec.ofInt 40 (a.toInt * b.toInt)

/-- An accumulator operation in the lanes of pg. -/
def State.macOp (s : State) (g : Nat) (ad : BitVec 2) (va vb : BitVec 5) (pg : BitVec 3) (src sgn : BitVec 2)
    (f : BitVec 40 → BitVec 40 → BitVec 40) : State :=
  s.onEngine g fun s =>
    match (s.en g).vsrc src vb with
    | none => s.engFault g 1
    | some b =>
      if sgn = 3 then s.engFault g 1
      else
        s.engDo g fun e =>
          let old := e.acc ad.toNat
          e.setA ad.toNat ((List.range 16).map fun l =>
            if (e.preg pg.toNat).getLsbD l then f (alane old l) (macProd sgn (laneAt (e.vreg va.toNat) l) (laneAt b l))
            else alane old l)

/-- AEXT's value of one accumulator lane (R257); `d` is the depth of the mode in force. -/
def aextOf (x : BitVec 40) (sh : Nat) (rnd : Bool) (sat : BitVec 2) (d : Nat) : Half :=
  let t : Int := (if rnd ∧ 0 < sh then x.toInt + 2 ^ (sh - 1) else x.toInt) / 2 ^ sh
  if sat = 0 then satS t
  else if sat = 1 then satU t
  else if sat = 2 then toLane (clampInt 0 (2 ^ d - 1) t)
  else toLane t

/-! Tables (R258, R259). -/

/-- Entry `k` of a table of 16-bit values at local address `a`. -/
def Eng.tab (e : Eng) (a : Nat) (sgn : Bool) (k : Nat) : Int :=
  let v := leNat (Sparse.read 0 e.mem (a + 2 * k) 2)
  if sgn then signed 16 v else (v : Int)

/-- VLUT's value for an input. -/
def vlutOf (t : Nat → Int) (m sh x : Nat) : Int :=
  let i := x / 2 ^ sh
  let f := x % 2 ^ sh
  if m ≤ i then t m
  else t i + ((t (i + 1) - t i) * f + (if 0 < sh then 2 ^ (sh - 1) else 0)) / 2 ^ sh

/-- Index and fraction along one side of a 2-D table. -/
def lut2Pos (x m sh : Nat) : Nat × Nat := if m ≤ x / 2 ^ sh then (m - 1, 2 ^ sh) else (x / 2 ^ sh, x % 2 ^ sh)

/-- The value of a 2-D table. -/
def lut2Of (t : Nat → Nat → Int) (mx my sh x y : Nat) : Int :=
  let px := lut2Pos x mx sh
  let py := lut2Pos y my sh
  let n : Int := 2 ^ sh
  let acc := t px.1 py.1 * (n - px.2) * (n - py.2) + t (px.1 + 1) py.1 * px.2 * (n - py.2) +
    t px.1 (py.1 + 1) * (n - px.2) * py.2 + t (px.1 + 1) (py.1 + 1) * px.2 * py.2
  (acc + (if 0 < sh then 2 ^ (2 * sh - 1) else 0)) / 2 ^ (2 * sh)

/-- VLUT2U and VLUT2S. -/
def State.vlut2 (s : State) (g : Nat) (vd va vb : BitVec 5) (ra sh : BitVec 4) (pg : BitVec 3) (sgn : Bool) : State :=
  s.onEngine g fun s =>
    let w := ((s.en g).sreg ra.toNat).toNat
    let a := w % 65536
    let mx := bits w 23 16
    let my := bits w 31 24
    if mx = 0 ∨ my = 0 then s.engFault g 1
    else if 0xFFFF < a + 2 * (my * (mx + 1) + mx) + 1 then s.engFault g 2
    else
      s.engDo g fun e => e.putV vd pg fun l =>
        toLane (lut2Of (fun i j => e.tab a sgn (j * (mx + 1) + i)) mx my sh.toNat
          (laneAt (e.vreg va.toNat) l).toNat (laneAt (e.vreg vb.toNat) l).toNat)

/-! VRND (R260). -/

/-- One step of a lane's LFSR. -/
def lfsrStep (q : Half) : Half := if q.getLsbD 0 then (q >>> 1) ^^^ 0xB400 else q >>> 1

/-- `n` steps. -/
def lfsrSteps : Nat → Half → Half
  | 0, q => q
  | n + 1, q => lfsrSteps n (lfsrStep q)

/-! Commands. -/

def execVld (g : Nat) (vd : BitVec 5) (ra : BitVec 4) (pg : BitVec 3) (off : BitVec 14) (perr : Option ParityErr) (s : State) :
    Host.Outcome State Fault Refusal := .next (s.vldOp g vd ra pg off perr)
def execVst (g : Nat) (vb : BitVec 5) (ra : BitVec 4) (pg : BitVec 3) (off : BitVec 14) (s : State) :
    Host.Outcome State Fault Refusal := .next (s.vstOp g vb ra pg off)

def execValuAdd (g : Nat) (vd va vb : BitVec 5) (pg : BitVec 3) (src : BitVec 2) (s : State) : Host.Outcome State Fault Refusal :=
  .next (s.valu g vd va vb pg src fun a b => a + b)
def execValuSub (g : Nat) (vd va vb : BitVec 5) (pg : BitVec 3) (src : BitVec 2) (s : State) : Host.Outcome State Fault Refusal :=
  .next (s.valu g vd va vb pg src fun a b => a - b)
def execAddss (g : Nat) (vd va vb : BitVec 5) (pg : BitVec 3) (src : BitVec 2) (s : State) : Host.Outcome State Fault Refusal :=
  .next (s.valu g vd va vb pg src fun a b => satS (a.toInt + b.toInt))
def execSubss (g : Nat) (vd va vb : BitVec 5) (pg : BitVec 3) (src : BitVec 2) (s : State) : Host.Outcome State Fault Refusal :=
  .next (s.valu g vd va vb pg src fun a b => satS (a.toInt - b.toInt))
def execAddus (g : Nat) (vd va vb : BitVec 5) (pg : BitVec 3) (src : BitVec 2) (s : State) : Host.Outcome State Fault Refusal :=
  .next (s.valu g vd va vb pg src fun a b => satU ((a.toNat : Int) + b.toNat))
def execSubus (g : Nat) (vd va vb : BitVec 5) (pg : BitVec 3) (src : BitVec 2) (s : State) : Host.Outcome State Fault Refusal :=
  .next (s.valu g vd va vb pg src fun a b => satU ((a.toNat : Int) - b.toNat))
def execMullo (g : Nat) (vd va vb : BitVec 5) (pg : BitVec 3) (src : BitVec 2) (s : State) : Host.Outcome State Fault Refusal :=
  .next (s.valu g vd va vb pg src fun a b => a * b)
def execMulhs (g : Nat) (vd va vb : BitVec 5) (pg : BitVec 3) (src : BitVec 2) (s : State) : Host.Outcome State Fault Refusal :=
  .next (s.valu g vd va vb pg src fun a b => toLane (a.toInt * b.toInt / 65536))
def execValuMulhu (g : Nat) (vd va vb : BitVec 5) (pg : BitVec 3) (src : BitVec 2) (s : State) : Host.Outcome State Fault Refusal :=
  .next (s.valu g vd va vb pg src fun a b => BitVec.ofNat 16 (a.toNat * b.toNat / 65536))
def execValuMin (g : Nat) (vd va vb : BitVec 5) (pg : BitVec 3) (src : BitVec 2) (s : State) : Host.Outcome State Fault Refusal :=
  .next (s.valu g vd va vb pg src fun a b => if b.slt a then b else a)
def execValuMax (g : Nat) (vd va vb : BitVec 5) (pg : BitVec 3) (src : BitVec 2) (s : State) : Host.Outcome State Fault Refusal :=
  .next (s.valu g vd va vb pg src fun a b => if a.slt b then b else a)
def execValuMinu (g : Nat) (vd va vb : BitVec 5) (pg : BitVec 3) (src : BitVec 2) (s : State) : Host.Outcome State Fault Refusal :=
  .next (s.valu g vd va vb pg src fun a b => if b.ult a then b else a)
def execValuMaxu (g : Nat) (vd va vb : BitVec 5) (pg : BitVec 3) (src : BitVec 2) (s : State) : Host.Outcome State Fault Refusal :=
  .next (s.valu g vd va vb pg src fun a b => if a.ult b then b else a)
def execValuAnd (g : Nat) (vd va vb : BitVec 5) (pg : BitVec 3) (src : BitVec 2) (s : State) : Host.Outcome State Fault Refusal :=
  .next (s.valu g vd va vb pg src fun a b => a &&& b)
def execValuOr (g : Nat) (vd va vb : BitVec 5) (pg : BitVec 3) (src : BitVec 2) (s : State) : Host.Outcome State Fault Refusal :=
  .next (s.valu g vd va vb pg src fun a b => a ||| b)
def execValuXor (g : Nat) (vd va vb : BitVec 5) (pg : BitVec 3) (src : BitVec 2) (s : State) : Host.Outcome State Fault Refusal :=
  .next (s.valu g vd va vb pg src fun a b => a ^^^ b)
def execValuAndn (g : Nat) (vd va vb : BitVec 5) (pg : BitVec 3) (src : BitVec 2) (s : State) : Host.Outcome State Fault Refusal :=
  .next (s.valu g vd va vb pg src fun a b => a &&& ~~~b)
def execValuSll (g : Nat) (vd va vb : BitVec 5) (pg : BitVec 3) (src : BitVec 2) (s : State) : Host.Outcome State Fault Refusal :=
  .next (s.valu g vd va vb pg src fun a b => a <<< vsh b)
def execValuSrl (g : Nat) (vd va vb : BitVec 5) (pg : BitVec 3) (src : BitVec 2) (s : State) : Host.Outcome State Fault Refusal :=
  .next (s.valu g vd va vb pg src fun a b => a >>> vsh b)
def execValuSra (g : Nat) (vd va vb : BitVec 5) (pg : BitVec 3) (src : BitVec 2) (s : State) : Host.Outcome State Fault Refusal :=
  .next (s.valu g vd va vb pg src fun a b => a.sshiftRight (vsh b))
def execSrar (g : Nat) (vd va vb : BitVec 5) (pg : BitVec 3) (src : BitVec 2) (s : State) : Host.Outcome State Fault Refusal :=
  .next (s.valu g vd va vb pg src srarOf)
def execAbsdu (g : Nat) (vd va vb : BitVec 5) (pg : BitVec 3) (src : BitVec 2) (s : State) : Host.Outcome State Fault Refusal :=
  .next (s.valu g vd va vb pg src fun a b => if a.ult b then b - a else a - b)
def execAvgu (g : Nat) (vd va vb : BitVec 5) (pg : BitVec 3) (src : BitVec 2) (s : State) : Host.Outcome State Fault Refusal :=
  .next (s.valu g vd va vb pg src fun a b => BitVec.ofNat 16 ((a.toNat + b.toNat + 1) / 2))
def execVmov (g : Nat) (vd va vb : BitVec 5) (pg : BitVec 3) (src : BitVec 2) (s : State) : Host.Outcome State Fault Refusal :=
  .next (s.valu g vd va vb pg src fun _ b => b)

/-- VCMP (R254). -/
def execVcmp (g : Nat) (pd : BitVec 3) (va vb : BitVec 5) (pg : BitVec 3) (src : BitVec 2) (cond : BitVec 4) (s : State) :
    Host.Outcome State Fault Refusal :=
  .next (s.onEngine g fun s =>
    match (s.en g).vsrc src vb, vCond cond 0 0 with
    | some b, some _ => s.engDo g fun e =>
        e.setP pd.toNat (maskOf fun l =>
          (e.preg pg.toNat).getLsbD l && (vCond cond (laneAt (e.vreg va.toNat) l) (laneAt b l) == some true))
    | _, _ => s.engFault g 1)

def execPlogAnd (g : Nat) (pd pa pb : BitVec 3) (_sa : BitVec 4) (s : State) : Host.Outcome State Fault Refusal :=
  .next (s.plog g fun e => e.setP pd.toNat (e.preg pa.toNat &&& e.preg pb.toNat))
def execPlogOr (g : Nat) (pd pa pb : BitVec 3) (_sa : BitVec 4) (s : State) : Host.Outcome State Fault Refusal :=
  .next (s.plog g fun e => e.setP pd.toNat (e.preg pa.toNat ||| e.preg pb.toNat))
def execPlogXor (g : Nat) (pd pa pb : BitVec 3) (_sa : BitVec 4) (s : State) : Host.Outcome State Fault Refusal :=
  .next (s.plog g fun e => e.setP pd.toNat (e.preg pa.toNat ^^^ e.preg pb.toNat))
def execPlogAndn (g : Nat) (pd pa pb : BitVec 3) (_sa : BitVec 4) (s : State) : Host.Outcome State Fault Refusal :=
  .next (s.plog g fun e => e.setP pd.toNat (e.preg pa.toNat &&& ~~~e.preg pb.toNat))
def execPlogNot (g : Nat) (pd pa _pb : BitVec 3) (_sa : BitVec 4) (s : State) : Host.Outcome State Fault Refusal :=
  .next (s.plog g fun e => e.setP pd.toNat (~~~e.preg pa.toNat))
def execFroms (g : Nat) (pd _pa _pb : BitVec 3) (sa : BitVec 4) (s : State) : Host.Outcome State Fault Refusal :=
  .next (s.plog g fun e => e.setP pd.toNat ((e.sreg sa.toNat).setWidth 16))
def execTos (g : Nat) (_pd pa _pb : BitVec 3) (sa : BitVec 4) (s : State) : Host.Outcome State Fault Refusal :=
  .next (s.plog g fun e => e.setS sa.toNat ((e.preg pa.toNat).setWidth 32))
def execCnt (g : Nat) (_pd pa _pb : BitVec 3) (sa : BitVec 4) (s : State) : Host.Outcome State Fault Refusal :=
  .next (s.plog g fun e => e.setS sa.toNat (BitVec.ofNat 32 (ones (e.preg pa.toNat))))
def execFirstn (g : Nat) (pd _pa _pb : BitVec 3) (sa : BitVec 4) (s : State) : Host.Outcome State Fault Refusal :=
  .next (s.plog g fun e => e.setP pd.toNat (firstLanes (e.sreg sa.toNat).toNat))

/-- VSEL (R255): ps selects, in all lanes. -/
def execVsel (g : Nat) (vd va vb : BitVec 5) (ps : BitVec 3) (s : State) : Host.Outcome State Fault Refusal :=
  .next (s.onEngine g fun s => s.engDo g fun e =>
    e.setV vd.toNat (lanes fun l =>
      if (e.preg ps.toNat).getLsbD l then laneAt (e.vreg va.toNat) l else laneAt (e.vreg vb.toNat) l))
/-- VPERM (R255). -/
def execVperm (g : Nat) (vd va vb : BitVec 5) (ps : BitVec 3) (s : State) : Host.Outcome State Fault Refusal :=
  .next (s.onEngine g fun s => s.engDo g fun e => e.putV vd ps fun l =>
    let i := (laneAt (e.vreg vb.toNat) l).toNat % 32
    if 16 ≤ i then laneAt (e.vreg vd.toNat) (i - 16) else laneAt (e.vreg va.toNat) i)
def execVbcst (g : Nat) (vd va vb : BitVec 5) (ps : BitVec 3) (s : State) : Host.Outcome State Fault Refusal :=
  .next (s.onEngine g fun s => s.engDo g fun e => e.putV vd ps fun _ => laneAt (e.vreg va.toNat) (vb.toNat % 16))
def execVbcsts (g : Nat) (vd _va vb : BitVec 5) (ps : BitVec 3) (s : State) : Host.Outcome State Fault Refusal :=
  .next (s.onEngine g fun s => s.engDo g fun e => e.putV vd ps fun _ => (e.sreg (vb.toNat % 16)).setWidth 16)
def execVredAdd (g : Nat) (vd va _vb : BitVec 5) (ps : BitVec 3) (s : State) : Host.Outcome State Fault Refusal :=
  .next (s.vred g vd va ps sLane fun a b => a + b)
def execVredAddu (g : Nat) (vd va _vb : BitVec 5) (ps : BitVec 3) (s : State) : Host.Outcome State Fault Refusal :=
  .next (s.vred g vd va ps uLane fun a b => a + b)
def execVredMin (g : Nat) (vd va _vb : BitVec 5) (ps : BitVec 3) (s : State) : Host.Outcome State Fault Refusal :=
  .next (s.vred g vd va ps sLane fun a b => if b.slt a then b else a)
def execVredMax (g : Nat) (vd va _vb : BitVec 5) (ps : BitVec 3) (s : State) : Host.Outcome State Fault Refusal :=
  .next (s.vred g vd va ps sLane fun a b => if a.slt b then b else a)
def execVredMinu (g : Nat) (vd va _vb : BitVec 5) (ps : BitVec 3) (s : State) : Host.Outcome State Fault Refusal :=
  .next (s.vred g vd va ps uLane fun a b => if b.ult a then b else a)
def execVredMaxu (g : Nat) (vd va _vb : BitVec 5) (ps : BitVec 3) (s : State) : Host.Outcome State Fault Refusal :=
  .next (s.vred g vd va ps uLane fun a b => if a.ult b then b else a)

def execVmul (g : Nat) (ad : BitVec 2) (va vb : BitVec 5) (pg : BitVec 3) (src sgn : BitVec 2) (s : State) :
    Host.Outcome State Fault Refusal := .next (s.macOp g ad va vb pg src sgn fun _ p => p)
def execVmac (g : Nat) (ad : BitVec 2) (va vb : BitVec 5) (pg : BitVec 3) (src sgn : BitVec 2) (s : State) :
    Host.Outcome State Fault Refusal := .next (s.macOp g ad va vb pg src sgn fun a p => a + p)
def execVmsu (g : Nat) (ad : BitVec 2) (va vb : BitVec 5) (pg : BitVec 3) (src sgn : BitVec 2) (s : State) :
    Host.Outcome State Fault Refusal := .next (s.macOp g ad va vb pg src sgn fun a p => a - p)
def execAclr (g : Nat) (ad : BitVec 2) (va vb : BitVec 5) (pg : BitVec 3) (src sgn : BitVec 2) (s : State) :
    Host.Outcome State Fault Refusal := .next (s.macOp g ad va vb pg src sgn fun _ _ => 0)

/-- AEXT (R257): a shift above 39 is an illegal instruction. -/
def execAext (g : Nat) (vd : BitVec 5) (ad : BitVec 2) (pg : BitVec 3) (sh : BitVec 6) (rnd : Bool) (sat : BitVec 2) (s : State) :
    Host.Outcome State Fault Refusal :=
  .next (s.onEngine g fun s =>
    if 39 < sh.toNat then s.engFault g 1
    else
      let d := s.depth
      s.engDo g fun e => e.putV vd pg fun l => aextOf (alane (e.acc ad.toNat) l) sh.toNat rnd sat d)

/-- VLUT (R258). -/
def execVlut (g : Nat) (vd va : BitVec 5) (ra sh : BitVec 4) (pg : BitVec 3) (sgn : Bool) (s : State) :
    Host.Outcome State Fault Refusal :=
  .next (s.onEngine g fun s =>
    let w := ((s.en g).sreg ra.toNat).toNat
    let a := w % 65536
    let m := bits w 27 16
    if 0xFFFF < a + 2 * m + 1 then s.engFault g 2
    else s.engDo g fun e => e.putV vd pg fun l =>
      toLane (vlutOf (e.tab a sgn) m sh.toNat (laneAt (e.vreg va.toNat) l).toNat))
def execVlut2u (g : Nat) (vd va vb : BitVec 5) (ra sh : BitVec 4) (pg : BitVec 3) (s : State) :
    Host.Outcome State Fault Refusal := .next (s.vlut2 g vd va vb ra sh pg false)
def execVlut2s (g : Nat) (vd va vb : BitVec 5) (ra sh : BitVec 4) (pg : BitVec 3) (s : State) :
    Host.Outcome State Fault Refusal := .next (s.vlut2 g vd va vb ra sh pg true)

/-- VRND (R260). -/
def execVrnd (g : Nat) (vd : BitVec 5) (pg : BitVec 3) (s : State) : Host.Outcome State Fault Refusal :=
  .next (s.onEngine g fun s => s.engDo g fun e =>
    let q := masked (e.preg pg.toNat) e.q fun l => lfsrSteps 16 (laneAt e.q l)
    { e with q := q }.putV vd pg fun l => laneAt q l)

end Sys2Proof.Machine
end

