-- ==== Sys2Proof/Machine/Stream.lean ====
section
/-! DEFINITION. Pixel and sample streams and control of the engines (R227, R229, R261 to R265). -/

namespace Sys2Proof.Machine

open Sys2Proof Reg

/-! Streams. -/

/-- Input vector `m` of a strip in the slot (R218): lanes 10 to 15 of vector 5 read 0. -/
def State.inVec (s : State) (strip m : Nat) : List Half :=
  match s.eng.input with
  | some (_, px) => lanes fun l => if 16 * m + l < 90 then BitVec.ofNat 16 (px.getD (90 * strip + 16 * m + l) 0) else 0
  | none => zeroVec

/-- SGET (R261): the next sample vector and its mask; zeros with no line queued. -/
def State.sgetOp (s : State) (g : Nat) (vd : BitVec 5) (pd : BitVec 3) : State :=
  let c := clusterOf g
  let i := s.localOf g
  let cl := s.cl c
  let hv := max (s.en g).hv (6 * cl.hvBase)
  if hv / 6 < cl.hvBase + cl.harvest.length then
    let line := cl.harvest.getD (hv / 6 - cl.hvBase) []
    let m := hv % 6
    let at_ (l : Nat) : Nat := if 16 * m + l < 90 then line.getD (90 * i + 16 * m + l) 0 else 0
    (s.engDo g fun e =>
      { (e.setV vd.toNat (lanes fun l => BitVec.ofNat 16 (at_ l % 4096))).setP pd.toNat
          (maskOf fun l => decide (32768 ≤ at_ l)) with hv := hv + 1 }).hvPrune c
  else s.engDo g fun e => (e.setV vd.toNat zeroVec).setP pd.toNat 0

/-- PGET (R227, R261). -/
def execPget (g : Nat) (vd : BitVec 5) (pd : BitVec 3) (s : State) : Host.Outcome State Fault Refusal :=
  .next (s.onEngine g fun s =>
    if pd ≠ 0 then s.engFault g 1
    else if (s.cl (clusterOf g)).slot.active ∧ (s.en g).gets < 6 then
      let v := s.inVec (s.stripOf g) (s.en g).gets
      s.engDo g fun e => { e.setV vd.toNat v with gets := e.gets + 1 }
    else s.engFault g 3)

/-- PPUT (R227, R261). -/
def execPput (g : Nat) (vd : BitVec 5) (pd : BitVec 3) (s : State) : Host.Outcome State Fault Refusal :=
  .next (s.onEngine g fun s =>
    if pd ≠ 0 then s.engFault g 1
    else if (s.cl (clusterOf g)).slot.active ∧ (s.en g).puts.length < 6 then
      s.engDo g fun e => { e with puts := e.puts ++ [e.vreg vd.toNat] }
    else s.engFault g 3)

/-- SGET (R261). -/
def execSget (g : Nat) (vd : BitVec 5) (pd : BitVec 3) (s : State) : Host.Outcome State Fault Refusal :=
  .next (s.onEngine g fun s => s.sgetOp g vd pd)

/-! Control. -/

/-- What WAITL writes to rd (R262). -/
def waitWord (x : LineSlotInfo) (late : Bool) : Word :=
  BitVec.ofNat 32 ((if late then 2 ^ 31 else 0) + (if x.active then 2 ^ 30 + x.line % 2 ^ 14 * 65536 else 0) + x.prog % 65536)

/-- WAITL returns with the slot in progress. -/
def State.waitReturn (s : State) (g : Nat) (rd : BitVec 4) (late : Bool) : State :=
  let x := (s.cl (clusterOf g)).slot
  s.engDo g fun e =>
    { e.setS rd.toNat (waitWord x late) with st := 1, slot := x, overrun := false, started := false, resumed := false }

/-- The checkpoint of a WAITL is captured, once the drain of the one before has ended (R235). -/
def State.capture (s : State) (g : Nat) : State :=
  let c := clusterOf g
  let s := s.drainDone g
  match s.jobOf c with
  | some j =>
    let cl := s.cl c
    let i := s.localOf g
    s.setCl c { cl with
      drain := Sparse.set [] cl.drain i (checkpointOf (s.en g) j.image.ckptBase j.image.ckptLen)
      flagsNew := Sparse.set 0 cl.flagsNew i 0 }
  | none => s

/-- WAITL (R262): the checkpoint is captured, and the engine sleeps, or returns at once if a slot has started. -/
def execWaitl (g : Nat) (rd : BitVec 4) (s : State) : Host.Outcome State Fault Refusal :=
  .next (s.onEngine g fun s =>
    let s := s.capture g
    if (s.en g).overrun then s.waitReturn g rd true
    else s.setEn g { s.en g with st := 2, waitRd := rd })

/-- SIG (R263): channel 0 posts a write-back entry, 1 to 7 count; 8 to 15 are reserved. -/
def execSig (g : Nat) (ch : BitVec 4) (s : State) : Host.Outcome State Fault Refusal :=
  .next (s.onEngine g fun s =>
    let c := clusterOf g
    let cl := s.cl c
    let n := ch.toNat
    if n = 0 then
      let i := s.localOf g
      let post := Sparse.get 0 cl.wbPost i
      if post - Sparse.get 0 cl.wbCnt i = 8 then s.engFault g 3
      else (s.setCl c { cl with wbPost := Sparse.set 0 cl.wbPost i (post + 1) }).retire g
    else if n ≤ 7 then
      (s.setCl c { cl with sig := Sparse.modify 0 cl.sig n (· + 1) }).retire g
    else s.engFault g 1)

/-- HALT (R265). -/
def execHalt (g : Nat) (s : State) : Host.Outcome State Fault Refusal :=
  .next (s.onEngine g fun s => (s.setEn g { s.en g with st := 3 }).hvPrune (clusterOf g))

/-- FENCE (R264): the model grants each store before the next command, so nothing is left to wait for. -/
def execFence (g : Nat) (s : State) : Host.Outcome State Fault Refusal :=
  .next (s.onEngine g fun s => s.retire g)

/-- CTRL NOP (R264). -/
def execCtrlNop (g : Nat) (s : State) : Host.Outcome State Fault Refusal :=
  .next (s.onEngine g fun s => s.retire g)

end Sys2Proof.Machine
end

