-- ==== Sys2Proof/Machine/Engines.lean ====
section
/-! DEFINITION. Line slots, job loads and hand-over, the watchdog's stall, the spare, drains and fetch streams (R224 to R240,
R242). -/

namespace Sys2Proof.Machine

open Sys2Proof Reg

/-! Line slots. -/

/-- The engine has met the slot (R225): it sleeps in WAITL, after 6 PPUT if the slot was active. -/
def slotMet (e : Eng) (x : LineSlotInfo) : Bool := e.st == 2 && (!x.active || e.puts.length == 6)

/-- The engine's slots count (R225, R236, R265): it was in service when the slot began, and is not halted or replaced. -/
def slotCounts (e : Eng) : Bool := e.counted && (e.st == 1 || e.st == 2 || e.st == 5)

/-- The slot that the raster's line gives a cluster: active where it carries a line for it (R224, R242). -/
def State.slotFor (s : State) (c : Nat) : LineSlotInfo :=
  { s.eng.next with active := s.eng.next.active && s.eng.carry.getLsbD c }

/-- How a strip's line leaves the engine stage. -/
inductive StripEnd where
  /-- Passed unchanged: no engine in service ran the slot (R218, R234, R237, R239, R265). -/
  | passed
  /-- Its engine met the slot. -/
  | delivered
  /-- Its engine missed the slot (R237). -/
  | missed
  deriving DecidableEq, Repr

/-- What becomes of a strip's line of the slot in progress. -/
def State.stripEnd (s : State) (strip : Nat) : StripEnd :=
  let c := strip / 16
  let i := strip % 16
  let cl := s.cl c
  let e := s.en (s.serverOf c i)
  if cl.jobSt ≠ 2 ∨ cl.bypass.getLsbD i ∨ cl.slot ≠ s.slotFor c ∨ slotCounts e = false then .passed
  else if slotMet e cl.slot then .delivered
  else .missed

/-- The subpixels of a strip as they leave the engine stage (R218, R237), line `a` with the levels `px` at its input: what the engine
gave, which for the library's image is what R178 to R185 make of the line (R177); else the line unchanged. -/
def State.stripOut (s : State) (a : Nat) (px : List Nat) (strip : Nat) : List Nat :=
  let inp := (px.drop (90 * strip)).take 90
  if s.stripEnd strip = .delivered then
    if s.libraryRuns (strip / 16) then
      (List.range 90).map fun j => s.kernelOut a (30 * strip + j / 3) (j % 3) (inp.getD j 0)
    else
      let e := s.en (s.serverOf (strip / 16) (strip % 16))
      (List.range 90).map fun j => min (Machine.laneAt (e.puts.getD (j / 16) []) (j % 16)).toNat (2 ^ s.depth - 1)
  else inp

/-- Strips whose line the kernel gave: the sweep takes them (R186). -/
def State.kernelGave (s : State) (strip : Nat) : Bool := s.stripEnd strip == .delivered && s.libraryRuns (strip / 16)

/-- The line that leaves the engine stage, and the clusters on which it is an underrun of cause engine stage (R237). -/
def State.collect (s : State) (a : Nat) (px : List Nat) : List Nat × List LateLine :=
  let late := if s.fld ENG_CTRL_miss_pass = 1 then [] else
    (List.range 32).filterMap fun c =>
      ((List.range 16).find? fun i => s.stripEnd (16 * c + i) == .missed).map fun i => LateLine.mk c 3 (30 * i)
  ((List.range 512).flatMap (s.stripOut a px), late)

/-- The slot that ends is judged for one engine (R225, R236, R237). -/
def State.judge (s : State) (c i : Nat) : State :=
  let g := s.serverOf c i
  let e := s.en g
  let cl := s.cl c
  if cl.jobSt ≠ 2 ∨ cl.bypass.getLsbD i ∨ slotCounts e = false then s
  else if slotMet e cl.slot then s.setEn g { e with misses := 0 }
  else
    let s := s.setCl c { cl with miss := min (2 ^ 32 - 1) (cl.miss + 1) }
    let s := s.setEn g { e with misses := e.misses + 1 }
    if max 1 (s.fld ENG_WD_miss_lim) ≤ e.misses + 1 ∧ s.wdRuns c then s.watchdog g 1 else s

/-- A slot starts for one engine in service: it wakes from WAITL with the slot, or has overrun (R225, R262). -/
def State.wake (s : State) (c i : Nat) : State :=
  let g := s.serverOf c i
  let e := s.en g
  if e.st ≠ 1 ∧ e.st ≠ 2 ∧ e.st ≠ 5 then s
  else
    let s := s.setEn g { e with gets := 0, puts := [], counted := true, slots := e.slots + 1, overrun := e.st == 1 }
    if e.st = 2 then s.waitReturn g e.waitRd false else s

/-- The spare resumes as engine i in the first slot after its load (R238): it completes the WAITL of its checkpoint, or
starts at entry, and ENGINE_TAKEOVER is posted. -/
def State.resume (s : State) (c : Nat) : State :=
  let cl := s.cl c
  if cl.resumeDue = false then s
  else
    let g := 512 + c
    let i := cl.spareFor
    let s := s.setCl c { cl with
      spare := 2, resumeDue := false
      flagsSince := Sparse.set 0 cl.flagsSince i 0, flagsNew := Sparse.set 0 cl.flagsNew i 0 }
    let s :=
      if cl.jobSt ≠ 2 then s
      else
        let e := s.en g
        let e := { e with
          msflag := e.msflag ||| Sparse.get 0 cl.flagsSince i, gets := 0, puts := [], counted := true, overrun := false
          misses := 0, slots := e.slots + 1, st := 1 }
        if e.atEntry then s.setEn g { e with atEntry := false, started := true, slot := cl.slot }
        else
          let s := (s.setEn g e).waitReturn g (wf (e.code.getD e.pc.toNat 0) 22 4) false
          s.setEn g { s.en g with resumed := true }
    s.postTakeover c i cl.takeCause 0

/-! Hand-over of clusters between jobs (R234). -/

/-- The slot lies after the slot of the last active line of the frame before `n`: frame `n`'s jobs own the clusters. -/
def State.ownedBy (s : State) (x : LineSlotInfo) (n : Nat) : Bool :=
  decide ((s.frame + 2 ^ 32 - n) % 2 ^ 32 < 2 ^ 31) ||
    (decide ((s.frame + 1) % 2 ^ 32 = n % 2 ^ 32) && decide (s.timing.firstFront ≤ x.prog + 3) && !x.active)

/-- The list of jobs replaced. -/
def State.setJobs (s : State) (jobs : List Job) : State := { s with eng := { s.eng with jobs := jobs } }

/-- Every job changed. -/
def State.mapJobs (s : State) (f : Job → Job) : State := s.setJobs (s.eng.jobs.map f)

/-- Jobs that run and hold nothing, with nothing to take, end: their contexts free (R234). -/
def State.freeJobs (s : State) : State :=
  s.setJobs (s.eng.jobs.filter fun j => !(j.running && j.holds.isEmpty && j.todo.isEmpty))

/-- A cluster loses its job, and its engines stop. -/
def State.freeCluster (s : State) (c : Nat) : State :=
  let cl := s.cl c
  match cl.job with
  | none => s
  | some id =>
    let s := (List.range 16).foldl (fun s i =>
      let g := s.serverOf c i
      let e := s.en g
      if e.st = 4 then s else s.setEn g { e with st := 0, counted := false, atEntry := false }) s
    let s := s.mapJobs fun j => if j.id = id then { j with holds := j.holds.filter (· != c) } else j
    (s.setCl c { s.cl c with job := none, jobSt := 0, flagsSince := [], flagsNew := [], nodes := [] }).freeJobs

/-- The one of two jobs that R13 applies later. -/
def laterJob (a b : Job) : Job := if a.req.g < b.req.g ∨ (a.req.g = b.req.g ∧ a.req.ord ≤ b.req.ord) then b else a

/-- A cluster passes to the last of the jobs that take it (R234), or to none if that is a stop. -/
def State.takeCluster (s : State) (c : Nat) (due : Job → Bool) : State :=
  match s.eng.jobs.filter fun j => j.latched && j.todo.contains c && due j with
  | [] => s
  | j :: js =>
    let win := js.foldl laterJob j
    let s := s.mapJobs fun k => if k.latched && k.todo.contains c && due k then { k with todo := k.todo.filter (· != c) } else k
    let s := s.freeCluster c
    if win.stop then s
    else
      let s := s.mapJobs fun k => if k.id = win.id then { k with holds := k.holds ++ [c] } else k
      let cl := s.cl c
      s.setCl c { cl with job := some win.id, jobSt := 3, imgCopy := 1 - cl.imgCopy }

/-- At a slot's start, a cluster leaves a job that has run its frames, and passes to the job of the coming frame. -/
def State.handOver (s : State) (c : Nat) (x : LineSlotInfo) : State :=
  let ended := match s.jobOf c with
    | some j => j.a.frames != 0 && s.ownedBy x (j.eff + j.a.frames)
    | none => false
  let s := if ended then s.freeCluster c else s
  s.takeCluster c fun j => s.ownedBy x j.eff

/-! Loads (R234). -/

/-- An engine as a job load leaves it (R244): `g` seeds it. -/
def loadedEng (img : Image) (arg : List Byte) (g : Nat) : Eng :=
  { st := 1, pc := BitVec.ofNat 12 img.entry, code := img.code, q := rndSeed g, started := true
    mem := Sparse.write 0 (Sparse.write 0 [] (64 * img.dataAddr) img.data) (64 * img.argAddr) arg }

/-- One engine of a cluster loaded; an engine whose strip is in bypass stays halted (R239). -/
def State.loadEngine (s : State) (c i : Nat) (j : Job) : State :=
  let g := s.serverOf c i
  let e := s.en g
  if (s.cl c).bypass.getLsbD i then s
  else
    let s := s.setCl c ((s.cl c).ask (if g < 512 then i else 16))
    let n : Eng := { loadedEng j.image j.argData (16 * c + i) with
      hv := e.hv, firings := e.firings, slot := (s.cl c).slot }
    if 512 ≤ g ∧ (s.cl c).spare = 1 then s.setEn g { n with st := 0, started := false, atEntry := true }
    else s.setEn g n

/-- A cluster's engines loaded for its job, with counts and checkpoints of the job before it gone. -/
def State.loadCluster (s : State) (c : Nat) (j : Job) : State :=
  let s := s.setCl c { s.cl c with
    jobSt := 2, wbPart := j.req.h.part, wbPost := [], wbCnt := [], sig := [], whole := [], older := [], drain := []
    flagsSince := [], flagsNew := [], units := [], nodes := [], digest := j.digest }
  let s := (List.range 16).foldl (fun s i => s.loadEngine c i j) s
  if Config.libraryImage j.image.code ∧ s.workValid then s.readNodes c else s

/-- The spare's memories and registers loaded as engine i's (R238): code, data, the argument block, and the window and
registers of its newest whole checkpoint, with the milestone flags set since (R267); without one it starts at entry. -/
def State.loadSpare (s : State) (c : Nat) (j : Job) : State :=
  let cl := s.cl c
  let i := cl.spareFor
  let old := s.en (16 * c + i)
  let fl : Half := Sparse.get 0 cl.flagsSince i
  let s := s.setCl c ({ cl with
    flagsSince := Sparse.set 0 cl.flagsSince i 0, flagsNew := Sparse.set 0 cl.flagsNew i 0 }.ask 16)
  let e : Eng := { loadedEng j.image j.argData (16 * c + i) with
    st := 0, started := false, hv := old.hv, firings := (s.en (512 + c)).firings, msflag := fl }
  let w := Sparse.get 0 cl.whole i
  if w = 0 then s.setEn (512 + c) { e with atEntry := true }
  else
    let d := Sparse.read 0 cl.mem (ckptOff i (w - 1)) 0x1800
    let e := { e with mem := Sparse.write 0 e.mem (64 * j.image.ckptBase) ((d.drop 1536).take (64 * j.image.ckptLen)) }
    let e := restoreFrom e d
    s.setEn (512 + c) { e with msflag := e.msflag ||| fl }

/-! Fetch streams (R228). -/

/-- Field `k` of a fetch stream: base, unit_pitch, cl_pitch, unit_bytes, ring, unit_lines, depth, lead. -/
def strmFld (f : List Nat) (k : Nat) : Nat := f.getD k 0

/-- The unit of a fetch stream that a line needs is not wholly in its ring. -/
def unitMissing (cl : Cluster) (j : Job) (a : Nat) : Bool :=
  (List.range j.image.streams.length).any fun n =>
    let f := j.image.streams.getD n []
    !cl.units.contains (n * 65536 + a / max 1 (strmFld f 5))

/-- A slot lies after the frame's last line slot. -/
def State.pastLines (s : State) (x : LineSlotInfo) : Bool := decide (s.timing.firstFront ≤ x.prog + 3)

/-- The active line whose slot is in progress; below 0 ahead of line 0, of the next frame once this frame's lines have had theirs. -/
def State.slotPos (s : State) : Int :=
  let p : Int := s.eng.next.prog + 3 - (s.timing.firstActive : Int)
  if s.pastLines s.eng.next then p - s.scn.total else p

/-- Unit `u` of a fetch stream may arrive: its fetch has started, lead lines before the slot of its first line, and the entry's unit of
before has ended its last slot (R228). -/
def State.unitDue (s : State) (f : List Nat) (u : Nat) : Bool :=
  let n := max 1 (strmFld f 5)
  let depth := max 1 (strmFld f 6)
  decide (((u * n : Nat) : Int) ≤ s.slotPos + strmFld f 7) && decide (u * n < s.timing.vactive) &&
    (decide (u < depth) || decide ((((u - depth + 1) * n : Nat) : Int) ≤ s.slotPos))

/-- The fetch streams at a slot's start: a late unit makes the line an underrun; units wholly used leave their entries, and those of
a frame once its last line slot has ended. -/
def State.checkUnits (s : State) (c : Nat) (x : LineSlotInfo) : State :=
  match s.jobOf c with
  | none => s
  | some j =>
    let cl := s.cl c
    if x.active then
      let s := if cl.jobSt = 2 ∧ unitMissing cl j x.line then
          { s.setFlag ENG_FLAGS_fetch_late with eng := { s.eng with slotLate := s.eng.slotLate ++ [⟨c, 1, 0⟩] } }
        else s
      let us := cl.units.filter fun u =>
        decide (x.line / max 1 (strmFld (j.image.streams.getD (u / 65536) []) 5) ≤ u % 65536)
      s.setCl c { cl with units := us }
    else if s.pastLines x ∧ s.pastLines cl.slot = false then s.setCl c { cl with units := [] }
    else s

/-! A slot's start. -/

/-- LINE_SLOT's effect on a cluster. A cluster that is not ON takes no part in the slot (R242). -/
def State.slotStart (s : State) (c : Nat) : State :=
  let x := s.slotFor c
  if s.clOn c = false then s.setCl c { s.cl c with slot := x }
  else
    let s := (List.range 16).foldl (fun s i => s.judge c i) s
    let s := s.handOver c x
    let s := s.checkUnits c x
    let s := s.setCl c { s.cl c with slot := x }
    let s := if (s.cl c).jobSt = 2 then (List.range 16).foldl (fun s i => s.wake c i) s else s
    s.resume c

/-- Running jobs whose budget exceeds B set ENG_FLAGS.over_budget (R234). -/
def State.checkBudgets (s : State) : State :=
  if s.eng.jobs.any fun j => j.running && decide (s.budget j.image.ckptLen < j.image.budget) then s.setFlag ENG_FLAGS_over_budget
  else s

/-! Commands. -/

/-- LINE_SLOT (R224): the slot that the raster's line gives the clusters starts on cluster c. -/
def execLineSlot (c : Nat) (s : State) : Host.Outcome State Fault Refusal :=
  .next (if c < 32 ∧ (s.cl c).slot ≠ s.slotFor c then s.slotStart c else s)

/-- WATCHDOG_STALL (R236): the engine is not in WAITL, and its cluster is ON. -/
def execWatchdogStall (g : Nat) (s : State) : Host.Outcome State Fault Refusal :=
  .next (s.onEngine g fun s => if s.wdRuns (clusterOf g) then s.watchdog g 0 else s)

/-- SPARE_LOADED (R238). -/
def execSpareLoaded (c : Nat) (s : State) : Host.Outcome State Fault Refusal :=
  .next (
    let cl := s.cl c
    if cl.spare = 1 ∧ cl.resumeDue = false then
      let s := match s.jobOf c with
        | some j => if cl.jobSt = 2 then s.loadSpare c j else s
        | none => s
      s.setCl c { s.cl c with resumeDue := true }
    else s)

/-- CHECKPOINT_DRAIN_DONE (R235). -/
def execCheckpointDrainDone (g : Nat) (s : State) : Host.Outcome State Fault Refusal := .next (s.drainDone g)

/-- FETCH_UNIT_ARRIVED (R228): the unit's bytes for the cluster are in its ring. A unit whose fetch cannot have started, or whose entry
is still in use, does not arrive. -/
def execFetchUnitArrived (c stream unit : Nat) (s : State) : Host.Outcome State Fault Refusal :=
  .next (
    match s.jobOf c with
    | none => s
    | some j =>
      let f := j.image.streams.getD stream []
      if stream < j.image.streams.length ∧ unit < 65536 ∧ 2 ≤ (s.cl c).jobSt ∧ s.unitDue f unit = true then
        match s.ppaRead (strmFld f 0 + unit * strmFld f 1 + c * strmFld f 2) (strmFld f 3) with
        | none => s
        | some d =>
          let s := s.countRecon (strmFld f 0 + unit * strmFld f 1 + c * strmFld f 2) (strmFld f 3)
          let s := s.clWrite c (strmFld f 4 + unit % max 1 (strmFld f 6) * strmFld f 3) d
          let cl := (s.cl c).ask 17
          s.setCl c { cl with units := (cl.units.filter (· != stream * 65536 + unit)) ++ [stream * 65536 + unit] }
      else s)

end Sys2Proof.Machine
end

