-- ==== Sys2Proof/Machine/Layers.lean ====
section
/-! DEFINITION. Layers (R122 to R127), FLIPs and their latching (R141 to R148), the fetch limit (R149) and the protected
layer (R150 to R154). -/

namespace Sys2Proof.Machine

open Sys2Proof Reg

/-! Ownership (R123). -/

/-- Partition `p` owns layer `l`. -/
def State.ownsLayer (s : State) (p l : Nat) : Bool :=
  if l = 12 then s.isSafety p else decide (s.fld LYR_OWN_part / 4 ^ l % 4 = p)

/-! Fences (R143). -/

/-- The value of a fence. -/
def State.fence (s : State) (f : Nat) : Word := Sparse.get 0 s.hif.fences f

/-- A fence is reached for a wait value. -/
def State.fenceReached (s : State) (f : Nat) (w : Word) : Bool := decide ((s.fence f - w).toNat < 2 ^ 31)

/-- A descriptor's fence counts as reached (R324). -/
def State.fenceOk (s : State) (h : Hdr) : Bool :=
  !h.flags.getLsbD 1 || s.fenceReached (h.fenceId.toNat % 4096) h.fenceVal

/-! Slots (R126). -/

/-- A slot of a layer. -/
def State.slot (s : State) (l k : Nat) : Slot := Sparse.get {} (s.layer l).slots k

/-- A slot changed. -/
def State.setSlot (s : State) (l k : Nat) (x : Slot) : State :=
  s.setLayer l { s.layer l with slots := Sparse.set {} (s.layer l).slots k x }

/-- The first slot of a layer in a state. -/
def State.slotIn (s : State) (l st : Nat) : Option Nat := (List.range 3).find? fun k => (s.slot l k).st == st

/-- A writing slot's frame is complete: an older ready frame is dropped and counted. -/
def State.slotReady (s : State) (l k : Nat) : State :=
  let s := match s.slotIn l 2 with
    | some j =>
      let s := s.setSlot l j {}
      s.setLayer l { s.layer l with cDrop := min (2 ^ 32 - 1) ((s.layer l).cDrop + 1) }
    | none => s
  s.setSlot l k { s.slot l k with st := 2 }

/-- The ready frame of a layer is latched. -/
def State.latchReady (s : State) (l : Nat) : State :=
  match s.slotIn l 2 with
  | some k => s.setSlot l k { s.slot l k with st := 3 }
  | none => s

/-- A latched frame is shown from this boundary, and the frame it replaces leaves its slot free. -/
def State.showLatched (s : State) (l : Nat) : State :=
  match s.slotIn l 3 with
  | none => s
  | some k =>
    let s := match s.slotIn l 4 with
      | some j => s.setSlot l j {}
      | none => s
    let s := s.setSlot l k { s.slot l k with st := 4 }
    s.setLayer l { s.layer l with shown := (s.slot l k).frame, changed := true }

/-- The number of the newest frame a FLIP could select: ready, or latched at this latch point. -/
def State.newestReady (s : State) (l : Nat) : Option Nat :=
  match s.slotIn l 2, s.slotIn l 3 with
  | some k, _ => some (s.slot l k).frame
  | none, some k => some (s.slot l k).frame
  | none, none => none

/-- The layer acts in AUTO mode (R127). -/
def State.isAuto (s : State) (l : Nat) : Bool := l != 12 && s.fldI LYR_L_CTRL_flip_mode l == 0

/-! Fetch bandwidth (R149). -/

/-- Stored bytes of a layer's source rectangle, all planes. -/
def State.fetchBytes (s : State) (l : Nat) : Nat :=
  (List.range (s.planes l)).foldl (fun n p =>
    let f := s.planeFmt l p
    n + ceilDiv (f.pw (s.srcW l) * f.stored) 8 * f.ph (s.srcH l)) 0

/-- The sum over a set of enabled layers. -/
def State.fetchSum (s : State) (en : List Nat) : Nat := en.foldl (fun n l => n + s.fetchBytes l) 0

/-- Layers enabled. -/
def State.enabled (s : State) : List Nat := (List.range 13).filter fun l => (s.layer l).en

/-- LYR_FETCH_USED brought up to date. -/
def State.showFetch (s : State) : State := s.setFld LYR_FETCH_USED_used (min 65535 (ceilDiv (s.fetchSum s.enabled) (2 ^ 20)))

/-- A sum breaks the limit, coming from another. -/
def State.overFetch (s : State) (before after : Nat) : Bool :=
  decide (s.fld LYR_FETCH_LIMIT_limit * 2 ^ 20 < after) && decide (before < after)

/-- A FLIP's effect on the set of enabled layers. -/
def flipEnable (en : List Nat) (f : FlipArgs) : List Nat :=
  if f.enable = 1 then (if en.contains f.layer then en else en ++ [f.layer])
  else if f.enable = 2 then en.filter (· != f.layer)
  else en

/-! Members of a FLIP. -/

/-- The first member, which times and orders a chain. -/
def FlipGroup.head (g : FlipGroup) : Req :=
  match g.members with
  | m :: _ => m.1
  | [] => ⟨⟨0, 0, 0, 0, 0, 0, 0, 0, false⟩, 0, 0⟩

/-- R13's order of two descriptors of one kind. -/
def before (a b : Req) : Bool := decide (a.g < b.g) || (a.g == b.g && decide (a.ord ≤ b.ord))

/-- Items put into R13's order. -/
def sortReq {α : Type} (key : α → Req) (l : List α) : List α := l.mergeSort fun a b => before (key a) (key b)

/-- All members complete alike (R147). -/
def State.flipDone (s : State) (g : FlipGroup) (status frame tb : Nat) : State :=
  g.members.foldl (fun s m => s.complete m.1 status frame tb) s

/-- Pending FLIPs of a layer (R146). -/
def State.flipsOn (s : State) (l : Nat) : Nat :=
  s.lyr.flips.foldl (fun n g => n + (g.members.filter fun m => m.2.layer == l).length) 0

/-- A FLIP or a closed chain reaches the front end (R142, R146). -/
def State.flipArrive (s : State) (ms : List (Req × FlipArgs)) (chain : Bool) : State :=
  if ms.any fun m => decide (16 ≤ s.flipsOn m.2.layer) then s.doneAll (ms.map (·.1)) NO_RESOURCE
  else
    let g : FlipGroup := { members := ms, chain := chain, arrived := s.now, fenceSlips := ms.map fun _ => 0 }
    { s with lyr := { s.lyr with flips := s.lyr.flips ++ [g] } }

/-! Conditions at a latch point. -/

/-- The mode in force from the next boundary at which actions take effect. -/
def State.nextMode (s : State) : Nat :=
  match s.mod.comm with
  | some w => if s.mod.bakeDue then s.mode else w.target
  | none => if s.mod.autoExit then s.fld MOD_ENTRY_entry_mode else s.mode

/-- The FLIP takes content. -/
def State.takesContent (s : State) (f : FlipArgs) : Bool := f.select != 0xFFFFFF && !s.isAuto f.layer

/-- Its select is met (R141). -/
def State.selectMet (s : State) (f : FlipArgs) : Bool :=
  !s.takesContent f ||
    (match s.newestReady f.layer with
     | some m => decide ((m + 2 ^ 24 - f.select) % 2 ^ 24 < 2 ^ 23)
     | none => false)

/-- A video layer's rectangles meet R132. -/
def State.ratioOk (s : State) (l : Nat) : Bool :=
  let ok (src dst : Nat) : Bool := decide (src ≤ 4 * dst) && decide (dst ≤ 8 * src)
  decide (4 ≤ l) || (ok (s.srcW l) (s.dstW l) && ok (s.srcH l) (s.dstH l))

/-- A FLIP that cannot be applied whatever its fence (R132, R138): its status. `p` is the part as the switch and the COMMITs
of the boundary will leave it (R13). The boundary into SHORTCUT disables every video layer, so any FLIP that would leave one
enabled there would enable it. -/
def State.flipRefused (s p : State) (f : FlipArgs) : Option Nat :=
  if f.enable = 1 ∧ f.layer < 4 then
    if s.nextMode = 5 then some NOT_READY
    else if (s.layer f.layer).en = false ∧ p.ratioOk f.layer = false then some INVALID
    else none
  else none

/-- The cause of a FLIP's slip, if its fence, its select or the halves hold it (R142, R144). -/
def State.flipCause (s : State) (g : FlipGroup) (ready : Req → Bool) : Option Nat :=
  if g.members.any fun m => !s.fenceOk m.1.h then some 0
  else if g.members.any fun m => !s.selectMet m.2 then some 1
  else if (g.members.all fun m => ready m.1) = false then some 2
  else none

/-- FLIP_LATE (R144) for a latch point missed. -/
def State.flipLate (s : State) (g : FlipGroup) (cause : Nat) : State :=
  let l := match g.members with
    | m :: _ => m.2.layer
    | [] => 0
  if cause = 2 ∨ g.members.any (fun m => m.1.h.flags.getLsbD 3) = true then
    s.post 0x11 0x06 (l + (if g.chain then 16 else 0) + 256 * cause) [g.head.h.part]
  else s

/-- The state of a latch point while it takes the FLIPs in R13's order: the part, layers held back with their cause,
layers enabled, FLIPs kept. -/
structure FlipLatch where
  s : State
  held : List (Nat × Nat)
  en : List Nat
  kept : List FlipGroup

/-- The cause kept for a FLIP that stays pending without slipping (R148): it reports nothing for those it holds back. -/
def staysPending : Nat := 4

/-- A FLIP slips: counted, reported, and it holds back the later ones on its layers. -/
def FlipLatch.slip (a : FlipLatch) (g : FlipGroup) (cause : Nat) (start : Bool) : FlipLatch :=
  { s := if start ∨ cause = staysPending then a.s else a.s.flipLate g cause
    held := a.held ++ g.members.map fun m => (m.2.layer, cause)
    en := a.en
    kept := a.kept ++ [if start then g else { g with slips := g.slips + 1 }] }

/-- A FLIP completes at its latch point and is not applied. -/
def FlipLatch.drop (a : FlipLatch) (g : FlipGroup) (status : Nat) : FlipLatch :=
  { a with s := a.s.flipDone g status a.s.frame a.s.now }

/-- A FLIP's own fences at this latch point: latch points missed for each member. -/
def State.missFences (s : State) (g : FlipGroup) : FlipGroup :=
  { g with fenceSlips := (g.members.zip g.fenceSlips).map fun m => if s.fenceOk m.1.1.h then m.2 else m.2 + 1 }

/-- The first member that has reached its fence_to (R145, R147). -/
def timedOut (g : FlipGroup) : Option (Req × FlipArgs) :=
  ((g.members.zip g.fenceSlips).find? fun m => m.1.2.fenceTo != 0 && decide (m.1.2.fenceTo ≤ m.2)).map (·.1)

/-- One FLIP or chain at a latch point. `start` is the start of frame 0 (R160), where nothing is late; `p` is the part as the
switch and the COMMITs of the boundary will leave it, under which R132 and R149 are tested (R13). A fetch limit that fails at
the FLIP's target ends it whatever its fence (R144). -/
def latchFlip (p : State) (ready : Req → Bool) (start : Bool) (a : FlipLatch) (g : FlipGroup) : FlipLatch :=
  let s := a.s
  let keep : FlipLatch := { a with kept := a.kept ++ [g] }
  let en := g.members.foldl (fun en m => flipEnable en m.2) a.en
  let beyond := p.overFetch (p.fetchSum a.en) (p.fetchSum en)
  let inCellar := s.mode == 7 || s.mode == 8 || s.nextMode == 7 || s.nextMode == 8
  if g.latched then keep
  else if start = false ∧ s.now < g.arrived + 64000 then keep
  else if inCellar ∧ g.members.any (fun m => m.2.layer != 12) = true then
    { keep with held := a.held ++ g.members.map fun m => (m.2.layer, staysPending) }
  else
    match g.members.findSome? fun m => (a.held.find? fun h => h.1 == m.2.layer).map (·.2) with
    | some c => a.slip g c start
    | none =>
      match g.members.findSome? fun m => s.flipRefused p m.2 with
      | some st => a.drop g st
      | none =>
        if beyond ∧ g.slips = 0 then a.drop g NO_RESOURCE
        else
        match s.flipCause g ready with
        | some c =>
          let g := if start then g else s.missFences g
          match timedOut g with
          | some m =>
            let t := if start then s else s.flipLate g c
            let t := t.post 0x12 0x06 (m.1.h.fenceId.toNat % 4096 + 65536 * m.2.layer) [m.1.h.part]
            { a with s := t.flipDone g FENCE_TIMEOUT s.frame s.now }
          | none => a.slip g c start
        | none =>
          if beyond then a.slip g 3 start
          else
            { s := g.members.foldl (fun s m => if s.takesContent m.2 then s.latchReady m.2.layer else s) s
              held := a.held
              en := en
              kept := a.kept ++ [{ g with latched := true }] }

/-- Enable, position and alpha of a layer once a FLIP has acted on them (R141, R155). -/
def State.flipLayer (s : State) (x : Layer) (f : FlipArgs) : Layer :=
  let stay : Bool := f.x == 0x8000 || f.y == 0x8000
  let enabling : Bool := f.enable == 1 && !x.en
  { x with
    en := if f.enable = 1 then true else if f.enable = 2 then false else x.en
    x := if stay then (if enabling then signed 16 (s.fldI LYR_L_POS_x f.layer) else x.x) else f.x.toInt
    y := if stay then (if enabling then signed 16 (s.fldI LYR_L_POS_y f.layer) else x.y) else f.y.toInt
    galpha := f.galpha }

/-- What changed from `a` to `b` among enable, position and alpha stands in `c`. -/
def standsIn (a b c : Layer) : Bool :=
  (a.en == b.en || b.en == c.en) && ((a.x == b.x && a.y == b.y) || (b.x == c.x && b.y == c.y)) &&
    (a.galpha == b.galpha || b.galpha == c.galpha)

/-- The FLIPs of one layer that a later one supersedes (R146): all but the last, and but those that take no content and whose
changes stand at the end, in `fin`. -/
def State.deadIn (s : State) (fin : Layer) : Layer → List (Req × FlipArgs) → List Req
  | _, [] => []
  | _, [_] => []
  | x, m :: ms =>
    let y := s.flipLayer x m.2
    (if s.takesContent m.2 || !standsIn x y fin then [m.1] else []) ++ State.deadIn s fin y ms

/-- Latched FLIPs on a layer, in their order. -/
def latchedOn (gs : List FlipGroup) (l : Nat) : List (Req × FlipArgs) :=
  (gs.filter (·.latched)).flatMap fun g => g.members.filter fun m => m.2.layer == l

/-- The FLIPs of a layer that are superseded. -/
def State.deadOn (s : State) (gs : List FlipGroup) (l : Nat) : List Req :=
  let ms := latchedOn gs l
  s.deadIn (ms.foldl (fun x m => s.flipLayer x m.2) (s.layer l)) (s.layer l) ms

/-- Members superseded by a later FLIP on their layer (R146). -/
def State.markDead (s : State) (gs : List FlipGroup) : List FlipGroup :=
  gs.map fun g =>
    if g.latched then { g with dead := (g.members.filter fun m => (s.deadOn gs m.2.layer).contains m.1).map (·.2.layer) } else g

/-- A latched slot that no standing FLIP takes goes back to ready. -/
def State.unlatch (s : State) (gs : List FlipGroup) (l : Nat) : State :=
  if s.isAuto l then s
  else if gs.any fun g => g.latched && !g.dead.contains l && g.members.any fun m => m.2.layer == l && s.takesContent m.2 then s
  else
    match s.slotIn l 3 with
    | some k => s.setSlot l k { s.slot l k with st := 2 }
    | none => s

/-- AUTO at a latch point (R127): the ready frame is latched, or the shown frame repeats and is counted. -/
def State.latchAuto (s : State) (en : List Nat) (l : Nat) : State :=
  if s.isAuto l = false ∨ en.contains l = false ∨ (s.slotIn l 3).isSome then s
  else if (s.slotIn l 2).isSome then s.latchReady l
  else if (s.layer l).en ∧ (s.slotIn l 4).isSome then
    s.setLayer l { s.layer l with cRepeat := min (2 ^ 32 - 1) ((s.layer l).cRepeat + 1) }
  else s

/-- Layers enabled once the switch of the boundary and the FLIPs latched so far have taken effect; a switch into SHORTCUT
disables the video layers (R138). -/
def State.enPlanned (s : State) : List Nat :=
  (sortReq FlipGroup.head (s.lyr.flips.filter (·.latched))).foldl (fun en g =>
    g.members.foldl (fun en m => if g.dead.contains m.2.layer then en else flipEnable en m.2) en)
    (if s.nextMode = 5 then s.enabled.filter fun l => decide (4 ≤ l) else s.enabled)

/-- FLIPs and AUTO layers at a latch point (R127, R142 to R148). In SHUTTER layers change at the boundary into slot 0
alone (R139), which `open_` tells. `p` is the part as the switch and the COMMITs of the boundary will leave it. -/
def State.latchFlips (s p : State) (ready : Req → Bool) (start open_ : Bool) : State :=
  if open_ = false then s
  else
    let a := (sortReq FlipGroup.head s.lyr.flips).foldl (latchFlip p ready start)
      { s := s, held := [], en := s.enPlanned, kept := [] }
    let gs := a.s.markDead a.kept
    let s : State := { a.s with lyr := { a.s.lyr with flips := gs } }
    let s := (List.range 13).foldl (fun s l => s.unlatch gs l) s
    if s.mode = 7 ∨ s.mode = 8 ∨ s.nextMode = 7 ∨ s.nextMode = 8 then s
    else (List.range 12).foldl (fun s l => s.latchAuto s.enPlanned l) s

/-! Effect at a boundary. -/

/-- The part leaves CELLAR or LAYBY at the next boundary (R37). -/
def State.leaveCellar (s : State) : State :=
  if s.mode = 7 ∨ s.mode = 8 then { s with mod := { s.mod with autoExit := true } } else s

/-- The safe image or the background is shown in S's place from now on, for a reason (R154). -/
def State.goSafe (s : State) (reason : Nat) : State :=
  let was := s.flag LYR_S_STATUS_safe
  let s := (s.setFld LYR_S_STATUS_safe 1).setFld LYR_S_STATUS_reason reason
  let s := s.setLayer 12 { s.layer 12 with changed := true }
  let s := { s with lyr := { s.lyr with leaveSafe := false } }
  if was then s else s.leaveCellar

/-- The heartbeat window, ns (R152). -/
def State.hbWin (s : State) : Ns := max 1 (s.fld LYR_S_CTRL_hb_win) * 1000000

/-- The heartbeat timer restarts (R152). -/
def State.restartHb (s : State) : State :=
  if s.fld LYR_S_CTRL_hb_en = 1 ∧ (s.layer 12).en then { s with lyr := { s.lyr with hbAt := some (s.now + s.hbWin) } } else s

/-- The safe image is due from the next frame boundary (R151, R152). -/
def State.safeDue (s : State) (reason : Nat) : State := { s with lyr := { s.lyr with safeDue := some reason } }

/-- A FLIP's changes of enable, position and alpha take effect; S's enable starts the safe image and the heartbeat. While S shows its
safe image, or no frame, any frame selected is another than what it shows (R37). -/
def State.applyFlip (s : State) (f : FlipArgs) : State :=
  let l := f.layer
  let x := s.layer l
  let enabling := f.enable = 1 ∧ x.en = false
  let y := s.flipLayer x f
  let en := y.en
  let takes := s.takesContent f
  let moved := y.x ≠ x.x ∨ y.y ≠ x.y ∨ y.galpha ≠ x.galpha ∨ y.en ≠ x.en
  let y : Layer := { y with expCrc := if takes then f.crc else x.expCrc, changed := x.changed || decide moved }
  let s := s.setLayer l y
  if l = 12 then
    let fresh := takes ∧ (s.flag LYR_S_STATUS_safe ∨ (s.slotIn 12 4).isNone ∨ (s.slotIn 12 3).any (fun k => (s.slot 12 k).frame != x.shown))
    let s := if moved ∨ fresh then s.leaveCellar else s
    let s := if enabling then ((s.setFld LYR_S_STATUS_safe 1).setFld LYR_S_STATUS_reason 1).restartHb
      else if en = false then
        { (s.setFld LYR_S_STATUS_safe 0).setFld LYR_S_STATUS_reason 0 with
          lyr := { s.lyr with hbAt := none, safeDue := none, leaveSafe := false } }
      else s
    if takes ∧ en ∧ s.flag LYR_S_STATUS_safe then
      { s.setFld LYR_S_STATUS_reason 4 with lyr := { s.lyr with leaveSafe := true, safePassed := false } }
    else s
  else s

/-- The status of a latched FLIP that takes effect: SUPERSEDED, LATE or OK. -/
def flipStatus (g : FlipGroup) : Nat := if g.dead ≠ [] then SUPERSEDED else if g.slips ≠ 0 then LATE else OK

/-- The latched FLIPs take effect in R13's order at the boundary that starts frame `n` at `tb` (R12). -/
def State.applyFlips (s : State) (n tb : Nat) : State :=
  let gs := sortReq FlipGroup.head (s.lyr.flips.filter (·.latched))
  let s := { s with lyr := { s.lyr with flips := s.lyr.flips.filter (!·.latched) } }
  let s := gs.foldl (fun s g =>
    g.members.foldl (fun s m => if g.dead.contains m.2.layer then s else s.applyFlip m.2) s) s
  let s := (List.range 13).foldl State.showLatched s
  gs.foldl (fun s g => s.flipDone g (flipStatus g) n tb) s.showFetch

/-- In SHORTCUT's first frame every video layer is disabled (R138). -/
def State.dropVideo (s : State) : State :=
  (List.range 4).foldl (fun s l => if (s.layer l).en then s.setLayer l { s.layer l with en := false, changed := true } else s) s

/-! The protected layer (R151 to R154). -/

/-- The stored bytes of an image's lines, in order, without padding. -/
def State.imageBytes (s : State) (a : Nat) (f : Fmt) (w h : Nat) : List Byte :=
  (List.range (f.ph h)).flatMap fun y => s.bytes (a + y * f.pitch w) (ceilDiv (f.pw w * f.stored) 8)

/-- S's CRC is checked at the latch point that ends the fetch of a frame that shows a stream frame, or that is the first
of a frame to come out of the safe image (R151, R154). -/
def State.checkSafety (s : State) : State :=
  let x := s.layer 12
  let safe := s.flag LYR_S_STATUS_safe
  if x.en = false ∨ 7 ≤ s.mode ∨ (safe = true ∧ s.lyr.leaveSafe = false) then s
  else
    match s.slotIn 12 4 with
    | none => s
    | some k =>
      let c := crc32c (s.imageBytes (s.slotAddr 12 k + s.planeOff 12 0) (s.planeFmt 12 0) (s.srcW 12) (s.srcH 12))
      let s := (s.setReg LYR_S_CRC_CALC 0 0 c).setReg LYR_S_CRC_EXP 0 0 x.expCrc.toNat
      if c = x.expCrc.toNat then { s with lyr := { s.lyr with crcPosted := false, safePassed := safe } }
      else
        let act := s.fld LYR_S_CTRL_crc_act = 1 ∨ safe = true
        let s := if s.lyr.crcPosted then s
          else
            let arg := x.shown + (if act then 2 ^ 24 else 0)
            (({ s with lyr := { s.lyr with crcPosted := true } }).post 0x80 0x06 arg (s.safetyPart ++ [s.owner])).log 0x80 0x06 arg 0
        if act then s.safeDue 2 else s

/-- The boundary's part of R151, R152 and R154: a safe image that is due is shown; a frame that passed its check in its
first frame that the front end composed is shown in its place. DEDUCED (log 17): where that boundary starts CELLAR or LAYBY, what
S shows changes there, and R37 leaves the mode. -/
def State.stepSafety (s : State) : State :=
  match s.lyr.safeDue with
  | some r =>
    let s := { s with lyr := { s.lyr with safeDue := none } }
    if (s.layer 12).en then s.goSafe r else s
  | none =>
    if s.lyr.leaveSafe ∧ s.lyr.safePassed then
      let s := (s.setFld LYR_S_STATUS_safe 0).setFld LYR_S_STATUS_reason 0
      ({ s.setLayer 12 { s.layer 12 with changed := true } with lyr := { s.lyr with leaveSafe := false, safePassed := false } }).leaveCellar
    else s

/-- HEARTBEAT_EXPIRY (R152): the timer's time is reached, if it runs. -/
def execHeartbeatExpiry (s : State) : Host.Outcome State Fault Refusal :=
  .next (
    match s.lyr.hbAt with
    | some t =>
      let s := { s.reach t with lyr := { s.lyr with hbAt := none } }
      if s.fld LYR_S_CTRL_hb_en = 1 ∧ (s.layer 12).en then
        let arg := max 1 (s.fld LYR_S_CTRL_hb_win) + 2 ^ 24
        ((s.post 0x81 0x06 arg (s.safetyPart ++ [s.owner])).log 0x81 0x06 arg 0).safeDue 3
      else s
    | none => s)

end Sys2Proof.Machine
end

