-- ==== Sys2Proof/Machine/StreamPorts.lean ====
section
/-! DEFINITION. Streams (R100 to R113, R115, R117, R118): binding, packets, frames, credits. The ports' states are in
Machine/Links.lean. -/

namespace Sys2Proof.Machine

open Sys2Proof Reg

/-- A stream context. -/
def State.stream (s : State) (c : Nat) : Stream := Sparse.get {} s.streams c

/-- A stream context changed. -/
def State.setStream (s : State) (c : Nat) (x : Stream) : State := { s with streams := Sparse.set {} s.streams c x }

/-- A port. -/
def State.port (s : State) (p : Nat) : Port := Sparse.get {} s.ports p

/-- A port changed. -/
def State.setPort (s : State) (p : Nat) (x : Port) : State := { s with ports := Sparse.set {} s.ports p x }

/-- The owner of a port (MSP_PORT_CFG). -/
def State.portOwner (s : State) (p : Nat) : Nat := s.fld (MSP_PORT_CFG_owner p)

/-- The stream contexts of a port, and those that feed a layer. -/
def portCtxs (p : Nat) : List Nat := (List.range 128).map (128 * p + ·)
def State.feeders (s : State) (l : Nat) : List Nat :=
  (List.range 1024).filter fun c => (s.stream c).bound && (s.stream c).b.target == 1 && (s.stream c).b.layer == l

/-- A counter plus one, saturating. -/
def satInc (n : Nat) : Nat := min (2 ^ 32 - 1) (n + 1)

/-! Credits (R111 to R113). -/

/-- Credits needed by a body length. -/
def creditNeed (len : Nat) : Nat := ceilDiv len 512

/-- avail by the part's counts: a stale value counts as 0. -/
def Stream.avail (x : Stream) : Nat := let v := (x.cl - x.cc).toNat; if v < 2 ^ 23 then v else 0

/-- Credits of the stream are withheld. -/
def Stream.withheld (x : Stream) : Bool := x.gated || x.held || x.slotHeld

/-! The reverse lane (R92, R94, R101). Its payload is one stream of symbols, 62 to a block, counted from the last training burst;
between packets it carries idle pairs. Every packet has an even number of symbols, so idle pairs never break. -/

/-- The reverse lane of a port, and whether it is out of electrical idle. -/
def revLane (p : Nat) : Nat := 64 + p
def State.revOn (s : State) (p : Nat) : Bool := !(s.lane (revLane p)).txIdle

/-- Tenths of a nanosecond from the burst's end to a block's first symbol: a block takes 102.4 ns, and a skip pair of 3.2 ns goes
before the header that follows every 1,024th block. -/
def blockStart (k : Nat) : Nat := 1024 * k + 32 * (k / 1024)

/-- Tenths of a nanosecond from the burst's end to payload symbol `q`. -/
def paySymAt (q : Nat) : Nat := blockStart (q / 62) + 16 * (2 + q % 62)

/-- The first payload symbol, of an even number and at least `q`, that leaves `t` tenths of a nanosecond after the burst's end or
later. -/
def payFrom (q t : Nat) : Nat :=
  let k := (t - 32 * (t / 1048608)) / 1024
  let pos := (t - blockStart k) / 16
  let r := 62 * k + (pos - 1) / 2 * 2
  max q (if t ≤ paySymAt r then r else r + 2)

/-- Payload symbols `q` on, in their blocks: a header before the first symbol of a block, and a skip pair before it after every
1,024th block. -/
def inBlocks (seq : Nat) : Nat → List Sym → List Sym
  | _, [] => []
  | q, y :: ys =>
    let k := q / 62
    let skip : List Sym := if k ≠ 0 ∧ k % 1024 = 0 then [.ctl k280, .ctl k280] else []
    let head : List Sym := if q % 62 = 0 then skip ++ [.ctl k281, .data (BitVec.ofNat 8 (seq + k))] else []
    head ++ y :: inBlocks seq (q + 1) ys

/-- `n` idle pairs. -/
def idlePairs (n : Nat) : List Sym := (List.range n).flatMap fun _ => [.ctl k285, .data 0xB5]

/-- Running disparity after `n` blocks of 31 idle pairs: every pair and the header's K28.1 turn it, so a block turns it where its
sequence byte's symbol does; a skip pair leaves it. -/
def idleRd (rd : Bool) (seq n : Nat) : Bool :=
  (List.range (n % 512)).foldl (fun rd k => rd != rdGroup false (encGroup false false ((seq + k) % 256))) rd

/-- Payload symbols of a reverse lane appended at its next place. -/
def State.revPut (s : State) (p : Nat) (ys : List Sym) : State :=
  let x := s.lane (revLane p)
  let s := s.txSend (revLane p) (inBlocks x.txSeq x.txPay ys)
  s.setLane (revLane p) { s.lane (revLane p) with txPay := x.txPay + ys.length }

/-- The reverse lane carries idle pairs up to payload symbol `q`; whole blocks of them are one record. -/
def State.revIdleTo (s : State) (p q : Nat) : State :=
  let x := s.lane (revLane p)
  let n := q / 62 - ceilDiv x.txPay 62
  if q ≤ x.txPay then s
  else if n = 0 then s.revPut p (idlePairs ((q - x.txPay) / 2))
  else
    let s := s.revPut p (idlePairs ((62 * ceilDiv x.txPay 62 - x.txPay) / 2))
    let x := s.lane (revLane p)
    let first := (x.txSeq + x.txPay / 62) % 256
    let s := (s.setLane (revLane p) { x with txPay := x.txPay + 62 * n, txRd := idleRd x.txRd first n }).emit
      (.idleBlocks (revLane p) first n)
    s.revPut p (idlePairs ((q - (x.txPay + 62 * n)) / 2))

/-- The payload symbol that a reverse lane sends next, from now on, and the TB at which it leaves. -/
def State.revNext (s : State) (p : Nat) : Nat × Ns :=
  let x := s.lane (revLane p)
  let q := payFrom x.txPay (10 * (s.now - x.txSince))
  (q, x.txSince + paySymAt q / 10)

/-- A packet on the reverse lane (R100, R101): its seq counts per port. -/
def State.revPacket (s : State) (p type stream arg : Nat) (init : Bool) (body : List Byte) : State :=
  let x := s.port p
  let h := leBytes 1 (16 * x.revSeq + type) ++ leBytes 1 (stream + (if init then 128 else 0)) ++ leBytes 2 body.length ++ leBytes 3 arg
  let crc := if body.isEmpty then [] else leBytes 4 (crc32c body)
  let bytes := h ++ leBytes 1 (crc8 h) ++ body ++ crc
  let s := s.setPort p { x with revSeq := (x.revSeq + 1) % 16 }
  (s.revIdleTo p (s.revNext p).1).revPut p (.ctl k277 :: bytes.map .data ++ [.ctl k297])

/-- The reverse lane goes to electrical idle after a block (R91), during a training burst after the first: the block in progress is
filled with idle pairs. -/
def State.revEnter (s : State) (p : Nat) : State :=
  let x := s.lane (revLane p)
  if x.txIdle then s.txEnter (revLane p)
  else
    let k := max 1 (ceilDiv (s.revNext p).1 62)
    (s.revIdleTo p (62 * k)).txAsk (revLane p) none true (x.txSince + blockStart k / 10)

/-- A CREDIT with the whole count. -/
def State.sendCredit (s : State) (c : Nat) : State :=
  let x := s.stream c
  if x.withheld ∨ (s.port (c / 128)).st ≠ 3 ∨ s.revOn (c / 128) = false ∨ x.grantDue then s
  else
    ((s.setStream c { x with accrued := 0 }).emit (.credit (c / 128) (c % 128) false x.cl)).revPacket (c / 128) 8 (c % 128)
      x.cl.toNat false []

/-- Credits added to CL; a CREDIT goes out when a batch has accrued. -/
def State.accrue (s : State) (c n : Nat) : State :=
  if n = 0 then s
  else
    let x := s.stream c
    let s := s.setStream c { x with
      cl := x.cl + BitVec.ofNat 24 n, accrued := x.accrued + n, accSince := if x.accrued = 0 then s.now else x.accSince }
    if max 1 (s.fld MSP_CREDIT_CFG_batch) ≤ x.accrued + n then s.sendCredit c else s

/-- The initial grant that is due: once the port is UP, nothing withholds it and the buffer holds no data of the stream. -/
def State.tryGrant (s : State) (c : Nat) : State :=
  let x := s.stream c
  if x.bound ∧ x.grantDue ∧ x.withheld = false ∧ x.buffered = 0 ∧ (s.port (c / 128)).st = 3 ∧ s.revOn (c / 128) = true then
    let cl := BitVec.ofNat 24 x.b.creditInit
    ((s.setStream c { x with cl := cl, cc := 0, accrued := 0, grantDue := false }).emit
      (.credit (c / 128) (c % 128) true cl)).revPacket (c / 128) 8 (c % 128) cl.toNat true []
  else s

/-- A hold of a stream's credits has ended: what accrued is returned. -/
def State.holdEnded (s : State) (c : Nat) : State :=
  let s := s.tryGrant c
  if (s.stream c).accrued = 0 then s else s.sendCredit c

/-! Layer frames (R125, R126). -/

/-- Frame number `a` is newer than `b`. -/
def newer (a b : Nat) : Bool := a != b && decide ((a + 2 ^ 24 - b) % 2 ^ 24 < 2 ^ 23)

/-- The open frames of a layer's streams other than `c` leave the slot. -/
def State.loseOthers (s : State) (l c : Nat) : State :=
  (s.feeders l).foldl (fun s d =>
    if d ≠ c ∧ (s.stream d).inFrame then s.setStream d { s.stream d with lost := true } else s) s

/-- The slot of a layer that is being written is opened anew for a frame. -/
def State.openSlot (s : State) (l k n : Nat) : State :=
  let s := s.setSlot l k { st := 1, frame := n }
  if s.slotOk l k then s.bufWrite (s.slotAddr l k) (leBytes 4 0 ++ leBytes 4 n) else s.regionMiss

/-- A stream starts frame `n` of its layer: it joins, opens or reopens the layer's slot. False where no slot is free. -/
def State.layerStart (s : State) (c l n : Nat) : Bool × State :=
  match s.slotIn l 1 with
  | some k =>
    let x := s.slot l k
    if x.frame = n then
      if x.doneBy.contains c then
        (true, (s.setSlot l k { x with doneBy := [] }).loseOthers l c)
      else (true, s)
    else if newer n x.frame then (true, (s.openSlot l k n).loseOthers l c)
    else
      let s := (s.setSlot l k { x with doneBy := [] }).loseOthers l c
      (true, s.setStream c { s.stream c with lost := true })
  | none =>
    match s.slotIn l 0 with
    | some k => (true, s.openSlot l k n)
    | none => (false, s)

/-- A stream's frame of a layer ends. -/
def State.layerEnd (s : State) (c l n : Nat) (ok : Bool) : State :=
  match s.slotIn l 1 with
  | none => s
  | some k =>
    let x := s.slot l k
    if x.frame ≠ n then s
    else if ok then
      let done := x.doneBy ++ [c]
      if (s.feeders l).all done.contains then (s.setSlot l k { x with doneBy := done }).slotReady l k
      else s.setSlot l k { x with doneBy := done }
    else (s.setSlot l k { x with doneBy := [] }).loseOthers l c

/-! Frames of a stream (R108, R109). -/

/-- The open frame of a stream ends; its completeness is what nothing has spoiled. -/
def State.endFrame (s : State) (c : Nat) (ok : Bool) : State :=
  let x := s.stream c
  if x.inFrame = false then s
  else
    let s := s.setStream c { x with
      inFrame := false, lost := false, lastFrame := x.frameNo, lastDone := ok
      cDone := if ok then satInc x.cDone else x.cDone, cInc := if ok then x.cInc else satInc x.cInc }
    let s := if ok then s else s.setFldI MSP_STREAM_FLAGS_inc c 1
    if x.b.target = 1 ∧ x.lost = false then s.layerEnd c x.b.layer x.frameNo ok else s

/-- Format and size in samples of a stream's plane. -/
def Stream.fmt (x : Stream) : Fmt := fmtD x.b.format
def Stream.pw (x : Stream) : Nat := x.fmt.pw x.b.bandW
def Stream.ph (x : Stream) : Nat := x.fmt.ph x.b.height

/-- Samples of a body of `len` bytes at sample `x0` of a line of `pw`, if the length is valid (R108). -/
def segSamples (b pw x0 len : Nat) : Option Nat :=
  if len = ceilDiv ((pw - x0) * b) 8 ∧ x0 < pw then some (pw - x0)
  else if len % (2 * b) = 0 ∧ x0 + len / (2 * b) * 16 ≤ pw then some (len / (2 * b) * 16)
  else none

/-- Samples in the form they are stored in (R124): 24 and 30 bits one to a 32-bit word. -/
def storedBody (f : Fmt) (n : Nat) (body : List Byte) : List Byte :=
  if f.stored = f.sample then body
  else (List.range n).flatMap fun i =>
    leBytes 4 (leNat ((body.drop (i * f.sample / 8)).take 5) / 2 ^ (i * f.sample % 8) % 2 ^ f.sample)

/-- A segment of the line-store stream waits in the ingress buffer, with its credits, until the front end takes its line (R118). -/
def State.holdSegment (s : State) (c line x0 n need : Nat) : State :=
  let f := (s.stream c).frameNo
  let add (e : SrcLine) : SrcLine := { e with got := if e.got = x0 then x0 + n else e.got, credits := e.credits + need }
  let l := s.lyr.lineIn
  let l := if l.any fun e => e.frame == f && e.line == line then l.map fun e => if e.frame = f ∧ e.line = line then add e else e
    else l ++ [add { frame := f, line := line, got := 0, credits := 0 }]
  { s with lyr := { s.lyr with lineIn := l } }

/-- The bytes of a segment written to the layer's slot, or kept for the line stores in SHORTCUT. -/
def State.writeSegment (s : State) (c line x0 n : Nat) (body : List Byte) : State :=
  let x := s.stream c
  let f := x.fmt
  let d := storedBody f n body
  if x.b.target = 2 then
    let s : State := { s with lyr := { s.lyr with lineBuf := Sparse.write 0 s.lyr.lineBuf (line * f.pitch 15360 + x0 * f.stored / 8) d } }
    s.holdSegment c line x0 n (creditNeed body.length)
  else if x.lost then s
  else
    let l := x.b.layer
    match s.slotIn l 1 with
    | some k =>
      if s.slotOk l k then
        s.bufWrite (s.slotAddr l k + s.planeOff l x.b.plane + line * f.pitch (s.srcW l) +
          (x.b.bandX0 / f.hs + x0) * f.stored / 8) d
      else s.regionMiss
    | none => s

/-- A packet is dropped after its header (R104, R112). -/
def State.dropPacket (s : State) (c need : Nat) : State :=
  let x := s.stream c
  ((s.setStream c { x with cDrop := satInc x.cDrop }).setFldI MSP_STREAM_FLAGS_drop c 1).accrue c need

/-- A frame is marked incomplete. -/
def State.markBad (s : State) (c : Nat) : State := s.setStream c { s.stream c with bad := true }

/-- Header fields of a packet (R101). -/
def pktSeq (k : Packet) : Nat := leAt k.hdr 0 1 / 16
def pktType (k : Packet) : Nat := leAt k.hdr 0 1 % 16
def pktCtx (k : Packet) : Nat := 128 * k.port + leAt k.hdr 1 1 % 128
def pktLen (k : Packet) : Nat := leAt k.hdr 2 2
def pktArg (k : Packet) : Nat := leAt k.hdr 4 3

/-- The data of a packet stays in the ingress buffer until it is written out. -/
def State.buffer (s : State) (c n : Nat) : State := s.setStream c { s.stream c with buffered := (s.stream c).buffered + n }

/-- PIXEL (R108, R109). -/
def State.takePixel (s : State) (k : Packet) : State :=
  let c := pktCtx k
  let x := s.stream c
  let need := creditNeed (pktLen k)
  let line := (pktArg k) % 16384
  let x0 := (pktArg k) / 16384 * 16
  if x.inFrame = false then s.dropPacket c need
  else if line < x.line ∨ (line = x.line ∧ x0 < x.x) ∨ x.ph ≤ line ∨ x.pw ≤ x0 then (s.markBad c).dropPacket c need
  else
    match segSamples x.fmt.sample x.pw x0 (pktLen k) with
    | none => (s.markBad c).dropPacket c need
    | some n =>
      let skip := !(line == x.line && x0 == x.x)
      let crcBad := k.symBad || crc32c k.body != leNat k.crc
      let y : Stream := { x with
        bad := x.bad || skip || (crcBad && x.b.crcStrict), cCrc := if crcBad then satInc x.cCrc else x.cCrc
        line := if x0 + n = x.pw then line + 1 else line, x := if x0 + n = x.pw then 0 else x0 + n }
      let s := (s.setStream c y).buffer c need
      let s := if crcBad then s.setFldI MSP_STREAM_FLAGS_crc c 1 else s
      s.writeSegment c line x0 n k.body

/-- META (R110, R124): into the metadata area of the frame's slot; a line-store stream discards it uncounted. A CRC failure of its
body is counted; only a PIXEL's spoils a frame (R109). -/
def State.takeMeta (s : State) (k : Packet) : State :=
  let c := pktCtx k
  let x := s.stream c
  if x.b.target = 2 then s.accrue c (creditNeed (pktLen k))
  else if x.inFrame = false then s.dropPacket c (creditNeed (pktLen k))
  else
    let crcBad := k.symBad || crc32c k.body != leNat k.crc
    let s := if crcBad then
        (s.setStream c { x with cCrc := satInc x.cCrc }).setFldI MSP_STREAM_FLAGS_crc c 1
      else s
    let s := s.buffer c (creditNeed (pktLen k))
    if x.lost then s
    else
      let l := x.b.layer
      match s.slotIn l 1 with
      | some j =>
        if s.slotOk l j then
          s.bufWrite (s.slotAddr l j) (leBytes 2 k.body.length ++ leBytes 1 ((pktArg k) % 256) ++ leBytes 1 0 ++
            leBytes 4 x.frameNo ++ k.body)
        else s.regionMiss
      | none => s

/-- A rebind takes effect (R107): the line-store stream's format follows it. -/
def State.rebindTo (s : State) (c : Nat) (b : BindArgs) : State :=
  let old := (s.stream c).b
  let s := s.setStream c { s.stream c with b := b, rebind := none }
  if b.target = 2 then { s with lyr := { s.lyr with lineFmt := some b.format, lineBuf := [], lineIn := [] } }
  else if old.target = 2 then { s with lyr := { s.lyr with lineFmt := none, lineBuf := [], lineIn := [] } }
  else s

/-- FRAME_START (R108, R125). False where its layer has no free slot, and the packet waits. -/
def State.takeStart (s : State) (k : Packet) : Bool × State :=
  let c := pktCtx k
  let s := s.endFrame c false
  let s := match (s.stream c).rebind with
    | some b => s.rebindTo c b
    | none => s
  let b := (s.stream c).b
  let n := pktArg k
  let started (s : State) : State :=
    s.setStream c { s.stream c with inFrame := true, frameNo := n, bad := false, line := 0, x := 0 }
  if b.target = 1 then
    let r := (s.setStream c { s.stream c with lost := false }).layerStart c b.layer n
    if r.1 then (true, started r.2) else r
  else (true, started s)

/-- FRAME_END (R108, R109). -/
def State.takeEnd (s : State) (k : Packet) : State :=
  let c := pktCtx k
  let x := s.stream c
  if x.inFrame = false then s.dropPacket c 0
  else s.endFrame c ((pktArg k) == x.frameNo && !x.bad && decide (x.ph ≤ x.line))

/-- A packet acts; false where it must wait for a slot. -/
def State.takePacket (s : State) (k : Packet) : Bool × State :=
  let t := pktType k
  if t = 1 then (true, s.takePixel k)
  else if t = 2 then s.takeStart k
  else if t = 3 then (true, s.takeEnd k)
  else (true, s.takeMeta k)

/-- A layer has no free slot: the credits of its streams are withheld (R126). -/
def State.holdLayer (s : State) (l : Nat) : State :=
  (s.feeders l).foldl (fun s c => s.setStream c { s.stream c with slotHeld := true }) s

/-- A stream's waiting packets act until one must wait again. -/
def State.runQueue : Nat → State → Nat → State
  | 0, s, _ => s
  | fuel + 1, s, c =>
    match (s.stream c).queue with
    | [] => s
    | (k, gap) :: ks =>
      let s := if gap ∧ (s.stream c).inFrame then s.markBad c else s
      let r := s.takePacket k
      if r.1 then
        let s := r.2.setStream c { r.2.stream c with
          queue := ks, buffered := (r.2.stream c).buffered - (if (pktType k) = 1 ∨ (pktType k) = 4 then creditNeed (pktLen k) else 0) }
        State.runQueue fuel s c
      else s.holdLayer (s.stream c).b.layer

/-- A slot of a layer has come free: its streams go on. -/
def State.releaseLayer (s : State) (l : Nat) : State :=
  if (s.slotIn l 0).isNone then s
  else
    let cs := (s.feeders l).filter fun c => (s.stream c).slotHeld
    let s := cs.foldl (fun s c => s.setStream c { s.stream c with slotHeld := false }) s
    let s := cs.foldl (fun s c => State.runQueue ((s.stream c).queue.length + 1) s c) s
    cs.foldl (fun s c => if (s.stream c).slotHeld then s else s.holdEnded c) s

/-- Types a forward packet may have, with the range of its length (R103). -/
def lenOk (t n : Nat) : Bool :=
  if t = 1 then decide (1 ≤ n) && decide (n ≤ 8192) else if t = 2 ∨ t = 3 then n == 0 else t == 4 && decide (1 ≤ n) && decide (n ≤ 256)

/-- The header is readable: its CRC-8 holds and every symbol is valid (R102, R104). -/
def pktHdrOk (k : Packet) : Bool := !k.hdrBad && k.hdr.length == 8 && crc8 (k.hdr.take 7) == leAt k.hdr 7 1

/-- The packet is whole and of a type the forward lanes carry. R101 and R103 also fix init at 0 and a META's arg bits 23:8 at zero,
and say nothing of a packet that breaks that: the model drops and counts it (DESIGN CHOICE, log entry 21). -/
def pktWhole (k : Packet) : Bool :=
  !k.cut && !k.noEop && lenOk (pktType k) (pktLen k) && k.body.length == (pktLen k) && leAt k.hdr 1 1 < 128 &&
    ((pktType k) != 4 || (pktArg k) < 256)

/-- A credit violation (R112): counted and reported, at most once a raster frame, and its need added to CL at once. -/
def State.violation (s : State) (p c need : Nat) : State :=
  let x := s.stream c
  let s := s.setStream c { x with cViol := satInc x.cViol, violFrame := some s.frame }
  let s := (s.setFldI MSP_STREAM_FLAGS_viol c 1).accrue c need
  if x.violFrame = some s.frame then s else s.post 0x33 0x04 c [s.portOwner p, s.owner]

/-- A forward packet of type `t` arrives (R100 to R112). A packet that violates its credits is dropped before its place in the frame
is looked at; R104 does not list the violation among its drops, so that alone counts in CNT_VIOL only (DESIGN CHOICE, log entry 21),
and a packet that R104 drops too counts in both. -/
def State.receive (s : State) (t : Nat) (k : Packet) : State :=
  let c := pktCtx k
  let x := s.stream c
  if (s.port k.port).st ≠ 3 ∨ 8 ≤ k.port ∨ (pktHdrOk k) = false then s
  else if pktType k ≠ t ∧ 1 ≤ pktType k ∧ pktType k ≤ 4 then s
  else if x.bound = false then
    (s.setStream c { x with cDrop := satInc x.cDrop }).setFldI MSP_STREAM_FLAGS_drop c 1
  else
    let need := creditNeed (pktLen k)
    let gap := t != 2 && (pktSeq k) != (x.seq + 1) % 16
    let avail := x.avail
    let s := s.setStream c { x with
      seq := (pktSeq k), bad := x.bad || (gap && x.inFrame), cc := x.cc + BitVec.ofNat 24 need }
    if avail < need then
      let s := s.violation k.port c need
      if pktWhole k then s else s.dropPacket c 0
    else if (pktWhole k) = false then s.dropPacket c need
    else if x.queue ≠ [] then
      let y := s.stream c
      s.setStream c { y with queue := y.queue ++ [(k, gap)], buffered := y.buffered + need }
    else
      let r := s.takePacket k
      if r.1 then r.2
      else
        let s := r.2.setStream c { r.2.stream c with queue := [(k, gap)] }
        s.holdLayer (s.stream c).b.layer

/-! Binding (R105 to R107). -/

/-- The formats of a layer are those that its kind takes (R122). -/
def formatsFit (l fmt cfmt : Nat) : Bool :=
  let rgb := decide (1 ≤ fmt) && decide (fmt ≤ 8) && cfmt == 0
  rgb || (decide (l ≤ 3) && ((fmt == 0x10 && (cfmt == 0x12 || cfmt == 0x14 || cfmt == 0x16)) ||
    (fmt == 0x11 && (cfmt == 0x13 || cfmt == 0x15 || cfmt == 0x17))))

/-- The band fits the layer, and the format its kind and plane (R106, R122). -/
def State.bindFits (s : State) (b : BindArgs) : Bool :=
  if b.target = 2 then
    (b.format == 1 || b.format == 3 || b.format == 5) && b.bandX0 == 0 && b.bandW == 15360 && b.height == 8640 &&
      !(List.range 1024).any fun c =>
        c != b.ctx && (s.stream c).bound && ((s.stream c).b.target == 2 || (s.stream c).rebind.any (·.target == 2))
  else
    decide (b.layer ≤ 12) && decide (b.plane < s.planes b.layer) && (fmtOf b.format).isSome &&
      formatsFit b.layer (s.fldI LYR_L_CTRL_fmt b.layer) (s.fldI LYR_L_CTRL_cfmt b.layer) &&
      (if b.plane = 0 then b.format == s.fldI LYR_L_CTRL_fmt b.layer else b.format == s.fldI LYR_L_CTRL_cfmt b.layer) &&
      decide (b.bandX0 + b.bandW ≤ s.srcW b.layer) && decide (b.height ≤ s.srcH b.layer)

/-- Values within R105. -/
def bindRange (b : BindArgs) : Bool :=
  decide (b.ctx < 1024) && decide (b.target ≤ 2) && b.bandX0 % 16 == 0 && decide (16 ≤ b.bandW) && decide (b.bandW ≤ 15360) &&
    decide (1 ≤ b.height) && decide (b.height ≤ 8640) && decide (1 ≤ b.creditInit) && decide (b.creditInit ≤ 256)

/-- Partition `p` owns the LAYER region of every slot of a layer. -/
def State.ownsSlots (s : State) (p l : Nat) : Bool :=
  (List.range 3).all fun k => s.areaIn (fun kind o => kind == 1 && o == p) 65 (s.slotAddr l k) (s.slotBytes l)

/-- Credits of a port's bound streams other than `c` (R107). -/
def State.creditSum (s : State) (c : Nat) : Nat :=
  (portCtxs (c / 128)).foldl (fun n d => if d ≠ c ∧ (s.stream d).bound then n + (s.stream d).b.creditInit else n) 0

/-- The status a bind completes with (R107). -/
def State.bindStatus (s : State) (p : Nat) (b : BindArgs) : Nat :=
  let x := s.stream b.ctx
  if b.ctx < 1024 ∧ s.portOwner (b.ctx / 128) ≠ p then DENIED
  else if b.target = 1 ∧ b.layer ≤ 12 ∧ s.ownsSlots p b.layer = false then DENIED
  else if b.target = 2 ∧ s.mode ≠ 5 then NOT_READY
  else if bindRange b = false ∨ s.bindFits b = false ∨ (x.bound ∧ x.b.creditInit ≠ b.creditInit) then INVALID
  else if 256 < s.creditSum b.ctx + b.creditInit then NO_RESOURCE
  else OK

/-- The frame rate is above 120 Hz (R22). -/
def State.fast (s : State) : Bool := decide (s.scn.total * s.scn.lt * 120 < 256 * 10 ^ 9)

/-- The raster holds a stream bound so (R22, R117): in CELLAR and LAYBY all but those bound to S, and in a bake frame above
120 Hz those bound to layers. -/
def State.wantHeld (s : State) (b : BindArgs) : Bool :=
  if s.mode = 7 ∨ s.mode = 8 then !(b.target == 1 && b.layer == 12)
  else s.flag MOD_STATUS_bake && b.target == 1 && s.fast

/-- A bind takes effect: a bound stream within a frame waits for its next FRAME_START. -/
def State.bind (s : State) (b : BindArgs) : State :=
  let x := s.stream b.ctx
  if x.bound then (if x.inFrame then s.setStream b.ctx { x with rebind := some b } else s.rebindTo b.ctx b)
  else
    let y : Stream := { (({} : Stream)) with
      bound := true, b := b, grantDue := true, held := s.wantHeld b, cDone := x.cDone, cInc := x.cInc, cDrop := x.cDrop
      cViol := x.cViol, cCrc := x.cCrc, lastFrame := x.lastFrame, lastDone := x.lastDone, violFrame := x.violFrame }
    ((s.setStream b.ctx y).rebindTo b.ctx b).tryGrant b.ctx

/-- An unbind takes effect: an open frame ends incomplete, of the stream and of its layer (R107, R125). -/
def State.unbind (s : State) (c : Nat) : State :=
  let x := s.stream c
  if x.bound = false then s
  else
    let s := s.endFrame c false
    let s := if x.b.target = 2 then { s with lyr := { s.lyr with lineFmt := none, lineBuf := [], lineIn := [] } } else s
    let s := if x.b.target = 1 then
        match s.slotIn x.b.layer 1 with
        | some k => (s.setSlot x.b.layer k { s.slot x.b.layer k with doneBy := [] }).loseOthers x.b.layer c
        | none => s
      else s
    let y := s.stream c
    s.setStream c { (({} : Stream)) with
      cDone := y.cDone, cInc := y.cInc, cDrop := y.cDrop, cViol := y.cViol, cCrc := y.cCrc, lastFrame := y.lastFrame
      lastDone := y.lastDone, violFrame := y.violFrame }

/-- STREAM_BIND dispatched. -/
def State.runBind (s : State) (r : Req) (b : BindArgs) : State :=
  if b.target = 0 then
    if 1024 ≤ b.ctx then s.done r INVALID
    else if s.portOwner (b.ctx / 128) ≠ r.h.part then s.done r DENIED
    else (s.unbind b.ctx).done r OK
  else
    let st := s.bindStatus r.h.part b
    if st = OK then (s.bind b).done r OK else s.done r st

/-! Holds (R59, R117). -/

/-- STREAM_GATE's effect. -/
def State.gate (s : State) (c : Nat) (close : Bool) : State :=
  let s := s.setStream c { s.stream c with gated := close }
  if close then s else s.holdEnded c

/-- The raster releases the streams it holds, and holds those it must hold now (R22, R117). -/
def State.setHolds (s : State) : State :=
  (s.streams.map (·.1)).foldl (fun s c =>
    let x := s.stream c
    let w := x.bound && s.wantHeld x.b
    if x.held = w then s
    else
      let s := s.setStream c { x with held := w }
      if w then s else s.holdEnded c) s

/-- A port has left UP other than into SLEEP: its open frames end incomplete (R115). -/
def State.endPortFrames (s : State) (p : Nat) : State := (portCtxs p).foldl (fun s c => s.endFrame c false) s

/-! Commands. -/

/-- PIXEL (R108). -/
def execPixel (k : Packet) (s : State) : Host.Outcome State Fault Refusal := .next (s.receive 1 k)

/-- FRAME_START (R108). -/
def execFrameStart (k : Packet) (s : State) : Host.Outcome State Fault Refusal := .next (s.receive 2 k)

/-- FRAME_END (R109). -/
def execFrameEnd (k : Packet) (s : State) : Host.Outcome State Fault Refusal := .next (s.receive 3 k)

/-- META (R110). -/
def execMetaPacket (k : Packet) (s : State) : Host.Outcome State Fault Refusal := .next (s.receive 4 k)

/-- Credits of a stream's packets that wait for a slot, and of lines that wait for the front end (R118, R126). -/
def State.waitingCredits (s : State) (c : Nat) : Nat :=
  let x := s.stream c
  let q := x.queue.foldl (fun n k => n + creditNeed (pktLen k.1)) 0
  if x.b.target = 2 then s.lyr.lineIn.foldl (fun n e => n + e.credits) q else q

/-- STREAM_DATA_WRITTEN (R113): at most what the buffer holds beside packets that wait for a slot, and lines of the line-store stream,
whose credits return as the front end takes them (R118). -/
def execStreamDataWritten (ctx credits : Nat) (s : State) : Host.Outcome State Fault Refusal :=
  .next (
    let x := s.stream ctx
    let waiting := s.waitingCredits ctx
    let n := min credits (x.buffered - waiting)
    if x.bound then ((s.setStream ctx { x with buffered := x.buffered - n }).accrue ctx n).tryGrant ctx else s)

/-- CREDIT_BATCH_TIME (R113). -/
def execCreditBatchTime (ctx : Nat) (s : State) : Host.Outcome State Fault Refusal :=
  .next (
    let x := s.stream ctx
    if x.bound ∧ x.accrued ≠ 0 then
      (s.reach (x.accSince + 100 * max 1 (s.fld MSP_CREDIT_CFG_batch_time))).sendCredit ctx
    else s)

end Sys2Proof.Machine
end

