-- ==== Sys2Proof/Machine/Ports.lean ====
section
/-! DEFINITION. Stream ports (R90 to R101, R114 to R116, R119): block lock, deskew, the port states, fallback and sleep, the
payload's rows and packets, and STATUS. -/

namespace Sys2Proof.Machine

open Sys2Proof Reg

/-- Lanes of a width code. -/
def widthOf (w : Nat) : Nat := 2 ^ w

/-- The active port lanes. -/
def Port.active (x : Port) : List Nat := (List.range (widthOf x.actW)).map (x.actFirst + ·)

/-- Block lock of a port lane. -/
def Port.lane (x : Port) (j : Nat) : BlkLane := Sparse.get {} x.blk j

/-- Block lock of a port lane changed. -/
def Port.setLane (x : Port) (j : Nat) (b : BlkLane) : Port := { x with blk := Sparse.set {} x.blk j b }

/-- A port lane is in LOCK. -/
def Port.locked (x : Port) (j : Nat) : Bool := (x.lane j).st == 2

/-- Payload that waits for its row is discarded (R97). -/
def Port.dropRows (x : Port) (j : Nat) : Port := x.setLane j { x.lane j with rows := [] }

/-- An event of a port, offered to its owner and the OWNER (R339); the SVC logs LANE_DOWN (R434). -/
def State.postPort (s : State) (p code arg : Nat) : State :=
  let s := s.post code 0x04 arg [s.portOwner p, s.owner]
  if code = 0x30 then s.log code 0x04 arg 0 else s

/-! STATUS (R119). -/

/-- The arg of STATUS. -/
def Port.arg (x : Port) : Nat :=
  (List.range 8).foldl (fun n j => if x.locked j then n + 2 ^ j else n) 0 + 256 * x.actW + 1024 * x.actFirst +
    (if x.st = 3 then 8192 else 0)

/-- The port has its reverse lane send STATUS: it is in TRAIN, DESKEW or UP, and the lane is out of electrical idle. -/
def State.talks (s : State) (p : Nat) : Bool := decide (1 ≤ (s.port p).st) && decide ((s.port p).st ≤ 3) && s.revOn p

/-- STATUS, with the TB at which its SOP leaves. -/
def State.sendStatus (s : State) (p : Nat) : State :=
  let x := s.port p
  let t := (s.revNext p).2
  let s := (s.setPort p { x with statusArg := some x.arg }).emit (.mspStatus p x.arg (BitVec.ofNat 64 t))
  s.revPacket p 9 0 x.arg false (leBytes 8 t)

/-- STATUS after a change of its fields. -/
def State.portTalk (s : State) (p : Nat) : State :=
  if s.talks p ∧ (s.port p).statusArg ≠ some (s.port p).arg then s.sendStatus p else s

/-! Packets (R100, R104). -/

/-- The byte of a symbol: an invalid one is taken as 0x00. -/
def symByte : Sym → Byte
  | .data b => b
  | _ => 0

/-- The symbol is a data byte. -/
def isData : Sym → Bool
  | .data _ => true
  | _ => false

/-- The packet of port `p` that symbols after an SOP make. -/
def pktOf (p : Nat) (ys : List Sym) (cut noEop : Bool) : Packet :=
  let hdr := (ys.take 8).map symByte
  let n := leAt hdr 2 2
  { port := p, hdr := hdr, body := ((ys.drop 8).take n).map symByte, crc := ((ys.drop (8 + n)).take 4).map symByte
    hdrBad := !(ys.take 8).all isData, symBad := !(ys.drop 8).all isData, cut := cut, noEop := noEop }

/-- Symbols between SOP and EOP of a packet with this header. -/
def pktSyms (k : Packet) : Nat := 8 + (if pktLen k = 0 then 0 else pktLen k + 4)

/-- The packet in progress ends: it acts, or is dropped; a packet without a whole header is nobody's. -/
def State.endPacket (s : State) (p : Nat) (cut noEop : Bool) : State :=
  match (s.port p).packet with
  | none => s
  | some l =>
    let k := pktOf p l.reverse cut noEop
    let s := s.setPort p { s.port p with packet := none }
    if l.length < 8 then s else s.receive (pktType k) k

/-- A symbol of a port's payload: SOP starts a packet; an SOP or an idle pair cuts the one in progress; EOP ends it, early or not,
and a symbol in EOP's place ends it as bad. A header that is not good, or of a length its type does not have, ends it at once. An
EOP before the packet's end is not among R104's cases, and cuts it (DESIGN CHOICE, log entry 21). -/
def State.paySym (s : State) (p : Nat) (y : Sym) : State :=
  match (s.port p).packet with
  | none => if y = .ctl k277 then s.setPort p { s.port p with packet := some [] } else s
  | some l =>
    let k := pktOf p l.reverse true false
    if y = .ctl k277 then
      let s := s.endPacket p true false
      s.setPort p { s.port p with packet := some [] }
    else if y = .ctl k285 then s.endPacket p true false
    else if y = .ctl k297 then s.endPacket p (decide (l.length < pktSyms k)) false
    else if 8 ≤ l.length ∧ l.length = pktSyms k then s.endPacket p false true
    else
      let s := s.setPort p { s.port p with packet := some (y :: l) }
      let k := pktOf p (y :: l).reverse true false
      if l.length = 7 ∧ (pktHdrOk k && lenOk (pktType k) (pktLen k)) = false then s.endPacket p true false else s

/-! Rows (R93). -/

/-- Symbol i of a row travels on active lane i mod w at payload position i div w. -/
def interleave (ls : List (List Sym)) : List Sym := (List.range 62).flatMap fun i => ls.map fun l => l.getD i .bad

/-- Sequence byte `a` is later than `b`, or equal. -/
def seqAhead (a b : Nat) : Bool := decide ((a + 256 - b) % 256 < 128)

/-- Rows that every active lane has delivered go on as payload; a lane's payload older than another lane's oldest has no row. -/
def State.gatherRows : Nat → State → Nat → State
  | 0, s, _ => s
  | fuel + 1, s, p =>
    let x := s.port p
    match x.active.mapM fun j => (x.lane j).rows.head? with
    | none => s
    | some heads =>
      let newest := heads.foldl (fun m h => if seqAhead h.1 m then h.1 else m) ((heads.headD (0, [])).1)
      let pop (x : Port) (j : Nat) : Port :=
        let b := x.lane j
        if (b.rows.headD (0, [])).1 = newest ∧ heads.any (·.1 != newest) then x else x.setLane j { b with rows := b.rows.tail }
      let s := s.setPort p (x.active.foldl pop x)
      let s := if heads.all (·.1 == newest) then (interleave (heads.map (·.2))).foldl (fun s y => s.paySym p y) s else s
      State.gatherRows fuel s p

/-! Port states (R96 to R99). -/

/-- The port enters UP (R97, R98, R113): LANE_UP, STATUS, and the initial grants. -/
def State.portUp (s : State) (p : Nat) : State :=
  let x := s.port p
  let x := x.active.foldl Port.dropRows x
  let s := s.setPort p { x with
    st := 3, deskewFail := 0, waiting := false, wokeAt := none, idleLanes := [], wchg := false, packet := none }
  let s := (s.postPort p 0x31 (p + 16 * x.actW + 256 * x.actFirst)).portTalk p
  (portCtxs p).foldl (fun s c =>
    if (s.stream c).bound then (s.setStream c { s.stream c with grantDue := true }).tryGrant c else s) s

/-- The skew of the active lanes: their last headers' arrivals, taken back to one sequence byte (R96). -/
def Port.skewNow (x : Port) : Nat :=
  let q0 := (x.lane x.actFirst).seq
  let arr (j : Nat) : Int :=
    let d := ((x.lane j).seq + 256 - q0) % 256
    ((x.lane j).arrival : Int) - 64 * (if d < 128 then (d : Int) else (d : Int) - 256)
  let l := x.active.map arr
  let lo := l.foldl min (l.headD 0)
  let hi := l.foldl max (l.headD 0)
  (hi - lo).toNat

/-- The deskew comparison (R96). The first failure after a change of width is reported with cause 2 (R98), at the first active lane:
the skew has no one lane at fault (DESIGN CHOICE, log entry 21). -/
def State.deskew (s : State) (p : Nat) : State :=
  let x := s.port p
  let k := x.skewNow
  let s := s.setPort p { x with skew := min 255 k }
  if k ≤ 48 then s.portUp p
  else
    let s := s.setPort p { s.port p with deskewFail := min 255 (x.deskewFail + 1), waiting := true, wchg := false }
    if x.wchg then s.postPort p 0x30 (8 * p + x.actFirst + 8192) else s

/-- A port in TRAIN whose active lanes are all in LOCK deskews (R97). -/
def State.tryDeskew (s : State) (p : Nat) : State :=
  let x := s.port p
  if x.st = 1 ∧ x.active.all x.locked then (s.setPort p { x with st := 2 }).deskew p else s

/-- The port goes to TRAIN, or stays in it (R97, R99): its reverse lane leaves electrical idle. -/
def State.portTrain (s : State) (p : Nat) : State :=
  let x := s.port p
  let fresh := x.st = 0 ∨ x.st = 4
  let s := s.setPort p { x with
    st := 1, trainSince := if x.st = 1 then x.trainSince else s.now, idleLanes := [], waiting := false
    statusArg := if fresh then none else x.statusArg, statusAt := if fresh then s.now else x.statusAt }
  ((s.txExit (revLane p)).tryDeskew p).portTalk p

/-- A loss (R98, R115): LANE_DOWN, an exit from UP counted, the packet in progress and open frames ended, and the port trains. -/
def State.portLoss (s : State) (p lane cause : Nat) : State :=
  let s := s.endPacket p true false
  let x := s.port p
  let s := if x.st = 3 then s.setPort p { x with down := satInc x.down } else s
  let s := s.postPort p 0x30 (8 * p + lane + 4096 * cause)
  (s.endPortFrames p).portTrain p

/-- A port lane leaves LOCK or SYNC, with the cause of LANE_DOWN. -/
def State.portLaneOut (s : State) (p j cause : Nat) : State :=
  let x := s.port p
  if x.active.contains j = false then s
  else if x.st = 3 then s.portLoss p j cause
  else if x.st = 2 then s.portTrain p
  else s

/-- Electrical idle recognised on an active lane in UP (R114): the last within 64 symbols of the first puts the port to sleep;
idle on part of the port is a loss. -/
def State.portIdle (s : State) (p j t : Nat) : State :=
  let x := s.port p
  let idle := x.idleLanes ++ [j]
  if x.idleLanes ≠ [] ∧ x.idleAt + 64 < t then s.portLoss p (idle.headD j) 1
  else if x.active.all idle.contains then
    let s := s.endPacket p true false
    (s.setPort p { s.port p with st := 4, idleLanes := [], wokeAt := none, statusArg := none }).revEnter p
  else s.setPort p { x with idleLanes := idle, idleAt := if x.idleLanes = [] then t else x.idleAt }

/-- What a receive lane reports to its port at symbol time `t`: symbol lock gained or lost, electrical idle recognised. -/
def State.portReport (s : State) (l : Nat) (r : LaneReport) (t : Nat) : State :=
  let p := l / 8
  let j := l % 8
  let x := s.port p
  let cleared := s.setPort p (x.setLane j {})
  match r with
  | .none => s
  | .exitFailed => s
  | .sync => cleared.portTalk p
  | .lost => (cleared.portLaneOut p j 1).portTalk p
  | .idle =>
    let s :=
      if x.active.contains j = false then cleared
      else if x.st = 3 then cleared.portIdle p j t
      else if x.st = 2 then cleared.portTrain p
      else cleared
    s.portTalk p

/-! Block lock (R95). -/

/-- A symbol in HUNT: K28.1 followed by a data symbol is taken as a header. -/
def BlkLane.hunt (x : BlkLane) (y : Sym) (t : Nat) : BlkLane :=
  match y with
  | .data q =>
    if x.hdrK then
      { st := 1, run := 1, expect := (q.toNat + 1) % 256, seq := q.toNat, arrival := x.hdrAt, pos := 2 }
    else x
  | _ => { x with hdrK := y == .ctl k281, hdrAt := t }

/-- The second symbol of a header in CHECK or LOCK: the header is tested. The lane, and whether it leaves LOCK. -/
def BlkLane.header (x : BlkLane) (y : Sym) : BlkLane × Bool :=
  let ok := x.hdrK && y == .data (BitVec.ofNat 8 x.expect)
  let good : BlkLane := { x with expect := (x.expect + 1) % 256, seq := x.expect, arrival := x.hdrAt, pos := 2, hdrK := false, pay := [] }
  if x.st = 1 then
    if ok then ({ good with st := if x.run = 31 then 2 else 1, run := x.run + 1 }, false) else ({}, false)
  else
    let hist := (ok :: x.hist).take 64
    if 8 ≤ (hist.filter (!·)).length then ({}, true)
    else if ok then ({ good with hist := hist }, false)
    else ({ good with hist := hist, seq := x.seq, arrival := x.arrival }, false)

/-- A payload symbol (R91, R95): K28.1 and any other control symbol that MSP has no use for there is invalid. -/
def payloadSym (y : Sym) : Sym :=
  match y with
  | .ctl c => if c = k277 ∨ c = k297 ∨ c = k285 then y else .bad
  | _ => y

/-- A symbol of a lane in SYNC. K28.3 between blocks is ignored (R79). The lane, and whether it leaves LOCK; in LOCK the payload of
a whole block is delivered with the sequence byte that the block has in its row. -/
def blkStep (x : BlkLane) (y : Sym) (t : Nat) : BlkLane × Bool :=
  if x.st = 0 then (x.hunt y t, false)
  else if x.pos = 0 then
    (if y = .ctl k283 then x else { x with hdrK := y == .ctl k281, hdrAt := t, pos := 1 }, false)
  else if x.pos = 1 then x.header y
  else
    let pay := payloadSym y :: x.pay
    if x.pos = 63 then
      ({ x with pos := 0, pay := [], rows := if x.st = 2 then x.rows ++ [((x.expect + 255) % 256, pay.reverse)] else [] }, false)
    else ({ x with pos := x.pos + 1, pay := pay }, false)

/-- A symbol that a forward lane in SYNC delivers to its port at symbol time `t` (R91 to R100). An active lane that goes on 64
symbols after another went idle is idle on part of the port (R114). -/
def State.portSym (s : State) (l : Nat) (y : Sym) (t : Nat) : State :=
  let p := l / 8
  let j := l % 8
  let x := s.port p
  let s := match x.idleLanes with
    | i :: _ => if x.st = 3 ∧ x.active.contains j ∧ x.idleAt + 64 < t then s.portLoss p i 1 else s
    | [] => s
  let x := s.port p
  let r := blkStep (x.lane j) y t
  let s := s.setPort p (x.setLane j r.1)
  let s :=
    if r.2 then s.portLaneOut p j 0
    else if x.st = 3 ∧ x.active.contains j then s.gatherRows 4 p
    else (s.setPort p ((s.port p).dropRows j)).tryDeskew p
  s.portTalk p

/-- BLOCK (R92, R95 to R97, R114): a whole block of one lane, after the elastic buffer (R72), whose symbols arrive in a row. -/
def execBlock (b : Block) (s : State) : Host.Outcome State Fault Refusal :=
  .next (
    let l := 8 * b.port + b.lane
    if 8 ≤ b.port ∨ 8 ≤ b.lane ∨ (s.lane l).st ≠ 3 ∨ s.domOn (6 + b.port) = false then s
    else
      b.syms.zipIdx.foldl (fun s y =>
        match elastic y.1 with
        | some z => s.portSym l z (b.arrival + y.2)
        | none => s) s)

/-- DESKEW_RETRY (R96): 16 blocks after a failed deskew. -/
def execDeskewRetry (port : Nat) (s : State) : Host.Outcome State Fault Refusal :=
  .next (if (s.port port).st = 2 ∧ (s.port port).waiting then (s.deskew port).portTalk port else s)

/-- The widest smaller set of lanes wholly in LOCK, the lowest of those (R99): width code and first lane. -/
def Port.fallback (x : Port) : Option (Nat × Nat) :=
  ((List.range x.actW).reverse.flatMap fun w => (List.range (widthOf x.width / widthOf w)).map fun i => (w, i * widthOf w)).find?
    fun c => (List.range (widthOf c.1)).all fun i => x.locked (c.2 + i)

/-- FALLBACK_TIMEOUT (R99). -/
def execFallbackTimeout (port : Nat) (s : State) : Host.Outcome State Fault Refusal :=
  .next (
    let x := s.port port
    if port < 8 ∧ x.st = 1 ∧ s.fld (MSP_PORT_CFG_fallback port) = 1 then
      match x.fallback with
      | some (w, f) =>
        let s := s.reach (x.trainSince + 1000000 * max 1 (s.fld (MSP_PORT_CFG_fb_to port)))
        ((s.setPort port { x with actW := w, actFirst := f, wchg := true }).tryDeskew port).portTalk port
      | none => s
    else s)

/-- SLEEP_EXIT_TIMEOUT (R114): a loss with cause 1. -/
def execSleepExitTimeout (port : Nat) (s : State) : Host.Outcome State Fault Refusal :=
  .next (
    let x := s.port port
    match x.wokeAt with
    | some t =>
      if x.st = 1 ∨ x.st = 2 then
        let s := s.reach (t + 1000000)
        let s := s.setPort port { x with wokeAt := none }
        s.portLoss port ((x.active.find? fun j => !x.locked j).getD x.actFirst) 1
      else s
    | none => s)

/-- MSP_STATUS_TIMER (R119): every 10 µs in TRAIN, DESKEW and UP. -/
def execMspStatusTimer (port : Nat) (s : State) : Host.Outcome State Fault Refusal :=
  .next (
    if s.talks port then
      let s := s.reach ((s.port port).statusAt + 10000)
      (s.setPort port { s.port port with statusAt := s.now }).sendStatus port
    else s)

/-- A port whose en is 1 and whose domain is ON, with no change of it begun, goes from OFF to TRAIN, with the width and rate
configured (R90, R97, R116). -/
def State.portStart (s : State) (p : Nat) : State :=
  if (s.port p).st = 0 ∧ s.fld (MSP_PORT_CFG_en p) = 1 ∧ s.domOn (6 + p) ∧ (s.dom (6 + p)).going = none then
    let w := s.fld (MSP_PORT_CFG_width p)
    let x : Port := { s.port p with
      width := w, rate := s.fld (MSP_PORT_CFG_rate p), actW := w, actFirst := 0, wchg := false }
    (s.setPort p x).portTrain p
  else s

/-- The port goes to OFF: its reverse lane goes to electrical idle, and an exit from UP is counted (R97, R115). -/
def State.portOff (s : State) (p : Nat) : State :=
  if (s.port p).st = 0 then s
  else
    let s := s.endPacket p true false
    let x := s.port p
    let s := s.setPort p { x with
      st := 0, down := if x.st = 3 then satInc x.down else x.down, idleLanes := [], wokeAt := none, statusArg := none }
    (s.endPortFrames p).revEnter p

/-- The domain of a port has left ON: the port is in OFF (R97), its lanes have lost block lock, and the frames of a port that slept stay
open (R114). -/
def State.portGone (s : State) (p : Nat) : State :=
  let s := if (s.port p).st = 4 then s.setPort p { s.port p with st := 0 } else s.portOff p
  s.setPort p { s.port p with blk := [] }

/-- PORT_RESTORE's effect (R99): a loss with cause 3, and the port retrains at its configured width. -/
def State.portRestore (s : State) (p : Nat) : State :=
  let x := s.port p
  if x.st = 0 then s
  else
    let y := { x with actW := x.width, actFirst := 0, wchg := x.wchg || x.actW != x.width }
    if x.st = 3 then (s.endPacket p true false |>.setPort p { y with packet := none }).portLoss p 0 3
    else if x.st = 2 ∨ x.st = 1 then (s.setPort p y).portTrain p
    else s.setPort p y

/-- A lane of a sleeping port sees signal: on port lane 0 the port wakes (R97, R114). -/
def State.portSignal (s : State) (l : Nat) : State :=
  let p := l / 8
  if l % 8 = 0 ∧ (s.port p).st = 4 then (s.setPort p { s.port p with wokeAt := some s.now }).portTrain p else s

/-- Signal on a lane whose port's domain is not ON is a need at once (R387); on port lane 0 of an enabled port it is the signal
detect that ends SLEEP, from which R114 counts. -/
def State.portNeed (s : State) (l : Nat) : State :=
  let p := l / 8
  let s := if l % 8 = 0 ∧ s.fld (MSP_PORT_CFG_en p) = 1 then s.setPort p { s.port p with wokeAt := some s.now } else s
  s.needNow (6 + p)

end Sys2Proof.Machine
end

