-- ==== Sys2Proof/Machine/DriveLink.lean ====
section
/-! DEFINITION. The drive link (R270 to R295): training, echo, control packets, line bursts and LATCHes, transient retrains,
the back channel and HARVEST sweeps. -/

namespace Sys2Proof.Machine

open Sys2Proof Reg

/-- A driver. -/
def State.drv (s : State) (d : Nat) : Driver := Sparse.get {} s.kdl.drivers d

/-- A driver changed. -/
def State.setDrv (s : State) (d : Nat) (x : Driver) : State :=
  { s with kdl := { s.kdl with drivers := Sparse.set {} s.kdl.drivers d x } }

/-- A driver is enabled (R275). -/
def State.drvOn (s : State) (d : Nat) : Bool :=
  if d < 32 then (s.reg KDL_DRV_EN_LO 0 0).testBit d else (s.reg KDL_DRV_EN_HI 0 0).testBit (d - 32)

/-- The enabled drivers, those in RUN, and those in RUN or in a transient retrain. -/
def State.drvs (s : State) : List Nat := (List.range 64).filter s.drvOn
def State.running_ (s : State) : List Nat := s.drvs.filter fun d => (s.drv d).st == 3
def State.served (s : State) : List Nat := s.drvs.filter fun d => (s.drv d).st == 3 || (s.drv d).st == 4

/-- Slot time, ps (R271), and the lane bit time. -/
def slotPs (rate : Nat) : Nat := if rate = 0 then 3200 else if rate = 1 then 1600 else if rate = 2 then 1000 else 800

/-- Lane A's index (R270). -/
def laneA (d : Nat) : Nat := 72 + 2 * d

/-! Symbols on the forward lanes (R272, R273). -/

/-- Both forward lanes of a driver are out of electrical idle. -/
def State.kdlUp (s : State) (d : Nat) : Bool := !(s.lane (laneA d)).txIdle && !(s.lane (laneA d + 1)).txIdle

/-- The K28.5 idle before traffic, on both lanes alike: each turns the running disparity, and how many there are the spec leaves
open (R277 gives least numbers). -/
def State.kdlGap (s : State) (d : Nat) : State :=
  let r := s.draw 2
  let turn (s : State) (l : Nat) : State := s.setLane l { s.lane l with txRd := (s.lane l).txRd != (r.1 == 1) }
  turn (turn r.2 (laneA d)) (laneA d + 1)

/-- Symbols in the same slots of lanes A and B. -/
def State.kdlSend (s : State) (d : Nat) (a b : List Sym) : State := ((s.kdlGap d).txSend (laneA d) a).txSend (laneA d + 1) b

/-- What a lane carries of a burst or packet: its start symbol, every second byte of the content, the first or the second (0x00 after
content of odd length), and K29.7. -/
def laneSyms (start : Byte) (odd : Nat) (c : List Byte) : List Sym :=
  .ctl start :: ((List.range ((c.length + 1) / 2)).map fun i => .data (c.getD (2 * i + odd) 0)) ++ [.ctl k297]

/-- A burst or packet on both lanes. -/
def State.kdlPacket (s : State) (d : Nat) (start : Byte) (c : List Byte) : State :=
  s.kdlSend d (laneSyms start 0 c) (laneSyms start 1 c)

/-! Control packets (R280 to R283). -/

/-- Slots of a control packet with a body of `n` bytes. -/
def ctlSlots (n : Nat) : Nat := 2 + (8 + n + 1) / 2

/-- The order of packet types that wait for one window. -/
def ctlRank (type : Nat) : Nat :=
  if type = 7 then 0 else if type = 5 then 1 else if type = 4 then 2 else if type = 3 then 3 else if type = 2 then 4
  else if type = 6 then 5 else 6

/-- The bytes of a control packet: header, body, CRC-32C. -/
def Ctl.bytes (c : Ctl) : List Byte :=
  let b := leBytes 1 c.type ++ leBytes 1 c.body.length ++ leBytes 1 c.apply ++ leBytes 1 c.cseq ++ c.body
  b ++ leBytes 4 (crc32c b)

/-- A control packet for a driver waits for its windows: two copies with one cseq, and one of ECHO_REQ (R282). -/
def State.ctl (s : State) (d type apply : Nat) (body : List Byte) : State :=
  let x := s.drv d
  let n := (x.cseq + 1) % 256
  let s := s.setDrv d { x with cseq := n }
  { s with kdl := { s.kdl with ctl := s.kdl.ctl ++ [⟨d, type, apply, n, body, if type = 5 then 1 else 2⟩] } }

/-- One copy of a packet goes out. -/
def State.sendCtl (s : State) (c : Ctl) : State :=
  (s.emit (.control c.drv c.type c.apply c.cseq c.body)).kdlPacket c.drv k277 c.bytes

/-- A driver's waiting packets, most urgent first. A driver in a retrain is sent TRAIN alone, and the rest waits (DESIGN CHOICE, log
entry 31). -/
def State.waiting (s : State) (d : Nat) : List Ctl :=
  (s.kdl.ctl.filter fun c => c.drv == d && ((s.drv d).st != 4 || c.type == 7)).mergeSort fun a b =>
    decide (ctlRank a.type ≤ ctlRank b.type)

/-- Packets that fit a window of `room` slots for one driver, most urgent first: those sent, in order. -/
def fitCtl : List Ctl → Nat → List Ctl
  | [], _ => []
  | c :: cs, room =>
    if ctlSlots c.body.length ≤ room then c :: fitCtl cs (room - ctlSlots c.body.length) else []

/-- Slots left for control packets in a line time (R277): after a LATCH, idle and a burst, and before the last idle. -/
def State.windowSlots (s : State) (latch burst : Bool) : Nat :=
  s.scn.lt * 1000 / 256 / slotPs s.kdl.rate - (if latch then 4 else 2) - (if burst then 460 else 0) - 4

/-- Packets for drivers that are not enabled are dropped (R275), and lanes that packets wait for leave electrical idle. -/
def State.ctlReady (s : State) : State :=
  let s : State := { s with kdl := { s.kdl with ctl := s.kdl.ctl.filter fun c => s.drvOn c.drv } }
  s.drvs.foldl (fun s d =>
    if (s.waiting d).isEmpty || s.kdlUp d then s else (s.txExit (laneA d)).txExit (laneA d + 1)) s

/-- The set-up list's TABLE_LOAD completes once every driver in RUN has been sent the list (R283). -/
def State.setupSent (s : State) : State :=
  match s.kdl.setupReq with
  | some r =>
    if s.kdl.ctl.any fun c => c.type == 1 && (s.drv c.drv).st == 3 then s
    else ({ s with kdl := { s.kdl with setupReq := none } }).done r OK
  | none => s

/-- One window: each driver's waiting packets that fit are sent, one copy each. -/
def State.ctlWindow (s : State) (latch burst : Bool) : State :=
  let s := s.ctlReady
  let room := s.windowSlots latch burst
  let of (d : Nat) : List Ctl := if s.kdlUp d then fitCtl (s.waiting d) room else []
  let sent := (List.range 64).flatMap of
  let most := (List.range 64).foldl (fun m d => max m ((of d).foldl (fun n c => n + ctlSlots c.body.length) 0)) 0
  let used := (if latch then 4 else 0) + (if burst then 462 else 0) + most
  let s := sent.foldl State.sendCtl s
  let left := s.kdl.ctl.filterMap fun c =>
    if sent.contains c then (if c.copies ≤ 1 then none else some { c with copies := c.copies - 1 }) else some c
  ({ s with kdl := { s.kdl with
      ctl := left, busyTo := s.scn.lineAt / 256 + ceilDiv (used * slotPs s.kdl.rate) 1000 } }).setupSent

/-- Lanes with nothing to carry while the raster is stopped go to electrical idle (R287). -/
def State.kdlRest (s : State) : State :=
  if s.running ∨ s.fld KDL_CFG_ei_en = 0 then s
  else
    s.drvs.foldl (fun s d =>
      let st := (s.drv d).st
      if (st = 3 ∨ st = 5) ∧ s.kdlUp d ∧ (s.waiting d).isEmpty then (s.txEnter (laneA d)).txEnter (laneA d + 1) else s) s

/-- With the raster stopped there are no windows: waiting packets go out at once, both copies, as soon as their lanes are out of
electrical idle (DESIGN CHOICE, log entry 31). -/
def State.ctlOut (s : State) : State :=
  if s.running then s
  else
    let s := s.ctlReady
    let sent := (s.drvs.filter s.kdlUp).flatMap s.waiting
    let s := sent.foldl (fun s c => (List.range c.copies).foldl (fun s _ => s.sendCtl c) s) s
    (({ s with kdl := { s.kdl with ctl := s.kdl.ctl.filter fun c => !sent.contains c } }).setupSent).kdlRest

/-- TIMING and POLARITY (R281). -/
def State.sendTiming (s : State) (d : Nat) : State :=
  s.ctl d 3 0x80 (leBytes 2 (s.fld KDL_CS_start) ++ leBytes 2 (s.fld KDL_CS_width) ++ leBytes 2 (s.fld KDL_OE_start) ++
    leBytes 2 (s.fld KDL_OE_width))
def State.sendPolarity (s : State) (d : Nat) : State := s.ctl d 2 0x80 (leBytes 1 (s.fld KDL_POL_pattern))

/-- REG_WRITE bodies of the set-up list: up to 16 pairs each. -/
def setupBodies : Nat → List (Nat × Nat) → List (List Byte)
  | 0, _ => []
  | _, [] => []
  | n + 1, l => ((l.take 16).flatMap fun e => leBytes 2 e.1 ++ leBytes 2 e.2) :: setupBodies n (l.drop 16)

/-- The set-up list sent to a driver (R283). -/
def State.sendSetup (s : State) (d : Nat) : State :=
  (setupBodies s.kdl.setup.length s.kdl.setup).foldl (fun s b => s.ctl d 1 0x80 b) s

/-! Training (R285, R286). -/

/-- A training start of a lane, with a burst of `n` symbols: from electrical idle it is an exit, held until min_idle has elapsed. -/
def State.burstLane (s : State) (l n : Nat) : State :=
  if (s.lane l).txIdle then s.txAsk l (some n) false s.now else s.txBurst l n s.now

/-- Both forward lanes of a driver. -/
def State.burstDrv (s : State) (d n : Nat) : State := (s.burstLane (laneA d) n).burstLane (laneA d + 1) n

/-- TRAIN (R281). -/
def State.sendTrain (s : State) (d : Nat) (restart : Bool) : State :=
  s.ctl d 7 0x80 (leBytes 1 d ++ leBytes 1 (if restart then 1 else 0))

/-- ECHO_REQs to a driver. -/
def State.sendEchoes (s : State) (d n : Nat) : State := (List.range n).foldl (fun s _ => s.ctl d 5 0x80 []) s

/-- Training's packets that have fallen due (R285): a TRAIN every microsecond until the driver answers, and the ECHO_REQs of the echo
step 2 µs apart. While the raster runs one TRAIN waits for a window at a time. -/
def State.drvFollow (s : State) (d : Nat) : State :=
  let x := s.drv d
  if s.now < x.nextAt then s
  else if x.st = 1 ∨ x.st = 4 then
    let s := s.setDrv d { x with nextAt := s.now + 1000 - (s.now - x.nextAt) % 1000 }
    let n := if s.kdl.ctl.any fun c => c.drv == d && c.type == 7 then 0
      else if s.running then 1 else min 200 ((s.now - x.nextAt) / 1000 + 1)
    (List.range n).foldl (fun s _ => s.sendTrain d false) s
  else if x.st = 2 ∧ 0 < x.echoes then
    let n := min x.echoes ((s.now - x.nextAt) / 2000 + 1)
    (s.setDrv d { x with echoes := x.echoes - n, nextAt := x.nextAt + 2000 * n }).sendEchoes d n
  else s

/-- Training of a driver starts (R285 step 1), its lanes' domains ON. -/
def State.trainDrv (s : State) (d : Nat) : State :=
  let s := (s.wakeNow (54 + d / 4)).wakeNow (70 + d / 8)
  let x := s.drv d
  let s := s.setDrv d { x with
    st := 1, tries := 0, attempt := 0, since := s.now, samples := [], echoRepeat := false, check := false, live := false
    laneA := false, laneB := false, deskew := false, nextAt := s.now, retryDue := false }
  ((s.burstDrv d 256).drvFollow d).ctlOut

/-- Training of every enabled driver, at the configured rate (R271). -/
def State.trainAll (s : State) : State :=
  let s := { s with kdl := { s.kdl with rate := s.fld KDL_CFG_rate } }
  s.drvs.foldl State.trainDrv s

/-- An event of the drive link to the OWNER (R290). -/
def State.postKdl (s : State) (code arg : Nat) : State :=
  if code = 0x30 then s.raiseLog code 0x0C arg else s.raise code 0x0C arg

/-- A driver goes to DOWN (R290). What waited for it is dropped: training sends it anew. -/
def State.drvDown (s : State) (d cause : Nat) : State :=
  let s := s.setDrv d { s.drv d with st := 5, since := s.now, live := false, wasDown := true }
  let s : State := { s with kdl := { s.kdl with ctl := s.kdl.ctl.filter (·.drv != d) } }
  ((s.setFlag KDL_FLAGS_lane_down).postKdl 0x30 (laneA d + 4096 * cause)).setupSent

/-- The ECHO step starts (R285 step 2). -/
def State.echoStep (s : State) (d : Nat) : State :=
  ((s.setDrv d { s.drv d with st := 2, since := s.now, samples := [], echoes := 16, nextAt := s.now }).drvFollow d).ctlOut

/-- The mean of samples, in ps. -/
def meanOf (l : List Nat) : Nat := if l.isEmpty then 0 else (l.foldl (· + ·) 0 + l.length / 2) / l.length

/-- SET-UP and RUN (R285 steps 3 and 4); LANE_UP for a driver that was DOWN. -/
def State.drvRun (s : State) (d : Nat) : State :=
  let x := s.drv d
  let s := s.setDrv d { x with st := 3, phi := meanOf x.samples, live := false, wasDown := false }
  let s := (((s.sendTiming d).sendPolarity d).sendSetup d).ctlOut
  if x.wasDown then s.postKdl 0x31 (laneA d) else s

/-- A transient retrain starts or tries again (R289): the burst in progress is abandoned; the second attempt has a preset start. -/
def State.retrainDrv (s : State) (d attempt : Nat) : State :=
  let x := s.drv d
  let s := if s.now < x.burstEnd then s.emit (.abandon d) else s
  let s := s.setDrv d { x with
    st := 4, attempt := attempt, since := s.now, nextAt := s.now, burstEnd := 0
    cRetrain := if attempt = 1 then satInc x.cRetrain else x.cRetrain }
  let s := s.setFlag KDL_FLAGS_retrain
  let s := if attempt = 1 then (s.countLife 7).log 0x103 0x0C (laneA d) (satInc x.cRetrain) else s.askPreset (200 + d)
  ((s.burstDrv d (if attempt = 1 then 64 else 256)).drvFollow d).ctlOut

/-! The back channel (R284). -/

/-- Header byte `i` of a back-channel packet. -/
def bcByte (k : BcPacket) (i : Nat) : Nat := leAt k.hdr i 1

/-- The packet is good: its CRC-32C over header and body holds, and byte 1 is the driver's number. -/
def bcGood (k : BcPacket) : Bool :=
  k.hdr.length == 4 && leAt k.hdr 2 2 == k.body.length && crc32c (k.hdr ++ k.body) == leNat k.crc && bcByte k 1 == k.drv

/-- A bad packet is dropped and counted. -/
def State.bcDrop (s : State) (d : Nat) : State := s.setDrv d { s.drv d with cBc := satInc (s.drv d).cBc }

/-- A back-channel packet arrives: a bad one is dropped and counted; `f` acts on a good one of its type and length. -/
def State.bcTake (s : State) (k : BcPacket) (type len : Nat) (f : State → State) : State :=
  if 64 ≤ k.drv ∨ (s.lane (200 + k.drv)).st ≠ 3 then s
  else
    let s := s.drvFollow k.drv
    if bcGood k = false then s.bcDrop k.drv
    else if bcByte k 0 = type ∧ k.body.length = len then (f s).ctlOut
    else s

/-- A 32-bit saturating counter plus the increase of a wrapping 16-bit count. -/
def addWrapped (c last now : Nat) : Nat := min (2 ^ 32 - 1) (c + (now + 65536 - last) % 65536)

/-- STATUS (R284, R285, R289). A driver in RUN retrains where a lock bit is clear, or for the alert of two failed bursts: an alert that
comes with no other change of byte 2, or with two burst CRC failures more (DEDUCED, log entry 31: R284 sets the bit for a change of
byte 2 too). -/
def State.takeStatus (s : State) (d : Nat) (b : List Byte) : State :=
  let x := s.drv d
  let f := leAt b 2 1
  let locks := f % 8 == 7
  let flags := f % 8 + f / 16 * 16
  let y : Driver := { x with
    laneA := f.testBit 0, laneB := f.testBit 1, deskew := f.testBit 2, cseqAcc := leAt b 3 1, lastFlags := flags
    cCrc := addWrapped x.cCrc x.lastCrc (leAt b 4 2), lastCrc := leAt b 4 2
    cHold := addWrapped x.cHold x.lastHold (leAt b 6 2), lastHold := leAt b 6 2
    cCtl := addWrapped x.cCtl x.lastCtl (leAt b 8 2), lastCtl := leAt b 8 2
    temp := some (signed 16 (leAt b 0 2)), tempAt := s.now }
  let failed := f.testBit 3 && (flags == x.lastFlags || decide (2 ≤ (leAt b 4 2 + 65536 - x.lastCrc) % 65536))
  let s := s.setDrv d y
  if y.st = 1 then (if locks then s.echoStep d else s)
  else if y.st = 3 then (if !locks || failed then s.retrainDrv d 1 else s)
  else if y.st = 4 then
    if locks then (s.setDrv d { y with st := 3, check := true, attempt := 0 }).sendEchoes d 1 else s
  else s

/-- ECHO (R286, R289): `rt` is the round trip in units of 10 ps. -/
def State.takeEcho (s : State) (d rt : Nat) (b : List Byte) : State :=
  let x := s.drv d
  let turn := leAt b 0 2
  if turn < 100 then s
  else
    let phi := (10 * rt - turn * (slotPs s.kdl.rate / 10)) / 2
    let x : Driver := { x with tRxd := leAt b 2 2, tConv := leAt b 4 2 }
    let far (m : Nat) : Bool := decide (m + 1000 < phi) || decide (phi + 1000 < m)
    if x.st = 2 then s.setDrv d { x with samples := x.samples ++ [phi] }
    else if x.st = 3 then
      if x.check then
        let s := s.setDrv d { x with check := false }
        if far x.phi then (s.setFlag KDL_FLAGS_echo_drift).sendEchoes d 16 else s
      else if far (meanOf x.samples) then (s.setDrv d x).setFlag KDL_FLAGS_echo_drift
      else
        let l := (x.samples ++ [phi]).drop (x.samples.length + 1 - 16)
        s.setDrv d { x with samples := l, phi := meanOf l }
    else s.setDrv d x

/-! Line bursts and LATCHes (R274 to R279). -/

/-- 720 drive levels of 10 bits as one little-endian bit stream (R275). -/
def packLevels (l : List Nat) : List Byte :=
  (List.range 180).flatMap fun i =>
    leBytes 5 (l.getD (4 * i) 0 + 2 ^ 10 * l.getD (4 * i + 1) 0 + 2 ^ 20 * l.getD (4 * i + 2) 0 + 2 ^ 30 * l.getD (4 * i + 3) 0)

/-- The 916 content bytes of a line burst (R274). -/
def burstBytes (d line flags frame : Nat) (levels : List Nat) : List Byte :=
  let b := leBytes 2 line ++ leBytes 2 flags ++ leBytes 4 frame ++ leBytes 1 (line % 16) ++ leBytes 1 d ++ leBytes 2 0 ++
    packLevels levels
  b ++ leBytes 4 (crc32c b)

/-- pol (R276). -/
def State.polFlag (s : State) : Nat := if s.fld KDL_POL_frame_inv = 1 then s.frame % 2 else 0

/-- The flags of a burst for active line `a` (R274), bits 0 to 3. -/
def State.burstFlags (s : State) (a : Nat) : Nat :=
  (if a = 0 then 1 else 0) + (if a + 1 = s.timing.vactive then 2 else 0) + 4 * s.polFlag + (if s.pipeMode = 3 then 8 else 0)

/-- A line burst to a driver whose lanes are out of electrical idle. -/
def State.sendBurst (s : State) (line flags frame d : Nat) (levels : List Nat) : State :=
  if s.kdlUp d then
    let s := s.setDrv d { s.drv d with burstEnd := s.now + ceilDiv (464 * slotPs s.kdl.rate) 1000 }
    (s.emit (.burst d line flags frame (line % 16) levels)).kdlPacket d k282 (burstBytes d line flags frame levels)
  else s

/-- The LATCH of a driver with latch sequence `q` for the line starting (R278, R279): K30.7 and the id symbol on lane A, idle on lane B.
The phase of lane A's slots at the pins is free. -/
def State.sendLatch (s : State) (q d : Nat) : State :=
  if s.kdlUp d then
    let x := s.drv d
    let slot := slotPs s.kdl.rate
    let (r, s) := s.draw slot
    let want := s.scn.lineAt * 1000 / 256 - x.tRxd - x.phi
    let f := (r * 32 + slot) / (2 * slot)
    let (f, t) := if f = 16 then (0, want - r + slot) else (f, want - r)
    (s.emit (.latch d q f t)).kdlSend d [.ctl k307, .data (BitVec.ofNat 8 (16 * q + f))] [.ctl k285, .ctl k285]
  else s

/-- The LATCHes for active line `a`, whose drive begins now. -/
def State.latchLine_ (s : State) (a : Nat) : State :=
  (s.running_.filter fun d => (s.drv d).live).foldl (fun s d => s.sendLatch (a % 16) d) s

/-- The bursts of active line `a`, with the 46,080 drive levels of its pixels. -/
def State.burstLine (s : State) (a frame : Nat) (levels : List Nat) : State :=
  let flags := s.burstFlags a
  (s.running_.filter fun d => (s.drv d).live).foldl (fun s d =>
    s.sendBurst a flags frame d ((levels.drop (720 * d)).take 720)) s

/-- Drivers in RUN take bursts from the frame's first active line (R285 step 4). -/
def State.goLive (s : State) : State :=
  s.running_.foldl (fun s d => if (s.drv d).live then s else s.setDrv d { s.drv d with live := true }) s

/-- Every enabled driver's forward lanes go to electrical idle (R305). -/
def State.kdlIdle (s : State) : State := s.drvs.foldl (fun s d => (s.txEnter (laneA d)).txEnter (laneA d + 1)) s

/-! Sensing (R292 to R295). -/

/-- The 720 samples of a SENSE as ring entries: 12 bits, bit 15 where the channel's colour was sampled. -/
def senseEntries (mask : Nat) (b : List Byte) : List Nat :=
  (List.range 720).map fun k =>
    if mask.testBit (k % 3) then leAt b (4 + 12 * k / 8) 2 / 2 ^ (12 * k % 8) % 4096 + 32768 else 0

/-- A sensed line goes into the ring, its place in cluster memory its number mod 22 (DESIGN CHOICE, log entry 32): 1,440 entries of 16
bits (R220, R229). -/
def Cluster.ringTake (cl : Cluster) (es : List Nat) : Cluster :=
  { cl.ask 18 with
    harvest := cl.harvest ++ [es]
    mem := Sparse.write 0 cl.mem (0x50000 + (cl.hvBase + cl.harvest.length) % 22 * 2880) (es.flatMap (leBytes 2)) }

/-- Both drivers of the cluster are settled for a line: the harvest ring takes it, or drops it when full (R229). -/
def State.ringLine (s : State) (w : Sweep) (i c : Nat) : Sweep × State :=
  let waits (d : Nat) : Bool := w.out.any (fun o => o.1 == i && o.2.1 == d) || w.retry.contains (i, d)
  if waits (2 * c) || waits (2 * c + 1) then (w, s)
  else
    let half (d : Nat) : List Nat := match w.part.find? fun p => p.1 == i && p.2.1 == d with
      | some p => p.2.2
      | none => List.replicate 720 0
    let es := half (2 * c) ++ half (2 * c + 1)
    let w := { w with part := w.part.filter fun p => !(p.1 == i && p.2.1 / 2 == c) }
    let cl := s.cl c
    if 22 ≤ cl.harvest.length then (w, s.setFlag ENG_FLAGS_hv_drop)
    else ({ w with taken := w.taken ++ [(c, w.a.line0 + i * w.a.step, es)] }, (s.setCl c (cl.ringTake es)).hvPrune c)

/-- After an OLED sweep the sensing kernel corrects V from the lines that the rings took (R188). -/
def State.sweepCorrect (s : State) (w : Sweep) : State :=
  if w.kind = 0 then w.taken.foldl (fun s t => s.senseCorrect t.1 t.2.1 t.2.2) s else s

/-- The sweep shown and stored; once nothing is left to send or await, it ends (R295). -/
def State.putSweep (s : State) (w : Sweep) : State :=
  let s := s.setFld KDL_HV_STATUS_missing (min 32767 w.missing.length)
  if w.started ∧ w.a.nlines ≤ w.next ∧ w.sent = none ∧ w.out.isEmpty ∧ w.retry.isEmpty then
    let s := ({ s with kdl := { s.kdl with sweep := none } }).sweepCorrect w
    (s.setFld KDL_HV_STATUS_running 0).done w.req (if w.missing.isEmpty then OK else DATA_ERROR)
  else { s with kdl := { s.kdl with sweep := some w } }

/-- A line's last SENSE has arrived: it counts as returned. -/
def State.countLine (s : State) (w : Sweep) (i : Nat) : State :=
  if w.out.any (·.1 == i) || w.retry.any (·.1 == i) || w.missing.contains i then s
  else s.setFld KDL_HV_STATUS_done (min 16383 (s.fld KDL_HV_STATUS_done + 1))

/-- A driver's entries of a line, in the result area. -/
def State.putResult (s : State) (w : Sweep) (i d : Nat) (es : List Nat) : State :=
  if w.a.result = 0 then s else s.ppaWrite (w.a.result + i * 92160 + d * 1440) (es.flatMap (leBytes 2))

/-- SENSE (R295). -/
def State.takeSense (s : State) (d : Nat) (b : List Byte) : State :=
  match s.kdl.sweep with
  | none => s
  | some w =>
    match w.out.find? fun o => o.2.1 == d && w.a.line0 + o.1 * w.a.step == leAt b 0 2 with
    | none => s
    | some o =>
      let i := o.1
      let e := senseEntries (leAt b 2 1 % 8) b
      let w := { w with out := w.out.filter (· != o), part := w.part ++ [(i, d, e)] }
      let s := s.putResult w i d e
      let s := s.countLine w i
      let r := s.ringLine w i (d / 2)
      r.2.putSweep r.1

/-- The line that the sweep senses next, and the drivers that it asks: `ds`, or in the retry those whose SENSE is missing. -/
def Sweep.item (w : Sweep) (ds : List Nat) : Option (Nat × List Nat) :=
  if w.next < w.a.nlines then some (w.next, ds)
  else if w.retrying then w.retry.head?.map fun q => (q.1, (w.retry.filter (·.1 == q.1)).map (·.2))
  else none

/-- The line's burst has gone out, and the next LATCH is `spacing` line times after its own. -/
def Sweep.advance (w : Sweep) (q : Nat × List Nat) : Sweep :=
  { w with
    sent := some q, wait := 1 + w.a.spacing
    next := if w.next < w.a.nlines then w.next + 1 else w.next
    retry := if w.next < w.a.nlines then w.retry else w.retry.filter (·.1 != q.1) }

/-- The LATCH of the sensed line whose burst went out in the line before (R294), to the drivers in RUN; every SENSE asked for is awaited
from now on. Gives the line's index. -/
def State.sweepLatch (s : State) : Option Nat × State :=
  match s.kdl.sweep with
  | none => (none, s)
  | some w =>
    match w.sent with
    | none => (none, s)
    | some q =>
      let s := (q.2.filter fun d => (s.drv d).st == 3).foldl (fun s d => s.sendLatch ((w.a.line0 + q.1 * w.a.step) % 16) d) s
      (some q.1, { s with kdl := { s.kdl with sweep := some { w with
        sent := none, out := w.out ++ q.2.map fun d => (q.1, d, s.now) } } })

/-- The burst of a sensed line, in the line time before its LATCH (R277, R294). After a causeway fault H1's drivers get the background
(R16). -/
def State.senseBurst (s : State) (w : Sweep) (q : Nat × List Nat) (causeway : Bool) : State :=
  let line := w.a.line0 + q.1 * w.a.step
  let levels (d : Nat) : List Nat := (List.range 720).map fun k =>
    if causeway && decide (32 ≤ d) then s.background 10 (k % 3) else if w.a.colours.testBit (k % 3) then w.a.level else 0
  (q.2.filter fun d => (s.drv d).st == 3).foldl (fun s d => s.sendBurst line (s.burstFlags line + 16) s.frame d (levels d)) s

/-- SENSE_REQ for a line, its copies in the two line times before the LATCH named (R282, R294). -/
def State.senseReq (s : State) (w : Sweep) (q : Nat × List Nat) : State :=
  let line := w.a.line0 + q.1 * w.a.step
  (q.2.filter fun d => (s.drv d).st == 3).foldl (fun s d =>
    s.ctl d 6 (line % 16) (leBytes 1 (w.a.colours + 8 * w.kind) ++ leBytes 2 w.a.settle)) s

/-- What a sweep sends in the line time that starts (R294): the burst of a line latched at the next line start, and SENSE_REQ for a line
latched at the one after. Gives whether a burst goes out. Once every line has been sensed and settled, the retry begins (R295). -/
def State.sweepSend (s : State) (causeway : Bool) : Bool × State :=
  match s.kdl.sweep with
  | none => (false, s)
  | some w =>
    if w.started = false then (false, s)
    else
      let w := if w.a.nlines ≤ w.next ∧ w.sent = none ∧ w.out.isEmpty ∧ w.retrying = false ∧ w.retry ≠ [] then
          { w with retrying := true, wait := 2 }
        else w
      let q := if w.wait = 1 then w.item s.served else none
      let s := match q with
        | some q => s.senseBurst w q causeway
        | none => s
      let w := match q with
        | some q => w.advance q
        | none => w
      let s := if w.wait = 2 then (match w.item s.served with
        | some q => s.senseReq w q
        | none => s) else s
      (q.isSome, s.putSweep { w with wait := w.wait - 1 })

/-- HARVEST dispatched (R292, R293, R302). A result area needs the frame store (R348). -/
def State.runHarvest (s : State) (r : Req) (kind : Nat) (a : HarvestArgs) : State :=
  let run := s.running_
  let tconv := run.foldl (fun m d => max m (s.drv d).tConv) 0
  if r.h.part ≠ s.owner ∨ (a.result ≠ 0 ∧ s.areaIn (fun _ o => o == s.owner) 65 a.result (a.nlines * 92160) = false) then
    s.done r DENIED
  else if s.mode ≠ 9 ∨ (kind = 0 ∧ s.fld PNL_PANEL_type = 0) ∨ run.isEmpty ∨ (a.result ≠ 0 ∧ s.storeUp = false) then
    s.done r NOT_READY
  else if s.kdl.sweep.isSome then s.done r NO_RESOURCE
  else if a.nlines = 0 ∨ 8640 < a.nlines ∨ a.step = 0 ∨ 255 < a.step ∨ s.timing.vactive ≤ a.line0 + (a.nlines - 1) * a.step ∨
      1023 < a.level ∨ a.colours = 0 ∨ 7 < a.colours ∨ a.spacing = 0 ∨ 255 < a.spacing ∨ 1 < kind ∨
      a.spacing * s.timing.lt < (a.settle * 100 + tconv * 10 + 4000) * 256 ∨
      a.spacing * s.timing.lt < (a.settle + s.fld PNL_HV_hold) * 25600 + (a.step - 1) * 2 * s.fld PNL_HV_pass * 160 then
    s.done r INVALID
  else { s with kdl := { s.kdl with sweep := some { req := r, kind := kind, a := a } } }

/-- Line times that the pass pulses of the rows below line0 take (R302). -/
def State.passLines (s : State) (rows : Nat) : Nat :=
  if rows = 0 then 0 else rows * 2 * s.fld PNL_HV_pass * 160 / max 1 s.scn.lt + 1

/-- At a frame boundary a waiting sweep starts (R293), with a GRST pulse, STV at the first pass pulse and the pass pulses
of the rows below line0 (R302). -/
def State.startSweep (s : State) : State :=
  match s.kdl.sweep with
  | some w =>
    if w.started then s
    else
      let s := ((s.setFld KDL_HV_STATUS_running 1).setFld KDL_HV_STATUS_missing 0).setFld KDL_HV_STATUS_done 0
      { s with kdl := { s.kdl with sweep := some { w with started := true, wait := max 2 (s.passLines w.a.line0) } } }
  | none => s

/-- A MODE_SWITCH out of HARVEST takes effect (R293). -/
def State.abortSweep (s : State) : State :=
  match s.kdl.sweep with
  | some w => ({ s with kdl := { s.kdl with sweep := none } }.setFld KDL_HV_STATUS_running 0).done w.req ABORTED
  | none => s

/-! Reports of BRX lanes (R291). -/

/-- What a back-channel lane reports. -/
def State.drvReport (s : State) (d : Nat) (r : LaneReport) : State :=
  let x := s.drv d
  let down (s : State) : State :=
    if x.st = 3 ∧ x.bcDown.isNone then ((s.setDrv d { x with bcSync := false, bcDown := some s.now }).sendTrain d true).ctlOut
    else s.setDrv d { x with bcSync := false }
  match r with
  | .none => s
  | .sync => s.setDrv d { x with bcSync := true, bcDown := none, bcLost := false }
  | .idle => s.setDrv d { x with bcSync := false }
  | .lost => down s
  | .exitFailed => down s

/-! Packets of a back channel, symbol by symbol (R272, R284). -/

/-- The packet that symbols after an SOC make; none where one is invalid or the length is not the header's. -/
def bcPacketOf (d : Nat) (ys : List Sym) : Option BcPacket :=
  let b := ys.map symByte
  let n := leAt b 2 2
  if ys.all isData ∧ b.length = 8 + n then some ⟨d, b.take 4, (b.drop 4).take n, b.drop (4 + n)⟩ else none

/-- A packet of a back channel ends: it acts by its type, the round trip of an ECHO ending where its SOC arrived. A packet that is
not whole fails its CRC. -/
def State.bcEnd (s : State) (d : Nat) (ys : List Sym) : State :=
  let rt := (s.drv d).bcSocAt
  let s := s.setDrv d { s.drv d with bcPacket := none }
  match bcPacketOf d ys with
  | none => s.bcDrop d
  | some k =>
    if bcByte k 0 = 1 then s.bcTake k 1 16 fun s => s.takeStatus d k.body
    else if bcByte k 0 = 2 then s.bcTake k 2 1084 fun s => s.takeSense d k.body
    else s.bcTake k 3 16 fun s => s.takeEcho d rt k.body

/-- A symbol that a back channel in SYNC delivers, at `t` (for a back channel, in units of 10 ps since the mark of the last ECHO_REQ):
SOC starts a packet and K29.7 ends it; idle or an SOC within it cuts it, and any other control symbol is invalid. -/
def State.bcSym (s : State) (d : Nat) (y : Sym) (t : Nat) : State :=
  let start (s : State) : State := s.setDrv d { s.drv d with bcPacket := some [], bcSocAt := t }
  match (s.drv d).bcPacket with
  | none => if y = .ctl k277 then start s else s
  | some l =>
    if y = .ctl k277 then start (s.bcDrop d)
    else if y = .ctl k285 then (s.bcDrop d).setDrv d { (s.bcDrop d).drv d with bcPacket := none }
    else if y = .ctl k297 then s.bcEnd d l.reverse
    else s.setDrv d { s.drv d with bcPacket := some ((if isData y then y else .bad) :: l) }

/-! Commands. -/

/-- BC_STATUS (R284). -/
def execBcStatus (k : BcPacket) (s : State) : Host.Outcome State Fault Refusal :=
  .next (s.bcTake k 1 16 fun s => s.takeStatus k.drv k.body)

/-- ECHO (R286). -/
def execEcho (k : BcPacket) (rt : Nat) (s : State) : Host.Outcome State Fault Refusal :=
  .next (s.bcTake k 3 16 fun s => s.takeEcho k.drv rt k.body)

/-- SENSE (R295). -/
def execSense (k : BcPacket) (s : State) : Host.Outcome State Fault Refusal :=
  .next (s.bcTake k 2 1084 fun s => s.takeSense k.drv k.body)

/-- SENSE_TIMEOUT (R295): the line is requested once more after the sweep, or is missing: it keeps its entries with bit 15 clear, which
the model makes zeros (DESIGN CHOICE, log entry 32). -/
def execSenseTimeout (d line : Nat) (s : State) : Host.Outcome State Fault Refusal :=
  .next (
    match s.kdl.sweep with
    | none => s
    | some w =>
      match w.out.find? fun o => o.2.1 == d && w.a.line0 + o.1 * w.a.step == line with
      | none => s
      | some o =>
        let s := s.reach (o.2.2 + 20000)
        let w := { w with out := w.out.filter (· != o) }
        if w.retrying then
          let w := { w with missing := if w.missing.contains o.1 then w.missing else w.missing ++ [o.1] }
          let s := (s.setFlag KDL_FLAGS_sense_miss).putResult w o.1 d (List.replicate 720 0)
          let r := s.ringLine w o.1 (d / 2)
          r.2.putSweep r.1
        else s.putSweep { w with retry := w.retry ++ [(o.1, d)] })

/-- TRAIN_TIMEOUT (R285): a further try has a preset start. -/
def execTrainTimeout (d : Nat) (s : State) : Host.Outcome State Fault Refusal :=
  .next (
    let x := s.drv d
    if x.st = 1 then
      let s := (s.reach (x.since + 200000)).drvFollow d
      if x.tries < 2 then
        let s := s.setDrv d { s.drv d with tries := x.tries + 1, since := s.now, nextAt := s.now }
        (((s.askPreset (200 + d)).burstDrv d 256).drvFollow d).ctlOut
      else s.drvDown d 3
    else s)

/-- ECHO_STEP_END (R285): no earlier than the last ECHO_REQ. -/
def execEchoStepEnd (d : Nat) (s : State) : Host.Outcome State Fault Refusal :=
  .next (
    let x := s.drv d
    if x.st = 2 then
      let s := (s.reach (x.since + 30000)).drvFollow d
      let lo := x.samples.foldl min (x.samples.headD 0)
      let hi := x.samples.foldl max 0
      if 12 ≤ x.samples.length ∧ hi ≤ lo + 200 then s.drvRun d
      else if x.echoRepeat then s.drvDown d 2
      else (s.setDrv d { s.drv d with echoRepeat := true }).echoStep d
    else s)

/-- RETRAIN_CHECK (R289): 4 µs from the fault, of which STATUS took at most 1.5; the second attempt has 4 µs from its start. -/
def execRetrainCheck (d : Nat) (s : State) : Host.Outcome State Fault Refusal :=
  .next (
    let x := s.drv d
    if x.st = 4 then
      let s := (s.reach (x.since + (if x.attempt = 1 then 2500 else 4000))).drvFollow d
      if x.attempt = 1 then s.retrainDrv d 2 else s.drvDown d 0
    else s)

/-- The line in progress is vertical blanking, or the raster is stopped. -/
def State.inBlank (s : State) : Bool := !s.running || s.scn.starting.isSome || s.fld SCN_STATUS_blank == 1

/-- What waits for vertical blanking: the second's ECHO_REQs, and the training of drivers that are down (R286, R290). -/
def State.blankWork (s : State) : State :=
  if s.inBlank = false then s
  else
    let s := if s.kdl.echoDue then
        ((s.running_.foldl (State.sendEchoes · · 1) { s with kdl := { s.kdl with echoDue := false } })).ctlOut
      else s
    s.drvs.foldl (fun s d => if (s.drv d).retryDue ∧ (s.drv d).st = 5 then s.trainDrv d else s) s

/-- ECHO_PERIOD (R286): a second after the one before. -/
def execEchoPeriod (s : State) : Host.Outcome State Fault Refusal :=
  .next (
    let s := s.reach (s.kdl.echoAt + 1000000000)
    ({ s with kdl := { s.kdl with echoAt := s.now, echoDue := true } }).blankWork)

/-- DOWN_RETRY (R290). -/
def execDownRetry (d : Nat) (s : State) : Host.Outcome State Fault Refusal :=
  .next (
    if (s.drv d).st = 5 ∧ s.drvOn d = true then
      let s := s.reach ((s.drv d).since + 10000000)
      (s.setDrv d { s.drv d with retryDue := true }).blankWork
    else s)

/-- BC_LOST (R291). -/
def execBcLost (d : Nat) (s : State) : Host.Outcome State Fault Refusal :=
  .next (
    let x := s.drv d
    match x.bcDown with
    | some t =>
      if x.bcLost ∨ x.st ≠ 3 then s
      else
        let s := (s.reach (t + 1000000)).setDrv d { x with bcLost := true }
        (s.setFlag KDL_FLAGS_bc_lost).postKdl 0x30 (laneA d + 4096)
    | none => s)

end Sys2Proof.Machine
end

