-- ==== Sys2Proof/Machine/Links.lean ====
section
/-! DEFINITION. Receive-lane events and their links (R69, R70, R79, R81): each is a lane's own step, and the port's or the
driver's answer to what the lane reports. A lane whose domain is not ON receives nothing (R384). -/

namespace Sys2Proof.Machine

open Sys2Proof Reg

/-- A lane's report reaches its link: lanes 0 to 63 are the stream ports', 200 to 263 the back channels' (R67). `t` is the time that
the link counts in. -/
def State.linkReport (s : State) (l : Nat) (r : LaneReport) (t : Nat) : State :=
  if l < 64 then s.portReport l r t else s.drvReport (l - 200) r

/-- A symbol that a lane delivers reaches its link (R69, R70). -/
def State.linkSym (s : State) (l : Nat) (y : Sym) (t : Nat) : State := if l < 64 then s.portSym l y t else s.bcSym (l - 200) y t

/-- A receive lane whose domain is ON. -/
def State.rxOn (s : State) (l : Nat) : Bool := isRx l && s.domOn (laneDomain l)

/-- RX_SYMBOL (R70). -/
def execRxSymbol (lane : Nat) (sym : RxGroup) (lms : List Int) (s : State) : Host.Outcome State Fault Refusal :=
  .next (
    if s.rxOn lane then
      let r := s.rxSym lane sym.code lms
      let s := r.s.linkReport lane r.report sym.arrival
      match r.sym with
      | some y => s.linkSym lane y sym.arrival
      | none => s
    else s)

/-- SIGNAL_DETECT (R81): the lane hunts, and a sleeping port wakes (R97). Signal for a port whose domain is not ON is a need at once
(R387). -/
def execSignalDetect (lane : Nat) (s : State) : Host.Outcome State Fault Refusal :=
  .next (
    if s.rxOn lane then
      let s := s.sigDetect lane
      if lane < 64 then s.portSignal lane else s
    else if lane < 64 ∧ s.pwr.deep = 0 then s.portNeed lane
    else s)

/-- SIGNAL_LOSS (R70). -/
def execSignalLoss (lane : Nat) (s : State) : Host.Outcome State Fault Refusal :=
  .next (
    if s.rxOn lane then
      let r := s.sigLoss lane
      r.1.linkReport lane r.2 0
    else s)

/-- Symbol time of a receive lane, ps (R90, R271): the port's rate, or 3.125 Gbaud. -/
def State.symbolPs (s : State) (l : Nat) : Nat :=
  if l < 64 then
    (let r := (s.port (l / 8)).rate
     if r = 0 then 1000 else if r = 1 then 800 else if r = 2 then 500 else 400)
  else 3200

/-- EXIT_FAILURE (R81): exit_to × 16 symbols after the signal detect. -/
def execExitFailure (lane : Nat) (s : State) : Host.Outcome State Fault Refusal :=
  .next (
    match (s.lane lane).sdAt with
    | some t =>
      if s.rxOn lane then
        let s := s.reach (t + 16 * s.fldI LNK_EI_CFG_exit_to lane * s.symbolPs lane / 1000)
        let r := s.exitFail lane
        r.1.linkReport lane r.2 0
      else s
    | none => s)

/-- What a link has to send once a transmit lane is out of electrical idle: a port's STATUS, and the grants and credits that fell due
meanwhile (R113, R119); the drive link's waiting packets. -/
def State.linkTalk (s : State) (l : Nat) : State :=
  if l < 72 then
    let p := l - 64
    (portCtxs p).foldl (fun s c => if (s.stream c).bound then s.holdEnded c else s) (s.portTalk p)
  else s.ctlOut

/-- MIN_IDLE_END (R82): a held exit starts. -/
def execMinIdleEnd (lane : Nat) (s : State) : Host.Outcome State Fault Refusal :=
  .next (
    let x := s.lane lane
    match x.txHeldExit with
    | some n =>
      if isTx lane ∧ x.txIdle then
        let s := s.reach (x.txIdleSince + s.minIdle lane)
        (s.txBurst lane n s.now).linkTalk lane
      else s
    | none => s)

end Sys2Proof.Machine
end

