-- ==== Sys2Proof/Machine/Params.lean ====
section
/-! DEFINITION. Registers as parameters: what a host, a COMMIT or the mode book may write (R28, R29, R166, R460), what a
change of a register does at once, and the limits that a parameter set must meet (R23, R62, R132, R156, R209, R271, R298,
R300). -/

namespace Sys2Proof.Machine

open Sys2Proof Reg

/-! Masks. -/

/-- The bits of a field. -/
def fldMask (f : FldDesc) : Nat := (2 ^ (f.hi - f.lo + 1) - 1) * 2 ^ f.lo

/-- The bits of a register whose fields have a class. -/
def accMask (d : RegDesc) (p : Acc → Bool) : Nat := d.flds.foldl (fun n f => if p f.acc then n ||| fldMask f else n) 0

/-- Bits that a parameter write sets: fields of class RW or RWL. -/
def paramMask (d : RegDesc) : Nat := accMask d fun a => a == .rw || a == .rwl

/-- Bits that some field covers; the others are reserved. -/
def usedMask (d : RegDesc) : Nat := accMask d fun _ => true

/-- A word with the bits of `m` taken from `v`. -/
def mergeBits (w m v : Nat) : Nat := w - (w &&& m) + (v &&& m)

/-- Objects that an indexed register may name. -/
def ixCount : Ix → Nat
  | .none => 1
  | .lane => 264
  | .laneRx => 264
  | .laneTx => 264
  | .stream => 1024
  | .layer => 13
  | .cluster => 32
  | .driver => 64
  | .queue => 16384
  | .domain => 82

/-! Ranges of single registers (R460): values that the maps exclude. -/

/-- A SHUTTER view map holds views 0 to 4 or 0xF. -/
def viewMapOk (w : Nat) : Bool := (List.range 5).all fun k => let v := w / 16 ^ k % 16; decide (v ≤ 4) || v == 15

/-- A z-order word of `n` slots holds layers 0 to 11 or 0xF. -/
def zOrderOk (n w : Nat) : Bool := (List.range n).all fun k => let v := w / 16 ^ k % 16; decide (v ≤ 11) || v == 15

/-- A field of a word. -/
def ofWord (w : Nat) (f : Fld) : Nat := bits w f.hi f.lo

/-- The word lies in the ranges that the register's map gives. -/
def wordOk (off w : Nat) : Bool :=
  if off = TBS_CTRL then decide (ofWord w TBS_CTRL_src ≤ 2)
  else if off = TBS_SYNC_PERIOD then decide (2083333 ≤ w) && decide (w ≤ 1000000000)
  else if off = TBS_DPLL_CFG then decide (1 ≤ ofWord w TBS_DPLL_CFG_miss_count) && decide (ofWord w TBS_DPLL_CFG_bw ≤ 2)
  else if off = TBS_SLEW then decide (ofWord w TBS_SLEW_rate ≤ 1000)
  else if off = TBS_OUT_CFG then decide (1 ≤ ofWord w TBS_OUT_CFG_width) && decide (ofWord w TBS_OUT_CFG_sel ≤ 4)
  else if off = TBS_SHUT_CFG then decide (1 ≤ ofWord w TBS_SHUT_CFG_slots) && decide (ofWord w TBS_SHUT_CFG_slots ≤ 5)
  else if off = TBS_SHUT_MAP then viewMapOk w
  else if off = TBS_MS_QUOTA then decide (ofWord w TBS_MS_QUOTA_p0 + ofWord w TBS_MS_QUOTA_p1 + ofWord w TBS_MS_QUOTA_p2 + ofWord w TBS_MS_QUOTA_p3 ≤ 256)
  else if off = LNK_EI_CFG then decide (1 ≤ ofWord w LNK_EI_CFG_min_idle) && decide (1 ≤ ofWord w LNK_EI_CFG_exit_to)
  else if off = LYR_ZORDER_LO then zOrderOk 8 w
  else if off = LYR_ZORDER_HI then zOrderOk 4 w
  else if off = LYR_L_SRC ∨ off = LYR_L_DST then
    decide (1 ≤ ofWord w LYR_L_SRC_h) && decide (ofWord w LYR_L_SRC_h ≤ 8640) && decide (1 ≤ ofWord w LYR_L_SRC_w) &&
      decide (ofWord w LYR_L_SRC_w ≤ 15360)
  else if off = SCN_VSYNC_VBACK then decide (1 ≤ ofWord w SCN_VSYNC_VBACK_vsync) && decide (1 ≤ ofWord w SCN_VSYNC_VBACK_vback)
  else if off = SCN_VACTIVE_VFRONT then
    decide (1 ≤ ofWord w SCN_VACTIVE_VFRONT_vactive) && decide (ofWord w SCN_VACTIVE_VFRONT_vactive ≤ 8640) &&
      decide (1 ≤ ofWord w SCN_VACTIVE_VFRONT_vfront)
  else if off = SCN_LINE_TIME then decide (122368 ≤ ofWord w SCN_LINE_TIME_lt)
  else if off = SCN_SYNC_CFG then decide (ofWord w SCN_SYNC_CFG_lock ≤ 2)
  else if 0x80040 ≤ off ∧ off < 0x80060 then decide (ofWord w (ODV_NTC_POS_row 0) ≤ 359)
  else if off = PNL_PANEL then
    decide (1 ≤ ofWord w PNL_PANEL_lines) && decide (ofWord w PNL_PANEL_lines ≤ 8640) &&
      (ofWord w PNL_PANEL_double_row == 0 || ofWord w PNL_PANEL_lines % 2 == 0)
  else if off = PNL_GATE_CFG then decide (1 ≤ ofWord w PNL_GATE_CFG_nphase) && decide (ofWord w PNL_GATE_CFG_nphase ≤ 12)
  else if off = PNL_GRST then decide (1 ≤ ofWord w PNL_GRST_width)
  else if off = PNL_HV then decide (1 ≤ ofWord w PNL_HV_pass)
  else if off = PNL_CRK_CFG then decide (ofWord w PNL_CRK_CFG_action ≤ 2)
  else true

/-! Limits of a mode on the registers in force (R23, R156). -/

/-- Refresh range of a mode in mHz; none for a mode with any. -/
def refreshRange : Nat → Option (Nat × Nat)
  | 0 => some (23976, 60000)
  | 1 => some (47950, 120000)
  | 2 => some (120000, 240000)
  | 3 => some (120000, 480000)
  | 5 => some (47950, 144000)
  | 6 => some (47950, 120000)
  | 8 => some (1000, 30000)
  | 10 => some (23976, 240000)
  | _ => none

/-- A frame length of `len` ÷ `den`, in units of 1/256 ns, meets a mode's refresh range. -/
def refreshOk (m len den : Nat) : Bool :=
  match refreshRange m with
  | some (lo, hi) =>
    decide (9999 * 256000000000000 * den ≤ len * hi * 10000) && decide (len * lo * 10000 ≤ 10001 * 256000000000000 * den)
  | none => true

/-- Two lengths agree within 100 ppm of the second. -/
def near100 (a b : Nat) : Bool := decide ((a - b) * 10000 ≤ b) && decide ((b - a) * 10000 ≤ b)

/-- Ranges of the raster's registers, and the conditions after the table of R156, for mode `m`; `geo` is the mode whose
geometry it has (R23), none where that follows an entry mode not known yet. -/
def State.rasterOk (s : State) (m : Nat) (geo : Option Nat) : Bool :=
  let t := s.timing
  let T := t.lines
  let ll := s.latchLine
  let mm := if t.lock = 0 then 0 else trimMax T
  wordOk SCN_VSYNC_VBACK (s.reg SCN_VSYNC_VBACK 0 0) && wordOk SCN_VACTIVE_VFRONT (s.reg SCN_VACTIVE_VFRONT 0 0) &&
    wordOk SCN_LINE_TIME (s.reg SCN_LINE_TIME 0 0) && decide (t.lock ≤ 2) && (t.lock != 2 || m == 4) &&
    (m == 8 || s.fld SCN_STRETCH_lines == 0) &&
    (match geo with
     | some g => t.vactive == (if g = 3 then s.fld PNL_PANEL_lines / 2 else s.fld PNL_PANEL_lines)
     | none => true) &&
    decide (ll + 1 ≤ T) && decide (48 + mm + ll ≤ T + t.vsync + t.vback) &&
    (t.lock == 0 || (near100 (T * t.lt * 256 * s.framesPer t) s.period16 && decide (mm ≤ t.vfront) && decide (ll + 1 + mm ≤ T))) &&
    (t.lock != 1 || decide (t.phase * 65536 < s.period16))

/-- R62, for SHUTTER under a limit mode. -/
def State.shutterOk (s : State) (lim : Nat) : Bool :=
  let n := max 1 (s.fld TBS_SHUT_CFG_slots)
  near100 (s.timing.lines * s.timing.lt * 256 * n) s.period16 && refreshOk lim s.period16 (256 * n)

/-- The band edges ascend by at least 32 units (R209). -/
def State.bandsOk (s : State) : Bool :=
  (List.range 6).all fun k =>
    decide (signed 16 (s.fld (ODV_BAND_EDGE_edge (k + 1))) + 32 ≤ signed 16 (s.fld (ODV_BAND_EDGE_edge (k + 2))))

/-- R271, R300, and the band edges of R209. -/
def State.driveOk (s : State) (m : Nat) : Bool :=
  let n := s.fld PNL_GATE_CFG_nphase
  let on := signed 24 (s.fld PNL_CKV_ON_offset)
  let off := signed 24 (s.fld PNL_CKV_OFF_offset)
  let room : Int := ((if m = 3 then n / 2 else n) * s.timing.lt / 160 : Nat) - 2
  decide (486 * slotPs s.kdl.rate * 256 ≤ s.timing.lt * 1000) &&
    decide (on < off) && decide (off - on ≤ room) && (m != 3 || n % 2 == 0) &&
    decide (signed 24 (s.fld PNL_STV_ON_offset) < signed 24 (s.fld PNL_STV_OFF_offset)) && s.bandsOk

/-- The map format a mode needs (R23): uncompressed in GRADE, either in BROADCAST, codec elsewhere. -/
def mapFmtOk (m f : Nat) : Bool := if m = 0 then f == 1 else if m = 1 then true else f == 0

/-- An expected edge's offset lies below P ÷ S (R66). -/
def State.shutOffOk (s : State) (v : Nat) : Bool := decide (v * 65536 * max 1 (s.fld TBS_SHUT_CFG_slots) < s.period16)

/-- Registers of single ranges all in range, for the blocks a COMMIT may write. -/
def State.wordsOk (s : State) : Bool :=
  ((List.range 4).all fun k => s.shutOffOk (s.fld (TBS_SHUT_OFFSET_offset k))) &&
  ([TBS_CTRL, TBS_SYNC_PERIOD, TBS_DPLL_CFG, TBS_SLEW, TBS_OUT_CFG, TBS_SHUT_CFG, TBS_SHUT_MAP, TBS_MS_QUOTA, LYR_ZORDER_LO,
    LYR_ZORDER_HI, PNL_PANEL, PNL_GATE_CFG, PNL_GRST, PNL_HV, PNL_CRK_CFG].all fun r => wordOk r (s.reg r 0 0)) &&
    ((List.range 12).all fun l => wordOk LYR_L_SRC (s.reg LYR_L_SRC l 0) && wordOk LYR_L_DST (s.reg LYR_L_DST l 0)) &&
    (List.range 8).all fun k => wordOk (ODV_NTC_POS k) (s.reg (ODV_NTC_POS k) 0 0)

/-- The registers meet the limits of mode `m`: `lim` is SHUTTER's limit mode, `entry` the entry mode of CELLAR or LAYBY
(none at a book's validation, where the limits that follow it are not checked, R29). -/
def State.limitsOk (s : State) (m lim : Nat) (entry : Option Nat) : Bool :=
  let len := s.timing.lines * s.timing.lt
  let geo : Option Nat :=
    if m = 4 then some lim else if m = 7 ∨ m = 8 then entry.map fun e => if e = 4 then lim else e else some m
  if m = 11 then true
  else
    s.wordsOk && s.driveOk (geo.getD m) && s.rasterOk m geo &&
      (match geo with
       | some g => g == 9 || g == 10 || mapFmtOk g (s.fld CMP_CTRL_map_fmt)
       | none => true) &&
      (if m = 4 then s.shutterOk lim
       else if m = 8 then refreshOk 8 (len + s.fld SCN_STRETCH_lines * s.timing.lt) 1
       else
        match geo with
        | some g => refreshOk g len 1
        | none => true)

/-- SHUTTER's limit mode as the active book gives it: a switch to SHUTTER puts it in force (R23, R30). -/
def State.bookLimit (s : State) : Nat :=
  match s.mod.book with
  | some b => (Sparse.get (2, []) b.overlays 4).1
  | none => 2

/-- The limits of mode `m` under the limit mode `lim`, with the entry mode given. -/
def State.modeOk (s : State) (m entry lim : Nat) : Bool := s.limitsOk m lim (some entry)


/-! Entries of a COMMIT block or a mode book (R28). -/

/-- An entry from its 8 bytes, and whether its zero bits are zero. -/
def entryOf (b : List Byte) : Entry × Bool :=
  let n := leAt b 0 4
  (⟨n / 4 % 2 ^ 19 * 4, n / 2 ^ 24, BitVec.ofNat 32 (leAt b 4 4)⟩, n % 4 == 0 && n / 2 ^ 21 % 8 == 0)

/-- The register of an entry. -/
def Entry.desc (e : Entry) : Option RegDesc := regAt e.off

/-- The blocks entries may name: TBS, MSP, LYR, SCN, CMP, ODV, ENG, KDL, PNL. -/
def entryBlock (off : Nat) : Bool := let b := off / 0x10000; b == 1 || (4 ≤ b && b ≤ 11 : Bool)

/-- The entry names a register of class RW or RWL of those blocks, with an index in its range. -/
def Entry.named (e : Entry) : Bool :=
  match e.desc with
  | some d => entryBlock e.off && paramMask d != 0 && decide (e.idx < ixCount d.ix)
  | none => false

/-- Reserved bits of the entry's value are zero. -/
def Entry.clean (e : Entry) : Bool :=
  match e.desc with
  | some d => e.val.toNat &&& usedMask d == e.val.toNat
  | none => true

/-- The scope of an entry: the indexed layer registers with index 12 are of SAFETY scope (R155). -/
def Entry.scope (e : Entry) : Option Scope :=
  match e.desc with
  | some d => if d.ix = .layer ∧ e.idx = 12 then some .safety else some d.scope
  | none => none

/-- Two entries name one register and index. -/
def sameEntry (a b : Entry) : Bool := a.off == b.off && a.idx == b.idx

/-- An entry is named twice. -/
def twice : List Entry → Bool
  | [] => false
  | e :: es => es.any (sameEntry e) || twice es

/-- The two registers only a COMMIT writes (R51). -/
def commitOnly (off : Nat) : Bool := off == TBS_FREQ_ADJ || off == TBS_PHASE_ADJ

/-- PNL_PANEL may change: in BRINGUP with panel power OFF (R298). -/
def State.panelFree (s : State) : Bool := s.mode == 10 && s.fld PNL_PWR_STATUS_state == 0

/-- The bits of an entry's register that it writes: KDL_CFG's rate only in BRINGUP (R271), and PNL_PANEL only where R298 lets it change,
which matters for the part's own switch to DISCHARGE: it is never refused. -/
def State.entryMask (s : State) (e : Entry) (d : RegDesc) : Nat :=
  if e.off = KDL_CFG ∧ s.mode ≠ 10 then paramMask d - paramMask d % 4
  else if e.off = PNL_PANEL ∧ s.panelFree = false then 0
  else paramMask d

/-- An entry's value put into its register; a register of PART scope is the bank's of partition `p`. -/
def State.putEntry (s : State) (p : Nat) (e : Entry) : State :=
  match e.desc with
  | some d =>
    let bank := if d.scope = .part then p else 0
    s.setReg e.off e.idx bank (mergeBits (s.reg e.off e.idx bank) (s.entryMask e d) e.val.toNat)
  | none => s

/-- Entries put in order. -/
def State.putEntries (s : State) (p : Nat) (es : List Entry) : State := es.foldl (fun s e => s.putEntry p e) s

/-! What a changed register does at once. -/

/-- A driver that is no longer enabled: its lanes idle (R275). -/
def State.dropDrvs (s : State) : State :=
  (List.range 64).foldl (fun s d =>
    if s.drvOn d ∨ (s.drv d).st = 0 then s
    else ((s.setDrv d { s.drv d with st := 0, live := false }).txEnter (laneA d)).txEnter (laneA d + 1)) s

/-- hist_valid is cleared in every tile (R206). -/
def State.histClear (s : State) : State :=
  { s with odv := { s.odv with tiles := s.odv.tiles.filterMap fun e =>
      let x : Tile := { e.2 with histValid := false }
      if x = {} then none else some (e.1, x) } }

/-- What follows a change of ODV_CTRL.en from 0 to 1 or of the panel set-up (R206). -/
def State.histFollow (s old : State) : State :=
  if (s.fld ODV_CTRL_en = 1 ∧ old.fld ODV_CTRL_en = 0) ∨ s.reg PNL_PANEL 0 0 ≠ old.reg PNL_PANEL 0 0 then s.histClear else s

/-- The panel's pins follow its registers: SCAN_DIR is at the level of scan_dir (R298), and the gate outputs whose bit of inv has changed
rest at their other level (R299). -/
def State.pinFollow (s old : State) (off : Nat) : State :=
  if off = PNL_PANEL then
    if s.fld PNL_PANEL_scan_dir = old.fld PNL_PANEL_scan_dir then s
    else s.emit (.pin "SCAN_DIR" 0 (s.fld PNL_PANEL_scan_dir == 1))
  else if off = PNL_GATE_CFG then
    [("GRST", 1, false), ("AGO", 1, s.pnl.ago), ("CKV", 12, false), ("STV", 4, false)].zipIdx.foldl (fun s o =>
      let inv := (s.fld PNL_GATE_CFG_inv).testBit o.2
      if inv = (old.fld PNL_GATE_CFG_inv).testBit o.2 then s
      else (List.range o.1.2.1).foldl (fun s k => s.emit (.pin o.1.1 k (o.1.2.2 != inv))) s) s
  else s

/-- A step of the panel power sequence takes part (R303). -/
def State.stepOn (s : State) (k : Nat) : Bool := s.fld (PNL_SEQ_en k) == 1

/-- The shortened hold, ns (R306). -/
def State.pfwHold (s : State) : Ns := min 75 (max 1 (s.fld PNL_DIS_TIME_t_pfw)) * 100000

/-- PNL_FLAGS.holdup where the shortened hold and the off delays exceed 7,500 µs (R306). -/
def State.checkHoldup (s : State) : State :=
  let sum := (List.range 8).foldl (fun n k => if s.stepOn k then n + 10 * s.fld (PNL_SEQ_off_delay k) else n) 0
  if 7500 < s.pfwHold / 1000 + sum then s.setFlag PNL_FLAGS_holdup else s

/-- Registers have changed from `old`: the units that hold state of their own follow. -/
def State.follow (s old : State) (off ix : Nat) : State :=
  let b := off / 0x10000
  if b = 1 then
    let s := if off = TBS_OUT_CFG then s.outFollow old else if off = TBS_SLEW then s.slewFollow else s
    s.dpllFollow old
  else if b = 3 then (if off = LNK_RX_CFG then s.eqFollow old ix else s)
  else if b = 4 then
    if off < MSP_PORT_STATUS 0 then
      let p := (off - MSP_PORT_CFG 0) / 4
      let on := s.fld (MSP_PORT_CFG_en p)
      if on = old.fld (MSP_PORT_CFG_en p) then s
      else if on = 1 then (s.needNow (6 + p)).portStart p
      else s.portOff p
    else s
  else if b = 5 then
    let s : State := { s.showFetch with lyr := { s.lyr with damageAll := s.lyr.damageAll || s.reg off ix 0 != old.reg off ix 0 } }
    if off = LYR_S_CTRL then
      (if s.fld LYR_S_CTRL_hb_en = 0 then { s with lyr := { s.lyr with hbAt := none } }
       else if s.lyr.hbAt.isNone then s.restartHb else s)
    else s
  else if b = 7 then (if off = CMP_CTRL then s.fillVintage else s)
  else if b = 8 then (if off = ODV_CTRL then s.histFollow old else s)
  else if b = 10 then
    if off = KDL_CS ∨ off = KDL_OE then (s.served.foldl State.sendTiming s).ctlOut
    else if off = KDL_POL then (s.served.foldl State.sendPolarity s).ctlOut
    else if off = KDL_CFG ∧ s.fld KDL_CFG_rate ≠ old.fld KDL_CFG_rate ∧ s.drvs.any (fun d => (s.drv d).st != 0) then s.trainAll
    else if off = KDL_DRV_EN_LO ∨ off = KDL_DRV_EN_HI then s.dropDrvs
    else s
  else if b = 11 then
    if (PNL_SEQ 0 ≤ off ∧ off ≤ PNL_SEQ 7) ∨ off = PNL_DIS_TIME then s.checkHoldup
    else (if off = PNL_PANEL then s.histFollow old else s).pinFollow old off
  else s

/-- An entry applied by the mode unit. -/
def State.applyEntry (s : State) (p : Nat) (e : Entry) : State :=
  if e.off = TBS_FREQ_ADJ then s.adjFreq e.val.toNat
  else if e.off = TBS_PHASE_ADJ then s.adjPhase e.val.toNat
  else
    let t := s.putEntry p e
    if t.regs = s.regs then t else t.follow s e.off e.idx

/-- Entries applied in order. -/
def State.applyEntries (s : State) (p : Nat) (es : List Entry) : State := es.foldl (fun s e => s.applyEntry p e) s

/-- Entries name PNL_PANEL where R298 does not let it change. -/
def State.panelBarred (s : State) (es : List Entry) : Bool :=
  es.any (·.off == PNL_PANEL) && !s.panelFree

end Sys2Proof.Machine
end

