-- ==== Sys2Proof/Machine/Panel.lean ====
section
/-! DEFINITION. Panel power (R303, R304), discharge (R305 to R307), crack loops (R308 to R310), gate timing (R299 to R302),
the active mode book's values (R31), and the entry into DISCHARGE (R43). -/

namespace Sys2Proof.Machine

open Sys2Proof Reg

/-! Gate timing (R299 to R302). Times in units of 1/256 ns; a PCLK cycle is 160 of them. -/

/-- A gate edge, inverted as PNL_GATE_CFG.inv has it. -/
def State.gateEdge (s : State) (name : String) (inv k : Nat) (level : Bool) (at_ : Int) : State :=
  s.emit (.gate name k (level != (s.fld PNL_GATE_CFG_inv).testBit inv) at_)

/-- A pulse from one time to another. -/
def State.gatePulse (s : State) (name : String) (inv k : Nat) (a b : Int) : State :=
  (s.gateEdge name inv k true a).gateEdge name inv k false b

/-- The line start that gate edges refer to, rounded down to its PCLK cycle (R157). -/
def State.gateRef (s : State) : Int := (s.scn.lineAt / 160 * 160 : Nat)

/-- A signed offset register in PCLK cycles, as a time. -/
def State.gateOff (s : State) (f : Fld) : Int := 160 * signed 24 (s.fld f)

/-- GRST at a reference line. -/
def State.grstPulse (s : State) : State :=
  s.gatePulse "GRST" 0 0 s.gateRef (s.gateRef + 160 * (s.fld PNL_GRST_width : Int))

/-- The gate pulses of line `n` of the frame; `act` is the active line latched now, if it carries a LATCH. -/
def State.gateLine (s : State) (n : Nat) (act : Option Nat) : State :=
  let t := s.timing
  let r := s.gateRef
  let s := if n = 0 ∧ s.fld PNL_GATE_CFG_grst_frame = 1 then s.grstPulse else s
  let s := (List.range 4).foldl (fun s j =>
    if (s.fld PNL_GATE_CFG_stv_en).testBit j ∧ n = t.firstActive + (if s.fld PNL_GATE_CFG_stv_stagger = 1 then j else 0) then
      s.gatePulse "STV" 3 j (r + s.gateOff PNL_STV_ON_offset) (r + s.gateOff PNL_STV_OFF_offset)
    else s) s
  match act with
  | some a =>
    let ph := max 1 (s.fld PNL_GATE_CFG_nphase)
    let rows := if s.pipeMode = 3 then [2 * a, 2 * a + 1] else [a]
    rows.foldl (fun s row =>
      s.gatePulse "CKV" 2 (row % ph) (r + s.gateOff PNL_CKV_ON_offset) (r + s.gateOff PNL_CKV_OFF_offset)) s
  | none => s

/-- Pass pulses of rows `row` to `row + n - 1` from a time on. -/
def State.passPulses (s : State) (row n : Nat) (from_ : Int) : State :=
  let ph := max 1 (s.fld PNL_GATE_CFG_nphase)
  let half : Int := 160 * (s.fld PNL_HV_pass : Int)
  (List.range n).foldl (fun s i => s.gatePulse "CKV" 2 ((row + i) % ph) (from_ + 2 * half * i) (from_ + 2 * half * i + half)) s

/-- The gate pulses of a sensed row, and the pass pulses up to the next. -/
def State.senseGate (s : State) (w : Sweep) (i : Nat) : State :=
  let row := w.a.line0 + i * w.a.step
  let ph := max 1 (s.fld PNL_GATE_CFG_nphase)
  let fall := s.gateRef + 25600 * ((w.a.settle + s.fld PNL_HV_hold : Nat) : Int)
  (s.gatePulse "CKV" 2 (row % ph) (s.gateRef + s.gateOff PNL_CKV_ON_offset) fall).passPulses (row + 1) (w.a.step - 1) fall

/-- The pulses at a sweep's start: GRST, STV, and the rows below line0. -/
def State.sweepGate (s : State) (w : Sweep) : State :=
  let s := s.grstPulse
  let s := (List.range 4).foldl (fun s j =>
    if (s.fld PNL_GATE_CFG_stv_en).testBit j then
      let d : Int := if s.fld PNL_GATE_CFG_stv_stagger = 1 then (s.timing.lt * j : Nat) else 0
      s.gatePulse "STV" 3 j (s.gateRef + d + s.gateOff PNL_STV_ON_offset) (s.gateRef + d + s.gateOff PNL_STV_OFF_offset)
    else s) s
  s.passPulses 0 w.a.line0 s.gateRef

/-! Panel power (R303, R304). -/

/-- The panel power state. -/
def State.pwrState (s : State) : Nat := s.fld PNL_PWR_STATUS_state

/-- PNL_EN[k] driven. -/
def State.setPanelEn (s : State) (k : Nat) (on : Bool) : State :=
  let w := s.fld PNL_PWR_STATUS_en
  let w := if w.testBit k = on then w else if on then w + 2 ^ k else w - 2 ^ k
  ((s.setFld PNL_PWR_STATUS_en w).setFld PNL_PWR_STATUS_step k).emit (.pin "PNL_EN" k on)

/-- The panel power state entered; ON, OFF and FAULT are posted (R310), and FAULT is logged (R434). -/
def State.enterPwr (s : State) (st cause : Nat) : State :=
  let s := s.setFld PNL_PWR_STATUS_state st
  let arg := st + 16 * cause + 256 * s.fld PNL_PWR_STATUS_step
  if st = 4 then s.raiseLog 0x52 0x0D arg else if st = 0 ∨ st = 2 then s.raise 0x52 0x0D arg else s

/-- The panel's part changed. -/
def State.setPnl (s : State) (x : Pnl) : State := { s with pnl := x }

/-- LS_EN and AGO driven. -/
def State.setLs (s : State) (on : Bool) : State := (s.setPnl { s.pnl with lsEn := on }).emit (.pin "LS_EN" 0 on)
def State.setAgo (s : State) (on : Bool) : State :=
  (s.setPnl { s.pnl with ago := on }).emit (.pin "AGO" 0 (on != (s.fld PNL_GATE_CFG_inv).testBit 1))

/-- The next enabled step from `k` up is raised; after the last, GRST, LS_EN and ON. -/
def State.raiseFrom (s : State) (k : Nat) : State :=
  match (List.range 8).find? fun j => decide (k ≤ j) && s.stepOn j with
  | some j =>
    let s := s.setPanelEn j true
    let wait := s.fld (PNL_SEQ_pg_used j) == 1 && !(s.fld PNL_PWR_STATUS_pg).testBit j
    s.setPnl { s.pnl with waitPg := wait, stepAt := s.now }
  | none =>
    let r : Int := (s.now * 256 / 160 * 160 : Nat)
    let s := s.gatePulse "GRST" 0 0 r (r + 160 * (s.fld PNL_GRST_width : Int))
    (s.setLs true).enterPwr 2 0

/-- Discharge or release has ended (R305 order 5). -/
def State.releaseEnd (s : State) : State :=
  let p := s.pnl
  let s := s.setPnl { p with stage := .none, live := false }
  let s := if p.ago then s.setAgo false else s
  let s := if p.lsEn then s.setLs false else s
  let s := s.kdlIdle
  s.enterPwr p.endState p.endCause

/-- The highest raised step is released; after the last, the end. -/
def State.releaseNext (s : State) : State :=
  match (List.range 8).reverse.find? fun j => (s.fld PNL_PWR_STATUS_en).testBit j with
  | some j => (s.setPanelEn j false).setPnl { s.pnl with stage := .rails, stepAt := s.now }
  | none => s.releaseEnd

/-- The raised steps are released without AGO, to a state with a cause (R304, R307). -/
def State.release (s : State) (st cause : Nat) : State :=
  (s.setPnl { s.pnl with endState := st, endCause := cause, waitPg := false }).releaseNext

/-! Discharge (R305 to R307). -/

/-- The full hold, ns. -/
def State.disHold (s : State) : Ns := max 1 (s.fld PNL_DIS_TIME_t_dis) * 1000000

/-- One DISCHARGE copy to every driver in RUN or in a retrain, applied at once, waits for the next window; the second copy keeps the
first's cseq (R282). -/
def State.sendDischarge (s : State) (first : Bool) : State :=
  (s.served.foldl (fun s d =>
    let x := s.drv d
    let x := if first then { x with cseq := (x.cseq + 1) % 256, disSeq := (x.cseq + 1) % 256 } else x
    let s := s.setDrv d x
    { s with kdl := { s.kdl with
        ctl := s.kdl.ctl ++ [⟨d, 4, 0x80, x.disSeq, leBytes 2 (s.fld PNL_DIS_dis_code + 32768), 1⟩] } }) s).ctlOut

/-- A DISCHARGE copy waits for a driver in RUN: TRAIN and ECHO_REQ go before it (R282). -/
def State.dischargeWaits (s : State) : Bool := s.kdl.ctl.any fun c => c.type == 4 && (s.drv c.drv).st == 3

/-- AGO is asserted, and the hold starts. -/
def State.startAgo (s : State) : State :=
  let s := s.setAgo true
  s.setPnl { s.pnl with stage := .ago, agoUntil := s.now + (if s.pnl.short then s.pfwHold else s.disHold) }

/-- The full discharge starts (R305), from RISING too, which R305 does not except; or with the raster stopped its first copy
goes out at once. `atBoundary`: the black frame starts here, else at the next frame boundary. -/
def State.startDischarge (s : State) (atBoundary : Bool) : State :=
  if (s.pwrState = 1 ∨ s.pwrState = 2) ∧ s.pnl.stage = .none then
    let s := s.setFld PNL_PWR_STATUS_state 3
    let p : Pnl := { s.pnl with waitPg := false, short := false, endState := 0, endCause := 5 }
    if s.running then s.setPnl { p with stage := if atBoundary then .black else .blackDue }
    else (s.sendDischarge true).setPnl { p with stage := .copies 1 }
  else s

/-- The shortened discharge starts (R306): at the next line start, or at once while the raster is stopped. -/
def State.startShort (s : State) (st cause : Nat) : State :=
  let s := s.setFld PNL_PWR_STATUS_state 3
  let p : Pnl := { s.pnl with short := true, endState := st, endCause := cause }
  if s.running then s.setPnl { p with stage := .copies 2 } else (s.sendDischarge true).setPnl { p with stage := .copies 1 }

/-- PFW_N meets the panel's sequences (R307). -/
def State.pfwPanel (s : State) : State :=
  match s.pwrState, s.pnl.stage with
  | 1, .none => s.release 0 4
  | 2, _ => s.startShort 0 4
  | 3, .blackDue => s.startShort 0 4
  | 3, .black => s.startShort 0 4
  | 3, .copies _ => s.setPnl { s.pnl with short := true }
  | 3, .ago => s.setPnl { s.pnl with agoUntil := min s.pnl.agoUntil (s.now + s.pfwHold) }
  | _, _ => s

/-- The part of a discharge that falls at a line start; `boundary` marks a frame's first line. -/
def State.dischargeLine (s : State) (boundary : Bool) : State :=
  match s.pnl.stage with
  | .blackDue => if boundary then s.setPnl { s.pnl with stage := .black } else s
  | .black => if boundary then (s.sendDischarge true).setPnl { s.pnl with stage := .copies 1 } else s
  | .copies n =>
    if s.dischargeWaits then s
    else if n = 0 then s.startAgo
    else (s.sendDischarge (n == 2)).setPnl { s.pnl with stage := .copies (n - 1) }
  | _ => s

/-- Bursts, LATCHes and gate pulses run: from the first frame boundary in ON, and through the black frame. -/
def State.drives (s : State) : Bool :=
  s.pnl.live && (s.pnl.stage == .none || s.pnl.stage == .blackDue || s.pnl.stage == .black)

/-- At a frame boundary in ON the drive starts; a blank that is due begins (R303, R310). -/
def State.panelBoundary (s : State) : State :=
  s.setPnl { s.pnl with
    live := s.pnl.live || s.pwrState == 2, blanked := s.pnl.blanked || s.pnl.blankDue, blankDue := false }

/-- The level that takes the place of every drive level: in a black frame, and while blanked. -/
def State.blackLevel (s : State) : Option Nat :=
  if s.pnl.stage = .black ∨ s.pnl.blanked then some (s.fld PNL_DIS_black) else none

/-! The mode book's values (R31). -/

/-- Base entries and the overlay of mode `m`, as the active book gives them. -/
def State.bookEntries (s : State) (m : Nat) : List Entry :=
  match s.mod.book with
  | some b => b.base ++ (Sparse.get (2, []) b.overlays m).2
  | none => []

/-- A register of a MOD switch: pending and committed, as MOD_STATUS shows them (R44). -/
def State.showSwitch (s : State) : State :=
  match s.mod.comm, s.mod.pend with
  | some w, _ => (s.setFld MOD_STATUS_pending 1).setFld MOD_STATUS_pending_mode w.target
  | none, some w => (s.setFld MOD_STATUS_pending 1).setFld MOD_STATUS_pending_mode w.target
  | none, none => (s.setFld MOD_STATUS_pending 0).setFld MOD_STATUS_pending_mode 0

/-- A switch completes, if a descriptor asked for it. -/
def State.endSwitch (s : State) (w : Option Switch) (status frame tb : Nat) : State :=
  match w.bind (·.req) with
  | some r => s.complete r status frame tb
  | none => s

/-- The pending or committed switch is overtaken: SUPERSEDED, or ABORTED on PFW_N (R35). -/
def State.dropSwitches (s : State) (status : Nat) : State :=
  let p := s.mod.pend
  let c := s.mod.comm
  let s : State := { s with mod := { s.mod with pend := none, comm := none, bakeDue := false } }
  let s := if status = SUPERSEDED ∧ p.isSome then s.setFlag MOD_FLAGS_superseded else s
  ((s.endSwitch p status s.frame s.now).endSwitch c status s.frame s.now).showSwitch

/-- DISCHARGE takes effect (R43): its entries are written if a book is active, and the mode is in force. -/
def State.takeDischarge (s : State) (atBoundary short : Bool) : State :=
  let s := s.applyEntries s.owner (s.bookEntries 11)
  let s := s.setFld MOD_STATUS_cur_mode 11
  let s := s.setFld MOD_SWITCH_COUNT_count ((s.fld MOD_SWITCH_COUNT_count + 1) % 2 ^ 32)
  let s := s.abortSweep
  if short then s.pfwPanel else s.startDischarge atBoundary

/-- A switch to DISCHARGE of the part's own (R43): pending for the next frame boundary, or with the raster stopped in effect
at once. -/
def State.ownDischarge (s : State) : State :=
  if s.mode = 11 then s
  else
    let s := s.dropSwitches SUPERSEDED
    if s.running then
      ({ s with mod := { s.mod with pend := some { req := none, target := 11, arrived := s.now } } }).showSwitch
    else s.takeDischarge false false

/-! Crack loops (R308 to R310). -/

/-- A loop is enabled. -/
def State.loopOn (s : State) (k : Nat) : Bool := (s.fld PNL_CRK_CFG_en).testBit k

/-- A bit of a word set or cleared. -/
def withBit (w k : Nat) (b : Bool) : Nat := if w.testBit k = b then w else if b then w + 2 ^ k else w - 2 ^ k

/-- A loop's code (R308): the input's calibrated offset is subtracted from what the converter read (R423). -/
def State.crackCode (s : State) (raw k : Nat) : Nat := min 4095 ((raw : Int) - s.cal.crackOff.getD k 0).toNat

/-- One loop measured. -/
def State.measureLoop (s : State) (c k : Nat) : State :=
  if s.loopOn k = false then s
  else
    let s := s.setFld (PNL_CRK_CODE_code k) c
    if s.fld PNL_CRK_STATUS_base_valid = 0 then s
    else
      let b := s.fld (PNL_CRK_CODE_base k)
      let out := decide (s.fld PNL_CRK_CFG_tol < (c - b) + (b - c))
      let s := s.setFld PNL_CRK_STATUS_out (withBit (s.fld PNL_CRK_STATUS_out) k out)
      s.setPnl { s.pnl with outRun := s.pnl.outRun.set k (if out then s.pnl.outRun.getD k 0 + 1 else 0) }

/-- A loop out of tolerance twice in a row is declared cracked (R309, R310). -/
def State.declareCrack (s : State) (powerUp : Bool) (k : Nat) : State :=
  if s.pnl.outRun.getD k 0 < 2 ∨ (s.fld PNL_CRK_STATUS_cracked).testBit k then s
  else
    let s := s.setFld PNL_CRK_STATUS_cracked (withBit (s.fld PNL_CRK_STATUS_cracked) k true)
    let a := s.fld PNL_CRK_CFG_action
    let s := s.setFlag PNL_FLAGS_crack
    let s := s.raiseLog 0x51 0x0D (s.fld PNL_CRK_STATUS_cracked + 256 * a + (if powerUp then 4096 else 0))
    if a = 1 then s.setPnl { s.pnl with blankDue := true } else if a = 2 then s.ownDischarge else s

/-- The crack-baseline record: four codes of two bytes. The spec does not lay it out. -/
def State.storeBaseline (s : State) : State :=
  s.gatherRecord 0x0021 ((List.range 4).flatMap fun k => leBytes 2 (s.fld (PNL_CRK_CODE_base k)))

/-- The order after the crack check of a power-on (R303). -/
def State.afterCheck (s : State) : State :=
  if s.fld PNL_CRK_STATUS_cracked ≠ 0 ∧ s.fld PNL_CRK_CFG_action ≠ 0 then s.enterPwr 4 3 else s.raiseFrom 0

/-- A measurement of the enabled loops completes; `raw` is what the converter read at each input. -/
def State.crackMeasured (s : State) (raw : List Nat) : State :=
  let codes := (List.range 4).map fun k => s.crackCode (raw.getD k 0) k
  let s := (List.range 4).foldl (fun s k => s.measureLoop (codes.getD k 0) k) s
  if 0 < s.pnl.capturing then
    let sums := (List.range 4).map fun k => s.pnl.sums.getD k 0 + codes.getD k 0
    let s := s.setPnl { s.pnl with capturing := s.pnl.capturing - 1, sums := sums }
    if s.pnl.capturing = 0 then
      let s := (List.range 4).foldl (fun s k => if s.loopOn k then s.setFld (PNL_CRK_CODE_base k) (sums.getD k 0 / 2) else s) s
      ((s.setFld PNL_CRK_STATUS_base_valid 1).setFld PNL_CRK_STATUS_busy 0).storeBaseline
    else s
  else
    let up := s.pwrState = 1 ∧ s.pnl.checks < 2
    let s := (List.range 4).foldl (State.declareCrack · (decide up)) s
    if up then
      let s := s.setPnl { s.pnl with checks := s.pnl.checks + 1 }
      if s.pnl.checks = 2 then (s.setFld PNL_CRK_STATUS_busy 0).afterCheck else s
    else (s.setPnl { s.pnl with measureDue := false }).setFld PNL_CRK_STATUS_busy 0

/-! Control bits. -/

/-- PNL_PWR_CTRL.on (R303). -/
def State.powerOn (s : State) : State :=
  if s.mode = 10 ∧ (s.pwrState = 0 ∨ s.pwrState = 4) then
    let s := (s.setFld PNL_PWR_STATUS_state 1).setPnl { s.pnl with waitPg := false, checks := 0, stage := .none, live := false }
    if s.fld PNL_CRK_CFG_en = 0 then (s.setPnl { s.pnl with checks := 2 }).raiseFrom 0 else s.setFld PNL_CRK_STATUS_busy 1
  else s.setFlag PNL_FLAGS_refused

/-- PNL_PWR_CTRL.off (R305): outside BRINGUP or ON it does nothing, and R305 names no flag for it. -/
def State.powerOff (s : State) : State :=
  if s.mode = 10 ∧ s.pwrState = 2 then s.startDischarge false else s

/-- PNL_CRK_CTRL.capture (R309). -/
def State.startCapture (s : State) : State :=
  if s.mode = 10 then (s.setPnl { s.pnl with capturing := 2, sums := [] }).setFld PNL_CRK_STATUS_busy 1
  else s.setFlag PNL_FLAGS_refused

/-! Commands. -/

/-- PNL_PG_RISE (R303). -/
def execPnlPgRise (k : Nat) (s : State) : Host.Outcome State Fault Refusal :=
  .next (
    let s := s.setFld PNL_PWR_STATUS_pg (withBit (s.fld PNL_PWR_STATUS_pg) (k % 8) true)
    if s.pwrState = 1 ∧ s.pnl.waitPg ∧ s.fld PNL_PWR_STATUS_step = k then
      s.setPnl { s.pnl with waitPg := false, stepAt := s.now }
    else s)

/-- PG_TIMEOUT (R304). -/
def execPgTimeout (s : State) : Host.Outcome State Fault Refusal :=
  .next (
    if s.pwrState = 1 ∧ s.pnl.waitPg then
      let s := s.reach (s.pnl.stepAt + 1000000 * max 1 (s.fld (PNL_SEQ_pg_to (s.fld PNL_PWR_STATUS_step))))
      (s.setFlag PNL_FLAGS_pg_to).release 4 1
    else s)

/-- SEQ_DELAY_END (R303). -/
def execSeqDelayEnd (s : State) : Host.Outcome State Fault Refusal :=
  .next (
    let k := s.fld PNL_PWR_STATUS_step
    if s.pwrState = 1 ∧ s.pnl.waitPg = false ∧ s.pnl.checks = 2 ∧ s.pnl.stage = .none then
      (s.reach (s.pnl.stepAt + 10000 * s.fld (PNL_SEQ_on_delay k))).raiseFrom (k + 1)
    else s)

/-- PNL_PG_FALL (R304): watched while ON. -/
def execPnlPgFall (k : Nat) (s : State) : Host.Outcome State Fault Refusal :=
  .next (
    let s := s.setFld PNL_PWR_STATUS_pg (withBit (s.fld PNL_PWR_STATUS_pg) (k % 8) false)
    if s.pwrState = 2 ∧ s.stepOn k ∧ s.fld (PNL_SEQ_pg_used k) = 1 ∧ k < 8 then
      ((s.setFlag PNL_FLAGS_pg_lost).setFld PNL_PWR_STATUS_step k).startShort 4 2
    else s)

/-- AGO_HOLD_END (R305). -/
def execAgoHoldEnd (s : State) : Host.Outcome State Fault Refusal :=
  .next (if s.pnl.stage = .ago then (s.reach s.pnl.agoUntil).releaseNext else s)

/-- OFF_DELAY_END (R305). -/
def execOffDelayEnd (s : State) : Host.Outcome State Fault Refusal :=
  .next (
    if s.pnl.stage = .rails then
      (s.reach (s.pnl.stepAt + 10000 * s.fld (PNL_SEQ_off_delay (s.fld PNL_PWR_STATUS_step)))).releaseNext
    else s)

/-- DISCHARGE_COPY_TIMER (R305): with the raster stopped the second copy goes out, and AGO follows. -/
def execDischargeCopyTimer (s : State) : Host.Outcome State Fault Refusal :=
  .next (
    if s.running then s
    else
      match s.pnl.stage with
      | .copies n => (if n = 0 then s else (s.reach (s.now + 1000)).sendDischarge false).startAgo
      | _ => s)

/-- CRACK_MEASUREMENT (R309): a measurement that is due completes: `codes` is what the converter read at the inputs.
While the converters are trimmed it stays due (R424). -/
def execCrackMeasurement (codes : List Nat) (s : State) : Host.Outcome State Fault Refusal :=
  .next (if (s.fld PNL_CRK_STATUS_busy = 1 ∨ s.pnl.measureDue) ∧ s.trimming = false then s.crackMeasured codes else s)

end Sys2Proof.Machine
end

