-- ==== Sys2Proof/Machine/Modes.lean ====
section
/-! DEFINITION. The mode book (R26 to R30) and MODE_SWITCH up to its latch (R31 to R40). What a switch does at its boundary is
in Machine/Boundary.lean. -/

namespace Sys2Proof.Machine

open Sys2Proof Reg

/-! The book's layout (R27, R28). -/

/-- PPA of the mode book. -/
def State.bookAddr (s : State) : Nat := s.fld MOD_BOOK_ADDR_LO_addr_lo * 4096 + s.fld MOD_BOOK_ADDR_HI_addr_hi * 2 ^ 32

/-- Modes that the book's mask lists. -/
def bookModes (b : List Byte) : List Nat := (List.range 12).filter fun m => (leAt b 10 2).testBit m

/-- Offset and entries of an overlay. -/
def ovlOff (b : List Byte) (m : Nat) : Nat := leAt b (16 + 4 * m) 4
def ovlCount (b : List Byte) (m : Nat) : Nat := leAt b (ovlOff b m + 2) 2

/-- `n` entries from offset `a`, each with its zero bits tested. -/
def entriesAt (b : List Byte) (a n : Nat) : List (Entry × Bool) := (List.range n).map fun i => entryOf ((b.drop (a + 8 * i)).take 8)

/-- The base block and the overlays, each with its entries. -/
def bookBlocks (b : List Byte) : List (List (Entry × Bool)) :=
  entriesAt b 64 (leAt b 8 2) :: (bookModes b).map fun m => entriesAt b (ovlOff b m + 8) (ovlCount b m)

/-- The book that the bytes describe. -/
def bookOf (b : List Byte) : Book where
  base := (entriesAt b 64 (leAt b 8 2)).map (·.1)
  overlays := (bookModes b).map fun m => (m, (leAt b (ovlOff b m + 1) 1, (entriesAt b (ovlOff b m + 8) (ovlCount b m)).map (·.1)))

/-- Where an overlay may lie: after the base block, 8-byte aligned, its header before the CRC. -/
def ovlPlaced (b : List Byte) (m : Nat) : Bool :=
  decide (ovlOff b m % 8 = 0) && decide (64 + 8 * leAt b 8 2 ≤ ovlOff b m) && decide (ovlOff b m + 12 ≤ leAt b 12 4)

/-- Counts of the book (R27, R28). -/
def bookCountsOk (b : List Byte) : Bool :=
  decide (1 ≤ leAt b 8 2) && decide (leAt b 8 2 ≤ 4096) && decide (leAt b 10 2 < 4096) &&
    (bookModes b).all fun m => !ovlPlaced b m || decide (ovlCount b m ≤ 256)

/-- Offsets and length of the book. -/
def bookPlacesOk (b : List Byte) : Bool :=
  decide (68 + 8 * leAt b 8 2 ≤ leAt b 12 4) && decide (leAt b 12 4 ≤ 57508) &&
    (List.range 12).all fun m =>
      if (leAt b 10 2).testBit m then ovlPlaced b m && decide (ovlOff b m + 12 + 8 * ovlCount b m ≤ leAt b 12 4) else ovlOff b m == 0

/-- An entry that a book may hold (R29). -/
def bookEntryOk (e : Entry × Bool) : Bool := e.2 && e.1.named && e.1.scope == some .owner

/-- The active book holds what R29's last condition asks for: overlays for the mode in force, and for the entry mode. -/
def State.bookCovers (s : State) (b : List Byte) : Bool :=
  (decide (9 < s.mode) || (bookModes b).contains s.mode) &&
    ((s.mode != 7 && s.mode != 8) || (bookModes b).contains (s.fld MOD_ENTRY_entry_mode))

/-- The limits of base plus each overlay (R29). -/
def State.bookLimitsOk (s : State) (b : List Byte) : Bool :=
  let k := bookOf b
  ((k.base ++ k.overlays.flatMap (·.2.2)).all fun e => wordOk e.off e.val.toNat) &&
    k.overlays.all fun o => (s.putEntries s.owner (k.base ++ o.2.2)).limitsOk o.1 o.2.1 none

/-- The first failing check of a book in R29's order, 0 for none; codes of R44. -/
def State.bookError (s : State) (b : List Byte) : Nat :=
  let blocks := bookBlocks b
  let base := (bookOf b).base
  if leAt b 0 2 ≠ 1 then 1
  else if bookCountsOk b = false then 2
  else if bookPlacesOk b = false then 3
  else if leAt b (leAt b 12 4 - 4) 4 ≠ crc32c (b.take (leAt b 12 4 - 4)) then 4
  else if (bookModes b).any fun m =>
      leAt b (ovlOff b m) 1 != m || (if m = 4 then decide (3 < leAt b (ovlOff b m + 1) 1) else leAt b (ovlOff b m + 1) 1 != 255) then 11
  else if blocks.any fun l => !l.all bookEntryOk then 5
  else if blocks.any fun l => twice (l.map (·.1)) then 6
  else if blocks.any fun l => l.any fun e => !base.any (sameEntry e.1) then 7
  else if (blocks.any fun l => l.any fun e => !e.1.clean) ∨ leAt b 2 2 ≠ 0 ∨ (bookModes b).any (fun m => leAt b (ovlOff b m + 4) 4 != 0) then 8
  else if s.bookLimitsOk b = false then 9
  else if s.bookCovers b = false then 10
  else 0

/-- A book that failed validation (R29). -/
def State.rejectBook (s : State) (code : Nat) : State := (s.setFld MOD_BOOK_STATUS_error code).setFlag MOD_FLAGS_book_rejected

/-- A book that passed becomes the active book (R26, R27, R30). -/
def State.activateBook (s : State) (b : List Byte) : State :=
  let s : State := { s with mod := { s.mod with book := some (bookOf b) } }
  ((s.setFld MOD_BOOK_STATUS_valid 1).setFld MOD_BOOK_STATUS_overlays (leAt b 10 2)).setFld MOD_BOOK_SEQ_sequence (leAt b 4 4)

/-- The book's length as its header gives it, if the header can stand. -/
def bookLength (h : List Byte) : Nat := if 68 ≤ leAt h 12 4 ∧ leAt h 12 4 ≤ 57508 then leAt h 12 4 else 64

/-- The book read at MOD_BOOK_ADDR: its bytes, or the status of a TABLE_LOAD that cannot read it. -/
def State.readBook (s : State) : Nat × List Byte :=
  let a := s.bookAddr
  if s.areaReady 6 a 64 = false then (NOT_READY, [])
  else
    match s.ppaRead a 64 with
    | none => (DATA_ERROR, [])
    | some h =>
      if s.inKind 6 a (bookLength h) = false then (NOT_READY, [])
      else
        match s.ppaRead a (bookLength h) with
        | none => (DATA_ERROR, [])
        | some b => (OK, b)

/-! MODE_SWITCH (R31 to R38). -/

/-- The transitions of R33. -/
def switchOk (frm tgt : Nat) : Bool :=
  match frm with
  | 0 | 1 | 2 | 3 => decide (tgt ≤ 11)
  | 4 => decide (tgt ≤ 4) || tgt == 10 || tgt == 11
  | 5 => decide (tgt ≤ 3) || tgt == 5 || tgt == 7 || tgt == 8 || tgt == 10 || tgt == 11
  | 6 => decide (tgt ≤ 3) || (decide (6 ≤ tgt) && decide (tgt ≤ 8)) || tgt == 10 || tgt == 11
  | 7 | 8 => tgt != 4 && decide (tgt ≤ 11)
  | 9 => decide (tgt ≤ 3) || (decide (9 ≤ tgt) && decide (tgt ≤ 11))
  | 10 => (tgt != 4 && tgt != 7 && tgt != 8) && decide (tgt ≤ 11)
  | _ => false

/-- Base and overlay of a switch, written to a copy of the registers. -/
def State.underBook (s : State) (target : Nat) : State := s.putEntries s.owner (s.bookEntries target)

/-- The baked frame lies in BAKED regions, and FST_BAKED is aligned as R358 requires. -/
def State.bakedAddr (s : State) : Nat := s.fld FST_BAKED_LO_addr_lo * 4096 + s.fld FST_BAKED_HI_addr_hi * 2 ^ 32
def State.bakedIn (s : State) : Bool := s.inKind 3 s.bakedAddr 530841600
def State.bakedOk (s : State) : Bool := s.layout != 0 || s.bakedAddr % 20480 == 0

/-- A switch from `frm` into `target` needs the baked frame's area (R36). -/
def usesBaked (frm target : Nat) : Bool := (target == 7 || target == 8) && frm != 7 && frm != 8

/-- FST_FLAGS.region_miss for a switch whose baked frame would leave its regions (R354). -/
def State.missBaked (s : State) (frm target : Nat) : State :=
  if usesBaked frm target ∧ s.storeUp ∧ s.bakedIn = false then s.regionMiss else s

/-- A switch is NOT_READY (R24, R34, R38): R24 is tested on the panel as the switch would set it. DEDUCED (log 17): the alignment of
FST_BAKED is asked of a switch into CELLAR or LAYBY from another mode, as R358 words it; one between the two keeps the baked frame
and is not tested. DEDUCED (log 17): the same switch needs the frame store and the area of the baked frame, without which it is NOT_READY
too (R348, R354). -/
def State.switchNotReady (s : State) (frm target : Nat) : Bool :=
  if target = 11 then false
  else
    match s.mod.book with
    | none => true
    | some b =>
      (target != 10 && !b.overlays.any (·.1 == target)) ||
        (target == 3 && (s.underBook target).fld PNL_PANEL_double_row == 0) ||
        ((target == 9 || target == 10) && (s.layer 12).en) ||
        (usesBaked frm target && !(s.storeUp && s.bakedIn && s.bakedOk))

/-- The entry mode that a switch from `frm` would give CELLAR or LAYBY (R23). -/
def State.entryAfter (s : State) (frm : Nat) : Nat := if frm = 7 ∨ frm = 8 then s.fld MOD_ENTRY_entry_mode else frm

/-- The limits of the target, and R298's condition on PNL_PANEL, at the latch (R29, R34). -/
def State.switchLimitsOk (s : State) (frm target : Nat) : Bool :=
  target == 11 || ((s.underBook target).modeOk target (s.entryAfter frm) s.bookLimit && !s.panelBarred (s.bookEntries target))

/-- A switch to DISCHARGE waits for the next frame boundary (R35). -/
def State.dischargePending (s : State) : Bool := s.mod.pend.any fun w => w.target == 11

/-- The mode from which a switch that arrives now would leave: the committed switch's target, else the mode in force. -/
def State.switchFrom (s : State) : Nat :=
  match s.mod.comm with
  | some w => w.target
  | none => if s.mod.autoExit then s.fld MOD_ENTRY_entry_mode else s.mode

/-- A switch becomes the pending one; the one it replaces completes SUPERSEDED (R35). -/
def State.pendSwitch (s : State) (r : Req) (target : Nat) : State :=
  let old := s.mod.pend
  let s : State := { s with mod := { s.mod with pend := some { req := some r, target := target, arrived := s.now } } }
  let s := if old.isSome then (s.setFlag MOD_FLAGS_superseded).endSwitch old SUPERSEDED s.frame s.now else s
  s.showSwitch

/-- A MODE_SWITCH reaches the mode unit, its rights checked (R33 to R35, R43). -/
def State.takeSwitch (s : State) (r : Req) (target : Nat) : State :=
  if s.dischargePending ∨ s.mode = 11 then s.done r INVALID
  else if target = 11 then
    let s := s.dropSwitches SUPERSEDED
    if s.running then s.pendSwitch r 11
    else
      let s := s.takeDischarge false false
      s.done r OK
  else if switchOk s.switchFrom target = false then s.done r INVALID
  else if s.switchNotReady s.switchFrom target then (s.missBaked s.switchFrom target).done r NOT_READY
  else s.pendSwitch r target

/-- The pending switch is judged at a latch point and committed, or it completes (R29, R32 to R36): `ready` says which descriptors
both halves hold (R15). A switch into CELLAR or LAYBY from another mode has its bake frame to run. -/
def State.latchSwitch (s : State) (ready : Req → Bool) (start : Bool) : State :=
  match s.mod.pend with
  | none => s
  | some w =>
    if w.target = 11 ∨ s.mod.comm.isSome ∨ s.mod.autoExit ∨ (start = false ∧ (w.req.all ready = false ∨ s.now < w.arrived + 64000)) then s
    else
      let s : State := { s with mod := { s.mod with pend := none } }
      if switchOk s.mode w.target = false then (s.endSwitch (some w) INVALID s.frame s.now).showSwitch
      else if s.switchNotReady s.mode w.target then ((s.missBaked s.mode w.target).endSwitch (some w) NOT_READY s.frame s.now).showSwitch
      else if s.switchLimitsOk s.mode w.target = false then (s.endSwitch (some w) INVALID s.frame s.now).showSwitch
      else
        let bake := (w.target = 7 ∨ w.target = 8) ∧ s.mode ≠ 7 ∧ s.mode ≠ 8
        ({ s with mod := { s.mod with comm := some w, bakeDue := decide bake } }).showSwitch

end Sys2Proof.Machine
end

