-- ==== Sys2Proof/Machine/Overdrive.lean ====
section
/-! DEFINITION. Overdrive (R198 to R206), the history plane (R202, R356, R357), temperature (R207 to R210), damage (R204) and
REGION_UPDATE (R211 to R216). -/

namespace Sys2Proof.Machine

open Sys2Proof Reg

/-! Tables (R198 to R201). -/

/-- Overdrive runs on this panel and in this mode (R198); in LAYBY for tiles under an update alone. -/
def State.odvOn (s : State) : Bool := s.lcd && s.fld ODV_CTRL_en == 1 && (decide (s.mode ≤ 6) || s.mode == 8)

/-- Largest n of the mode (R198). -/
def State.odvMax (s : State) : Nat :=
  match s.pipeMode with
  | 0 => 3
  | 1 => 2
  | 6 => 2
  | _ => 1

/-- A rate set. -/
def State.rateSet (s : State) (r : Nat) : RateSet := Sparse.get {} s.odv.sets r

/-- An entry of a rate set: band, waveform frame, colour, nodes. -/
def RateSet.at (r : RateSet) (b k c p q : Nat) : Nat := r.w.getD (((b * 3 + (k - 1)) * 3 + c) * 1089 + p * 33 + q) 0

/-- The drive level of waveform frame `k` (R201). -/
def waveLevel (r : RateSet) (b k c d v h : Nat) : Nat :=
  let t16 := v * 2 ^ (16 - d)
  let ta := t16 / 2048
  let fa := t16 % 2048
  let p16 := (h * 4 + h / 64) * 64
  let pa := p16 / 2048
  let fp := p16 % 2048
  let acc := r.at b k c pa ta * (2048 - fp) * (2048 - fa) + r.at b k c pa (ta + 1) * (2048 - fp) * fa +
    r.at b k c (pa + 1) ta * fp * (2048 - fa) + r.at b k c (pa + 1) (ta + 1) * fp * fa
  let o16 := (acc + 2 ^ 21) / 2 ^ 22
  min (2 ^ d - 1) ((o16 + 2 ^ (15 - d)) / 2 ^ (16 - d))

/-- A rate-set table's layout (R199). -/
def rateTableOk (b : List Byte) : Bool :=
  crcGood b 156836 && decide (1 ≤ leAt b 0 1) && decide (leAt b 0 1 ≤ 3) && leAt b 1 15 == 0

/-- The rate set in a table's bytes. -/
def rateSetOf (b : List Byte) : RateSet where
  nf := leAt b 0 1
  w := halves b 16 78408

/-- The NTC table's layout and its temperatures. -/
def ntcTableOk (b : List Byte) : Bool := crcGood b 72 && leAt b 66 2 == 0
def ntcTableOf (b : List Byte) : List Int := (halves b 0 33).map (signed 16)

/-- A rate set takes effect (R200). -/
def State.putRateSet (s : State) (r : Nat) (x : RateSet) : State :=
  let s : State := { s with odv := { s.odv with sets := Sparse.set {} s.odv.sets r x } }
  let nf := s.fld ODV_STATUS_nf
  (s.setFld ODV_STATUS_nf (nf - nf / 4 ^ r % 4 * 4 ^ r + x.nf * 4 ^ r)).setFld ODV_STATUS_loading 0

/-! The history plane (R356). -/

def State.histBase (s : State) : Nat := s.fld ODV_HIST_LO_addr_lo * 4096 + s.fld ODV_HIST_HI_addr_hi * 2 ^ 32

/-- The region holds the plane. -/
def State.histOk (s : State) : Bool := s.storeUp && s.inKind 2 s.histBase 401342464

/-- z of a residual, and the residual of a z. -/
def zOf (h pred : Nat) : Nat :=
  let e : Int := ((h + 384 - pred) % 256 : Nat) - 128
  (if 0 ≤ e then 2 * e else -2 * e - 1).toNat
def hOf (z pred : Nat) : Nat := if z % 2 = 0 then (pred + z / 2) % 256 else (pred + 256 - (z + 1) / 2) % 256

/-- The 719 residuals of one colour of a tile, its 720 values in line order. -/
def residualsOf (v : List Nat) : List Nat :=
  (List.range 719).map fun i => zOf (v.getD (i + 1) 0) (if (i + 1) % 30 = 0 then v.getD (i - 29) 0 else v.getD i 0)

/-- The 720 values of one colour from its first value and residuals. -/
def valuesOf (first : Nat) (zs : List Nat) : List Nat :=
  ((List.range 719).foldl (fun (a : List Nat × Nat) i =>
    let pred := if (i + 1) % 30 = 0 then a.2 else a.1.headD 0
    let h := hOf (zs.getD i 0) pred
    (h :: a.1, if (i + 1) % 30 = 0 then h else a.2)) ([first], first)).1.reverse

/-- Bits needed for the largest of a list of numbers. -/
def resWidth (l : List Nat) : Nat := ((List.range 9).find? fun w => l.all fun z => decide (z < 2 ^ w)).getD 8

/-- Numbers packed lowest first with their widths, as one number. -/
def packBits : List (Nat × Nat) → Nat
  | [] => 0
  | p :: ps => p.1 + 2 ^ p.2 * packBits ps

/-- A tile block: its three colours' values to bytes. -/
def histBlock (cs : List (List Nat)) : List Byte :=
  let zs := cs.map residualsOf
  let ws := zs.map resWidth
  let bits := (zs.zip ws).flatMap fun p => p.1.map fun z => (z, p.2)
  let n := 719 * (ws.foldl (· + ·) 0)
  let d := leBytes 1 1 ++ ws.flatMap (leBytes 1) ++ (cs.flatMap fun c => leBytes 1 (c.headD 0)) ++ [0] ++ leBytes ((n + 7) / 8) (packBits bits)
  d ++ List.replicate ((64 - d.length % 64) % 64) 0

/-- The values of a colour in a tile block. -/
def histColour (d : List Byte) (c : Nat) : List Nat :=
  let w (i : Nat) : Nat := leAt d (1 + i) 1
  let start := 719 * ((List.range c).foldl (fun n i => n + w i) 0)
  let zs := (List.range 719).map fun i => leAt d (8 + (start + i * w c) / 8) 3 / 2 ^ ((start + i * w c) % 8) % 2 ^ w c
  valuesOf (leAt d (4 + c) 1) zs

/-- Length of a tile's block in 64-byte units; 0 where none has been written. -/
def State.histLen (s : State) (t : Nat) : Nat := s.ppaLe (s.histBase + t) 1

/-- A tile's stored block. -/
def State.histBytes (s : State) (t : Nat) : List Byte := s.bytes (s.histBase + 0x40000 + t * 2176) (64 * s.histLen t)

/-- A line of a tile's history can be read. -/
def State.histReadable (s : State) (t : Nat) : Bool :=
  s.histOk && s.readable (s.histBase + t) 1 && s.readable (s.histBase + 0x40000 + t * 2176) (64 * s.histLen t)

/-- The line fetch unit of cluster `c` reads the history of tile row `q` into cluster memory (R228, R357): each tile's block and its
length byte, where they can be read. -/
def State.fetchHist (s : State) (c q : Nat) : State :=
  let at_ (i : Nat) : Nat := 512 * q + 16 * c + i
  let ok := (List.range 16).filter fun i => s.histReadable (at_ i)
  let mem := ok.foldl (fun m i =>
    Sparse.write 0 (Sparse.write 0 m (histOff q + 2176 * i) (s.histBytes (at_ i))) (histOff q + 0x8800 + i)
      [BitVec.ofNat 8 (s.histLen (at_ i))]) (s.cl c).mem
  let row : Nat × Half := (q, BitVec.ofNat 16 (ok.foldl (fun n i => n + 2 ^ i) 0))
  let s := ok.foldl (fun s i => (s.countRecon (s.histBase + at_ i) 1).countRecon (s.histBase + 0x40000 + at_ i * 2176) (64 * s.histLen (at_ i))) s
  let cl := (s.cl c).ask 17
  s.setCl c { cl with mem := mem, hist := (cl.hist.filter fun e => e.1 % 3 != q % 3) ++ [row] }

/-- The block of tile `t` as its cluster's memory holds it, empty where none has been written; none where its row has not been read. -/
def State.heldHist (s : State) (t : Nat) : Option (List Byte) :=
  let q := t / 512
  let i := t % 16
  let cl := s.cl (t % 512 / 16)
  match cl.hist.find? fun e => e.1 == q && e.2.getLsbD i with
  | some _ => some (Sparse.read 0 cl.mem (histOff q + 2176 * i) (64 * (Sparse.get 0 cl.mem (histOff q + 0x8800 + i)).toNat))
  | none => none

/-- A tile row whose stored history has changed is no longer held by a cluster's line fetch unit. -/
def State.dropHist (s : State) (q : Nat) : State :=
  (List.range 32).foldl (fun s c =>
    if (s.cl c).hist.any (·.1 == q) then s.setCl c { s.cl c with hist := (s.cl c).hist.filter (·.1 != q) } else s) s

/-- 90 values of a block's line `w`, 30 columns by 3 colours. -/
def blockLine (d : List Byte) (w : Nat) : List Nat :=
  let cs := (List.range 3).map (histColour d)
  (List.range 90).map fun j => (cs.getD (j % 3) []).getD (30 * w + j / 3) 0

/-- The stored h of a tile's line `w`. -/
def State.histLine (s : State) (t w : Nat) : List Nat := blockLine (s.histBytes t) w

/-- The tile row of the lines held is written back (R357): blocks, then the row's length bytes; a line that has not passed
in this frame keeps its stored values. -/
def State.writeHistRow (s : State) : State :=
  match s.odv.hist with
  | [] => s
  | (y0, _) :: _ =>
    let q := y0 / 24
    if s.histOk = false then ({ s with odv := { s.odv with hist := [] } }).regionMiss
    else
      let line (t w : Nat) : List Nat :=
        match s.odv.hist.find? fun e => e.1 == 24 * q + w with
        | some e => (e.2.drop (90 * (t % 512))).take 90
        | none => if s.histLen t = 0 then List.replicate 90 0 else s.histLine t w
      let blocks := (List.range 512).map fun i =>
        let ls := (List.range 24).map (line (512 * q + i))
        histBlock ((List.range 3).map fun c => ls.flatMap fun l => (List.range 30).map fun u => l.getD (3 * u + c) 0)
      let s' := (blocks.zipIdx).foldl (fun s b => s.bufWrite (s.histBase + 0x40000 + (512 * q + b.2) * 2176) b.1) s
      let s' := s'.bufWrite (s.histBase + 512 * q) (blocks.map fun b => BitVec.ofNat 8 (b.length / 64))
      ({ s' with odv := { s'.odv with hist := [] } }).dropHist q

/-! One line (R205, R206). -/

/-- thr of R205. -/
def State.odvThr (s : State) : Nat := max 1 (s.fld ODV_CTRL_thr)

/-- t8 of R205. -/
def level8 (d v : Nat) : Nat := min 255 ((v + 2 ^ (d - 9)) / 2 ^ (d - 8))

/-- One subpixel of a tile: drive level, history written, and whether it took the table branch. -/
def State.odvPixel (s : State) (x : Tile) (d c v h : Nat) : Nat × Nat × Bool :=
  let t8 := level8 d v
  if (t8 - h) + (h - t8) < s.odvThr ∨ x.nL = 0 then (v, t8, false)
  else (waveLevel (s.rateSet x.rsL) x.bandL x.k c d v h, if x.k = x.nL then t8 else h, true)

/-- A tile's 90 subpixels of one line: `h` none where the history may not be used. -/
def State.odvTile (s : State) (x : Tile) (d : Nat) (v : List Nat) (h : Option (List Nat)) : List (Nat × Nat × Bool) :=
  match h with
  | none => v.map fun v => (v, level8 d v, false)
  | some h => (List.range 90).map fun j => s.odvPixel x d (j % 3) (v.getD j 0) (h.getD j 0)

/-- Overdrive on a line of modes 0 to 6: active line `a` with its targets; `bad` are tiles whose history line was not in
time. Drive levels at depth d, and the part after the line. -/
def State.overdriveLine (s : State) (a : Nat) (v : List Nat) (bad : List Nat) : List Nat × State :=
  if s.odvOn = false then (v, s)
  else
    let d := s.depth
    let y := s.panelLine a
    let step (acc : List Nat × List Nat × State) (i : Nat) : List Nat × List Nat × State :=
      let (outs, hs, s) := acc
      let t := 512 * (y / 24) + i
      let x := s.tile t
      let px := (v.drop (90 * i)).take 90
      let held := s.heldHist t
      let late := x.histValid && (bad.contains t || held.isNone)
      let s := if late then (s.setFlag ODV_FLAGS_hist_err).setTile t { x with histValid := false } else s
      let block := held.getD []
      let l := s.odvTile x d px (if x.histValid && !late && !block.isEmpty then some (blockLine block (y % 24)) else none)
      let s := if l.any (·.2.2) then
          let x := s.tile t
          s.setTile t { x with moved := true, tgt := x.tgt ++ (s.panelLines a).map fun y => (y % 24, px.map (level8 d)) }
        else s
      (outs ++ l.map (·.1), hs ++ l.map (·.2.1), s)
    let (outs, hs, s) := (List.range 512).foldl step ([], [], s)
    let s : State := { s with odv := { s.odv with hist := s.odv.hist ++ (s.panelLines a).map fun y => (y, hs) } }
    (outs, if (s.panelLines a).any (fun y => y % 24 == 23) || a + 1 == s.fld SCN_VACTIVE_VFRONT_vactive then s.writeHistRow else s)

/-! Temperature (R207 to R209). -/

/-- A driver's temperature in use (R207). -/
def State.drvTemp (s : State) (d : Nat) : Option Int :=
  let x := Sparse.get {} s.kdl.drivers d
  match x.temp with
  | some t => if x.bcSync ∧ s.now ≤ x.tempAt + 100000000 then some (t - signed 16 (s.fld ODV_TEMP_CFG_drv_off)) else none
  | none => none

/-- An NTC's temperature in use. -/
def State.ntcTemp (s : State) (k : Nat) : Option Int :=
  if s.fld (ODV_NTC_POS_en k) = 1 ∧ s.fld (ODV_NTC_TEMP_valid k) = 1 then some (signed 16 (s.fld (ODV_NTC_TEMP_temp k))) else none

/-- E(s) of R208, from the drivers' and the NTCs' temperatures. -/
def stripTemp (drv ntc : List (Option Int)) (dflt : Int) (strip : Nat) : Int :=
  let n := strip / 8
  let best := (List.range 64).foldl (fun (b : Option Nat) d =>
    if (drv.getD d none).isNone then b
    else match b with
      | none => some d
      | some e => if (d - n) + (n - d) < (e - n) + (n - e) then some d else b) none
  match best with
  | some d => (drv.getD d none).getD dflt
  | none =>
    let ts := ntc.filterMap id
    if ts.isEmpty then dflt else (ts.foldl (· + ·) 0).tdiv ts.length

/-- The used NTC nearest a tile (R208). -/
def State.nearNtc (s : State) (ntc : List (Option Int)) (strip row : Nat) : Option Nat :=
  let dist (k : Nat) : Nat :=
    let p := s.fld (ODV_NTC_POS_strip k)
    let q := s.fld (ODV_NTC_POS_row k)
    30 * ((strip - p) + (p - strip)) + 24 * ((row - q) + (q - row))
  (List.range 8).foldl (fun (b : Option Nat) k =>
    if (ntc.getD k none).isNone then b
    else match b with
      | none => some k
      | some e => if dist k < dist e then some k else b) none

/-- The field of a tile (R208). -/
def State.fieldOf (s : State) (drv ntc : List (Option Int)) (t : Nat) : Int :=
  let dflt := signed 16 (s.fld ODV_TEMP_DEFAULT_temp)
  let e := stripTemp drv ntc dflt (t % 512)
  match s.nearNtc ntc (t % 512) (t / 512) with
  | none => e
  | some k =>
    let far := s.fld ODV_TEMP_CFG_edge = 1
    let dq := if far then 359 - t / 512 else t / 512
    let row := s.fld (ODV_NTC_POS_row k)
    let dk := if far then 359 - row else row
    let rho := (ntc.getD k none).getD dflt - stripTemp drv ntc dflt (s.fld (ODV_NTC_POS_strip k))
    e + (if dk ≤ dq ∨ dk = 0 then rho else (rho * dq).tdiv dk)

/-- The field recomputed at a SOB (R207). -/
def State.computeField (s : State) : State :=
  let drv := (List.range 64).map s.drvTemp
  let ntc := (List.range 8).map s.ntcTemp
  { s with odv := { s.odv with field := (List.range tileCount).map (s.fieldOf drv ntc) } }

/-- The band of a temperature without hysteresis. -/
def State.bandAt (s : State) (t : Int) : Nat :=
  (List.range 7).foldl (fun b k => if signed 16 (s.fld (ODV_BAND_EDGE_edge (k + 1))) ≤ t then k + 1 else b) 0

/-- A tile's band at a boundary (R209). -/
def State.bandNext (s : State) (b : Nat) (t : Int) : Nat :=
  if s.odv.fieldDone = false then s.bandAt t
  else if (b < 7 ∧ signed 16 (s.fld (ODV_BAND_EDGE_edge (b + 1))) ≤ t) ∨
      (0 < b ∧ t < signed 16 (s.fld (ODV_BAND_EDGE_edge b)) - 16) then s.bandAt t
  else b

/-- The field of the last SOB applies, and the bands follow it, with TEMP_BAND (R207, R209). -/
def State.bandBoundary (s : State) : State :=
  if s.odv.field.isEmpty then s
  else
    let r := (s.odv.field.zipIdx).foldl (fun (a : State × List (Nat × Nat × Nat)) e =>
      let x := a.1.tile e.2
      let b := s.bandNext x.bandC e.1
      (a.1.setTile e.2 { x with temp := e.1, bandC := b }, if b = x.bandC then a.2 else a.2 ++ [(e.2, x.bandC, b)])) (s, [])
    let t := r.1
    let t : State := { t with odv := { t.odv with fieldDone := true, field := [] } }
    match r.2 with
    | [] => t
    | c :: _ =>
      let n := r.2.length
      ((t.addSat ODV_BAND_CNT_count 0 0 n).setFlag ODV_FLAGS_band).raise 0x50 0x0A
        (c.1 + 2 ^ 18 * c.2.1 + 2 ^ 21 * c.2.2 + 2 ^ 24 * min 255 n)

/-- NTC_MEASURE (R207): the code is shown, and converted once the table is loaded. While the converters are trimmed, the last
readings hold (R424). -/
def execNtcMeasure (k code : Nat) (s : State) : Host.Outcome State Fault Refusal :=
  .next (
    if k < 8 ∧ s.trimming = false then
      let c := min 4095 code
      let s := s.setFld (ODV_NTC_TEMP_code k) c
      match s.odv.ntcTab with
      | some t => (s.setFld (ODV_NTC_TEMP_valid k) 1).setFld (ODV_NTC_TEMP_temp k) (unsigned 16 (interp (fun i => t.getD i 0) 32 128 c))
      | none => s
    else s)

/-! Damage (R204). -/

/-- A rectangle of tiles: strips and tile rows, first and last. -/
structure TileRect where
  s0 : Nat
  s1 : Nat
  q0 : Nat
  q1 : Nat
  deriving DecidableEq, Repr

/-- A tile lies in a rectangle. -/
def TileRect.has (r : TileRect) (t : Nat) : Bool :=
  decide (r.s0 ≤ t % 512) && decide (t % 512 ≤ r.s1) && decide (r.q0 ≤ t / 512) && decide (t / 512 ≤ r.q1)

/-- Tiles that a rectangle of content pixels touches; none where it lies off the panel. -/
def State.tileRect (s : State) (x y : Int) (w h : Nat) : Option TileRect :=
  let z : Int := if s.pipeMode = 3 then 2 else 1
  let x0 := max 0 (x * z)
  let x1 := min 15359 ((x + w) * z - 1)
  let y0 := max 0 (y * z)
  let y1 := min 8639 ((y + h) * z - 1)
  if x1 < x0 ∨ y1 < y0 then none
  else some ⟨x0.toNat / 30, x1.toNat / 30, y0.toNat / 24, y1.toNat / 24⟩

/-- Tiles of a layer's destination rectangle; for S also those of the safe image while it is shown. -/
def State.layerTiles (s : State) (l : Nat) : List TileRect :=
  let r := (s.tileRect (s.layer l).x (s.layer l).y (s.dstW l) (s.dstH l)).toList
  if l = 12 ∧ s.flag LYR_S_STATUS_safe ∧ s.fld LYR_S_STATUS_safe_valid = 1 then
    r ++ (s.tileRect (signed 16 (s.safeFld 4 2)) (signed 16 (s.safeFld 6 2)) (s.safeFld 0 2) (s.safeFld 2 2)).toList
  else r

/-- Layers blended in the frame, as a mask. -/
def State.viewMask (s : State) : Nat := (List.range 13).foldl (fun n l => if s.blended l then n + 2 ^ l else n) 0

/-- Damage of the new frame: `old` is the part before the boundary, `bridge` says that the frame is a bridge frame, which
repeats the last one. -/
def State.damaged (s old : State) (bridge : Bool) : List TileRect :=
  if bridge then []
  else if s.lyr.damageAll ∨ s.mode = 5 then [⟨0, 511, 0, 359⟩]
  else
    let v := s.viewMask
    (List.range 13).flatMap fun l =>
      if (s.layer l).changed ∨ (s.mode = 4 ∧ v.testBit l ≠ s.lyr.lastView.testBit l) then old.layerTiles l ++ s.layerTiles l else []

/-- The change marks of the frame are spent. -/
def State.clearDamage (s : State) : State :=
  let v := s.viewMask
  let s := (List.range 13).foldl (fun s l => if (s.layer l).changed then s.setLayer l { s.layer l with changed := false } else s) s
  { s with lyr := { s.lyr with damageAll := false, lastView := v } }

/-! Region updates (R211 to R216). -/

/-- Tiles of an update. -/
def regionTiles (a : RegionArgs) : List Nat :=
  (List.range a.nrows).flatMap fun j => (List.range a.nstrips).map fun i => 512 * (a.row0 + j) + a.strip0 + i

/-- Bytes of a patch. -/
def regionPatch (a : RegionArgs) : Nat := a.pitch * (24 * a.nrows - 1) + (fmtD a.format).pitch (30 * a.nstrips)

/-- Values of R211's table. -/
def regionOk (a : RegionArgs) : Bool :=
  decide (1 ≤ a.nstrips) && decide (a.strip0 + a.nstrips ≤ 512) && decide (1 ≤ a.nrows) && decide (a.row0 + a.nrows ≤ 360) &&
    (a.patch == 0 ||
      (decide (a.patch < 2 ^ 48) && (a.format == 3 || a.format == 5) && a.pitch % 64 == 0 &&
        decide ((fmtD a.format).pitch (30 * a.nstrips) ≤ a.pitch)))

/-- The rectangle meets S's destination rectangle. -/
def State.meetsS (s : State) (a : RegionArgs) : Bool :=
  (s.tileRect (s.layer 12).x (s.layer 12).y (s.dstW 12) (s.dstH 12)).any fun r =>
    decide (r.s0 < a.strip0 + a.nstrips) && decide (a.strip0 ≤ r.s1) && decide (r.q0 < a.row0 + a.nrows) && decide (a.row0 ≤ r.q1)

/-- Status of a REGION_UPDATE at its acceptance; OK where it is accepted (R211). A patch needs the frame store (R348). -/
def State.regionStatus (s : State) (p : Nat) (a : RegionArgs) : Nat :=
  if 9 ≤ s.mode ∨ (a.patch ≠ 0 ∧ s.storeUp = false) then NOT_READY
  else if regionOk a = false ∨ (a.patch ≠ 0 ∧ s.mode ≤ 6) then INVALID
  else if (a.patch ≠ 0 ∧ s.inOwn 1 p a.patch (regionPatch a) = false) ∨ ((s.layer 12).en ∧ s.isSafety p = false ∧ s.meetsS a) then DENIED
  else if 8192 ≤ s.odv.regions.length then NO_RESOURCE
  else OK

/-- Contexts in use shown. -/
def State.showRegions (s : State) : State := s.setFld ODV_RU_ACTIVE_running s.odv.regions.length

/-- A REGION_UPDATE reaches the half pipelines (R211, R212). -/
def State.takeRegion (s : State) (r : Req) (a : RegionArgs) : State :=
  let st := s.regionStatus r.h.part a
  if st ≠ OK then s.done r st
  else
    let id := ((List.range 8192).find? fun i => !s.odv.regions.any fun x => x.id == i).getD 0
    let x : Region := { id := id, req := r, a := a, arrived := s.now }
    ({ s with odv := { s.odv with regions := s.odv.regions ++ [x] } }).showRegions

/-- Updates at a latch point: those 64 µs old or more are latched, or slip under R15 (R212). -/
def State.latchRegions (s : State) (ready : Req → Bool) (start : Bool) : State :=
  { s with odv := { s.odv with regions := s.odv.regions.map fun x =>
      if x.latched ∨ (start = false ∧ s.now < x.arrived + 64000) then x
      else if (ready x.req || start) = true then { x with latched := true }
      else { x with late := true } } }

/-- Finished updates complete and free their contexts (R213). -/
def State.finishRegions (s : State) : State :=
  let fin (x : Region) : Bool := x.eff.isSome && x.left.isEmpty
  let ds := s.odv.regions.filter fin
  let s : State := { s with odv := { s.odv with regions := s.odv.regions.filter fun x => !fin x } }
  let s := ds.foldl (fun s x =>
    let e := x.eff.getD (0, 0)
    let s := if x.passed then s.setFlag ODV_FLAGS_ru_superseded else s
    s.complete x.req (if x.passed then SUPERSEDED else if x.late then LATE else OK) e.1 e.2) s
  if ds.isEmpty then s else s.showRegions

/-- An update takes its tiles (R212); a tile that passes from another is lost to it. -/
def State.effectRegion (s : State) (frame : Nat) (tb : Ns) (id : Nat) : State :=
  match s.odv.regions.find? (·.id == id) with
  | none => s
  | some x =>
    let ts := regionTiles x.a
    let rs := s.odv.regions.map fun y =>
      if y.id = id then { y with eff := some (frame, tb), left := ts }
      else if y.left.any ts.contains then { y with left := y.left.filter fun t => !ts.contains t, passed := true }
      else y
    let s : State := { s with odv := { s.odv with regions := rs } }
    ts.foldl (fun s t => s.setTile t { s.tile t with ru := some id, damage := true, bake := [] }) s

/-- Latched updates take effect in R13's order. -/
def State.effectRegions (s : State) (frame : Nat) (tb : Ns) : State :=
  let ids := (sortReq Region.req (s.odv.regions.filter fun x => x.latched && x.eff.isNone)).map (·.id)
  (ids.foldl (fun s id => s.effectRegion frame tb id) s).finishRegions

/-- Tiles settle under their updates (R212). -/
def State.settle (s : State) (ts : List Nat) : State :=
  let rs := s.odv.regions.map fun x => { x with left := x.left.filter fun t => !ts.contains t }
  let s : State := { s with odv := { s.odv with regions := rs } }
  (ts.foldl (fun s t => s.setTile t { s.tile t with ru := none, bake := [] }) s).finishRegions

/-- Running updates complete ABORTED (R216). -/
def State.abortRegions (s : State) : State :=
  let rs := s.odv.regions
  let s : State := { s with odv := { s.odv with regions := [] } }
  let s := (s.odv.tiles.map (·.1)).foldl (fun s t => if (s.tile t).ru.isSome then s.setTile t { s.tile t with ru := none, bake := [] } else s) s
  (s.doneAll (rs.map (·.req)) ABORTED).showRegions

/-! Frames (R205, R206). -/

/-- The tile takes part in overdrive in this frame: every tile in modes 0 to 6, in LAYBY those under an update. -/
def State.odvActive (s : State) (x : Tile) : Bool := s.odvOn && (decide (s.mode ≤ 6) || x.ru.isSome)

/-- A tile at the start of a frame (R205): its waveform frame, and what is latched where a waveform may start. -/
def State.tileStart (s : State) (x : Tile) : Tile :=
  let seed := !x.histValid
  if s.odvActive x = false then { x with k := 1, moved := false, tgt := [], seed := false, acc := [] }
  else if x.wf = 0 ∨ x.damage then
    let rs := s.fld ODV_CTRL_rate_set
    { x with k := 1, bandL := x.bandC, rsL := rs, nL := min (s.rateSet rs).nf s.odvMax, moved := false, tgt := [], seed := seed, acc := [] }
  else { x with k := x.wf, moved := false, tgt := [], seed := seed, acc := [] }

/-- Mean and maximum by colour from a frame's sums, counts and maxima (R9). -/
def statsOf (acc : List Nat) : List Nat :=
  (List.range 3).flatMap fun c =>
    let n := acc.getD (3 * c + 1) 0
    [if n = 0 then 0 else acc.getD (3 * c) 0 / n, acc.getD (3 * c + 2) 0]

/-- A tile at the end of a frame. -/
def State.tileEnd (s : State) (x : Tile) : Tile :=
  let x : Tile := { x with stats := if x.acc.isEmpty then x.stats else statsOf x.acc, acc := [], damageLast := x.damage, damage := false }
  if s.odvActive x = false then { x with wf := 0 }
  else if x.histValid = false ∨ x.moved = false ∨ x.k = x.nL then { x with wf := 0, histValid := x.histValid || x.seed }
  else { x with wf := (x.k + 1) % 4 }

/-- The start of a frame: damage, and the tiles' waveforms. -/
def State.odvFrameStart (s old : State) (bridge : Bool) : State :=
  let rs := s.damaged old bridge
  let s := if s.odv.histInval then { s.histClear with odv := { s.histClear.odv with histInval := false } } else s
  let s := (List.range tileCount).foldl (fun s t =>
    let x := s.tile t
    let y : Tile := { x with damage := x.damage || rs.any (·.has t) }
    s.setTile t (s.tileStart y)) s
  if bridge then s else s.clearDamage

/-! Patches (R214). -/

/-- The level at the engine stage's input of a patch's subpixel at panel position (x, y): the sample expanded (R128) and rounded to the
entry mode's depth (R135). -/
def State.patchLevel (s : State) (a : RegionArgs) (x y k : Nat) : Nat :=
  let v := s.comp16 (fmtD a.format) a.patch a.pitch (x - 30 * a.strip0) (y - 24 * a.row0) k
  let d := s.depth
  min (2 ^ d - 1) ((v + 2 ^ (15 - d)) / 2 ^ (16 - d))

/-- The samples of a patch for one strip of panel line `y`, as an area, and whether they can be read. -/
def patchArea (a : RegionArgs) (strip y : Nat) : Nat × Nat :=
  let w := (fmtD a.format).stored
  (a.patch + (y - 24 * a.row0) * a.pitch + 30 * (strip - a.strip0) * w / 8, (30 * w + 7) / 8)
def State.patchReadable (s : State) (a : RegionArgs) (strip y : Nat) : Bool :=
  s.readable (patchArea a strip y).1 (patchArea a strip y).2

/-- A baked level at panel column `x` of stored line `a` (R358). -/
def State.bakedLevel (s : State) (a x k : Nat) : Nat := s.ppaLe (s.bakedAddr + (a * 15360 + x) * 4) 4 / 2 ^ (10 * k) % 1024

/-- Bytes of a baked line from its drive levels, three to a pixel. -/
def bakedBytes (l : List Nat) : List Byte :=
  (List.range (l.length / 3)).flatMap fun x => leBytes 4 (l.getD (3 * x) 0 + 1024 * l.getD (3 * x + 1) 0 + 2 ^ 20 * l.getD (3 * x + 2) 0)

/-- The update whose patch covers a tile. -/
def State.patchOf (s : State) (t : Nat) : Option RegionArgs :=
  match (s.tile t).ru with
  | some id => ((s.odv.regions.find? (·.id == id)).map (·.a)).filter (·.patch != 0)
  | none => none

/-- Strips of active line `a` that a patch covers (R214), and the clusters they lie in, as a mask. -/
def State.patchStrips (s : State) (a : Nat) : List Nat :=
  (List.range 512).filter fun i => (s.patchOf (512 * (s.panelLine a / 24) + i)).isSome
def carryMask (strips : List Nat) : Word :=
  BitVec.ofNat 32 ((List.range 32).foldl (fun n c => if strips.any (· / 16 == c) then n + 2 ^ c else n) 0)

/-- A tile under a patch on stored line `a` (R214): its 90 drive levels from the targets `v` that left the engine stage and the baked
levels, which are its history in LAYBY (R205); `h` false where they cannot be read (R206). The dithered targets are kept for the baked
frame. -/
def State.patchTile (s : State) (a i : Nat) (baked v : List Nat) (h : Bool) : List Nat × State :=
  let t := 512 * (s.panelLine a / 24) + i
  let lost := s.mode == 8 && s.odvOn && !h && (s.tile t).histValid
  let s := if lost then (s.setFlag ODV_FLAGS_hist_err).setTile t { s.tile t with histValid := false } else s
  let x := s.tile t
  let l := (List.range 90).map fun j =>
    let w := v.getD j 0
    if s.mode = 8 ∧ s.odvOn ∧ x.histValid then s.odvPixel x s.depth (j % 3) w (min 255 ((baked.getD j 0 + 2) / 4)) else (w, 0, false)
  let lev (l : List Nat) : List Nat := l.mapIdx fun j w => s.dithered (30 * i + j / 3) a (j % 3) w
  (lev (l.map (·.1)), s.setTile t { x with
    moved := x.moved || l.any (·.2.2), bake := (x.bake.filter (·.1 != a)) ++ [(a, lev (v.take 90))] })

/-- Levels written over a line's columns from `x` on. -/
def spliceLine (px : List Nat) (x : Nat) (l : List Nat) : List Nat := px.take (3 * x) ++ (l ++ px.drop (3 * x + l.length))

/-- A settled tile's dithered targets go into the baked frame (R9, R214), and into its lines that the cellar prefetch holds. -/
def State.bakeTile (s : State) (t : Nat) : State :=
  let x := 30 * (t % 512)
  (s.tile t).bake.foldl (fun s e =>
    let s := s.partWrite 3 (s.bakedAddr + (e.1 * 15360 + x) * 4) (bakedBytes e.2)
    { s with eng := { s.eng with prefetch := s.eng.prefetch.map fun l => if l.1 = e.1 then (l.1, spliceLine l.2 x e.2) else l } }) s

/-- The waveform of a tile ends at its settle level: the history takes the targets of the lines on which a subpixel moved
(R42). -/
def State.endWave (s : State) (t : Nat) : State :=
  let x := s.tile t
  let ok := !x.tgt.isEmpty && s.histReadable t && s.histLen t != 0
  let s := s.setTile t { x with wf := 0, moved := false, tgt := [] }
  if ok then
    let ls := (List.range 24).map fun w =>
      match x.tgt.find? fun e => e.1 == w with
      | some e => e.2
      | none => s.histLine t w
    let b := histBlock ((List.range 3).map fun c => ls.flatMap fun l => (List.range 30).map fun u => l.getD (3 * u + c) 0)
    ((s.bufWrite (s.histBase + 0x40000 + t * 2176) b).bufWrite (s.histBase + t) [BitVec.ofNat 8 (b.length / 64)]).dropHist (t / 512)
  else s

/-- Truncation (R42): every waveform in progress ends, and its tile counts as settled, its patch baked (R214, R216). -/
def State.truncate (s : State) : State :=
  let s := (List.range tileCount).foldl (fun s t => if (s.tile t).wf = 0 then s else s.endWave t) s
  let ts := (List.range tileCount).filter fun t => (s.tile t).ru.isSome
  let s := if s.mode = 7 ∨ s.mode = 8 then ts.foldl State.bakeTile s else s
  s.settle ts

/-- The end of a frame (R205, R212 to R214): tiles, then the updates whose tiles have settled, their patches baked. -/
def State.odvFrameEnd (s : State) : State :=
  let s := (List.range tileCount).foldl (fun s t => s.setTile t (s.tileEnd (s.tile t))) s
  let ts := (List.range tileCount).filter fun t => (s.tile t).ru.isSome && (s.tile t).wf == 0
  let s := if s.mode = 7 ∨ s.mode = 8 then ts.foldl State.bakeTile s else s
  s.settle ts

end Sys2Proof.Machine
end

