-- ==== Sys2Proof/Machine/Queues.lean ====
section
/-! DEFINITION. Queues of the host interface: enabling, doorbells, local rings, messages that fall due later, and the reset of a
partition's host interface (R314 to R322, R336, R341 to R343). -/

namespace Sys2Proof.Machine

open Sys2Proof Reg

/-- The partition whose allocation holds a queue context (R315). -/
def State.gqPart (s : State) (g : Nat) : Option Nat :=
  (List.range 4).find? fun p =>
    decide (256 * s.fld (HIF_QALLOC_base p) ≤ g) &&
      decide (g < 256 * s.fld (HIF_QALLOC_base p) + 256 * s.fld (HIF_QALLOC_count p))

/-- The enabled queues, by global number. -/
def State.qsOn (s : State) : List Nat :=
  s.regs.filterMap fun e => if e.1 % 2 ^ 20 = HIF_Q_CFG / 4 ∧ e.2.getLsbD 31 then some (e.1 / 2 ^ 20 % 2 ^ 20) else none

/-- A queue is enabled: head and tail 0 (R316). Its counts stay. -/
def State.queueFresh (s : State) (g : Nat) : State :=
  s.setQueue g { ({} : Queue) with dropped := (s.queue g).dropped, rejected := (s.queue g).rejected }

/-- Completions that wait for a CQ are discarded and counted (R316). -/
def State.dropHeld (s : State) (p i g : Nat) : State :=
  let n := (s.hif.held.filter fun c => c.p == p && c.cq == i).length
  let s : State := { s with hif := { s.hif with held := s.hif.held.filter fun c => !(c.p == p && c.cq == i) } }
  if n = 0 then s else s.qDrop g n

/-- A queue is disabled (R316): its undispatched entries go, an open chain among them. -/
def State.queueOff (s : State) (p g : Nat) : State :=
  let s := (s.setFldI HIF_Q_CFG_en g 0).queueFresh g
  let s := s.dropHeld p (s.lq p g) g
  { s with lyr := { s.lyr with open_ := s.lyr.open_.filter fun c => !(c.1 == p && c.2.1 == s.lq p g) } }

/-- HIF_DB_DROP and its flag: a doorbell write was ignored (R321). -/
def State.dbDrop (s : State) (p : Nat) : State := (s.addSat HIF_DB_DROP_count 0 p 1).setFldP HIF_FLAGS_db_drop p 1

/-- Completions kept for a CQ are written while it has room, in the order they fell due (R336). -/
def State.writeHeld : Nat → State → Nat → Nat → State
  | 0, s, _, _ => s
  | fuel + 1, s, p, g =>
    if (s.queue g).err ≠ 0 ∨ s.qCount g = s.qSize g then s
    else
      match s.hif.held.find? fun c => c.p == p && c.cq == s.lq p g with
      | none => s
      | some c =>
        let s : State := { s with hif := { s.hif with held := s.hif.held.erase c } }
        State.writeHeld fuel (s.writeRecord p g c.tag.toNat c.status c.frame c.tb) p g

/-- LOG_OVERFLOW goes into an EQ whose space has freed after it dropped events (R341). -/
def State.writeLost (s : State) (p g : Nat) : State :=
  let q := s.queue g
  if q.lost = 0 ∨ s.eqFull g then s
  else (s.setQueue g { q with lost := 0 }).writeRecord p g 0x90 0x01 q.lost s.now

/-- A head doorbell has freed entries: what waits is written, and the next message is sent at once where records remain
(R336, R341, R343). -/
def State.headFreed (s : State) (p g : Nat) : State :=
  let s := if s.qKind g = 1 then s.writeHeld s.hif.held.length p g else s.writeLost p g
  let q := s.queue g
  if q.await = false then s
  else if s.qCount g = 0 then s.setQueue g { q with await := false, recs := 0 }
  else (s.setQueue g { q with await := false }).msixDue p g

/-- A doorbell with an index reaches an enabled queue that is not in ERROR (R320, R321). -/
def State.bell (s : State) (p g idx : Nat) : State :=
  let q := s.queue g
  let size := s.qSize g
  let head := q.head.toNat
  if 65536 ≤ idx ∨ size ≤ ringPos idx then s.qError p g 1
  else if s.qKind g = 0 then
    if size < ringCount size head idx then s.qError p g 1 else s.setQueue g { q with tail := BitVec.ofNat 16 idx }
  else if s.qCount g < ringCount size head idx then s.qError p g 1
  else (s.setQueue g { q with head := BitVec.ofNat 16 idx }).headFreed p g

/-- A write to BAR2 (R320, R321). Before the release of the host interface no port's BARs are set up (R489). -/
def State.bar2Write (s : State) (p off size : Nat) (v : BitVec 64) : State :=
  if s.reachable p = false then s
  else if s.partOn p = false ∨ off % 8 ≠ 0 ∨ ¬(size = 4 ∨ size = 8) then s.dbDrop p
  else
    match s.gq p (off / 8) with
    | none => s.dbDrop p
    | some g => if s.qEn g = false ∨ (s.queue g).err ≠ 0 then s.dbDrop p else s.bell p g (v.toNat % 2 ^ 32)

/-- A write of the area through the frame-store agent acts as the doorbell of every local ring whose header bytes 0 and 1
it reaches (R319). -/
def State.ringBells (s : State) (a n : Nat) : State :=
  s.qsOn.foldl (fun s g =>
    let h := s.qBase g - 64
    if s.qLoc g ∧ h < a + n ∧ a < h + 2 then
      match s.gqPart g with
      | some p => if s.qEn g = false ∨ (s.queue g).err ≠ 0 then s.dbDrop p else s.bell p g (s.ppaLe h 2)
      | none => s
    else s) s

/-- A register word belongs to partition `p`'s host interface (R314): its HIF banks, and the queues of its allocation. -/
def State.hifWord (s : State) (p key : Nat) : Bool :=
  let off := key % 2 ^ 20 * 4
  let ix := key / 2 ^ 20 % 2 ^ 20
  off / 0x10000 == 12 &&
    (match regAt off with
     | some d => d.scope == .part && (if d.ix = .queue then s.gqPart ix == some p else key / 2 ^ 40 == p)
     | none => false)

/-- A partition's keys of a collection numbered by partition × `n`. -/
def dropPart {α : Type} (m : Sparse α) (p n : Nat) : Sparse α := m.filter fun e => e.1 / n != p

/-- The host interface of a partition is reset (R314): queues, records due, messages, and its registers. -/
def State.resetHost (s : State) (p : Nat) : State :=
  if 4 ≤ p then s
  else
    let h := s.hif
    { s with
      regs := s.regs.filter fun e => !s.hifWord p e.1
      lyr := { s.lyr with open_ := s.lyr.open_.filter fun c => c.1 != p }
      hif := { h with
        queues := h.queues.filter fun e => !(s.gqPart e.1 == some p)
        held := h.held.filter fun c => c.p != p
        mask := dropPart h.mask p 2048
        pba := dropPart h.pba p 2048
        fmask := h.fmask.filter fun e => e.1 != p
        table := dropPart h.table p 8192 } }

/-- HP_PERST (R314). -/
def execHpPerst (n : Nat) (s : State) : Host.Outcome State Fault Refusal := .next (s.resetHost n)

/-- FLR (R314). -/
def execFlr (n : Nat) (s : State) : Host.Outcome State Fault Refusal := .next (s.resetHost n)

/-- MSIX_AGG_TIMEOUT (R343): `agg_time` after the first unannounced record, if no message waits for its doorbell. -/
def execMsixAggTimeout (p q : Nat) (s : State) : Host.Outcome State Fault Refusal :=
  .next (
    match s.gq p q with
    | some g =>
      let x := s.queue g
      if s.qEn g ∧ s.qKind g ≠ 0 ∧ s.qLoc g = false ∧ x.recs ≠ 0 ∧ x.await = false ∧ s.fldI HIF_Q_CFG_msix_en g = 1 then
        (s.reach (x.recAt + 100 * s.fldI HIF_Q_AGG_agg_time g)).msixDue p g
      else s
    | none => s)

/-- A vector's mask bit written, and a message that waited for it sent (R342). -/
def State.setVecMask (s : State) (p vec : Nat) (m : Bool) : State :=
  let k := 2048 * p + vec
  let s : State := { s with hif := { s.hif with mask := Sparse.set true s.hif.mask k m } }
  if s.vecMasked p vec = false ∧ Sparse.get false s.hif.pba k = true then
    ({ s with hif := { s.hif with pba := Sparse.set false s.hif.pba k false } }).emit (.msix p vec)
  else s

end Sys2Proof.Machine
end

