-- ==== Sys2Proof/Machine/Tables.lean ====
section
/-! DEFINITION. TABLE_LOAD (R137, R153, R199, R283, R328, R493): the codes, each table's layout and checks, and the tables'
effect at a frame boundary. The loads of R191 have their own course in Machine/Compens.lean. -/

namespace Sys2Proof.Machine

open Sys2Proof Reg

/-! Codes (R328). -/

/-- Codes 0x0100 + n, 0x0110 + v and 0x0300 + r. -/
def isColour (c : Nat) : Bool := decide (0x100 ≤ c) && decide (c ≤ 0x10C)
def isScaler (c : Nat) : Bool := decide (0x110 ≤ c) && decide (c ≤ 0x113)
def isRate (c : Nat) : Bool := decide (0x300 ≤ c) && decide (c ≤ 0x303)

/-- Codes read in place, and the rebuild that reads nothing. -/
def inPlace (c : Nat) : Bool := c == 0x10 || c == 0x121 || c == 0x200 || c == 0x201 || c == 0x202 || c == 0x204

/-- Codes that TABLE_LOAD recognises. -/
def tableCode (c : Nat) : Bool :=
  inPlace c || isColour c || isScaler c || isRate c || c == 0x120 || c == 0x203 || c == 0x310 || c == 0x400

/-- Partition `p` may load the table: the layer's owner, SAFETY for the safe image, the OWNER for the others. -/
def State.tableRights (s : State) (p c : Nat) : Bool :=
  if isColour c then s.ownsLayer p (c - 0x100)
  else if isScaler c then s.ownsLayer p (c - 0x110)
  else if c = 0x121 then s.isSafety p
  else p == s.owner

/-- The length that a table read from a host buffer has. -/
def tableLenOk (c len : Nat) : Bool :=
  if inPlace c then len == 0
  else if isColour c then len == 6212
  else if isScaler c then len == 1796
  else if c = 0x120 then len == 24580
  else if c = 0x203 then len == 1412
  else if isRate c then len == 156836
  else if c = 0x310 then len == 72
  else decide (12 ≤ len) && decide (len ≤ 1032) && len % 4 == 0

/-! Layouts. -/

/-- A colour table's zero bits, and the table. -/
def colourTabOk (d : List Byte) : Bool := crcGood d 6212 && leAt d 30 1 / 2 == 0 && leAt d 31 33 == 0
def colourTabOf (d : List Byte) : ColourTab where
  m := (halves d 0 9).map (signed 16)
  pre := (halves d 18 3).map (signed 16)
  post := (halves d 24 3).map (signed 16)
  lutFirst := leAt d 30 1 % 2 == 1
  lut := halves d 64 3072

/-- Scaler coefficients, horizontal then vertical. -/
def coeffTabOf (d : List Byte) : List Int := (halves d 0 896).map (signed 16)

/-- A driver set-up list. -/
def setupTabOk (d : List Byte) : Bool :=
  crcGood d (8 + 4 * leAt d 0 2) && decide (1 ≤ leAt d 0 2) && decide (leAt d 0 2 ≤ 256) && leAt d 2 2 == 0
def setupTabOf (d : List Byte) : List (Nat × Nat) :=
  (List.range (leAt d 0 2)).map fun i => (leAt d (4 + 4 * i) 2, leAt d (6 + 4 * i) 2)

/-- The safe image's header stands (R153). -/
def State.safeHeaderOk (s : State) : Bool :=
  let w := s.safeFld 0 2
  let h := s.safeFld 2 2
  decide (1 ≤ w) && decide (w ≤ 15360) && decide (1 ≤ h) && decide (h ≤ 8640) && decide (1 ≤ s.safeFld 8 1) &&
    decide (s.safeFld 8 1 ≤ 8) && s.safeFld 9 3 == 0 && s.safeFld 16 48 == 0

/-- The status of a safe image validation (R153, R354). -/
def State.safeCheck (s : State) : Nat :=
  if s.areaReady 9 s.safeAddr 64 = false then NOT_READY
  else if s.readable s.safeAddr 64 = false then DATA_ERROR
  else if s.safeHeaderOk = false then INVALID
  else
    let f := fmtD (s.safeFld 8 1)
    let w := s.safeFld 0 2
    let h := s.safeFld 2 2
    if s.inKind 9 s.safeAddr (64 + f.planeBytes w h) = false then NOT_READY
    else if s.readable s.safeAddr (64 + f.planeBytes w h) = false then DATA_ERROR
    else if crc32c (s.imageBytes (s.safeAddr + 64) f w h) = s.safeFld 12 4 then OK
    else INVALID

/-- What a table's reading and checks give: the status, and the bytes that take effect. -/
def State.tableCheck (s : State) (t : Table) : Nat × List Byte :=
  if t.code = 0x10 then
    let r := s.readBook
    if r.1 ≠ OK then (r.1, []) else if s.bookError r.2 ≠ 0 then (INVALID, r.2) else (OK, r.2)
  else if t.code = 0x121 then (s.safeCheck, [])
  else if isColour t.code then (if colourTabOk t.data then (OK, t.data) else (INVALID, []))
  else if isScaler t.code then (if crcGood t.data 1796 then (OK, t.data) else (INVALID, []))
  else if t.code = 0x120 then (if crcGood t.data 24580 then (OK, t.data) else (INVALID, []))
  else if isRate t.code then (if rateTableOk t.data then (OK, t.data) else (INVALID, []))
  else if t.code = 0x310 then (if ntcTableOk t.data then (OK, t.data) else (INVALID, []))
  else if setupTabOk t.data then (OK, t.data)
  else (INVALID, [])

/-! Course of a load. -/

/-- Tables waiting, replaced. -/
def State.setTables (s : State) (ts : List Table) : State := { s with scn := { s.scn with tables := ts } }

/-- The next serial number. -/
def State.nextSerial (s : State) : Nat × State := (s.scn.serial, { s with scn := { s.scn with serial := s.scn.serial + 1 } })

/-- A second rate set arrives before the first has taken effect (R200): the first completes SUPERSEDED. -/
def State.dropRates (s : State) : State :=
  let old := s.scn.tables.filter fun t => isRate t.code
  (((s.setTables (s.scn.tables.filter fun t => !isRate t.code)).doneAll (old.map (·.req)) SUPERSEDED)).setFld ODV_STATUS_loading 0

/-- A TABLE_LOAD reaches the frame-store agent, its rights and zero bytes checked (R325, R328). -/
def State.takeTable (s : State) (r : Req) (code len : Nat) (data : Option (List Byte)) : State :=
  if tableCode code = false ∨ tableLenOk code len = false then s.done r INVALID
  else if 0x200 ≤ code ∧ code ≤ 0x204 then s.cmpLoad r code len data
  else if inPlace code = false ∧ data.isNone then s.done r DATA_ERROR
  else
    let s := if isRate code then s.dropRates else s
    let n := s.nextSerial
    n.2.setTables (n.2.scn.tables ++ [{ id := n.1, req := r, code := code, data := data.getD [] }])

/-- The area that a table read in place has been read from: the mode book, or the safe image. -/
def State.tableArea (s : State) (code : Nat) : Nat × Nat :=
  if code = 0x10 then (s.bookAddr, s.readBook.2.length)
  else if code = 0x121 ∧ s.areaReady 9 s.safeAddr 64 then
    (s.safeAddr, if s.safeHeaderOk then 64 + (fmtD (s.safeFld 8 1)).planeBytes (s.safeFld 0 2) (s.safeFld 2 2) else 64)
  else (0, 0)

/-- A table has been read whole and checked (R493), or completes with the status of its failure. -/
def State.tableReady (s : State) (t : Table) : State :=
  let c := s.tableCheck t
  let s := s.countRecon (s.tableArea t.code).1 (s.tableArea t.code).2
  if c.1 ≠ OK then
    let s := s.setTables (s.scn.tables.filter (·.id != t.id))
    let s := if t.code = 0x10 ∧ c.1 = INVALID then s.rejectBook (s.bookError c.2) else s
    let s := if t.code = 0x121 ∧ c.1 = INVALID then s.setFld LYR_S_STATUS_safe_valid 0 else s
    let s := if c.1 = NOT_READY ∧ s.storeUp then s.regionMiss else s
    s.done t.req c.1
  else
    let s := s.setTables (s.scn.tables.map fun u => if u.id = t.id then { u with data := c.2, readyAt := some s.now } else u)
    if isRate t.code then s.setFlag ODV_STATUS_loading else s

/-- TABLE_READY (R493). -/
def execTableReady (id : Nat) (s : State) : Host.Outcome State Fault Refusal :=
  .next (
    match s.scn.tables.find? fun t => t.id == id && t.readyAt.isNone with
    | some t => s.tableReady t
    | none => s)

/-- Tables at a latch point (R493): those ready for 64 µs, or the set-up list as soon as it is ready, are latched, or slip
under R15. -/
def State.latchTables (s : State) (ready : Req → Bool) (start : Bool) : State :=
  s.setTables (s.scn.tables.map fun t =>
    match t.readyAt with
    | none => t
    | some a =>
      if t.latched then t
      else if start = false ∧ t.code ≠ 0x400 ∧ s.now < a + 64000 then t
      else if ready t.req ∨ start then { t with latched := true }
      else { t with late := true })

/-- A table takes effect: false where it is found not to hold after all (R29). -/
def State.putTable (s : State) (t : Table) : Bool × State :=
  let dmg (s : State) : State := { s with lyr := { s.lyr with damageAll := true } }
  if t.code = 0x10 then
    if s.bookCovers t.data then (true, s.activateBook t.data) else (false, s.rejectBook 10)
  else if t.code = 0x121 then (true, s.setFlag LYR_S_STATUS_safe_valid)
  else if isColour t.code then
    let l := t.code - 0x100
    (true, dmg (s.setLayer l { s.layer l with ctab := some (colourTabOf t.data) }))
  else if isScaler t.code then
    let l := t.code - 0x110
    (true, dmg (s.setLayer l { s.layer l with coeff := some (coeffTabOf t.data) }))
  else if t.code = 0x120 then (true, dmg { s with lyr := { s.lyr with postLut := some (halves t.data 0 12288) } })
  else if isRate t.code then (true, s.putRateSet (t.code - 0x300) (rateSetOf t.data))
  else if t.code = 0x310 then (true, { (s.setFlag ODV_STATUS_ntc_tab) with odv := { s.odv with ntcTab := some (ntcTableOf t.data) } })
  else
    let s : State := { s with kdl := { s.kdl with setup := setupTabOf t.data } }
    (true, s.served.foldl State.sendSetup s)

/-- The set-up list's TABLE_LOAD completes once it has been sent (R283); one that a later list replaces, SUPERSEDED. -/
def State.waitSetup (s : State) (r : Req) : State :=
  let old := s.kdl.setupReq
  let s : State := { s with kdl := { s.kdl with setupReq := some r } }
  match old with
  | some o => s.done o SUPERSEDED
  | none => s

/-- Latched tables take effect in R13's order at the boundary that starts frame `n` at `tb`. -/
def State.applyTables (s : State) (n tb : Nat) : State :=
  let ts := sortReq Table.req (s.scn.tables.filter (·.latched))
  let s := s.setTables (s.scn.tables.filter (!·.latched))
  ts.foldl (fun s t =>
    let x := s.putTable t
    if x.1 = false then x.2.complete t.req INVALID n tb
    else if t.code = 0x400 then (x.2.waitSetup t.req).ctlOut
    else x.2.complete t.req (if t.late then LATE else OK) n tb) s

end Sys2Proof.Machine
end

