-- ==== Sys2Proof/Machine/Integrity.lean ====
section
/-! DEFINITION. Parity errors in every array: the actions of R375, the safe defaults of R376, and the test that finds a hard
fault (R374 to R379). The spec names what each array holds and not where in it: the places used here are the model's. -/

namespace Sys2Proof.Machine

open Sys2Proof Reg

/-! Milestone contexts. -/

/-- The armed descriptors replaced, with the counts of TBS_MS_USED. -/
def State.setArmed (s : State) (l : List Armed) : State :=
  let s : State := { s with tbs := { s.tbs with armed := l } }
  (s.setFld TBS_MS_USED_armed l.length).setFld TBS_MS_USED_high (max (s.fld TBS_MS_USED_high) l.length)

/-- A descriptor completes, or every member of a chain (R147). -/
def State.doneBody (s : State) (r : Req) (b : Body) (st : Nat) : State :=
  match b with
  | .flips l => s.doneAll (l.map fun m => ⟨m.1, r.g, r.ord⟩) st
  | _ => s.done r st

/-- An armed descriptor completes ABORTED and its context frees. -/
def State.abortArmed (s : State) (a : Armed) : State := (s.setArmed (s.tbs.armed.erase a)).doneBody a.req a.body ABORTED

/-! Safe defaults (R376). -/

/-- A tile context. -/
def State.safeTile (s : State) (t : Nat) : State :=
  let s : State := { s with odv := { s.odv with regions := s.odv.regions.map fun y => { y with left := y.left.filter (· != t) } } }
  s.setTile t { s.tile t with wf := 0, moved := false, tgt := [], bake := [], histValid := false, damage := true, ru := none, sums := [] }

/-- A region-update context. -/
def State.safeRegion (s : State) (id : Nat) : State :=
  match s.odv.regions.find? (·.id == id) with
  | none => s
  | some x =>
    let s : State := { s with odv := { s.odv with regions := s.odv.regions.filter (·.id != id) } }
    let s := (regionTiles x.a).foldl (fun s t => if (s.tile t).ru = some id then s.setTile t { s.tile t with ru := none } else s) s
    (s.done x.req ABORTED).showRegions

/-- An engine-job context: the job ends on every cluster it holds; one that has not taken effect completes ABORTED. -/
def State.safeJob (s : State) (id : Nat) : State :=
  match s.eng.jobs.find? (·.id == id) with
  | none => s
  | some j =>
    let s := j.holds.foldl State.freeCluster s
    let s := s.setJobs (s.eng.jobs.filter (·.id != id))
    if j.running then s else s.done j.req ABORTED

/-- A stream context, as an unbind (R107). -/
def State.safeStream (s : State) (c : Nat) : State := if (s.stream c).bound then s.unbind c else s

/-- A queue context. -/
def State.safeQueue (s : State) (g : Nat) : State :=
  match s.gqPart g with
  | some p => if s.qEn g then s.queueOff p g else s
  | none => s

/-- The contexts of a word of CTX0 or CTX1 (R384 names what each holds), in the order R384 names them: two tile contexts to a
word, then two region updates, sixteen fences, or one milestone, stream, engine-job or queue context. -/
def State.safeContext (s : State) (inst w : Nat) : State :=
  let h := inst - 576
  if w < 46080 then
    [2 * w, 2 * w + 1].foldl (fun s j => s.safeTile (j / 256 * 512 + 256 * h + j % 256)) s
  else if h = 1 then (if w < 46080 + 16384 then s.safeQueue (w - 46080) else s)
  else if w < 50176 then [2 * (w - 46080), 2 * (w - 46080) + 1].foldl State.safeRegion s
  else if w < 50432 then
    (List.range 16).foldl (fun s k => { s with hif := { s.hif with fences := Sparse.set 0 s.hif.fences (16 * (w - 50176) + k) 0 } }) s
  else if w < 52480 then
    match s.tbs.armed[w - 50432]? with
    | some a => s.abortArmed a
    | none => s
  else if w < 53504 then s.safeStream (w - 52480)
  else if w < 54528 then s.safeJob (w - 53504)
  else s

/-! Tables after a hard fault (R375). -/

/-- Bytes of a table with the 64 from `a` on taken from another. -/
def patchBytes (d r : List Byte) (a : Nat) : List Byte := d.take a ++ ((r.drop a).take 64 ++ d.drop (a + 64))

/-- The bytes of a colour table without its CRC, and of coefficients and a post-blend LUT. -/
def colourBytes (t : ColourTab) : List Byte :=
  (t.m ++ t.pre ++ t.post).flatMap (fun v => leBytes 2 (unsigned 16 v)) ++ leBytes 1 (if t.lutFirst then 1 else 0) ++
    List.replicate 33 0 ++ t.lut.flatMap (leBytes 2)
def coeffBytes (l : List Int) : List Byte := l.flatMap fun v => leBytes 2 (unsigned 16 v)

/-- The coefficients and the post-blend LUT at reset, as lists. -/
def resetCoeff : List Int :=
  ((List.range 512).map fun i => coeffOf none false (i / 8) (i % 8)) ++ (List.range 384).map fun i => coeffOf none true (i / 6) (i % 6)
def resetPost : List Nat := (List.range 12288).map fun i => 16 * (i % 4096)

/-- A word of the LUT, CSC and coefficient RAM takes its reset value: tables in the order of their codes, each from a whole
word on. -/
def State.resetTableWord (s : State) (w : Nat) : State :=
  let s := s.setFlag MEM_FLAGS_table
  if w < 13 * 98 then
    let l := w / 98
    match (s.layer l).ctab with
    | some t =>
      s.setLayer l { s.layer l with ctab := some (colourTabOf (patchBytes (colourBytes t) (colourBytes defaultTab) (64 * (w % 98)))) }
    | none => s
  else if w < 1274 + 4 * 29 then
    let l := (w - 1274) / 29
    match (s.layer l).coeff with
    | some c =>
      s.setLayer l { s.layer l with coeff := some (coeffTabOf (patchBytes (coeffBytes c) (coeffBytes resetCoeff) (64 * ((w - 1274) % 29)))) }
    | none => s
  else if w < 1390 + 385 then
    match s.lyr.postLut with
    | some t =>
      { s with lyr := { s.lyr with
          postLut := some (halves (patchBytes (t.flatMap (leBytes 2)) (resetPost.flatMap (leBytes 2)) (64 * (w - 1390))) 0 12288) } }
    | none => s
  else s

/-- A rate set reads as not loaded, and its waveforms end at their settle level (R375). -/
def State.loseRateSet (s : State) (r : Nat) : State :=
  let ld := s.fld ODV_STATUS_loading
  let s := (s.putRateSet r {}).setFld ODV_STATUS_loading ld
  (s.odv.tiles.map (·.1)).foldl (fun s t =>
    if (s.tile t).rsL = r ∧ ((s.tile t).wf ≠ 0 ∨ (s.tile t).moved) then
      let s := s.endWave t
      s.setTile t { s.tile t with nL := 0 }
    else s) s

/-- A word of the table RAM: four rate sets of 156,816 bytes, then the load buffer. -/
def State.loseTableWord (s : State) (w : Nat) : State :=
  ((List.range 4).filter fun r => decide (156816 * r < 64 * w + 64) && decide (64 * w < 156816 * (r + 1))).foldl State.loseRateSet s

/-- What a hard fault of a re-read array leaves in the word (R375, R377). -/
def State.hardFault (s : State) (i w : Nat) : State :=
  if 544 ≤ i ∧ i < 576 then s.clFault (i - 544) (64 * w)
  else if i = 582 then s.loseTableWord w
  else if i = 583 then s.resetTableWord w
  else if i = 584 then s.xramStore (8 * w) (List.replicate 8 0)
  else s

/-! The action of each array. -/

/-- The stream frame being written into a port's ingress buffer ends incomplete: one of the port's open frames, which of
them the error does not say. -/
def State.spoilIngress (s : State) (p : Nat) : State :=
  let cs := (portCtxs p).filter fun c => (s.stream c).inFrame
  if cs.isEmpty then s
  else
    let d := s.draw cs.length
    d.2.markBad (cs.getD d.1 0)

/-- The word of a stripe buffer: the unit is written as unreadable (R362). -/
def State.spoilStripe (s : State) (w : Nat) : State :=
  let k := w / 320
  let b := s.buf k
  if b.used then
    let unit := w % 320 / 64
    let u := unitPlace s.layout (b.stripe * 5 + unit)
    { s with fst := { s.fst with poisoned := s.fst.poisoned ++ [8 * u.1 + u.2] } }
  else s

/-- The access of the exchange RAM that met the error completes with BUSY (R371, R375): a partition's through BAR4, the SVC's, or
port B's; which of them the error does not say. -/
def State.busyXram (s : State) (e : ParityErr) : State :=
  let d := s.draw 6
  if d.1 < 4 then d.2.xbusy d.1 (4 * e.word + e.byte % 8 / 2)
  else if d.1 = 5 then d.2.emit (.pin "BCB_BUSY_N" 0 false)
  else d.2

/-- A parity error that a read has met (R374, R375): the hardware's response comes first, and the test that the SVC records after it
(R18). What it does to the pixels of a line is in Machine/LineStart.lean. -/
def State.parityError (s : State) (e : ParityErr) : State :=
  if parityOk e = false then s
  else if e.inst < 544 then s.engParity e
  else if e.inst < 576 then s.clParity e
  else
    let s := s.noteParity e
    let s :=
      if e.inst < 578 then s.safeContext e.inst e.word
      else if e.inst = 578 then (if 13803 ≤ e.word then s.spoilStripe (e.word - 13803) else s)
      else if 586 ≤ e.inst then s.spoilIngress (e.inst - 586)
      else if e.inst = 584 then (if e.again then (s.busyXram e).hardFault 584 e.word else s.busyXram e)
      else if e.again ∧ reRead e.inst then s.hardFault e.inst e.word
      else s
    s.parityTest e

/-- PARITY_REWRITE_CHECK (R375): the outstanding test of a word ends; a bad word is a hard fault. -/
def execParityRewriteCheck (inst word : Nat) (bad : Bool) (s : State) : Host.Outcome State Fault Refusal :=
  .next (
    let x := s.inst inst
    if x.tests.contains word then
      let s := s.setInst inst { x with tests := x.tests.erase word }
      if bad then
        let s := if reRead inst then s.hardFault inst word else if inst = 576 ∨ inst = 577 then s.safeContext inst word else s
        (s.postParity inst true).remapWord inst word
      else s.postParity inst false
    else s)

end Sys2Proof.Machine
end

