-- ==== Sys2Proof/Machine/Jobs.lean ====
section
/-! DEFINITION. ENGINE_JOB from dispatch to its frame boundary (R231 to R234, R446 to R448, R493), and the write-backs of running
jobs (R230). -/

namespace Sys2Proof.Machine

open Sys2Proof Reg

/-! Images (R231). -/

/-- The image in a byte string that holds it whole. -/
def imageOf (b : List Byte) : Image :=
  let n := leAt b 22 2
  let cl := leAt b 6 2
  let dl := leAt b 8 4
  { codeLen := cl, dataLen := dl, dataAddr := leAt b 12 2, entry := leAt b 14 2, argAddr := leAt b 16 2
    ckptBase := leAt b 18 2, ckptLen := leAt b 20 2, budget := leAt b 24 4, sigLen := leAt b 28 4
    streams := (List.range n).map fun i =>
      let a := 64 + 32 * i
      [leAt b a 8, leAt b (a + 8) 4, leAt b (a + 12) 4, leAt b (a + 16) 4, leAt b (a + 20) 4, leAt b (a + 24) 1,
        leAt b (a + 25) 1, leAt b (a + 26) 1]
    code := (List.range cl).map fun i => BitVec.ofNat 32 (leAt b (64 + 32 * n + 4 * i) 4)
    data := (b.drop (64 + 32 * n + 4 * cl)).take dl }

/-- The length of an image as its header gives it. -/
def headerTotal (b : List Byte) : Nat := 64 + 32 * leAt b 22 2 + 4 * leAt b 6 2 + leAt b 8 4 + leAt b 28 4

/-- Header values of R231: the lengths, so that the image can be read, and all of them. -/
def headerLensOk (b : List Byte) : Bool :=
  leAt b 0 4 == 0x4A58454E && leAt b 4 2 == 1 && decide (1 ≤ leAt b 6 2) && decide (leAt b 6 2 ≤ 4096) &&
    leAt b 8 4 % 64 == 0 && decide (leAt b 8 4 ≤ 32768) && decide (leAt b 22 2 ≤ 4)
def headerOk (b : List Byte) (argLen : Nat) : Bool :=
  headerLensOk b && decide (64 * leAt b 12 2 + leAt b 8 4 ≤ 65536) && decide (leAt b 14 2 < 4096) &&
    decide (64 * leAt b 16 2 + argLen ≤ 65536) && decide (leAt b 20 2 ≤ 64) &&
    decide (64 * leAt b 18 2 + 64 * leAt b 20 2 ≤ 65536) && leAt b 32 28 == 0

/-- A stream descriptor's values (R228). -/
def streamDescOk (b : List Byte) (i : Nat) : Bool :=
  let a := 64 + 32 * i
  let unit := leAt b (a + 16) 4
  let ring := leAt b (a + 20) 4
  let depth := leAt b (a + 25) 1
  leAt b a 8 % 64 == 0 && unit % 64 == 0 && decide (64 ≤ unit) && decide (unit ≤ 65536) && ring % 64 == 0 &&
    decide (0x80000 ≤ ring) && decide (ring + depth * unit ≤ 0x100000) && decide (1 ≤ leAt b (a + 24) 1) &&
    decide (leAt b (a + 24) 1 ≤ 24) && decide (2 ≤ depth) && decide (depth ≤ 16) && decide (1 ≤ leAt b (a + 26) 1) &&
    decide (leAt b (a + 26) 1 ≤ 32) && leAt b (a + 27) 5 == 0

/-- The image's CRC: over bytes 0 to 59, the stream descriptors, code and data. -/
def imageCrcOk (b : List Byte) : Bool :=
  leAt b 60 4 == crc32c (b.take 60 ++ (b.drop 64).take (headerTotal b - leAt b 28 4 - 64))

/-! Dispatch (R233). -/

/-- Clusters of a mask. -/
def maskClusters (m : Word) : List Nat := (List.range 32).filter m.getLsbD

/-- Every cluster of a mask is assigned to partition `p` in ENG_OWN. -/
def State.ownsClusters (s : State) (p : Nat) (m : Word) : Bool := (maskClusters m).all fun c => s.clOwner c == p

/-- An area wholly in regions that `p` owns, of any kind. -/
def State.inOwned (s : State) (p a n : Nat) : Bool := s.areaIn (fun _ o => o == p) 65 a n

/-- The status of an ENGINE_JOB with an image, its cluster rights checked; OK where it is accepted. -/
def State.jobStatus (s : State) (p : Nat) (j : JobArgs) : Nat :=
  if s.mode = 11 ∨ s.storeUp = false then NOT_READY
  else if s.inOwn 7 p j.image 64 = false ∨ (j.argLen ≠ 0 ∧ s.inOwned p j.arg j.argLen = false) then DENIED
  else if j.clusters = 0 ∨ 4096 < j.argLen ∨ j.image % 4096 ≠ 0 then INVALID
  else if s.readable j.image 64 = false then DATA_ERROR
  else
    let h := s.bytes j.image 64
    if headerLensOk h = false then INVALID
    else if s.inOwn 7 p j.image (headerTotal h) = false then DENIED
    else if s.readable j.image (headerTotal h) = false ∨ s.readable j.arg j.argLen = false then DATA_ERROR
    else
      let b := s.bytes j.image (headerTotal h)
      if headerOk b j.argLen = false ∨ (List.range (leAt b 22 2)).all (streamDescOk b) = false ∨ imageCrcOk b = false then INVALID
      else if s.budget (leAt b 20 2) < leAt b 24 4 then INVALID
      else if 1024 ≤ s.eng.jobs.length then NO_RESOURCE
      else OK

/-- The image policy in force: 0 OPEN, 1 KEYLIST, 2 FUSED (R446). -/
def imgPolicy : Nat := min 2 Config.fuseImgPolicy.toNat

/-- SEC_IMG_LAST of a partition (R453). -/
def State.imgLast (s : State) (p result reason tag : Nat) : State :=
  ((s.setFldP SEC_IMG_LAST_result p result).setFldP SEC_IMG_LAST_reason p reason).setFldP SEC_IMG_LAST_tag p tag

/-- The lowest free engine-job context. -/
def State.freeJobId (s : State) : Nat := ((List.range 1024).find? fun n => !s.eng.jobs.any (·.id == n)).getD 1024

/-- The contexts in use shown. -/
def State.showJobs (s : State) : State := s.setFld ENG_JOBS_used s.eng.jobs.length

/-- A job put into a context. -/
def State.addJob (s : State) (j : Job) : State := (s.setJobs (s.eng.jobs ++ [j])).showJobs

/-- An ENGINE_JOB with an image reaches the job interfaces or waits for its verification (R233, R447). -/
def State.takeJob (s : State) (r : Req) (j : JobArgs) : State :=
  let st := s.jobStatus r.h.part j
  if st ≠ OK then s.done r st
  else
    let n := headerTotal (s.bytes j.image 64)
    let s := (s.countRecon j.image n).countRecon j.arg j.argLen
    let img := imageOf (s.bytes j.image n)
    let x : Job := { id := s.freeJobId, req := r, a := j, image := img, argData := s.bytes j.arg j.argLen }
    if imgPolicy = 0 then (s.imgLast r.h.part 3 0 r.h.tag.toNat).addJob { x with readyAt := some s.now }
    else
      let s := s.addJob x
      { s with sec := { s.sec with verify := s.sec.verify ++ [x.id] } }

/-- No image. -/
def noImage : Image where
  codeLen := 0
  dataLen := 0
  dataAddr := 0
  entry := 0
  argAddr := 0
  ckptBase := 0
  ckptLen := 0
  streams := []
  budget := 0
  sigLen := 0
  code := []
  data := []

/-- An ENGINE_JOB that stops the jobs of its clusters (R232, R233). -/
def State.takeStop (s : State) (r : Req) (m : Word) : State :=
  if s.mode = 11 then s.done r NOT_READY
  else if m = 0 then s.done r INVALID
  else if 1024 ≤ s.eng.jobs.length then s.done r NO_RESOURCE
  else
    s.addJob { id := s.freeJobId, req := r, a := ⟨0, m, 0, 0, 0⟩, image := noImage, argData := [], readyAt := some s.now, stop := true }

/-! Verification (R444, R446, R447). -/

/-- The reason for which a signature block fails, 0 for none; codes of SEC_IMG_LAST. -/
def State.sigReason (s : State) (b : List Byte) (sigLen : Nat) : Nat :=
  let g := b.drop (b.length - sigLen)
  let key := (g.drop 8).take 96
  let listed := if imgPolicy = 1 then s.sec.imgKeys else (List.range (min 4 Config.fuseKeys.toNat)).map Config.fusedKey
  if sigLen = 0 then 1
  else if sigLen ≠ 256 ∨ leAt g 0 4 ≠ 0x4A585347 ∨ leAt g 4 2 ≠ 1 ∨ leAt g 6 1 ≠ 1 ∨ leAt g 7 1 ≠ 0 ∨ leAt g 204 52 ≠ 0 then 2
  else if listed.contains (Config.sha384 key) = false then 3
  else if Config.p384Verify key (Config.sha384 (b.take (b.length - 256) ++ g.take 8 ++ g.drop 200)) ((g.drop 104).take 96) = false then 4
  else if leAt g 200 4 < s.fld SEC_IMG_FLOOR_svn then 5
  else 0

/-- A verification ends. -/
def State.verified (s : State) (j : Job) : State :=
  let p := j.req.h.part
  let why := s.sigReason (s.bytes j.a.image j.image.total) j.image.sigLen
  if why = 0 then
    (s.imgLast p 1 0 j.req.h.tag.toNat).mapJobs fun k => if k.id = j.id then { k with sealed_ := true, readyAt := some s.now } else k
  else
    let s := (s.imgLast p 2 why j.req.h.tag.toNat).setFlag SEC_FLAGS_img_denied
    (s.setJobs (s.eng.jobs.filter (·.id != j.id))).showJobs.done j.req DENIED

/-- IMAGE_VERIFIED (R447): the oldest verification ends. -/
def execImageVerified (s : State) : Host.Outcome State Fault Refusal :=
  .next (
    match s.sec.verify with
    | [] => s
    | id :: ids =>
      let s : State := { s with sec := { s.sec with verify := ids } }
      match s.eng.jobs.find? (·.id == id) with
      | some j => s.verified j
      | none => s)

/-! Latch and effect (R234). -/

/-- The image copied into the idle image copies of its clusters, hashed (R234, R442). -/
def State.copyImage (s : State) (id : Nat) : State :=
  match s.eng.jobs.find? (·.id == id) with
  | none => s
  | some j =>
    if j.stop then s
    else
      let b := s.bytes j.a.image j.image.total
      let s := (maskClusters j.a.clusters).foldl (fun s c =>
        let s := s.wakeNow (22 + c)
        let s := s.clWrite c (0xE000 * (1 - (s.cl c).imgCopy)) (b.take 0xE000)
        s.setCl c ((s.cl c).ask 19)) s
      s.mapJobs fun k =>
        if k.id = id then
          { k with
            image := imageOf b, argData := s.bytes j.a.arg j.a.argLen, digest := Config.sha384 (b.take (b.length - j.image.sigLen)) }
        else k

/-- Jobs at a latch point (R493): those ready for 64 µs are latched for frame `n`, or slip under R15. -/
def State.latchJobs (s : State) (ready : Req → Bool) (start : Bool) (n : Nat) : State :=
  let due (j : Job) : Bool :=
    !j.latched && (match j.readyAt with
      | some a => start || decide (a + 64000 ≤ s.now)
      | none => false)
  let ids := (s.eng.jobs.filter fun j => due j && (start || ready j.req)).map (·.id)
  let s := s.mapJobs fun j =>
    if due j = false then j
    else if start ∨ ready j.req then { j with latched := true, eff := n, todo := maskClusters j.a.clusters }
    else { j with late := true }
  ids.foldl State.copyImage s

/-- Latched jobs take effect at the boundary that starts frame `n` at `tb`. -/
def State.applyJobs (s : State) (n tb : Nat) : State :=
  let js := sortReq Job.req (s.eng.jobs.filter fun j => j.latched && !j.running)
  let s := s.mapJobs fun j => if j.latched ∧ j.running = false then { j with eff := n } else j
  let s := (List.range 32).foldl (fun s c => s.takeCluster c fun j => !j.running) s
  let s := js.foldl (fun s j =>
    match s.eng.jobs.find? (·.id == j.id) with
    | none => s
    | some k =>
      let st := if k.stop = false ∧ k.holds.isEmpty then SUPERSEDED else if k.late then LATE else OK
      s.complete k.req st n tb) s
  (s.mapJobs fun j => if j.latched then { j with running := true } else j).freeJobs.showJobs

/-! Write-backs (R230). -/

/-- The entry of an engine's ring at a count: cluster-memory source, length and PPA. -/
def State.wbEntry (s : State) (c i n : Nat) : Nat × Nat × Nat :=
  let e := Sparse.read 0 (s.cl c).mem (0x1C000 + 128 * i + 16 * (n % 8)) 16
  (leAt e 0 4, leAt e 4 4, leAt e 8 8)

/-- The oldest posted entry of engine g is performed, or dropped; the count advances (R230). -/
def State.writeBackDone (s : State) (g : Nat) : State :=
  let c := clusterOf g
  let i := s.localOf g
  let cl := s.cl c
  let cnt := Sparse.get 0 cl.wbCnt i
  if 544 ≤ g ∨ cnt = Sparse.get 0 cl.wbPost i then s
  else
    let e := s.wbEntry c i cnt.toNat
    let s := s.setCl c ({ cl with wbCnt := Sparse.set 0 cl.wbCnt i (cnt + 1) }.ask 17)
    let shape : Bool := e.1 % 64 == 0 && e.2.1 % 64 == 0 && decide (64 ≤ e.2.1) && decide (e.2.1 ≤ 65536) &&
      decide (e.1 + e.2.1 ≤ 0x100000) && e.2.2 % 64 == 0
    if shape && s.storeUp && s.mayWrite cl.wbPart e.2.2 e.2.1 then
      (s.ppaWrite e.2.2 ((List.range e.2.1).map fun k => s.windowByte c (e.1 + k))).ringBells e.2.2 e.2.1
    else (s.fstDeny cl.wbPart).setFlag ENG_FLAGS_wb_denied

end Sys2Proof.Machine
end

