-- ==== Sys2Proof/Machine/Commits.lean ====
section
/-! DEFINITION. COMMIT (R166 to R169): its block, its checks at dispatch and at the boundary, and its latch. -/

namespace Sys2Proof.Machine

open Sys2Proof Reg

/-! The block. -/

/-- Entries of a block, as many as it has room for, each with its zero bits tested. -/
def blockEntries (b : List Byte) : List (Entry × Bool) := entriesAt b 8 (min (leAt b 0 2) ((b.length - 8) / 8))

/-- The scope check of R166: what a BAR0 write from the partition would meet before the lock. -/
def State.scopeOk (s : State) (p : Nat) (e : Entry) : Bool :=
  match e.scope with
  | some .owner => p == s.owner
  | some .safety => s.isSafety p
  | _ => true

/-- An entry that a COMMIT may hold, the scope check aside. -/
def commitEntryOk (e : Entry × Bool) : Bool :=
  e.2 && e.1.clean && (if commitOnly e.1.off then e.1.idx == 0 else e.1.named && e.1.scope != some .safety)

/-- The block's layout (R166). -/
def blockOk (b : List Byte) (len : Nat) : Bool :=
  decide (1 ≤ leAt b 0 2) && decide (leAt b 0 2 ≤ 256) && len == 8 + 8 * leAt b 0 2 && b.length == len && leAt b 2 6 == 0 &&
    (blockEntries b).all commitEntryOk && !twice ((blockEntries b).map (·.1))

/-- Commits waiting, replaced. -/
def State.setCommits (s : State) (cs : List Commit) : State := { s with scn := { s.scn with commits := cs } }

/-- A COMMIT reaches the raster (R166, R167): its block read and checked. -/
def State.takeCommit (s : State) (r : Req) (len : Nat) (block : Option (List Byte)) : State :=
  match block with
  | none => s.done r DATA_ERROR
  | some b =>
    let es := (blockEntries b).map (·.1)
    if es.all (s.scopeOk r.h.part) = false then s.done r DENIED
    else if blockOk b len = false then s.done r INVALID
    else
      let n := s.nextSerial
      n.2.setCommits (n.2.scn.commits ++ [{ id := n.1, req := r, entries := es, arrived := s.now }])

/-- COMMIT_STAGED (R167). -/
def execCommitStaged (id : Nat) (s : State) : Host.Outcome State Fault Refusal :=
  .next (s.setCommits (s.scn.commits.map fun c =>
    if c.id = id ∧ c.stagedAt.isNone then { c with stagedAt := some s.now } else c))

/-! The latch point. -/

/-- A COMMIT has missed its target: LATE_COMMIT, once (R167). -/
def State.lateCommit (s : State) (c : Commit) : State :=
  let s := (s.addSat SCN_LATE_CNT_count 0 0 1).setFlag SCN_FLAGS_late_commit
  let p := c.req.h.part
  if s.fldP SCN_EVT_EN_late_commit p = 1 then s.post 0x10 0x07 (c.req.h.tag.toNat + 65536 * p) [p] else s

/-- One COMMIT at a latch point: it meets the window if both halves held and reported it before the window closed. At the start of frame 0 (`start`) what is staged is latched and nothing is late (R160). -/
def State.latchCommit (s : State) (ready : Req → Bool) (start : Bool) (c : Commit) : State :=
  if c.latched then s
  else
    let meets := match c.stagedAt with
      | some a => start || (ready c.req && decide (a + 64000 < s.now))
      | none => false
    let put (s : State) (d : Commit) : State := s.setCommits (s.scn.commits.map fun x => if x.id = c.id then d else x)
    if meets then put s { c with latched := true }
    else if start ∨ c.late then s
    else put (s.lateCommit c) { c with late := true }

/-- COMMITs at a latch point, in R13's order. -/
def State.latchCommits (s : State) (ready : Req → Bool) (start : Bool) : State :=
  (sortReq Commit.req s.scn.commits).foldl (fun s c => s.latchCommit ready start c) s

/-! The boundary. -/

/-- The status of a COMMIT against the registers it would give, in the mode in force from the boundary; `en` are the layers
enabled after it (R149, R166). -/
def State.commitStatus (s : State) (en : List Nat) (c : Commit) : Nat :=
  let t := s.putEntries c.req.h.part c.entries
  if s.panelBarred c.entries ∨ (c.entries.all fun e => wordOk e.off e.val.toNat) = false then INVALID
  else if t.modeOk s.mode (s.fld MOD_ENTRY_entry_mode) s.mod.limit = false ∨ t.bandsOk = false then INVALID
  else if (en.all fun l => t.ratioOk l) = false then INVALID
  else if t.overFetch (s.fetchSum s.enabled) (t.fetchSum s.enabled) then NO_RESOURCE
  else OK

/-- The latched COMMITs in the order of their effect. -/
def State.dueCommits (s : State) : List Commit := sortReq Commit.req (s.scn.commits.filter (·.latched))

/-- The registers once the latched COMMITs that pass have been written: what a latch point looks ahead to. -/
def State.putCommits (s : State) (cs : List Commit) (en : List Nat) : State :=
  cs.foldl (fun s c => if s.commitStatus en c = OK then s.putEntries c.req.h.part c.entries else s) s

/-- The latched COMMITs take effect at the boundary that starts frame `n` at `tb`. -/
def State.applyCommits (s : State) (n tb : Nat) : State :=
  let cs := s.dueCommits
  let en := s.enPlanned
  let s := s.setCommits (s.scn.commits.filter (!·.latched))
  cs.foldl (fun s c =>
    let st := s.commitStatus en c
    if st = OK then (s.applyEntries c.req.h.part c.entries).complete c.req (if c.late then LATE else OK) n tb
    else s.complete c.req st n tb) s

end Sys2Proof.Machine
end

