-- ==== Sys2Proof/Machine/Boundary.lean ====
section
/-! DEFINITION. The latch point (R165) and the frame boundary (R12, R13): what takes effect there, bridges, bake frames, the
start and the stop of the raster. -/

namespace Sys2Proof.Machine

open Sys2Proof Reg

/-! A mode takes effect (R31, R33, R36, R37, R43). -/

/-- Mode `m` is in force with the registers as they stand, SHUTTER under the limit mode of the active book: `o` is the mode before
it. -/
def State.modeIn (s : State) (o m : Nat) : State :=
  let s := s.setFld MOD_STATUS_cur_mode m
  let s : State := if m = 4 then { s with mod := { s.mod with limit := s.bookLimit } } else s
  let s := if (m = 7 ∨ m = 8) ∧ o ≠ 7 ∧ o ≠ 8 then s.setFld MOD_ENTRY_entry_mode o else s
  s.setFld MOD_SWITCH_COUNT_count ((s.fld MOD_SWITCH_COUNT_count + 1) % 2 ^ 32)

/-- What leaving a mode for another ends (R36, R138, R216, R293). -/
def State.modeLeft (s : State) (o m : Nat) : State :=
  let s := if (o = 7 ∨ o = 8) ∧ m ≤ 6 then s.histClear else s
  let s := if ((o = 7 ∨ o = 8) ∧ m ≠ 7 ∧ m ≠ 8) ∨ 9 ≤ m then s.abortRegions else s
  let s := if m = 5 ∧ o ≠ 5 then s.dropVideo.showFetch else s
  if o = 9 ∧ m ≠ 9 then s.abortSweep else s

/-- Base and overlay of mode `m` are written, and the mode is in force. DESIGN CHOICE (log 17): the book is the one active at the
boundary, also where another became active after the switch latched (in its bake frame or bridges); the spec does not say which
book a committed switch takes, and asks for no further check of its limits. -/
def State.toMode (s : State) (m : Nat) : State :=
  let t := ((s.applyEntries s.owner (s.bookEntries m)).modeIn s.mode m).modeLeft s.mode m
  t.dpllFollow s

/-- DISCHARGE takes effect at a boundary (R43). -/
def State.toDischarge (s : State) : State := ((s.takeDischarge true false).modeLeft s.mode 11).dpllFollow s

/-- The exit of R37: the entry mode, with the pending switch superseded (no switch is committed then). -/
def State.exitCellar (s : State) : State :=
  let s := (s.dropSwitches SUPERSEDED).setFlag MOD_FLAGS_auto_exit
  let s : State := { s with mod := { s.mod with autoExit := false } }
  s.toMode (s.fld MOD_ENTRY_entry_mode)

/-- A committed switch has taken the part out of CELLAR and LAYBY: no exit of R37 is due any more. -/
def State.exited (s : State) (target : Nat) : State :=
  if target = 7 ∨ target = 8 then s else { s with mod := { s.mod with autoExit := false } }

/-- The mode switch of the boundary that starts frame `n` at `tb`: DISCHARGE, the bake frame, the committed switch, or the exit of
R37. DESIGN CHOICE (log 17): an exit that falls due while a switch is committed waits for its target, since R35 lets nothing but
DISCHARGE replace a committed switch; it follows at the next boundary if that target is CELLAR or LAYBY. -/
def State.switchEffect (s : State) (n tb : Nat) : State :=
  if s.dischargePending then
    let w := s.mod.pend
    let s : State := { s with mod := { s.mod with pend := none, comm := none, bakeDue := false, autoExit := false } }
    (s.toDischarge.endSwitch w OK n tb).showSwitch
  else
    match s.mod.comm with
    | none => if s.mod.autoExit then s.exitCellar else s
    | some w =>
      if s.mod.bakeDue then
        { s.setFld MOD_STATUS_bake 1 with mod := { s.mod with
            bakeDue := false, bakeShown := if s.fast then some (s.lyr, s.regs) else none } }
      else
        let s : State := { s with mod := { s.mod with comm := none } }
        (((s.toMode w.target).exited w.target).endSwitch (some w) OK n tb).showSwitch

/-! The order of effects (R13). -/

/-- Everything latched for frame `n` takes effect. -/
def State.takeEffect (s : State) (n tb : Nat) : State :=
  let old := s
  let s := s.switchEffect n tb
  let s := s.applyCommits n tb
  let s := s.applyTables n tb
  let s := s.stepSafety.applyFlips n tb
  let s := s.effectRegions n tb
  (s.applyJobs n tb).dpllFollow old

/-- The registers and the mode from the next boundary on, as what is latched would leave them. -/
def State.planned (s : State) : State :=
  let m := s.nextMode
  let switching := s.mod.autoExit || (s.mod.comm.isSome && !s.mod.bakeDue)
  let s := if switching then (s.underBook m).modeIn s.mode m else s
  s.putCommits s.dueCommits s.enPlanned

/-! The latch point (R165). -/

/-- The raster follows a reference now, and the new timing too (R40, R169). -/
def State.bridges (s : State) (new : Timing) : Bool := s.fld SCN_STATUS_lock_state != 0 && new.lock != 0

/-- A timing change among what is latched plans its bridge (R40, R164, R169). -/
def State.planChange (s : State) : State :=
  let p := s.planned
  if p.timing.changed s.timing ∧ s.bridges p.timing then { s with scn := (p.planBridge p.timing).scn } else s

/-- The next boundary starts a bridge frame (R41). -/
def State.bridgeNext (s : State) : Bool := s.scn.bridge.any fun b => !b.left.isEmpty

/-- The slot of the next frame is slot 0, or the mode is not SHUTTER (R139). -/
def State.slotOpen (s : State) : Bool :=
  s.mode != 4 || decide ((s.scn.slot + 1) % max 1 (s.fld TBS_SHUT_CFG_slots) = 0)

/-- What is latched at a latch point for the next frame. What would take effect in a bridge frame is not latched yet (R41). A timing
change latched in the last frame of a bridge has a bridge of its own after it. DESIGN CHOICE (log 17): a COMMIT that misses its
window at the latch point at which a timing change latches is late (R167), though what it missed is a boundary of R41's; it
completes LATE with the first target frame. -/
def State.latchItems (s : State) (ready : Req → Bool) (start : Bool) : State :=
  if s.bridgeNext then s
  else
    let s := (s.latchSwitch ready start).latchCommits ready start
    let s := if start ∨ s.scn.bridge.any (·.lost) then s else s.planChange
    if s.bridgeNext then s
    else
      let s := s.latchTables ready start
      let s := s.latchFlips s.planned ready start (start || s.slotOpen)
      (s.latchRegions ready start).latchJobs ready start (if start then 0 else (s.frame + 1) % 2 ^ 32)

/-- The latch point: `ready` says which staged items both halves hold (R15), and `start` that it stands for the frame before
frame 0 (R160). It ends the fetch of the frame's S, which is checked in bridge frames too (R151). -/
def State.latchPoint (s : State) (ready : Req → Bool) (start : Bool) : State :=
  let s := s.latchItems ready start
  if start then s else s.checkSafety

/-! The end of a frame. -/

/-- What the end of a frame does: waveforms and updates, the sweep, and the stripe buffers of the frame (R205, R216, R186,
R351). -/
def State.frameEnd (s : State) : State :=
  let s := s.odvFrameEnd
  let s := if s.flag MOD_STATUS_bake then s.truncate else s
  let s := s.sweepFrameEnd
  (s.fst.bufs.map (·.1)).foldl (fun s k => if (s.buf k).used && (s.buf k).acks.isEmpty then s.bufOut k else s) s

/-- A write that sets SCN_CTRL.run starts the raster (R160): at the first target instant at least 10 µs away, or 10 µs from
now. -/
def State.startRaster (s : State) : State :=
  let x := 256 * (s.now + 10000)
  let t := s.timing
  let lk := t.lock != 0 && s.dpllOn && s.fld TBS_DPLL_STATUS_state == 2
  let s : State := { s with scn := { s.scn with starting := some (if lk then s.targetFrom t x else x), startLocked := lk } }
  s.setFld SCN_STATUS_running 1

/-- The raster stops at the end of a frame (R160): a switch to DISCHARGE that waits takes effect at once, and a discharge that
waits for its black frame goes on without it. -/
def State.stopRaster (s : State) : State :=
  let s := ((((s.setFld SCN_STATUS_running 0).setFld SCN_STATUS_lock_state 0).setFld SCN_STATUS_stretch 0).setFld SCN_STATUS_blank
    0).setFld SCN_STATUS_line 0
  let s := ((s.setFld SCN_STRETCH_POS_pos 0).setFld SCN_LAT_TOL_lt (2 ^ 32 - 1)).setFld MOD_STATUS_bridge 0
  let s : State := { s with scn := { s.scn with bridge := none, lt := 0, idx := 0, last := false } }
  let s := if s.pnl.stage = .blackDue ∨ s.pnl.stage = .black ∨ s.pnl.stage = .copies 2 then
      (s.sendDischarge true).setPnl { s.pnl with stage := .copies 1 }
    else s
  let s := if s.dischargePending then
      let w := s.mod.pend
      let s : State := { s with mod := { s.mod with pend := none, comm := none, bakeDue := false, autoExit := false } }
      ((s.takeDischarge false false).endSwitch w OK s.frame s.now).showSwitch
    else s
  let s := s.ctlOut
  if s.fld SCN_CTRL_run = 1 then s.startRaster else s

/-! A new frame. -/

/-- The index of the target instant nearest to `x`, within its reference period (R63, R161). -/
def State.targetIndex (s : State) (x : Nat) : Nat :=
  let t := s.timing
  let n := s.framesPer t
  let a : Int := ((s.refInstant * 65536 + s.offset16 t) * n : Nat)
  let p : Int := max 1 s.period16
  ((((x : Int) * (256 * n) - a) * 2 + p) / (2 * p) % n).toNat

/-- The SHUTTER slot of a frame that starts at `x`; `old` is the part before the boundary. -/
def State.slotAt (s old : State) (x : Nat) : Nat :=
  if s.mode ≠ 4 then 0
  else if s.fld SCN_STATUS_lock_state = 2 then s.targetIndex x
  else if old.mode = 4 then (s.scn.slot + 1) % max 1 (s.fld TBS_SHUT_CFG_slots)
  else 0

/-- The raster's part of a frame that starts at `x`, with its stretch lines and, for the last bridge frame, its end. -/
def State.startFrame (s : State) (x stretch slot : Nat) (fix : Option Nat) : State :=
  let c : Scn := { s.scn with
    frameAt := x, idx := 0, lineAt := x, total := s.timing.lines, stretch := stretch, lt := s.timing.lt
    latchLn := s.latchLine, fixedEnd := fix.isSome, endAt := fix.getD 0, under := [], slot := slot, starting := none
    pat := [s.reg SCN_PAT_CFG 0 0, s.reg SCN_PAT_C0 0 0, s.reg SCN_PAT_C1 0 0] }
  ({ s with scn := c }).replan

/-- A pulling raster that starts a frame at its target is at phase (R163). DEDUCED (log 13): also in HOLDOVER, where a pull in
progress goes on (R50) and this end of it is no measurement, though R50 says that lock_state keeps its value. -/
def State.phaseReached (s : State) : State :=
  if s.fld SCN_STATUS_lock_state = 1 ∧ s.atTarget = true then
    ((s.setFld SCN_STATUS_lock_state 2).postSyncLock).replan
  else s

/-- The row timing of a sweep: it starts with the sweep, and rejoins the raster at the first boundary after it (R302). -/
def State.sweepBoundary (s : State) : State :=
  let was := s.kdl.sweep.any (·.started)
  let s := s.startSweep
  match s.kdl.sweep with
  | some w => if was then s else { s with kdl := { s.kdl with rejoin := true } }.sweepGate w
  | none =>
    if s.kdl.rejoin then
      let s : State := { s with kdl := { s.kdl with rejoin := false } }
      if s.fld PNL_GATE_CFG_grst_frame = 1 then s else s.grstPulse
    else s

/-- What every frame's start does once its effects stand: compensation builds, bands, waveforms, dither, panel, sweep, layers'
slots, streams and SYNC_OUT. `old` is the part before the boundary, and a bridge frame repeats the frame before it. -/
def State.openFrame (s old : State) (bridge : Bool) (n tb : Nat) : State :=
  let s := (if bridge then s else s.buildEffect n tb).buildStep
  let s := (s.bandBoundary.odvFrameStart old bridge).ditherFrame bridge
  let s := s.panelBoundary.sweepBoundary
  let s := (if s.mod.bakeShown.isSome then s else (List.range 13).foldl State.releaseLayer s).goLive
  s.setHolds.syncPulse 1 tb

/-- A bridge frame starts (R40, R164): nothing that R41 holds takes effect. At the first, the old timing has ended (R42). -/
def State.bridgeFrame (s : State) (b : Bridge) (stretch : Nat) (left : List Nat) (n tb x : Nat) : State :=
  let old := s
  let s := if s.flag MOD_STATUS_bridge then s else s.truncate
  let s : State := { s with scn := { s.scn with bridge := some { b with left := left } } }
  let s := ((s.setFld MOD_STATUS_bridge 1).setFlag SCN_FLAGS_bridge).setFld SCN_STATUS_lock_state 3
  let s := s.stepSafety
  (s.startFrame x stretch s.scn.slot (if left.isEmpty then b.start else none)).openFrame old true n tb

/-- The lock after a boundary at which effects are taken: a bridge ends at phase, or lost (R40); else a raster without a
reference, or whose bridge was overtaken, runs free; so does one whose DPLL is no longer in LOCKED or HOLDOVER (R161). -/
def State.lockAfter (s : State) (b : Bridge) : State :=
  if b.lost then (s.setFld SCN_STATUS_lock_state 0).postSyncLoss else (s.setFld SCN_STATUS_lock_state (if s.dpllOn then 2 else 0)).postSyncLock

/-- A frame starts in which everything latched takes effect. `done` is the bridge that ends here, if one does. -/
def State.newFrame (s : State) (done : Option Bridge) (n tb x : Nat) : State :=
  let old := s
  let change := s.planned.timing.changed s.timing
  let s := if change then s.truncate else s
  let s := s.takeEffect n tb
  let s : State := { s with scn := { s.scn with bridge := none } }
  let s := s.setFld MOD_STATUS_bridge 0
  let s := match done with
    | some b => s.lockAfter b
    | none => if s.timing.lock = 0 ∨ s.fld SCN_STATUS_lock_state = 3 then s.setFld SCN_STATUS_lock_state 0 else s
  let s := (s.startFrame x s.steadyStretch (s.slotAt old x) none).phaseReached
  let s := s.openFrame old false n tb
  if change then s.checkBudgets else s

/-- The boundary at which the frame in progress ends (R159, R165): it stops the raster, or starts the next frame; then
FRAME_DONE is posted. -/
def State.boundary (s : State) : State :=
  let x := s.scn.nextAt
  let tb := rasterTb x
  let ended := s.frame
  let n := (ended + 1) % 2 ^ 32
  let s := s.frameEnd.setFld MOD_STATUS_bake 0
  let s : State := { s with mod := { s.mod with bakeShown := none } }
  let s :=
    if s.fld SCN_CTRL_run = 0 ∨ s.scn.stopping then { s with scn := { s.scn with stopping := false } }.stopRaster
    else
      let s := ((s.dischargeLine true).setFld SCN_FRAME_frame n).countLife 3
      match (if s.dischargePending then none else s.scn.bridge) with
      | none => s.newFrame none n tb x
      | some b =>
        match b.left with
        | [] => s.newFrame (some b) n tb x
        | l :: ls => s.bridgeFrame b l ls n tb x
  s.postRaster 3 ended tb SCN_EVT_EN_frame_done

/-- Frame 0 starts (R160): what was held is latched and takes effect. -/
def State.firstFrame (s : State) (x : Nat) : State :=
  let tb := rasterTb x
  let lk := s.scn.startLocked && s.dpllOn
  let s := ((s.reach tb).latchPoint (fun _ => true) true).setFld SCN_FRAME_frame 0
  let s := (s.countLife 3).setFld SCN_STATUS_lock_state (if lk then 2 else 0)
  let s := s.newFrame none 0 tb x
  if lk ∧ s.fld SCN_STATUS_lock_state = 2 then s.postSyncLock else s

end Sys2Proof.Machine
end

