-- ==== Sys2Proof/Machine/PowerNeed.lean ====
section
/-! DEFINITION. When a domain may leave ON and when it is needed again (R384, R387), and the power manager's choice (R388,
R392, R393). Domains are numbered as R384 numbers them. -/

namespace Sys2Proof.Machine

open Sys2Proof Reg

/-! Conditions (the last column of R384). -/

/-- No NVS operation, save or scrub is pending. -/
def State.nvsQuiet (s : State) : Bool :=
  nvsIdle s.nvs && s.nvs.gather.isEmpty && s.nvs.waiting.isEmpty && s.nvs.reads.isEmpty && !s.nvs.saving

/-- The host has declared no need of a domain before a time to come (R393). -/
def State.idleHint (s : State) (d : Nat) : Bool := (s.dom d).idle.any fun t => decide (s.now < t)

/-- The line in progress is one of the frame's, from programmed line `a` up to line `b`. -/
def State.within (s : State) (a b : Int) : Bool := decide (a ≤ (s.scn.idx : Int)) && decide ((s.scn.idx : Int) ≤ b)

/-- First and last programmed line whose time carries work of a stage that starts `lead` lines before a line's drive, for a
frame's active lines. -/
def State.firstWork (s : State) (lead : Nat) : Int := (s.timing.firstActive : Int) - lead
def State.lastWork (s : State) (lead : Nat) : Int := (s.timing.firstFront : Int) - 1 - lead

/-- The lead of composition over a line's drive: its slot comes 3 lines before the drive (R224), and composition 40 lines, in
SHORTCUT 16, before the slot (R21). -/
def State.composeLead (s : State) : Nat := if s.mode = 5 then 19 else 43

/-- The updates with a patch that cover a strip of cluster `c` in CELLAR or LAYBY (R214). -/
def State.patchesOn (s : State) (c : Nat) : List Region :=
  if s.mode = 7 ∨ s.mode = 8 then
    s.odv.regions.filter fun x =>
      (x.latched || x.eff.isSome) && x.a.patch != 0 && decide (x.a.strip0 / 16 ≤ c) && decide (c ≤ (x.a.strip0 + x.a.nstrips - 1) / 16)
  else []

/-- The first and the last active line of a rectangle. -/
def State.regionLines (s : State) (a : RegionArgs) : Nat × Nat :=
  let w := if s.pipeMode = 3 then 2 else 1
  (24 * a.row0 / w, (24 * (a.row0 + a.nrows) - 1) / w)

/-- Drivers of KTXk that are enabled. -/
def State.ktxDrivers (s : State) (k : Nat) : List Nat := ((List.range 4).map (4 * k + ·)).filter s.drvOn

/-- A domain may go from ON to a state (R384). The domains that follow a link (R389), an access time, or deep sleep alone are
not chosen by slack. -/
def State.mayLeave (s : State) (d st : Nat) : Bool :=
  if 6 ≤ d ∧ d ≤ 13 then
    let p := (s.port (d - 6)).st
    if st = 1 then p == 4 else p == 0 || (p == 4 && s.idleHint d)
  else if 14 ≤ d ∧ d ≤ 19 then
    if st = 1 then (s.cxPort (d - 14)).st == 3 else decide (layoutPorts s.layout ≤ d - 14) || s.fld FST_CFG_en == 0
  else if 20 ≤ d ∧ d ≤ 21 then
    if st = 2 then !s.running
    else !s.running || (!(decide (s.mode ≤ 6) && s.within (s.firstWork s.composeLead) (s.lastWork 1)) &&
      !(List.range 16).any fun c => (s.patchesOn (16 * (d - 20) + c)).any fun x =>
        let l := s.regionLines x.a
        x.eff.isSome && s.within (s.firstWork 3 + l.1) (s.firstWork 1 + l.2))
  else if 22 ≤ d ∧ d ≤ 53 then
    let cl := s.cl (d - 22)
    if cl.job.isSome then st == 1 && !cl.slot.active && !(s.slotFor (d - 22)).active else true
  else if 54 ≤ d ∧ d ≤ 77 then
    let idle := (domLanes d).all fun l => if l < 200 then (s.lane l).txIdle else (s.lane l).st == 0
    let ks := if d < 70 then [d - 54] else [2 * (d - 70), 2 * (d - 70) + 1]
    idle && (st == 1 || ks.all (fun k => (s.ktxDrivers k).isEmpty) || s.pwrState != 2)
  else if d = 78 then s.nvsQuiet
  else false

/-! The next known need (R387). -/

/-- The earlier of two needs. -/
def minNeed : Option Ns → Option Ns → Option Ns
  | some a, some b => some (min a b)
  | some a, none => some a
  | none, b => b

/-- The time, ns, at which line `l` of the frame in progress starts, or of the next where that has passed; a line below 0 is
counted back from the next frame's start. -/
def State.lineNs (s : State) (l : Int) : Ns :=
  let base : Int := if (s.scn.idx : Int) < l then s.scn.frameAt else s.scn.endAt
  ((base + l * s.scn.lt) / 256).toNat

/-- The need of a stage whose work falls in the frame's lines from `a` to `b`: now while in them. -/
def State.workNeed (s : State) (a b : Int) : Option Ns :=
  if s.running = false ∨ s.scn.starting.isSome then none
  else if s.within a b then some s.now
  else some (s.lineNs a)

/-- The need of a cluster, or of a half's cluster, for the patches of CELLAR and LAYBY: the first slot of their strips (R214, R387); an update
that has not taken effect yet starts with the next frame. -/
def State.patchNeed (s : State) (c : Nat) : Option Ns :=
  (s.patchesOn c).foldl (fun n x =>
    let l := s.regionLines x.a
    minNeed n (if x.eff.isSome then s.workNeed (s.firstWork 3 + l.1) (s.firstWork 3 + l.2)
      else if s.running then some (((s.scn.endAt : Int) + (s.firstWork 3 + l.1) * s.scn.lt) / 256).toNat else none)) none

/-- The lead, ns, of an exit request over the first burst (R287): 8 slots, the training burst and 16 ns. -/
def State.exitLead (s : State) (k : Nat) : Ns :=
  (8 + 2 * s.burstLen (72 + 8 * k)) * slotPs s.kdl.rate / 1000 + 17

/-- The need of KTXk for the raster's bursts and the control packets that wait. -/
def State.ktxNeed (s : State) (k : Nat) : Option Ns :=
  if (s.ktxDrivers k).isEmpty then none
  else if s.kdl.ctl.any fun c => (s.ktxDrivers k).contains c.drv then some s.now
  else if s.drives = false then none
  else (s.workNeed (s.firstWork 1) (s.lastWork 0)).map fun t => max s.now (t - s.exitLead k)

/-- Wake latency of a CXL port, ns (R359). -/
def State.wakeLat (s : State) (n : Nat) : Ns := 100 * max (s.fld (FST_PORT_WAKE_cfg n)) (s.fld (FST_PORT_WAKE_obs n))

/-- The raster's need of a domain. -/
def State.rasterNeed (s : State) (d : Nat) : Option Ns :=
  if 14 ≤ d ∧ d ≤ 19 then
    if s.running ∧ d - 14 < layoutPorts s.layout ∧ s.fld FST_CFG_en = 1 ∧ s.fld SCN_LAT_TOL_lt ≠ 2 ^ 32 - 1 then
      some (max s.now (s.scn.needAt / 256 - (s.wakeLat (d - 14) + 2000)))
    else none
  else if 20 ≤ d ∧ d ≤ 21 then
    if s.mode ≤ 6 then s.workNeed (s.firstWork s.composeLead) (s.lastWork 1)
    else (List.range 16).foldl (fun n c => minNeed n (s.patchNeed (16 * (d - 20) + c))) none
  else if 22 ≤ d ∧ d ≤ 53 then
    if s.mode ≤ 6 then s.workNeed (s.firstWork 3) (s.lastWork 3)
    else s.patchNeed (d - 22)
  else if 54 ≤ d ∧ d ≤ 69 then s.ktxNeed (d - 54)
  else if 70 ≤ d ∧ d ≤ 77 then minNeed (s.ktxNeed (2 * (d - 70))) (s.ktxNeed (2 * (d - 70) + 1))
  else none

/-- An armed descriptor's executing unit or action concerns a domain. -/
def concerns (b : Body) (d : Nat) : Bool :=
  let cls (m : Word) : Bool := decide (22 ≤ d) && decide (d ≤ 53) && m.getLsbD (d - 22)
  match b with
  | .milestone 3 _ args => cls ((args >>> 32).setWidth 32)
  | .milestone 4 _ args => d == 6 + (args.toNat % 65536) / 128
  | .engineJob j => cls j.clusters
  | .streamBind b => d == 6 + b.ctx / 128
  | .nvmWrite _ _ _ _ _ => d == 78
  | .nvmRead _ _ _ _ => d == 78
  | .readback _ _ _ => decide (14 ≤ d) && decide (d ≤ 19)
  | .tableLoad _ _ _ => decide (14 ≤ d) && decide (d ≤ 19)
  | .regionUpdate r => decide (22 ≤ d) && decide (d ≤ 53) && decide (r.strip0 / 16 ≤ d - 22) &&
      decide (d - 22 ≤ (r.strip0 + r.nstrips - 1) / 16)
  | _ => false

/-- The need that hints declare (R393): one that has passed has lapsed, and a stream port that the host has declared idle is restored by the
time given. -/
def State.hintNeed (s : State) (d : Nat) : Option Ns :=
  let x := s.dom d
  let ahead (t : Option Ns) : Option Ns := t.filter fun t => decide (s.now < t)
  minNeed (ahead x.need) (if 6 ≤ d ∧ d ≤ 13 then ahead x.idle else none)

/-- The next known need of a domain, from the raster, milestones, queued work and hints. -/
def State.need (s : State) (d : Nat) : Option Ns :=
  let ms := s.tbs.armed.foldl (fun n a => if concerns a.body d then minNeed n (some a.launch) else n) none
  let job := if 22 ≤ d ∧ d ≤ 53 ∧ s.eng.jobs.any (fun j => j.latched && j.todo.contains (d - 22)) then
      (s.workNeed (s.firstWork 3) (s.lastWork 3)).map (· - 2000)
    else none
  let nvs := if d = 78 ∧ s.nvsQuiet = false then some s.now else none
  minNeed (minNeed (s.rasterNeed d) ms) (minNeed (minNeed job nvs) (s.hintNeed d))

/-! The choice (R388). -/

/-- Why a state does not fit: 0 it fits, 10 too little slack, 11 too little residency. -/
def fits (d st : Nat) (slack : Option Ns) : Nat :=
  match slack with
  | none => 0
  | some x =>
    if x < domEnter d st + domExit d st + 1000 then 10
    else if x - domEnter d st - domExit d st < domResidency d st then 11
    else 0

/-- A lane domain that is OFF while its rails are down takes longer to leave it (R390). -/
def State.railTime (s : State) (d st : Nat) : Ns :=
  if st = 2 ∧ laneDom d ∧ s.railsUp = false then 200000 + 1000000 * max 1 (s.fld PWR_VR_CFG_to) + 1000 * s.fld PWR_VR_CFG_settle
  else 0

/-- A domain that is ON is evaluated: the deepest state that fits is requested, and its exit planned; none that fits counts as a
refusal while accounting is active. -/
def State.evaluate (s : State) (d : Nat) : State :=
  let n := s.need d
  let slack := n.map (· - s.now)
  let s := s.setDom d { s.dom d with slack := min 0xFFFFFF ((slack.getD (2 ^ 64)) / 1000), known := n }
  let ok := [2, 1].filter fun st => domHas d st && decide (st ≤ s.domMax d) && s.mayLeave d st
  let reduced := fun st => slack.map (· - s.railTime d st)
  match ok.find? fun st => fits d st (reduced st) == 0 with
  | some st =>
    let s := s.setDom d { s.dom d with exitAt := n.map fun t => t - (domExit d st + s.railTime d st) - 1000 }
    s.requestDom d st
  | none =>
    match ok.getLast? with
    | some st => s.refuse d (fits d st (reduced st)) false
    | none => s

/-- A domain is looked at: one that is ON is evaluated when its condition has become true or its need has changed; one that is
not ON follows a change of its need. -/
def State.look (s : State) (d : Nat) : State :=
  let x := s.dom d
  if x.going.isSome then s
  else if x.st = 0 then
    let c := s.mayLeave d 1 || s.mayLeave d 2
    if c ∧ (x.cond = false ∨ x.known ≠ s.need d) then
      let s := s.setDom d { x with cond := true }
      s.evaluate d
    else if x.cond = c then s else s.setDom d { x with cond := c }
  else
    let n := s.need d
    if n = x.known then s
    else s.setDom d { x with known := n, exitAt := n.map fun t => t - (domExit d x.st + s.railTime d x.st) - 1000 }

/-- The power manager's pass over every domain that it moves by slack. -/
def State.powerScan (s : State) : State :=
  if s.pwr.deep ≠ 0 then s
  else ((List.range 73).map (· + 6)).foldl State.look s

/-- A request left in the pending slot is evaluated afresh (R392); ON is served at once. -/
def State.servePending (s : State) (d : Nat) : State :=
  let x := s.dom d
  match x.pend with
  | none => s
  | some st =>
    let s := s.setDom d { x with pend := none }
    if st = 0 then s.requestDom d 0
    else if (s.mayLeave d 1 || s.mayLeave d 2) = false then s.refuse d 14 true
    else if x.st = 0 then s.evaluate d
    else s

end Sys2Proof.Machine
end

