-- ==== Sys2Proof/Machine/RecordStore.lean ====
section
/-! DEFINITION. The record store's operations (R406 to R422): NVM_WRITE, NVM_READ, commits, direct writes, hot saves, scrub and
the journal's replay. The checks and signatures of firmware copies are those of R444 and R445. -/

namespace Sys2Proof.Machine

open Sys2Proof Reg

/-! Firmware (R419, R444, R445). -/

/-- A signature block's fixed bytes. -/
def sigFormatOk (g : List Byte) : Bool :=
  leAt g 0 4 == 0x4A585347 && leAt g 4 2 == 1 && leAt g 6 1 == 1 && leAt g 7 1 == 0 && leAt g 204 52 == 0

/-- The signature of a signed object verifies by the key in its block. -/
def sigVerifies (b : List Byte) : Bool :=
  let g := b.drop (b.length - 256)
  Config.p384Verify ((g.drop 8).take 96) (Config.sha384 (b.take (b.length - 256) ++ g.take 8 ++ g.drop 200)) ((g.drop 104).take 96)

/-- A firmware image passes the check of R445. -/
def firmwareOk (b : List Byte) : Bool :=
  let g := b.drop (b.length - 256)
  decide (256 ≤ b.length) && sigFormatOk g && Config.sha384 ((g.drop 8).take 96) == Config.firmwareKey && sigVerifies b &&
    decide (Config.fuseFwSvn.toNat ≤ leAt g 200 4)

/-- The firmware copy that boot logic loads (R419): 1 A, 2 B, 3 none; and its image. -/
def bootFirmware (m : Sparse Byte) : Nat × List Byte :=
  let c := copiesOf m 0x0001
  let pass (x : Option (Nat × List Byte)) (n : Nat) : Option (Nat × List Byte) :=
    match x with
    | some y => if firmwareOk y.2 then some (n, y.2) else none
    | none => none
  let bFirst := match newestCopy m 0x0001 with
    | some n => n.1
    | none => false
  let l := if bFirst then [pass c.2 2, pass c.1 1] else [pass c.1 1, pass c.2 2]
  (l.findSome? id).getD (3, [])

/-! Reading records. -/

/-- Bytes written into a partition's host memory (R329, R417). -/
def State.toHost (s : State) (p a : Nat) (d : List Byte) : State :=
  ({ s with hif := { s.hif with hostMem := Sparse.write 0 s.hif.hostMem (2 ^ 64 * p + a) d } }).emit (.hostWrite p a d)

/-- The newest copy of a key is chosen: a tie is posted (R410, R421). -/
def State.noteTie (s : State) (key : Nat) : State :=
  if tieOf s.nvs.mem key then (s.setFlag NVS_FLAGS_tie).raiseLog 0x71 0x11 key else s

/-- Body of a key's newest valid copy, empty for none. -/
def State.record (s : State) (key : Nat) : List Byte := ((newestCopy s.nvs.mem key).map (·.2.2)).getD []

/-- The copy that an NVM_READ names: 0 the newest valid, 1 A, 2 B; its offset and body. -/
def State.copyFor (s : State) (key copy : Nat) : Option (Nat × List Byte) :=
  match nvsSlot key with
  | none => none
  | some (off, size) =>
    let c := copiesOf s.nvs.mem key
    let b := if copy = 0 then (newestCopy s.nvs.mem key).map (·.1) else some (copy == 2)
    match b with
    | none => none
    | some isB => ((if isB then c.2 else c.1)).map fun x => (if isB then off + size else off, x.2)

/-- An NVM_READ is served (R417). -/
def State.serveRead (s : State) (r : Req) (key copy len dst : Nat) : State :=
  let s := if copy = 0 then s.noteTie key else s
  match s.copyFor key copy with
  | none => s.done r DATA_ERROR
  | some (off, body) => (s.toHost r.h.part dst ((nvsBytes s.nvs.mem off 64 ++ body).take len)).done r OK

/-- Descriptors whose writes are not durable yet. -/
def State.nvmPending (s : State) : List Req :=
  (s.nvs.gather ++ s.nvs.commit).filterMap (·.req) ++ (s.nvs.direct.toList ++ s.nvs.waiting).filterMap (·.req) ++ s.nvs.saveReqs

/-- NVM_READs whose earlier writes are all durable are served (R418). -/
def State.serveReads (s : State) : State :=
  s.nvs.reads.foldl (fun s x =>
    if s.nvmPending.any (fun w => decide (w.ord < x.1.ord)) then s
    else
      let s : State := { s with nvs := { s.nvs with reads := s.nvs.reads.filter fun y => y.1.ord != x.1.ord } }
      match x.2 with
      | .nvmRead key copy len dst => s.serveRead x.1 key copy len dst
      | _ => s) s

/-! Writing. -/

/-- A direct write begins (R411): its target is chosen, and its body goes in before its header. -/
def State.startDirect (s : State) : State :=
  match s.nvs.waiting with
  | [] => s
  | d :: ds =>
    let t := nextCopy s.nvs.mem d.key
    { s with nvs := { s.nvs with
        waiting := ds
        direct := some { d with off := t.1, seq := t.2 }
        mem := Sparse.write 0 s.nvs.mem (t.1 + 64) ((copyBytes d.key t.2 d.body).drop 64) } }

/-- An operation has ended: the next begins (R413, R418), unless a hot save runs or PFW_N has stopped the NVS. While the SVC
restarts, what waits on it is delayed (R432). -/
def State.nvsNext (s : State) : State :=
  if s.cal.restarting then s else
  let s :=
    if nvsIdle s.nvs = false ∨ s.nvs.saving ∨ s.nvs.stopped then s
    else if s.nvs.waiting.isEmpty = false then s.startDirect
    else s.nvsPump
  s.serveReads

/-- A write has failed its verification twice (R407, R434). -/
def State.writeFailed (s : State) (off key : Nat) : State := (s.setFlag NVS_FLAGS_write_fail).log 0x0104 0x11 off key

/-- Open bytes: what a granule that failed holds. -/
def State.openBytes : Nat → State → List Byte × State
  | 0, s => ([], s)
  | n + 1, s =>
    let x := s.draw 256
    let r := State.openBytes n x.2
    (BitVec.ofNat 8 x.1 :: r.1, r.2)

/-- A granule's bytes become open. -/
def State.spoilGranule (s : State) (off : Nat) : State :=
  let x := State.openBytes 64 s
  { x.2 with nvs := { x.2.nvs with mem := Sparse.write 0 x.2.nvs.mem off x.1 } }

/-- CAL_RUNs whose results record has been committed complete (R427). -/
def State.endCalRuns (s : State) : State :=
  let l := s.cal.ended.filter (·.2.2)
  let s : State := { s with cal := { s.cal with ended := s.cal.ended.filter (!·.2.2) } }
  l.foldl (fun s e => s.done e.1 e.2.1) s

/-- Steps 3 and 4 of a commit end (R413): `failed` are the items whose verification failed twice. -/
def State.endCommit (s : State) (failed : List Nat) : State :=
  let items := s.nvs.commit.zipIdx
  let good := (items.filter fun x => !failed.contains x.2).map (·.1)
  let bad := (items.filter fun x => failed.contains x.2).map (·.1)
  let s : State := { s with nvs := { s.nvs with mem := nvsApply s.nvs.mem good, commit := [] } }
  let s := bad.foldl (fun s i => (s.spoilGranule (i.off / 64 * 64)).writeFailed i.off i.key) s
  let s := s.doneAll (good.filterMap (·.req)) OK
  let s := s.doneAll (bad.filterMap (·.req)) DATA_ERROR
  s.endCalRuns

/-- A gathered or waiting write of a key is replaced (R416): its NVM_WRITE completes SUPERSEDED. -/
def State.supersede (s : State) (key : Nat) : State :=
  let rs := (s.nvs.gather.filter fun i => i.key == key).filterMap (·.req)
  s.doneAll rs SUPERSEDED

/-- Keys that only the SVC or the test writes (R416). -/
def sealedKey (key : Nat) : Bool :=
  key == 2 || key == 0x10 || key == 0x11 || key == 0x20 || key == 0x21 || (decide (0x40 ≤ key) && decide (key ≤ 0x51))

/-- A hot save starts (R415): a direct write in progress is abandoned. -/
def State.startSave (s : State) : State :=
  if s.inReset then s else
  let d := s.nvs.direct
  let s : State := { s with nvs := { s.nvs with direct := none, saving := true } }
  match d with
  | some d => match d.req with
    | some r => s.done r ABORTED
    | none => s
  | none => s

/-- NVM_WRITE reaches the SVC (R416). The newest copy is chosen as it is accepted, and a tie posted (R410). -/
def State.takeNvmWrite (s : State) (r : Req) (key : Nat) (hot : Bool) (len addr : Nat) (data : Option (List Byte)) : State :=
  if s.nvs.stopped then s.done r ABORTED
  else if hot then
    if key ≠ 0 ∨ len ≠ 0 ∨ addr ≠ 0 then s.done r INVALID
    else
      let s := if s.nvs.saving then s else s.startSave
      { s with nvs := { s.nvs with saveReqs := s.nvs.saveReqs ++ [r] } }
  else if sealedKey key then s.done r DENIED
  else
    match nvsSlot key with
    | none => s.done r INVALID
    | some (_, size) =>
      if len = 0 ∨ size - 64 < len then s.done r INVALID
      else
        match data with
        | none => s.done r DATA_ERROR
        | some d =>
          if d.length ≠ len then s.done r DATA_ERROR
          else if key = 0x0001 ∧ firmwareOk d = false then s.done r INVALID
          else
            let s := (s.supersede key).noteTie key
            if len ≤ 16320 then (s.gather { key := key, off := 0, data := d, req := some r }).nvsNext
            else
              let s : State := { s with nvs := { s.nvs with
                  gather := s.nvs.gather.filter fun i => i.key != key
                  waiting := s.nvs.waiting ++ [{ key := key, body := d, req := some r, off := 0, seq := 0 }] } }
              s.nvsNext

/-- NVM_READ reaches the SVC (R417, R418). -/
def State.takeNvmRead (s : State) (r : Req) (key copy len dst : Nat) : State :=
  if s.nvs.stopped then s.done r ABORTED
  else if len < 64 ∨ nvsSlot key = none ∨ 3 ≤ copy then s.done r INVALID
  else ({ s with nvs := { s.nvs with reads := s.nvs.reads ++ [(r, Body.nvmRead key copy len dst)] } } : State).serveReads

/-- PFW_N: NVM_WRITEs and NVM_READs not yet started complete ABORTED, and the NVS takes no further work (R415). A write in the
gathered buffer has started: the save commits it. -/
def State.stopNvs (s : State) : State :=
  let rs := s.nvs.waiting.filterMap (·.req) ++ s.nvs.reads.map (·.1)
  ({ s with nvs := { s.nvs with waiting := [], reads := [], stopped := true } }).doneAll rs ABORTED

/-! Hot values (R409, R415). -/

/-- Bodies of the three hot records. -/
def State.countersBody (s : State) : List Byte := (List.range 32).flatMap fun k => leBytes 8 (Sparse.get 0 s.nvs.counters k)
def State.onTimeBody (s : State) : List Byte := leBytes 8 s.nvs.onTime
def State.summaryBody (s : State) : List Byte :=
  (List.range 184320).flatMap fun t => (List.range 3).flatMap fun k => leBytes 2 ((s.tile t).sums.getD k 0)

/-- Commits one after the other until the gathered buffer is empty (R415 step 3). -/
def State.drainGather : Nat → State → State
  | 0, s => s
  | n + 1, s => if s.nvs.gather.isEmpty then s else State.drainGather n (s.nvsStart.endCommit [])

/-- The hot save's steps to its end (R415). -/
def State.endSave (s : State) : State :=
  let s := if s.nvs.commit.isEmpty then s else s.endCommit []
  let s := State.drainGather s.nvs.gather.length s
  let hot : List GItem := [{ key := 0x40, off := 0, data := s.countersBody, req := none },
    { key := 0x41, off := 0, data := s.onTimeBody, req := none }]
  let s := (({ s with nvs := { s.nvs with gather := hot } }).nvsStart).endCommit []
  let t := nextCopy s.nvs.mem 0x42
  let rs := s.nvs.saveReqs
  let s : State := { s with nvs := { s.nvs with
      mem := Sparse.write 0 s.nvs.mem t.1 (copyBytes 0x42 t.2 s.summaryBody)
      saving := false, saveReqs := [] } }
  let s := s.raise 0x70 0x11 (s.nvs.commitNo % 65536 + 2 * 65536)
  (s.doneAll rs OK).nvsNext

/-! Commands. -/

/-- GATHER_TIMEOUT (R413). -/
def execGatherTimeout (s : State) : Host.Outcome State Fault Refusal :=
  .next (
    if nvsIdle s.nvs && !s.nvs.stopped && !s.cal.restarting && !s.nvs.gather.isEmpty then
      (s.reach (s.nvs.gatherAt + 1000000 * s.fld NVS_CFG_gather_ms)).nvsStart
    else s)

/-- JOURNAL_COMMIT (R413). -/
def execJournalCommit (failed : List Nat) (s : State) : Host.Outcome State Fault Refusal :=
  .next (if s.nvs.commit.isEmpty then s else (s.endCommit failed).nvsNext)

/-- DIRECT_WRITE_DONE (R411). -/
def execDirectWriteDone (failed : Bool) (s : State) : Host.Outcome State Fault Refusal :=
  .next (
    match s.nvs.direct with
    | none => s
    | some d =>
      let s : State := { s with nvs := { s.nvs with direct := none } }
      let s :=
        if failed then (s.spoilGranule d.off).writeFailed d.off d.key
        else { s with nvs := { s.nvs with mem := Sparse.write 0 s.nvs.mem d.off (copyBytes d.key d.seq d.body) } }
      let s := match d.req with
        | some r => s.done r (if failed then DATA_ERROR else OK)
        | none => s
      s.nvsNext)

/-! Scrub (R420). -/

/-- The record copy that holds a granule: key, its offset, the other copy's offset, slot size. -/
def copyAt (off : Nat) : Option (Nat × Nat × Nat × Nat) :=
  ([1, 2, 3, 0x10, 0x11, 0x20, 0x21, 0x30, 0x40, 0x41, 0x42, 0x51] ++ (List.range 64).map (0x8000 + ·)).findSome? fun key =>
    match nvsSlot key with
    | none => none
    | some (a, size) =>
      if a ≤ off ∧ off < a + size then some (key, a, a + size, size)
      else if a + size ≤ off ∧ off < a + 2 * size then some (key, a + size, a, size)
      else none

/-- A granule that fails at the normal reference: its bytes are open, and a copy whose equal is still valid is rewritten from
it. -/
def State.scrubLost (s : State) (off : Nat) : State :=
  let before := (copyAt off).bind fun c =>
    match readCopy s.nvs.mem c.1 c.2.1 c.2.2.2, readCopy s.nvs.mem c.1 c.2.2.1 c.2.2.2 with
    | some x, some y => if x = y then some (c.2.1, copyBytes c.1 y.1 y.2) else none
    | _, _ => none
  match before with
  | none => s.spoilGranule off
  | some (a, d) =>
    let n := (d.length + 63) / 64
    (({ s with nvs := { s.nvs with mem := Sparse.write 0 s.nvs.mem a d, rewrites := s.nvs.rewrites + n, repaired := true } }).addSat
      NVS_REFRESH_CNT_count 0 0 n).setFlag NVS_FLAGS_refresh

/-- The scrub position moves on; at the end of a pass that rewrote anything, NVM_REFRESH (R420, R421). -/
def State.scrubOn (s : State) : State :=
  let p := s.fld NVS_SCRUB_pos + 1
  if p < 131072 then s.setFld NVS_SCRUB_pos p
  else
    let n := s.nvs.rewrites
    let arg := min n (2 ^ 24 - 1) + (if s.nvs.repaired then 2 ^ 24 else 0)
    let s := (({ s with nvs := { s.nvs with rewrites := 0, repaired := false } }).setFld NVS_SCRUB_pos 0)
    if n = 0 then s else s.raise 0x72 0x11 arg

/-- A pass begins with its first granule, `scrub_days` (0 taken as 1) or more after the pass before it began (DEDUCED from 'once
per scrub_days', log 46). -/
def State.scrubPass (s : State) : State :=
  if s.fld NVS_SCRUB_pos = 0 then
    let s := match s.nvs.scrubAt with
      | some t => s.reach (t + max 1 (s.fld NVS_CFG_scrub_days) * 86400000000000)
      | none => s
    { s with nvs := { s.nvs with scrubAt := some s.now } }
  else s

/-- SCRUB_GRANULE (R420): the granule at the scrub position is read, while nothing else is pending. -/
def execScrubGranule (r : ScrubRead) (s : State) : Host.Outcome State Fault Refusal :=
  .next (
    if s.fld NVS_CFG_scrub_en = 1 ∧ s.nvsQuiet ∧ s.nvs.stopped = false ∧ s.cal.restarting = false then
      let s := s.scrubPass
      let s := match r with
        | .clean => s
        | .marginFail =>
          (({ s with nvs := { s.nvs with rewrites := s.nvs.rewrites + 1 } }).addSat NVS_REFRESH_CNT_count 0 0 1).setFlag
            NVS_FLAGS_refresh
        | .normalFail => s.scrubLost (64 * s.fld NVS_SCRUB_pos)
      s.scrubOn
    else s)

/-! Power-up (R414). -/

/-- The journal's marker is whole (R412). -/
def markerWhole (m : Sparse Byte) : Bool :=
  let b := nvsBytes m 0x1000 64
  let n := leAt b 8 2
  leAt b 0 4 == 0x4C4E524A && leAt b 60 4 == crc32c (b.take 60) && decide (1 ≤ n) && decide (n ≤ 64) &&
    decide (leAt b 12 4 ≤ 0x4000) &&
    leAt b 16 4 == crc32c (nvsBytes m 0x1040 (16 * n) ++ nvsBytes m 0x2000 (leAt b 12 4))

/-- The journal's entries written to their targets, and the marker cleared. -/
def replayed (m : Sparse Byte) : Sparse Byte :=
  let m' := (List.range (leAt (nvsBytes m 0x1000 64) 8 2)).foldl (fun t i =>
    let e := nvsBytes m (0x1040 + 16 * i) 16
    Sparse.write 0 t (leAt e 0 4) (nvsBytes m (0x2000 + leAt e 8 4) (leAt e 4 4))) m
  Sparse.write 0 m' 0x1000 (List.replicate 64 0)

/-- The journal is checked at power-up: a whole marker's commit is replayed, and a marker that is neither whole nor zero is
rolled back; NVM_COMMIT is kept for the release. -/
def State.checkJournal (s : State) : State :=
  let m := s.nvs.mem
  let b := nvsBytes m 0x1000 64
  let no := leAt b 4 4
  if markerWhole m then
    ({ s with nvs := { s.nvs with mem := replayed m, commitNo := no, bootEvent := some (0, no) } }).setFlag NVS_FLAGS_replay
  else if b.all (· == 0) then s
  else ({ s with nvs := { s.nvs with bootEvent := some (1, no) } }).setFlag NVS_FLAGS_rollback

end Sys2Proof.Machine
end

