-- ==== Sys2Proof/Machine/FrameStore.lean ====
section
/-! DEFINITION. The frame store's life and links (R346 to R363): bring-up and take-down, port loss, rebuild, link power, region
enables, the host aperture and the stripe buffers. -/

namespace Sys2Proof.Machine

open Sys2Proof Reg

/-! Ports. -/

/-- The ports of the layout in force. -/
def State.cxPorts (s : State) : List Nat := List.range (layoutPorts s.layout)

/-- A port's state entered and shown. -/
def State.portState (s : State) (n st : Nat) : State :=
  (s.setCxPort n { s.cxPort n with st := st }).setFld (FST_PORT_STATUS_state n) st

/-- FST_STATUS.state and usable shown. -/
def State.showStore (s : State) (st : Nat) : State :=
  let s := s.setFld FST_STATUS_state st
  s.setFld FST_STATUS_usable (min 2047 (s.usable / 2 ^ 30))

/-! Bring-up (R347 to R349). -/

/-- FST_CFG.en set: the ports of its layout leave reset and train. -/
def State.fstUp (s : State) : State :=
  let s : State := { s with fst := { layout := s.fld FST_CFG_layout, rateMax := s.fld FST_CFG_rate_max } }
  let s := s.cxPorts.foldl (fun s n => (((s.needNow (14 + n)).emit (.pin "CX_PERST_N" n true)).portState n 1)) s
  s.showStore 1

/-- FST_CFG.en cleared: the frame store is taken down and its contents are lost. -/
def State.fstDown (s : State) : State :=
  let s := s.cxPorts.foldl (fun s n => s.emit (.pin "CX_PERST_N" n false)) s
  let s : State := { s with fst := { layout := s.fst.layout, rateMax := s.fst.rateMax } }
  let s := (List.range 6).foldl (fun s n => s.setReg (FST_PORT_STATUS n) 0 0 0) s
  s.showStore 0

/-- A device meets R347 for the rate that FST_CFG.rate_max asks for. -/
def State.deviceOk (s : State) (d : CxlDevice) : Bool :=
  d.ok && d.rate == s.fst.rateMax && decide (8192 ≤ d.capMiB) && decide (d.capMiB ≤ 262144)

/-- A port's training and enumeration have ended (R347): it is used, or counts as absent, which leaves the store failed. Once
every port of the layout is in use, the fill starts. -/
def State.portTrained (s : State) (n : Nat) (dev : Option CxlDevice) : State :=
  match dev.filter s.deviceOk with
  | none => (s.portState n 0).showStore 4
  | some d =>
    let s := s.setCxPort n { s.cxPort n with capMiB := d.capMiB, rate := d.rate, linkUp := true }
    let s := ((s.setFld (FST_PORT_STATUS_rate n) d.rate).setFld (FST_PORT_STATUS_cap n) (d.capMiB / 1024)).portState n 2
    if s.cxPorts.all fun k => (s.cxPort k).st == 2 then
      ({ s with fst := { s.fst with filling := true } }).showStore 1
    else s

/-- CXL_PORT_TRAINED (R347). -/
def execCxlPortTrained (n : Nat) (dev : Option CxlDevice) (s : State) : Host.Outcome State Fault Refusal :=
  .next (if s.cxPorts.contains n ∧ (s.cxPort n).st = 1 ∧ s.fld FST_CFG_en = 1 then s.portTrained n dev else s)

/-- The mode book's defaults are copied into the MODEBOOK region and validated, as a TABLE_LOAD would be (R26). -/
def State.loadDefaultBook (s : State) : State :=
  let s := s.noteTie 0x30
  let b := s.record 0x30
  if b.isEmpty then s
  else if s.inKind 6 s.bookAddr b.length = false then s.regionMiss
  else
    let s := s.ppaWrite s.bookAddr b
    let r := s.readBook
    if r.1 ≠ OK then s
    else if s.bookError r.2 ≠ 0 then s.rejectBook (s.bookError r.2)
    else s.activateBook r.2

/-- FRAME_STORE_READY (R348): the fill completes; the defaults of R26, once, and the vintage fill of R190 follow. -/
def execFrameStoreReady (s : State) : Host.Outcome State Fault Refusal :=
  .next (
    if s.fst.filling then
      let s : State := { s with fst := { s.fst with filling := false } }
      let s := s.showStore (if s.fld FST_STATUS_state = 1 then 2 else s.fld FST_STATUS_state)
      let s := if s.mod.defaultsDue then ({ s with mod := { s.mod with defaultsDue := false } }).loadDefaultBook else s
      s.fillVintage
    else s)

/-! Port loss (R360 to R362). -/

/-- The stripe buffers once a port is lost: unit writes outstanding to it end, and the parity of such a stripe is written again
(R361). -/
def State.dropAcks (s : State) (n : Nat) : State :=
  (List.range 48).foldl (fun s k =>
    let b := s.buf k
    let here (u : Nat) : Bool :=
      if u = 5 then s.layout == 0 && b.stripe % 6 == n else (unitPlace s.layout (b.stripe * 5 + u)).2 == n
    if b.used && b.acks.any here then
      let data := b.acks.any fun u => u != 5 && here u
      let left := b.acks.filter fun u => !here u
      let left := if data && s.layout == 0 && !left.contains 5 then left ++ [5] else left
      if left.isEmpty then s.setBuf k {} else s.setBuf k { b with acks := left }
    else s) s

/-- A port is declared lost (R360). -/
def State.losePort (s : State) (n cause : Nat) : State :=
  let recon := s.layout == 0 && s.cxPorts.all fun k => k == n || (s.cxPort k).st == 2 || (s.cxPort k).st == 3
  let s := s.setCxPort n { s.cxPort n with linkUp := false, exitAt := none, bad := [] }
  let s := (s.portState n 4).setFld FST_STATUS_lost n
  let s := s.showStore (if recon then 3 else 4)
  let s := s.setFlag FST_FLAGS_port_lost
  let s := if recon then s else s.setFlag FST_FLAGS_data_lost
  let s := (s.dropAcks n).countLife 6
  s.raiseLog 0x43 0x0E (n + 16 * cause + (if recon then 256 else 0))

/-- A port that carries traffic: in L0 or L1, or being rebuilt. -/
def State.portLive (s : State) (n : Nat) : Bool :=
  s.cxPorts.contains n && ((s.cxPort n).st == 2 || (s.cxPort n).st == 3 || (s.cxPort n).st == 5)

/-- READ_WATCHDOG (R360): it counts only in L0. -/
def execReadWatchdog (n : Nat) (s : State) : Host.Outcome State Fault Refusal :=
  .next (if s.portLive n ∧ (s.cxPort n).st ≠ 3 then (s.addSat FST_CNT_WD_count 0 0 1).losePort n 0 else s)

/-- CXL_LINK_DOWN (R360). -/
def execCxlLinkDown (n : Nat) (s : State) : Host.Outcome State Fault Refusal :=
  .next (
    if s.portLive n then s.losePort n 1
    else if (s.cxPort n).st = 4 then s.setCxPort n { s.cxPort n with linkUp := false }
    else s)

/-- CXL_FATAL_ERROR (R360). -/
def execCxlFatalError (n : Nat) (s : State) : Host.Outcome State Fault Refusal :=
  .next (if s.portLive n then s.losePort n 2 else s)

/-- A unit of a port reads poisoned or uncorrectable (R362): it is rewritten from its stripe, or is lost. -/
def State.poisonedUnit (s : State) (n stripe : Nat) : State :=
  if s.layout = 0 ∧ ((List.range 6).all fun k => k == n || s.unitHere stripe k) then
    let s := s.addSat FST_CNT_RECON_count 0 0 1
    { s with fst := { s.fst with poisoned := s.fst.poisoned.erase (8 * stripe + n) } }
  else
    let s : State := { s with fst := { s.fst with poisoned := s.fst.poisoned.erase (8 * stripe + n) ++ [8 * stripe + n] } }
    s.setFlag FST_FLAGS_data_lost

/-- CXL_READ_RETURN (R361, R362): `dev` is the device address read. More than 16 bad reads within 1 ms lose the port. -/
def execCxlReadReturn (n dev : Nat) (poisoned : Bool) (s : State) : Host.Outcome State Fault Refusal :=
  .next (
    if s.portLive n ∧ (s.cxPort n).st ≠ 3 ∧ poisoned then
      let bad := s.now :: (s.cxPort n).bad.filter fun t => decide (s.now < t + 1000000)
      if 16 < bad.length then s.losePort n 3
      else (s.setCxPort n { s.cxPort n with bad := bad }).poisonedUnit n (dev / 4096)
    else s)

/-- CXL_CORRECTABLE_ERROR (R346, R434): counted, and logged at most once per port and hour with the errors since. -/
def execCxlCorrectableError (n : Nat) (s : State) : Host.Outcome State Fault Refusal :=
  .next (
    if s.portLive n then
      let c := s.cxPort n
      let due := match c.corrLog with
        | none => true
        | some t => decide (t + 3600000000000 ≤ s.now)
      if due then (s.setCxPort n { c with corr := 0, corrLog := some s.now }).log 0x0102 0x0E n (c.corr + 1)
      else s.setCxPort n { c with corr := c.corr + 1 }
    else s)

/-! Rebuild (R363). -/

/-- FST_PORT_CTRLn.rebuild. -/
def State.startRebuild (s : State) (n : Nat) : State :=
  if s.layout = 0 ∧ n < 6 ∧ (s.cxPort n).st = 4 ∧ (s.cxPort n).linkUp then
    let s : State := { s with fst := { s.fst with rebuildPt := 0 } }
    let s := ((s.portState n 5).setFld FST_REBUILD_port n).setFld FST_REBUILD_done 0
    if s.cxPorts.any fun k => (s.cxPort k).st == 4 then s else s.showStore 5
  else s

/-- REBUILD_DONE (R363): every unit of the port stands rewritten from the other five. -/
def execRebuildDone (s : State) : Host.Outcome State Fault Refusal :=
  .next (
    match s.cxPorts.find? fun n => (s.cxPort n).st == 5 with
    | none => s
    | some n =>
      if s.cxPorts.all fun k => k == n || (s.cxPort k).st == 2 then
        let s := (s.portState n 2).setFld FST_REBUILD_done (s.portCap / 2 ^ 26)
        let s : State := { s with fst := { s.fst with
            rebuildPt := s.portCap / 4096, poisoned := s.fst.poisoned.filter fun k => k % 8 != n } }
        (s.showStore 2).setFlag FST_FLAGS_rebuilt
      else s)

/-! Link power (R174, R359). -/

/-- The wake latency of the layout's ports, and the sum of R174. -/
def State.wakeSum (s : State) : Ns := (s.cxPorts.map s.wakeLat).foldl max 0 + 2000

/-- The ports' exit from L1 is requested: their domains come back, and each reaches L0 (CXL_LINK_L0). -/
def State.l1Out (s : State) : State :=
  if s.fst.asleep then
    let s : State := { s with fst := { s.fst with asleep := false } }
    s.cxPorts.foldl (fun s n =>
      if (s.cxPort n).st = 3 then (s.setCxPort n { s.cxPort n with exitAt := some s.now }).needNow (14 + n) else s) s
  else s

/-- L1_EXIT_TIMEOUT (R359). -/
def execL1ExitTimeout (n : Nat) (s : State) : Host.Outcome State Fault Refusal :=
  .next (
    if s.portLive n ∧ (s.cxPort n).st = 3 then
      match (s.cxPort n).exitAt with
      | some t => (s.reach (t + s.wakeLat n + 4000)).losePort n 1
      | none => s
    else s)

/-- CXL_LINK_L0 (R359, R363): after an L1 exit, `exit` being the time in units of 100 ns from its request to the first read data;
or after a loss, where the link waits for a rebuild. -/
def execCxlLinkL0 (n : Nat) (exit : Nat) (s : State) : Host.Outcome State Fault Refusal :=
  .next (
    let c := s.cxPort n
    if s.cxPorts.contains n = false then s
    else if c.st = 3 ∧ c.exitAt.isSome then
      let s := (s.setCxPort n { c with exitAt := none }).portState n 2
      s.setFld (FST_PORT_WAKE_obs n) (max (s.fld (FST_PORT_WAKE_obs n)) (min 65535 exit))
    else if c.st = 4 then s.setCxPort n { c with linkUp := true }
    else s)

/-! Regions (R352). -/

/-- The conditions of R352 hold for region `k` as a write of its FST_RGN_CFG would leave it. -/
def State.regionOk (s : State) (k w : Nat) : Bool :=
  let kind := w / 256 % 16
  let b := s.rgnBase k
  let e := s.rgnEnd k
  decide (1 ≤ kind) && decide (kind ≤ 9) && decide (b < e) && decide (e ≤ s.usable) && decide (0x10000 ≤ b) &&
    (kind != 9 || s.isSafety (w % 4)) &&
    (List.range 64).all fun j => j == k || !s.rgnEn j || decide (e ≤ s.rgnBase j) || decide (s.rgnEnd j ≤ b)

/-! The host aperture (R353 to R355). -/

/-- The PPA of a window offset of partition `p`. -/
def State.winAddr (s : State) (p off : Nat) : Nat :=
  s.fldP FST_WIN_BASE_LO_addr_lo p * 32768 + s.fldP FST_WIN_BASE_HI_addr_hi p * 2 ^ 32 + off

/-- A window access is one that the window accepts. -/
def winOk (off n : Nat) : Bool := decide (1 ≤ n) && decide (n ≤ 512) && decide (off + n ≤ 32768)

/-- A write through the window. -/
def State.winWrite (s : State) (p off : Nat) (d : List Byte) : State :=
  let a := s.winAddr p off
  if winOk off d.length = false then s
  else if s.mayWrite p a d.length = false then s.fstDeny p
  else if s.storeUp = false then s
  else (s.l1Out.bufWrite a d).ringBells a d.length

/-- A read through the window: zeros where the partition may not read or the data are not there. -/
def State.winRead (s : State) (p off n : Nat) : State :=
  let a := s.winAddr p off
  let zero : List Byte := List.replicate n 0
  if winOk off n = false ∨ s.mayRead p a n = false ∨ s.storeUp = false then s.emit (.readData p zero false)
  else
    let s := s.l1Out
    match s.ppaRead a n with
    | some d => (s.countRecon a n).emit (.readData p d false)
    | none => s.regionMiss.emit (.readData p zero false)

/-! Stripe buffers (R351). -/

/-- STRIPE_FLUSH. -/
def execStripeFlush (buf : Nat) (s : State) : Host.Outcome State Fault Refusal :=
  .next (
    let b := s.buf buf
    if buf < 48 ∧ b.used ∧ b.acks.isEmpty then (s.reach (b.last + 10000)).bufOut buf else s)

/-- CXL_WRITE_ACK: unit 5 is the parity unit. -/
def execCxlWriteAck (buf unit : Nat) (s : State) : Host.Outcome State Fault Refusal :=
  .next (
    let b := s.buf buf
    if buf < 48 ∧ b.used ∧ b.acks.contains unit then
      let left := b.acks.erase unit
      if left.isEmpty then s.setBuf buf {} else s.setBuf buf { b with acks := left }
    else s)

end Sys2Proof.Machine
end

