-- ==== Sys2Proof/Machine/Calibration.lean ====
section
/-! DEFINITION. Calibration runs (R423 to R429), the margin re-plan (R430, R431), and the reading of the error log (R436). The
service controller's watchdog is in Machine/Descriptors.lean, with the descriptors that wait for it. -/

namespace Sys2Proof.Machine

open Sys2Proof Reg

/-! Results (R423, R429). -/

/-- Nothing calibrated: every item at its factory value. -/
def factoryCal : CalOutcome where
  refin := 0
  failed := 31
  gain := 0
  offset := 0
  sensors := []
  cracks := []
  terms := []
  swings := []

/-- The values in force after a run: an item that did not run, or failed, keeps its value. `failed` holds the items without a
valid value. -/
def mergeCal (old new : CalOutcome) (items : Nat) : CalOutcome :=
  let good (i : Nat) : Bool := items.testBit i && !new.failed.testBit i
  { refin := new.refin
    failed := (List.range 5).foldl (fun n i => if good i then n else n + (if old.failed.testBit i then 2 ^ i else 0)) 0
    gain := if good 0 then new.gain else old.gain
    offset := if good 0 then new.offset else old.offset
    sensors := if good 1 then new.sensors else old.sensors
    cracks := if good 2 then new.cracks else old.cracks
    terms := if good 3 then new.terms else old.terms
    swings := if good 4 then new.swings else old.swings }

/-- The first `n` of a list of words as two-byte numbers, and of bytes. -/
def halfBytes (l : List Half) (n : Nat) : List Byte := (List.range n).flatMap fun i => leBytes 2 (l.getD i 0).toNat
def fixedBytes (l : List Byte) (n : Nat) : List Byte := (List.range n).map fun i => l.getD i 0

/-- The body of the results record. -/
def calBody (c : CalOutcome) (temp : Nat) : List Byte :=
  leBytes 2 1 ++ leBytes 2 (31 - c.failed % 32) ++ leBytes 4 c.gain.toNat ++ leBytes 2 c.offset.toNat ++ leBytes 2 c.refin ++
    halfBytes c.sensors 16 ++ halfBytes c.cracks 4 ++ fixedBytes c.terms 128 ++ fixedBytes c.swings 136 ++ leBytes 2 temp ++ leBytes 2 0

/-- The values that a results record holds (R426). -/
def calOf (b : List Byte) : CalOutcome where
  refin := leAt b 10 2
  failed := 31 - leAt b 2 2 % 32
  gain := BitVec.ofNat 32 (leAt b 4 4)
  offset := BitVec.ofNat 16 (leAt b 8 2)
  sensors := (List.range 16).map fun i => BitVec.ofNat 16 (leAt b (12 + 2 * i) 2)
  cracks := (List.range 4).map fun i => BitVec.ofNat 16 (leAt b (44 + 2 * i) 2)
  terms := (b.drop 52).take 128
  swings := (b.drop 180).take 136

/-- The receive lanes in the records' order. -/
def rxLanes : List Nat := List.range 64 ++ (List.range 64).map (200 + ·)

/-- Termination and swing codes go to the lanes: a receiver takes its code at once in IDLE or with its domain OFF, else at its next
entry to IDLE; a transmitter at its next exit from idle or training start (R423). -/
def State.applyCodes (s : State) (c : CalOutcome) (items : Nat) : State :=
  let s :=
    if items.testBit 3 ∧ c.failed.testBit 3 = false then
      rxLanes.zipIdx.foldl (fun s l =>
        let x := s.lane l.1
        let v := (c.terms.getD l.2 0).toNat
        s.setLane l.1 (if x.st = 0 ∨ (s.dom (laneDomain l.1)).st = 2 then { x with calCode := v, calNext := none }
          else { x with calNext := some v })) s
    else s
  if items.testBit 4 ∧ c.failed.testBit 4 = false then
    (List.range 136).foldl (fun s k =>
      s.setLane (64 + k) { s.lane (64 + k) with calNext := some (c.swings.getD k 0).toNat }) s
  else s

/-- REFIN lies within 2 % of 1.2500 V (R425). -/
def refinOk (mv10 : Nat) : Bool := decide (12250 ≤ mv10) && decide (mv10 ≤ 12750)

/-- The cause that CAL_DONE shows: 0 power-up, 1 CAL_RUN, 2 temperature, 3 more than one. -/
def causeOf (m : Nat) : Nat := if m = 1 then 0 else if m = 2 then 1 else if m = 4 then 2 else 3

/-- What a run measured takes effect, and its record is gathered (R423, R425, R429). -/
def State.takeResults (s : State) (items causes : Nat) (c : CalOutcome) : State :=
  let bad := c.failed % 32 &&& items
  let s := s.applyCodes c items
  let v := mergeCal (s.cal.result.getD factoryCal) c items
  let s : State := { s with cal := { s.cal with
      result := some v, lastEnd := s.now, crackOff := v.cracks.map fun x => x.toInt } }
  let s := ((s.setFld CAL_REFIN_mv10 c.refin).setFld CAL_STATUS_failed bad).setFld CAL_STATUS_refin_ok (if refinOk c.refin then 1 else 0)
  let s := if refinOk c.refin then s else s.setFlag CAL_FLAGS_refin_bad
  let s := if bad = 0 then s else s.setFlag CAL_FLAGS_item_failed
  let arg := items + 256 * bad + 65536 * causeOf causes + (if refinOk c.refin then 0 else 2 ^ 20)
  let s := s.raise 0xA1 0x12 arg
  let s := if bad = 0 then s else s.log 0xA1 0x12 arg 0
  s.gatherRecord 0x0010 (calBody v (s.fld CAL_TEMP_LAST_temp))

/-! The re-plan (R430). -/

/-- A monitor's last slack, while its cluster is ON and has been measured. -/
def State.monSlack (s : State) (m : Nat) : Option Int :=
  let v := Sparse.get 32767 s.cal.slack m
  if s.clOn (m / 2) ∧ v ≠ 32767 then some v else none

/-- The least slack is below the limit. -/
def State.slackLow (s : State) : Bool :=
  (List.range 64).any fun m => (s.monSlack m).any fun v => decide (v < (s.fld CAL_REPLAN_CFG_slack_min : Int))

/-- A monitor's sample: last and least slack. -/
def State.sampleMonitor (s : State) (m : Nat) (v : Int) : State :=
  if m < 64 ∧ s.clOn (m / 2) then
    let v := clampInt (-32768) 32767 v
    { s with cal := { s.cal with
        slack := Sparse.set 32767 s.cal.slack m v
        slackMin := Sparse.set 32767 s.cal.slackMin m (min v (Sparse.get 32767 s.cal.slackMin m)) } }
  else s

/-- The VDD_CORE request goes to its regulator; one that the part does not command takes effect at once. -/
def State.askCore (s : State) (mv : Nat) : State :=
  if s.railUsed 0 then
    (s.setRail 0 { s.rail 0 with busy := true, retried := false, volt := true }).pmbus 0 0x21 mv
  else s.setFld CAL_CORE_mv mv

/-- Receive lanes in use: of the stream ports and the drivers that are enabled. -/
def State.rxUsed (s : State) (l : Nat) : Bool :=
  if l < 64 then s.fld (MSP_PORT_CFG_en (l / 8)) == 1 else s.drvOn (l - 200)

/-- Step 2 for one lane: the limits its history gives, and whether they changed. -/
def State.replanLane (s : State) (l : Nat) : Bool × State :=
  let x := s.lane l
  let t1 := s.tapLim l 1
  let tn := s.tapLim l 2
  let y : Lane :=
    if x.atLim then { x with effTap1 := none, effTapn := none }
    else { x with
      effTap1 := some (min (s.fldI LNK_RX_CFG_tap1_lim l) (max (x.m1 + 4) 8))
      effTapn := some (min (s.fldI LNK_RX_CFG_tapn_lim l) (max (x.mn + 2) 4)) }
  let s := (s.setLane l { y with m1 := 0, mn := 0, atLim := false }).eqFollow s l
  (s.tapLim l 1 != t1 || s.tapLim l 2 != tn, s)

/-- The engine of a cluster that step 3 retires, if one is: the one with the most firings of those that qualify, while the spare is
idle. -/
def State.retireOf (s : State) (c : Nat) : Option Nat :=
  let thr := s.fld CAL_REPLAN_CFG_retire_thr
  let l := ((List.range 16).map (16 * c + ·)).filter fun g =>
    (s.en g).st != 4 && (decide (8 ≤ (s.inst g).remaps.length) || (thr != 0 && decide (thr ≤ (s.en g).firings)))
  if s.spareHeld c = false then none
  else l.foldl (fun b g =>
    match b with
    | none => some g
    | some h => if (s.en h).firings < (s.en g).firings then some g else some h) none

/-- The body of the margin plan record. -/
def State.planBody (s : State) : List Byte :=
  leBytes 2 1 ++ leBytes 2 (s.fld CAL_CORE_mv) ++ leBytes 8 s.nvs.onTime ++
    rxLanes.flatMap (fun l => leBytes 1 (s.tapLim l 1) ++ leBytes 1 (s.tapLim l 2)) ++
    (List.range 32).flatMap (fun c => leBytes 1 (Sparse.get 0 s.cal.retiredPlan c)) ++
    (List.range 64).flatMap (fun m => leBytes 2 (unsigned 16 ((s.monSlack m).getD 0)))

/-- A mixed CAL_RUN, or one of the re-plan alone, ends: after the commit of the results record where one is still due (R427). -/
def State.endCalRun (s : State) (r : Req) (status : Nat) : State :=
  if (s.nvs.gather ++ s.nvs.commit).any (·.key == 0x0010) then
    let now := s.nvs.commit.any (·.key == 0x0010) && !s.nvs.gather.any (·.key == 0x0010)
    { s with cal := { s.cal with ended := s.cal.ended ++ [(r, status, now)] } }
  else s.done r status

/-- Steps 2 and 3, the record and the event: the re-plan ends. -/
def State.endReplan (s : State) (p : Replan) : State :=
  let low := s.slackLow
  let s := if low then s.setFlag CAL_FLAGS_margin_exhausted else s
  let x := (rxLanes.filter s.rxUsed).foldl (fun a l =>
    let y := a.2.replanLane l
    (if y.1 then a.1 + 1 else a.1, y.2)) (0, s)
  let n := min 255 x.1
  let s := x.2
  let picks := (List.range 32).filterMap fun c => (s.retireOf c).map fun g => (c, g)
  let s := picks.foldl (fun s y =>
    let s := if s.watched y.2 then s.watchdog y.2 4 else s
    { s with cal := { s.cal with retiredPlan := Sparse.set 0 s.cal.retiredPlan y.1 (128 + y.2 % 16) } }) s
  let s := if picks.isEmpty then s else s.setFlag CAL_FLAGS_retired
  let s := s.eng.engines.foldl (fun s e => s.setEn e.1 { s.en e.1 with firings := 0 }) s
  let s := s.gatherRecord 0x0011 s.planBody
  let s : State := { s with cal := { s.cal with replan := none, planTime := s.nvs.onTime, slackMin := [] } }
  let s := s.raiseLog 0xA0 0x12 ((s.fld CAL_CORE_mv - 650) / 5 % 256 + 256 * n + (if picks.isEmpty then 0 else 2 ^ 16) +
    (if low then 2 ^ 17 else 0))
  p.reqs.foldl (fun s r => s.endCalRun r.1 r.2) s

/-- Step 1: another voltage step, or the end of the steps. -/
def State.replanStep (s : State) (p : Replan) : State :=
  let mv := s.fld CAL_CORE_mv + 5
  if s.slackLow ∧ p.steps < min 8 (s.fld CAL_REPLAN_CFG_steps_max) ∧ mv ≤ 850 then
    ({ s with cal := { s.cal with replan := some { p with steps := p.steps + 1, asked := some mv } } }).askCore mv
  else s.endReplan p

/-- A calibration run starts: TEMP_LAST takes the temperature (R428). -/
def State.startRun (s : State) (q : CalReq) : State :=
  ({ s with cal := { s.cal with run := some q } }).setFld CAL_TEMP_LAST_temp (s.fld PWR_TEMP_temp)

/-- A re-plan that is due may start in this mode: in BRINGUP at once, in modes 0 to 8 at an SOB. -/
def State.replanStart (s : State) : State :=
  let p : Replan := { steps := 0, asked := none, reqs := s.cal.dueReqs }
  ({ s with cal := { s.cal with replan := some p, due := false, dueReqs := [] } }).replanStep p

/-- The next of what waits starts, with neither a run nor a re-plan in progress (R429, R430). -/
def State.calNext (s : State) : State :=
  if s.cal.run.isSome ∨ s.cal.replan.isSome ∨ s.cal.restarting then s
  else
    match s.cal.pend with
    | some q => ({ s with cal := { s.cal with pend := none } }).startRun q
    | none => if s.cal.due ∧ s.mode = 10 then s.replanStart else s

/-- A re-plan that is due starts at the SOB, in modes 0 to 8. -/
def State.replanAtSob (s : State) : State :=
  if s.cal.due ∧ s.mode ≤ 8 ∧ s.cal.run.isNone ∧ s.cal.replan.isNone ∧ s.cal.restarting = false then s.replanStart else s

/-- A run is asked for: it starts, or merges into the pending request (R429). -/
def State.askRun (s : State) (items causes : Nat) (reqs : List (Req × Nat)) : State :=
  let q : CalReq := match s.cal.pend with
    | some q => { items := q.items ||| items, causes := q.causes ||| causes, reqs := q.reqs ++ reqs }
    | none => { items := items, causes := causes, reqs := reqs }
  ({ s with cal := { s.cal with pend := some q } }).calNext

/-- A CAL_RUN reaches the SVC (R427). -/
def State.takeCalRun (s : State) (r : Req) (mask : Word) : State :=
  let m := mask.toNat
  if m = 0 ∨ 64 ≤ m then s.done r INVALID
  else
    let s : State := if 32 ≤ m then { s with cal := { s.cal with due := true } } else s
    if m % 32 = 0 then ({ s with cal := { s.cal with dueReqs := s.cal.dueReqs ++ [(r, OK)] } }).calNext
    else s.askRun (m % 32) 2 [(r, m)]

/-- A run ends (R427, R429). A CAL_RUN that also names the re-plan waits for it. -/
def State.endRun (s : State) (q : CalReq) (c : CalOutcome) : State :=
  let s := ({ s with cal := { s.cal with run := none } }).takeResults q.items q.causes c
  let st (m : Nat) : Nat := if c.failed % 32 &&& m % 32 = 0 then OK else DATA_ERROR
  let s := q.reqs.foldl (fun s r =>
    if 32 ≤ r.2 then
      match s.cal.replan with
      | some p =>
        if s.cal.due then { s with cal := { s.cal with dueReqs := s.cal.dueReqs ++ [(r.1, st r.2)] } }
        else { s with cal := { s.cal with replan := some { p with reqs := p.reqs ++ [(r.1, st r.2)] } } }
      | none => { s with cal := { s.cal with dueReqs := s.cal.dueReqs ++ [(r.1, st r.2)] } }
    else s.endCalRun r.1 (st r.2)) s
  s.calNext

/-- CALIBRATION_RUN_END (R429). -/
def execCalibrationRunEnd (cal : CalOutcome) (s : State) : Host.Outcome State Fault Refusal :=
  .next (
    match s.cal.run with
    | some q => s.endRun q cal
    | none => s)

/-- MONITOR_REREAD (R430): 2 ms after a step's settling, the monitors are read again. -/
def execMonitorReread (slack : List Int) (s : State) : Host.Outcome State Fault Refusal :=
  .next (
    match s.cal.replan with
    | some p =>
      if (s.rail 0).busy then s
      else
        let s := slack.zipIdx.foldl (fun s v => s.sampleMonitor v.2 v.1) s
        (s.replanStep { p with asked := none }).calNext
    | none => s)

/-- PATH_MONITOR_SAMPLE (R430). -/
def execPathMonitorSample (m : Nat) (slack : Int) (s : State) : Host.Outcome State Fault Refusal := .next (s.sampleMonitor m slack)

/-- ON_TIME_SECOND (R430): one second of panel power ON. -/
def execOnTimeSecond (s : State) : Host.Outcome State Fault Refusal :=
  .next (
    if s.pwrState = 2 then
      let s : State := { s with nvs := { s.nvs with onTime := (s.nvs.onTime + 1) % 2 ^ 64 } }
      let due := s.fld CAL_REPLAN_CFG_en == 1 && s.cal.replan.isNone &&
        decide (s.cal.planTime + 86400 * max 1 (s.fld CAL_REPLAN_CFG_days) ≤ s.nvs.onTime)
      if due then ({ s with cal := { s.cal with due := true } }).calNext else s
    else s)

/-! The error log (R436). -/

/-- An entry as CAL_LOG_DATA shows it: zeros where it is not in the log. -/
def State.logEntry (s : State) (n : Nat) : List Byte :=
  let b := nvsBytes s.nvs.mem (logOff n) 32
  if leAt b 24 4 = n ∧ leAt b 28 4 = crc32c (b.take 28) then b else List.replicate 32 0

/-- CAL_LOG_SEL written: the entry is fetched. -/
def State.fetchLog (s : State) : State :=
  let b := s.logEntry (s.fld CAL_LOG_SEL_n)
  (List.range 8).foldl (fun s k => s.setFld (CAL_LOG_DATA_data k) (leAt b (4 * k) 4)) s

/-- CAL_LOG_ACK written: the log-state record follows it. -/
def State.ackLog (s : State) : State := s.gatherRecord 0x0051 []

end Sys2Proof.Machine
end

