-- ==== Sys2Proof/Machine/FrontEnd.lean ====
section
/-! DEFINITION. What feeds the engine stage and the packetiser: the composition front end and the line stores (R21, R22, R118), the
line slots (R224, R242), the cellar prefetch (R10, R174), the history fetch (R357), and the latency tolerance (R173). Raster times
are in units of 1/256 ns. -/

namespace Sys2Proof.Machine

open Sys2Proof Reg

/-! Late clusters (R170, R171). -/

/-- A late cluster's columns from the first one not ready (R170). -/
def lateAt (ls : List LateLine) (x : Nat) : Bool := ls.any fun l => l.cluster == x / 480 && decide (l.column ≤ x % 480)

/-- The report of a cluster among late ones: the first column not ready. -/
def worst (ls : List LateLine) (c : Nat) : Option LateLine :=
  (ls.filter fun l => l.cluster == c && decide (l.cause < 4) && decide (l.column < 480)).foldl (fun b l =>
    match b with
    | some m => if l.column < m.column then some l else b
    | none => some l) none

/-- The late clusters of a line, each once. -/
def lateOf (ls : List LateLine) : List LateLine := (List.range 32).filterMap (worst ls)

/-- Every cluster is late from its first column, for a cause. -/
def allLate (cause : Nat) : List LateLine := (List.range 32).map fun c => ⟨c, cause, 0⟩

/-- An underrun line of a cluster is counted and reported, at most once a frame (R171). -/
def State.underrun (s : State) (l : LateLine) : State :=
  let s := (s.addSat SCN_UNDERRUN_CNT_count 0 0 1).setFlag SCN_FLAGS_underrun
  if s.scn.under.contains l.cluster then s
  else
    { s with scn := { s.scn with under := s.scn.under ++ [l.cluster] } }.postRaster 4
      (l.cluster + 256 * l.cause + 65536 * l.column) s.now SCN_EVT_EN_underrun

/-! Data that the frame store does not give (R354, R362). -/

/-- A layer's pixels of content line `Y` cannot be read. -/
def State.layerMissing (s : State) (l Y : Nat) : Bool :=
  match s.shownSlot l with
  | none => false
  | some k =>
    let y := ((Y : Int) - (s.layer l).y).toNat * s.srcH l / max 1 (s.dstH l)
    !s.storeUp || !s.slotOk l k || (List.range (s.planes l)).any fun p =>
      let f := s.planeFmt l p
      !s.readable (s.slotAddr l k + s.planeOff l p + y / f.vs * f.pitch (s.srcW l)) (f.pitch (s.srcW l))

/-- Clusters whose pixels of content line `Y` a layer covers from a column on, where the layer cannot be read. -/
def State.layerLate (s : State) (Y l : Nat) : List LateLine :=
  let x := s.layer l
  let w := if s.pipeMode = 3 then 2 else 1
  if x.y ≤ Y ∧ (Y : Int) < x.y + s.dstH l ∧ s.layerMissing l Y = true then
    let a := (x.x * w).toNat
    let b := ((x.x + s.dstW l) * w).toNat
    (List.range 32).filterMap fun c =>
      if a < 480 * (c + 1) ∧ 480 * c < b then some ⟨c, 1, a - 480 * c⟩ else none
  else []

/-- The safe image cannot be read. -/
def State.safeLate (s : State) : List LateLine :=
  if (s.layer 12).en ∧ s.flag LYR_S_STATUS_safe ∧ s.flag LYR_S_STATUS_safe_valid ∧ s.storeUp = false then allLate 1 else []

/-- Layers that show a stored frame on content line `Y`. -/
def State.readLayers (s : State) (Y : Nat) : List Nat :=
  s.blendList.filter fun l => (s.shownSlot l).isSome && decide ((s.layer l).y ≤ Y) && decide ((Y : Int) < (s.layer l).y + s.dstH l)

/-- The layers' stored lines of content line `Y` are read as `p` composes it: reconstructed units are counted (R361), and a slot that leaves
its regions is marked (R354). -/
def State.readStored (s p : State) (Y : Nat) : State :=
  (p.readLayers Y).foldl (fun s l =>
    match p.shownSlot l with
    | none => s
    | some k =>
      if s.storeUp = false then s
      else if p.slotOk l k = false then s.regionMiss
      else
        let y := ((Y : Int) - (p.layer l).y).toNat * p.srcH l / max 1 (p.dstH l)
        (List.range (p.planes l)).foldl (fun s q =>
          let f := p.planeFmt l q
          s.countRecon (p.slotAddr l k + p.planeOff l q + y / f.vs * f.pitch (p.srcW l)) (f.pitch (p.srcW l))) s) s

/-- Clusters whose composed line the frame store keeps back. -/
def State.composeLate (s : State) (a : Nat) : List LateLine := s.blendList.flatMap (s.layerLate a) ++ s.safeLate

/-- Clusters whose baked pixels of stored line `a` cannot be read. -/
def State.bakedLate (s : State) (a : Nat) : List LateLine :=
  if s.storeUp && s.bakedIn then
    (List.range 32).filterMap fun c =>
      if s.readable (s.bakedAddr + (a * 15360 + 480 * c) * 4) 1920 then none else some ⟨c, 1, 0⟩
  else allLate 1

/-- The frame store answers reads now: its links are neither in L1 nor on their way out (R174). -/
def State.storeAwake (s : State) : Bool := !s.fst.asleep && s.cxPorts.all fun n => (s.cxPort n).st != 3

/-- A line of values that nothing defines, below 2 to the `d`: free values, 46,080 of them. -/
def State.freeLine (s : State) (d : Nat) : List Nat × State :=
  ((List.range 46080).map fun j => (Config.freeWord (s.free + j)).toNat % 2 ^ d, { s with free := s.free + 46080 })

/-! The frame that comes. -/

/-- The part as the next frame will show it: what its lines are composed from before it starts. -/
def State.ahead (s : State) : State := if s.bridgeNext then s else s.takeEffect ((s.frame + 1) % 2 ^ 32) 0

/-- The next frame is settled: its latch point has passed, and the raster goes on. -/
def State.nextKnown (s : State) : Bool :=
  s.fld SCN_CTRL_run == 1 && !s.scn.stopping && decide (s.scn.latchLn ≤ s.scn.idx)

/-! The line-store stream of SHORTCUT (R118). -/

/-- The stream context that is bound to the line stores. -/
def State.lineCtx (s : State) : Option Nat := (List.range 1024).find? fun c => (s.stream c).bound && (s.stream c).b.target == 2

/-- Lines leave the ingress buffer, and their credits return. -/
def State.dropLines (s : State) (gone : SrcLine → Bool) : State :=
  let out := s.lyr.lineIn.filter gone
  let kept := s.lyr.lineIn.filter fun e => !gone e
  let pitch := (fmtD (s.lyr.lineFmt.getD 0)).pitch 15360
  let buf := (out.filter fun e => !kept.any (·.line == e.line)).foldl (fun m e =>
    Sparse.write 0 m (e.line * pitch) (List.replicate pitch 0)) s.lyr.lineBuf
  let n := out.foldl (fun n e => n + e.credits) 0
  let s : State := { s with lyr := { s.lyr with lineIn := kept, lineBuf := buf } }
  match s.lineCtx with
  | some c =>
    if n = 0 then s
    else ((s.setStream c { s.stream c with buffered := (s.stream c).buffered - n }).accrue c n).tryGrant c
  | none => s

/-- Raster frame `n` takes a source frame's lines from line 0 on: the oldest in the ingress buffer beside the one that the frame before
took, whose late lines are of no more use. A frame that comes after line 0 waits for the next raster frame. -/
def State.adoptFrame (s : State) (n line : Nat) : State :=
  if s.lyr.lineFor = some n then s
  else
    let s := s.dropLines fun e => some e.frame == s.lyr.lineFrame
    match s.lyr.lineIn with
    | e :: _ => if line = 0 then { s with lyr := { s.lyr with lineFrame := some e.frame, lineFor := some n } } else s
    | [] => s

/-- Samples received from the start of the source line that raster frame `n` shows as line `a`. -/
def State.lineGot (s : State) (n a : Nat) : Nat :=
  match s.lyr.lineIn.find? fun e => some e.frame == s.lyr.lineFrame && e.line == a with
  | some e => if s.lyr.lineFor = some n then e.got else 0
  | none => 0

/-- The source line has been wholly received; before a stream is bound there is nothing to wait for. -/
def State.lineWhole (s : State) (n a : Nat) : Bool := s.lyr.lineFmt.isNone || decide (15360 ≤ s.lineGot n a)

/-- The front end of raster frame `n` has consumed the lines of its source frame up to `a`. -/
def State.takeLines (s : State) (n a : Nat) : State :=
  if s.lyr.lineFor = some n then s.dropLines fun e => some e.frame == s.lyr.lineFrame && decide (e.line ≤ a) else s

/-- Clusters that miss samples of the source line (R170). -/
def State.lineLate (s : State) (n a : Nat) : List LateLine :=
  if s.lyr.lineFmt.isNone then []
  else
    let got := s.lineGot n a
    (List.range 32).filterMap fun c => if got < 480 * (c + 1) then some ⟨c, 2, got - 480 * c⟩ else none

/-! The front end (R21). -/

/-- Lines that the store may hold: 48; in SHORTCUT the lead. -/
def State.storeRoom (s : State) : Nat := if s.mode = 5 then 16 else 48

/-- Time that a line takes the front end: 768 PCLK, half of that for the content lines of EXPRESS (R140). -/
def State.composeTime (s : State) : Nat := if s.pipeMode = 3 then 61440 else 122880

/-- What a frame's lines are composed from: `p` is the part with the frame's effects. In a bake frame above 120 Hz the last complete
composed frame shows (R22), from the layers and registers it was composed from. The ingress buffer is the part's as it stands. -/
def State.composeFrom (s p : State) : State :=
  let p : State := match p.mod.bakeShown with
    | some b => { p with lyr := b.1, regs := b.2 }
    | none => p
  { p with lyr := { p.lyr with lineFmt := s.lyr.lineFmt, lineBuf := s.lyr.lineBuf } }

/-- A line to compose: the part with the effects of its frame, frame and line, and the start of the frame's line times. -/
structure Due where
  from_ : State
  frame : Nat
  line : Nat
  at_ : Nat

/-- The line that the front end composes next, if its frame is known; `p` is the part as the next frame will have it. -/
def State.dueLine (s p : State) : Option Due :=
  let f := s.frame
  let start (q : State) (t : Timing) (x : Nat) : Nat := x + t.firstActive * t.lt - q.composeLead * t.lt
  if s.eng.front.1 = f ∧ s.eng.front.2 < s.timing.vactive then
    if s.mode ≤ 6 then some ⟨s, f, s.eng.front.2, start s s.timing s.scn.frameAt⟩ else none
  else if s.nextKnown ∧ p.mode ≤ 6 then
    let n := (f + 1) % 2 ^ 32
    let a := if s.eng.front.1 = n then s.eng.front.2 else 0
    if a < p.timing.vactive then some ⟨p, n, a, start p p.timing s.scn.endAt⟩ else none
  else none

/-- A line is composed into the line stores; the front end is free again at `t`. -/
def State.composeInto (s : State) (d : Due) (t : Nat) : State :=
  let p := s.composeFrom d.from_
  let short := p.pipeMode = 5
  let late := p.composeLate d.line ++ (if short then s.lineLate d.frame d.line else [])
  let l : StoreLine := { frame := d.frame, line := d.line, px := p.composeLine d.line, late := late }
  let s := s.readStored p d.line
  let s : State := { s with eng := { s.eng with lines := s.eng.lines ++ [l], front := (d.frame, d.line + 1), frontAt := t } }
  if short then s.takeLines d.frame d.line else s

/-- One line of the front end's work up to the line start in progress: it waits for its time, for room in the line stores, for the frame
store, and in SHORTCUT for its source line. -/
def State.frontStep (p : State) (s : State) : State :=
  match s.dueLine p with
  | none => s
  | some d =>
    let s := if d.from_.pipeMode = 5 then s.adoptFrame d.frame d.line else s
    let now := s.scn.lineAt
    let t := max s.eng.frontAt d.at_ + d.from_.composeTime
    let stuck := decide (d.from_.storeRoom ≤ s.eng.lines.length) || !s.storeAwake || (d.from_.pipeMode == 5 && !s.lineWhole d.frame d.line)
    if stuck then { s with eng := { s.eng with frontAt := max s.eng.frontAt now } }
    else if t ≤ now then s.composeInto d t
    else s

/-- Lines of the frame in progress, and of the next once it is settled, stay in the line stores. -/
def State.frontTrim (s : State) : State :=
  let f := s.frame
  let n := (f + 1) % 2 ^ 32
  let keep (x : Nat) : Bool := x == f || (x == n && s.nextKnown)
  { s with eng := { s.eng with
      lines := s.eng.lines.filter fun l => keep l.frame
      front := if keep s.eng.front.1 then s.eng.front else (f, 0) } }

/-- The front end's work up to a line start. -/
def State.frontEnd (s : State) : State :=
  let s := s.frontTrim
  let p := s.ahead
  (List.range 96).foldl (fun s _ => s.frontStep p) s

/-- Frame 0 comes: the line stores are empty, and the front end may have worked from the write that set run, 10 µs before. -/
def State.frontReset (s : State) (x : Nat) : State :=
  { s with
    eng := { s.eng with lines := [], front := (0, 0), frontAt := x - 2560000 }
    lyr := { s.lyr with lineFrame := none, lineFor := none } }

/-! Line slots (R224, R242). -/

/-- The line that a slot takes from the line stores, which is composed then and there with what has been received in SHORTCUT; one that
is not there is an underrun of cause front end (R170), and is not composed any more. -/
def State.slotLine (s : State) (d : Due) : List Nat × List LateLine × State :=
  let here (s : State) : Option StoreLine := s.eng.lines.find? fun l => l.frame == d.frame && l.line == d.line
  let s := if (here s).isNone ∧ d.from_.pipeMode = 5 then
      (s.adoptFrame d.frame d.line).composeInto d (max s.eng.frontAt s.scn.lineAt)
    else s
  let r : List Nat × List LateLine × State := match here s with
    | some l => (l.px, l.late, s)
    | none =>
      let x := s.freeLine d.from_.depth
      (x.1, allLate 0, { x.2 with eng := { x.2.eng with front := (d.frame, max (if s.eng.front.1 = d.frame then s.eng.front.2 else 0) (d.line + 1)) } })
  (r.1, r.2.1, { r.2.2 with eng := { r.2.2.eng with
    lines := r.2.2.eng.lines.filter fun l => !(l.frame == d.frame && decide (l.line ≤ d.line)) } })

/-- The engine stage's input of a slot in CELLAR or LAYBY (R214): the strips under a patch; what their clusters' other strips have there
is open. -/
def State.slotPatch (s : State) (d : Due) (strips : List Nat) : List Nat × List LateLine × State :=
  let p := d.from_
  let y := p.panelLine d.line
  let x := s.freeLine p.depth
  let v := x.1.mapIdx fun j w =>
    match p.patchOf (512 * (y / 24) + j / 90) with
    | some a => p.patchLevel a (j / 3) y (j % 3)
    | none => w
  let late := strips.filterMap fun i =>
    match p.patchOf (512 * (y / 24) + i) with
    | some a => if s.storeAwake && p.patchReadable a i y then none else some (LateLine.mk (i / 16) 1 (30 * (i % 16)))
    | none => none
  let s := strips.foldl (fun s i =>
    match p.patchOf (512 * (y / 24) + i) with
    | some a => s.countRecon (patchArea a i y).1 (patchArea a i y).2
    | none => s) x.2
  (v, late, s)

/-- The slot that starts with this line (R224): the line 3 lines before its drive reaches the engines' inputs, in CELLAR and LAYBY for
the clusters of a REGION_UPDATE's strips alone (R242). A slot counted back before the frame's first line belongs to the last line of
the frame before. -/
def State.feedSlot (s : State) : State :=
  let t := s.timing
  let k := s.scn.idx
  let prog := min k (s.scn.total - 1)
  let blank (s : State) : State :=
    { s with eng := { s.eng with carry := 0, next := { active := false, line := 0, prog := prog, frame := s.frame, tb := s.now } } }
  let put (s : State) (d : Due) (mask : Word) (r : List Nat × List LateLine × State) : State :=
    { r.2.2 with eng := { r.2.2.eng with
        input := some (d.line, r.1), slotLate := r.2.1, carry := mask
        next := { active := true, line := d.line, prog := prog, frame := d.frame, tb := s.now } } }
  let feed (d : Due) : State :=
    if d.from_.mode ≤ 6 then put s d 0xFFFFFFFF (s.slotLine d)
    else if d.from_.mode = 7 ∨ d.from_.mode = 8 then
      let strips := d.from_.patchStrips d.line
      if strips.isEmpty then blank s else put s d (carryMask strips) (s.slotPatch d strips)
    else blank s
  if t.firstActive ≤ k + 3 ∧ k + 3 < t.firstFront then feed ⟨s, s.frame, k + 3 - t.firstActive, 0⟩
  else if s.scn.last ∧ s.nextKnown ∧ s.ahead.timing.firstActive = 2 then feed ⟨s.ahead, (s.frame + 1) % 2 ^ 32, 0, 0⟩
  else blank s

/-! The cellar prefetch (R10, R174). -/

/-- The stored line that goes out in this line time, or the frame's next. -/
def State.sendPos (s : State) : Nat :=
  let k := s.scn.idx + 1
  if k < s.timing.firstFront then k - s.timing.firstActive else 0

/-- Stored lines that the 4 MiB prefetch buffer holds ahead of the raster: 68, or the whole frame. -/
def State.cellarLines (s : State) : List Nat :=
  (List.range (min 68 s.timing.vactive)).map fun i => (s.sendPos + i) % max 1 s.timing.vactive

/-- The drive levels of a stored line. -/
def State.storedLine (s : State) (a : Nat) : List Nat := (List.range 46080).map fun j => s.bakedLevel a (j / 3) (j % 3)

/-- The prefetch buffer is filled ahead while the frame store answers; a line that cannot be read whole is not taken. -/
def State.cellarFetch (s : State) : State :=
  if s.mode = 7 ∨ s.mode = 8 then
    let want := s.cellarLines
    let kept := s.eng.prefetch.filter fun l => want.contains l.1
    let new := if s.storeAwake then want.filter fun a => !(kept.any (·.1 == a)) && (s.bakedLate a).isEmpty else []
    let s := if s.storeUp ∧ s.bakedIn = false then s.regionMiss else s
    let s := new.foldl (fun s a => s.countRecon (s.bakedAddr + a * 61440) 61440) s
    { s with eng := { s.eng with prefetch := kept ++ new.map fun a => (a, s.storedLine a) } }
  else { s with eng := { s.eng with prefetch := [] } }

/-- The buffer is full. -/
def State.cellarFull (s : State) : Bool :=
  !(s.mode == 7 || s.mode == 8) || s.cellarLines.all fun a => s.eng.prefetch.any (·.1 == a)

/-! The history fetch (R228, R357). -/

/-- The tile row overdriven in this line time, or the frame's next. -/
def State.histRow (s : State) : Nat := s.panelLine s.sendPos / 24

/-- The clusters' line fetch units read the history of the row being overdriven and of the next, where their cluster is ON and the frame
store answers. -/
def State.histFetch (s : State) : State :=
  if s.odvOn ∧ s.mode ≤ 6 ∧ s.storeAwake then
    let q := s.histRow
    ([q, q + 1].filter (· < 360)).foldl (fun s q =>
      (List.range 32).foldl (fun s c =>
        if s.clOn c ∧ (s.cl c).hist.any (·.1 == q) = false then s.fetchHist c q else s) s) s
  else s

/-! Latency tolerance (R173). -/

/-- The start of the next frame whose lines need data: bridge frames need none. -/
def State.dataFrame (s : State) : Nat :=
  match s.scn.bridge with
  | some b =>
    if b.left.isEmpty then s.scn.endAt
    else b.start.getD (s.scn.endAt + b.left.foldl (fun n st => n + (s.scn.total + st) * s.scn.lt) 0)
  | none => s.scn.endAt

/-- When a reader first lacks data: its lines from `a` on in the frame in progress, `off` line times before their drive, then those of
the next frame; `holds` says which it has, of this frame or of the next. -/
def State.firstLack (s : State) (a off : Nat) (this next : Nat → Bool) : Nat :=
  let t := s.timing
  let n := t.vactive
  let inFrame := if s.fld MOD_STATUS_bridge = 1 then none else
    (List.range (n - a)).find? fun i => !this (a + i)
  match inFrame with
  | some i => s.scn.frameAt + (t.firstActive + a + i) * s.scn.lt - off * s.scn.lt
  | none => s.dataFrame + (t.firstActive + ((List.range n).find? fun i => !next i).getD n) * s.scn.lt - off * s.scn.lt

/-- The composition front end's layer fetch, at the slots of its lines. -/
def State.frontNeed (s : State) : List Nat :=
  if s.nextMode ≤ 6 ∨ s.mode ≤ 6 then
    let a := if s.mode ≤ 6 then s.scn.idx + 4 - s.timing.firstActive else s.timing.vactive
    let n := (s.frame + 1) % 2 ^ 32
    let f := s.eng.front
    [s.firstLack a 3 (fun i => f.1 == n || decide (i < f.2)) fun i => f.1 == n && decide (i < f.2)]
  else []

/-- The line fetch of history. -/
def State.histNeed (s : State) : List Nat :=
  if s.odvOn ∧ s.mode ≤ 6 then
    let has (i : Nat) : Bool := (List.range 32).all fun c => !s.clOn c || (s.cl c).hist.any (·.1 == s.panelLine i / 24)
    [s.firstLack (s.scn.idx + 2 - s.timing.firstActive) 1 has fun _ => false]
  else []

/-- The line fetch of the kernels' streams. -/
def State.streamNeed (s : State) : List Nat :=
  if s.mode ≤ 6 then
    ((List.range 32).filter fun c => decide (2 ≤ (s.cl c).jobSt)).flatMap fun c =>
      match s.jobOf c with
      | some j =>
        let past := s.pastLines s.eng.next
        let has (i : Nat) : Bool := !unitMissing (s.cl c) j i
        if j.image.streams.isEmpty then []
        else [s.firstLack (s.scn.idx + 4 - s.timing.firstActive) 3 (fun i => !past && has i) fun i => past && has i]
      | none => []
  else []

/-- The cellar prefetch, at the line times in which its lines go out. -/
def State.cellarNeed (s : State) : List Nat :=
  if s.mode = 7 ∨ s.mode = 8 then
    let has (i : Nat) : Bool := s.eng.prefetch.any (·.1 == i)
    [s.firstLack (s.scn.idx + 2 - s.timing.firstActive) 1 has has]
  else []

/-- The first instant at which a scan-out reader lacks data; none where no reader is active. -/
def State.dataNeed (s : State) : Option Nat :=
  (s.frontNeed ++ s.histNeed ++ s.streamNeed ++ s.cellarNeed).foldl (fun b x =>
    match b with
    | some y => some (min x y)
    | none => some x) none

/-- The tolerance at the raster time `x`. -/
def ltOf (need : Option Nat) (x : Nat) : Nat :=
  match need with
  | some n => min (2 ^ 32 - 1) ((n - x) / 256)
  | none => 2 ^ 32 - 1

/-- LT published at a line start; links that sleep begin their exit once it would fall to the sum of R174 before the next. -/
def State.publishLt (s : State) : State :=
  let need := s.dataNeed
  let lt := ltOf need s.scn.lineAt
  let s : State := { s with scn := { s.scn with needAt := need.getD 0 } }
  let s := s.setFld SCN_LAT_TOL_lt lt
  if s.fst.asleep ∧ need.isSome ∧ lt < s.wakeSum + (s.scn.nextAt - s.scn.lineAt) / 256 then s.l1Out else s

/-- Between line starts LT is published again where a reader that has come has made it fall. -/
def State.ltFalls (s : State) : State :=
  if s.running ∧ s.scn.starting.isNone then
    let need := s.dataNeed
    let lt := ltOf need (256 * s.now)
    if lt < ltOf (some s.scn.needAt) (256 * s.now) then
      ({ s with scn := { s.scn with needAt := need.getD 0 } }).setFld SCN_LAT_TOL_lt lt
    else s
  else s

/-- JOB_LOAD_DONE (R234): the fetch streams of the job are readers from now on (R173). -/
def execJobLoadDone (c : Nat) (s : State) : Host.Outcome State Fault Refusal :=
  .next (
    match s.jobOf c with
    | some j => if (s.cl c).jobSt = 3 then (s.loadCluster c j).ltFalls else s
    | none => s)

/-! The links' sleep (R174, R359). -/

/-- L1_ENTRY (R359): the ports go together, with nothing outstanding, LT allowing it, and in CELLAR and LAYBY the prefetch full. -/
def execL1Entry (s : State) : Host.Outcome State Fault Refusal :=
  .next (
    if s.fld FST_CFG_l1_en = 1 ∧ s.storeUp ∧ s.fst.asleep = false ∧
        ((s.cxPorts.all fun n => (s.cxPort n).st == 2 || (s.cxPort n).st == 4) = true) ∧ s.fst.bufs.isEmpty ∧
        s.cellarFull = true ∧ s.wakeSum ≤ s.fld SCN_LAT_TOL_lt then
      let s := s.cxPorts.foldl (fun s n => if (s.cxPort n).st = 2 then s.portState n 3 else s) s
      ({ s with fst := { s.fst with asleep := true } }).powerScan
    else s)

/-- L1_EXIT (R174): LT falls to the sum of R174, and the exit begins; while no reader needs the store, at once. -/
def execL1Exit (s : State) : Host.Outcome State Fault Refusal :=
  .next (
    if s.fst.asleep = false then s
    else if s.running ∧ s.fld SCN_LAT_TOL_lt ≠ 2 ^ 32 - 1 then (s.reach (s.scn.needAt / 256 - s.wakeSum)).l1Out
    else s.l1Out)

end Sys2Proof.Machine
end

