-- ==== Sys2Proof/Machine/LineStart.lean ====
section
/-! DEFINITION. LINE_START (R157): the raster's events, the pixel pipeline a line at a time (R8, R10, R224), and the drive link and the
row timing of a line. Raster times are in units of 1/256 ns.
A line's slot is the line time 3 lines before its drive; at the slot's end its levels leave the engine stage, in the next line
time they are overdriven and dithered, and the burst goes out in the line time before the line's LATCH. -/

namespace Sys2Proof.Machine

open Sys2Proof Reg

/-! Lines of pixels: 46,080 subpixels, colour fastest. -/

/-- Subpixels of some columns replaced by a value of each colour. -/
def overCols (v : List Nat) (col : Nat → Bool) (bg : Nat → Nat → Nat) : List Nat :=
  v.mapIdx fun j x => if col (j / 3) then bg (j / 3) (j % 3) else x

/-! Parity errors of line memories (R375). -/

/-- The columns whose pixels a parity error spoils in the line being sent: of a line store the pixels of the word's 64 bytes,
of the cellar prefetch its 16 words; the spec does not place a scaler's words. -/
def State.spoiltBy (s : State) (e : ParityErr) : List Nat × State :=
  if parityOk e = false then ([], s)
  else if e.inst = 579 ∨ e.inst = 580 then
    if e.word < 34560 then
      let b := e.word % 720 * 64
      ((List.range ((b + 63) / 6 - b / 6 + 1)).map fun i => 7680 * (e.inst - 579) + b / 6 + i, s)
    else ([], s)
  else if e.inst = 581 then ((List.range 16).map fun i => e.word % 960 * 16 + i, s)
  else if e.inst = 578 ∧ e.word < 13803 then
    let r := s.draw 15360
    ([r.1], r.2)
  else ([], s)

/-- The columns that a line's parity errors spoil. -/
def State.spoilt (s : State) (es : List ParityErr) : List Nat × State :=
  es.foldl (fun (a : List Nat × State) e =>
    let r := a.2.spoiltBy e
    (a.1 ++ r.1, r.2)) ([], s)

/-! Levels. -/

/-- A level of the pattern generator (R175) from SCN_PAT_CFG, C0 and C1. -/
def patLevel (pat : List Nat) (va x y k : Nat) : Nat :=
  let cfg := pat.getD 0 0
  let z := min 13 (bits cfg 11 8)
  let c (i : Nat) : Nat := bits (pat.getD i 0) (29 - 10 * k) (20 - 10 * k)
  let pick (b : Bool) : Nat := if b then c 1 else c 2
  match bits cfg 2 0 with
  | 0 => c 1
  | 1 => pick ((7 - x / 1920).testBit ((k + 1) % 3))
  | 2 => x * 1023 / 15359
  | 3 => if va ≤ 1 then 0 else y * 1023 / (va - 1)
  | 4 => pick ((x / 2 ^ z + y / 2 ^ z) % 2 == 0)
  | 5 => pick !(x % 2 ^ z == 0 || y % 2 ^ z == 0)
  | 6 => pick (x % 2 == 0)
  | _ => pick (y % 2 == 0)

/-- A line of the pattern. -/
def State.patLine (s : State) (a : Nat) : List Nat :=
  (List.range 46080).map fun j => patLevel s.scn.pat s.timing.vactive (j / 3) a (j % 3)

/-- Sum, count and maximum of a tile's levels by colour, brought forward by 90 more (R9). -/
def addAcc (acc px : List Nat) : List Nat :=
  (List.range 3).flatMap fun c =>
    let vs := (List.range 30).map fun i => px.getD (3 * i + c) 0
    [acc.getD (3 * c) 0 + vs.foldl (· + ·) 0, acc.getD (3 * c + 1) 0 + 30, vs.foldl max (acc.getD (3 * c + 2) 0)]

/-- The statistics of R9 for the tiles of active line `a` on which step 10 runs. -/
def State.tally (s : State) (a : Nat) (levels : List Nat) (runs : Nat → Bool) : State :=
  (List.range 512).foldl (fun s i =>
    let t := 512 * (s.panelLine a / 24) + i
    if runs t then s.setTile t { s.tile t with acc := addAcc (s.tile t).acc ((levels.drop (90 * i)).take 90) } else s) s

/-- What the pipeline makes of active line `a` in modes 0 to 6: its targets with background where a pixel is not ready, its
parity was bad or the causeway failed; overdrive; dither; in a bake frame the baked line (R9, R16, R36, R170, R375). -/
def State.pipeLine (s : State) (e : LineEnv) (spoil : List Nat) (a : Nat) : List Nat × State :=
  let d := s.depth
  let bg (_ k : Nat) : Nat := s.background d k
  let (v, ls) := match s.eng.stage with
    | some (b, v) => if b = a then (v, e.late ++ s.eng.late) else (List.replicate 46080 0, allLate (if s.mode = 5 then 2 else 0))
    | none => (List.replicate 46080 0, allLate (if s.mode = 5 then 2 else 0))
  let late := lateOf ls
  let s := late.foldl State.underrun s
  let v := overCols v (fun x => lateAt late x || spoil.contains x || (e.causeway != 0 && decide (7680 ≤ x))) bg
  let base := v.mapIdx fun j x => s.dithered (j / 3) a (j % 3) x
  let (o, s) := s.overdriveLine a v e.histBad
  let out := o.mapIdx fun j x => s.dithered (j / 3) a (j % 3) x
  let s := if s.flag MOD_STATUS_bake then s.partWrite 3 (s.bakedAddr + a * 61440) (bakedBytes base) else s
  (out, s.tally a out fun _ => true)

/-- The baked levels of stored line `a`, and the clusters that lack them: from the prefetch buffer, else from the frame store as it
answers. The line leaves the buffer. -/
def State.takeBaked (s : State) (a : Nat) : List Nat × List LateLine × State :=
  let s' : State := { s with eng := { s.eng with prefetch := s.eng.prefetch.filter (·.1 != a) } }
  match s.eng.prefetch.find? (·.1 == a) with
  | some l => (l.2, [], s')
  | none => if s.storeAwake then (s.storedLine a, s.bakedLate a, s') else (List.replicate 46080 0, allLate 1, s')

/-- What CELLAR and LAYBY send for stored line `a` (R10, R214). Background in place of baked data is rounded as R375 has it;
on a tile under a patch it is a target like the patch's own (R170). -/
def State.bakedLine (s : State) (e : LineEnv) (spoil : List Nat) (a : Nat) : List Nat × State :=
  let b := s.takeBaked a
  let s := b.2.2
  let strips := s.patchStrips a
  let stage : Option (List Nat) := (s.eng.stage.filter (·.1 == a)).map (·.2)
  let eng : List LateLine := if stage.isSome ∨ strips.isEmpty then (if strips.isEmpty then [] else s.eng.late)
    else strips.map fun i => ⟨i / 16, 0, 30 * (i % 16)⟩
  let late := lateOf (e.late ++ b.2.1 ++ eng)
  let s := late.foldl State.underrun s
  let cut (x : Nat) : Bool := lateAt late x || (e.causeway != 0 && decide (7680 ≤ x))
  let bg (_ k : Nat) : Nat := s.background s.depth k
  let base := overCols b.1 (fun x => cut x || spoil.contains x) fun x k => dither s.depth 0 0 0 x a (bg x k)
  let v := overCols (stage.getD (List.replicate 46080 0)) cut bg
  let r := strips.foldl (fun (acc : List Nat × State) i =>
    let p := acc.2.patchTile a i ((b.1.drop (90 * i)).take 90) ((v.drop (90 * i)).take 90) (!(b.2.1.any (·.cluster == i / 16)))
    (spliceLine acc.1 (30 * i) p.1, p.2)) (base, s)
  (r.1, r.2.tally a r.1 fun t => (r.2.patchOf t).isSome)

/-- Bursts and LATCHes are sent for the raster's lines: not in HARVEST, and in DISCHARGE for the black frame alone. -/
def State.sends (s : State) : Bool := s.drives && s.mode != 9 && (s.mode != 11 || s.blackLevel.isSome)

/-- The packetiser's line (R274, R277): the line whose drive begins at the next line start goes through what is left of the
pipeline, and its bursts go out. -/
def State.packetise (s : State) (e : LineEnv) : State :=
  let t := s.timing
  let k := s.scn.idx
  let r := s.spoilt e.parity
  let s := r.2
  if t.firstActive ≤ k + 1 ∧ k + 1 < t.firstFront then
    let a := k + 1 - t.firstActive
    let (v, s) :=
      if s.mode ≤ 6 then s.pipeLine e r.1 a
      else if s.mode = 7 ∨ s.mode = 8 then s.bakedLine e r.1 a
      else (overCols (s.patLine a) (fun x => e.causeway != 0 && decide (7680 ≤ x)) fun _ k => s.background 10 k, s)
    let v := match s.blackLevel with
      | some b => List.replicate 46080 b
      | none => v
    if s.sends then s.burstLine a s.frame v else s
  else s

/-- The line at the engines' inputs leaves the engine stage at its slot's end (R218, R224), and the sweep takes what the kernel gave
(R186). -/
def State.engineOut (s : State) : State :=
  match s.eng.input with
  | none => { s with eng := { s.eng with stage := none, late := [], slotLate := [] } }
  | some (a, px) =>
    let r := s.collect a px
    let gave := s.kernelGave
    let s : State := { s with eng := { s.eng with stage := some (a, r.1), late := s.eng.slotLate ++ r.2, slotLate := [], input := none } }
    (s.sweepStress a r.1 gave).sweepLineEnd a

/-! The drive link and the row timing of a line. -/

/-- LATCHes are sent at the start of a line of the frame, and bursts in the line time before it (R277). -/
def State.driven (s : State) (k : Nat) : Bool :=
  s.sends && decide (s.timing.firstActive ≤ k) && decide (k < s.timing.firstFront)

/-- What a line's start latches and drives (R277 item 1, R279, R294, R299, R302): the LATCHes and gate edges of the raster's line, or of
the line that a sweep senses. Gives whether a LATCH went out. -/
def State.driveLine (s : State) : Bool × State :=
  let k := s.scn.idx
  let a := k - s.timing.firstActive
  let latch := s.driven k
  let s := if latch then s.latchLine_ a else s
  let s := if s.drives ∧ s.kdl.rejoin = false ∧ k < s.scn.total then s.gateLine k (if latch then some a else none) else s
  let r := s.sweepLatch
  match s.kdl.sweep, r.1 with
  | some w, some i => (true, r.2.senseGate w i)
  | _, _ => (latch, r.2)

/-- The K28.0 of every 256th line time (R288). -/
def State.skipLine (s : State) : State :=
  let n := (s.scn.skips + 1) % 256
  let s : State := { s with scn := { s.scn with skips := n } }
  if n = 0 ∧ s.fld KDL_CFG_skip_en = 1 then
    (s.drvs.filter s.kdlUp).foldl (fun s d => (s.emit (.skip d)).kdlSend d [.ctl k280] [.ctl k280]) s
  else s

/-- Start, in whole ns, of the line that carries the next traffic on the forward lanes after this one: the next line while packets wait
or a sweep runs, else the next line with a LATCH or a burst; none while nothing is sent. -/
def State.nextTraffic (s : State) : Option Ns :=
  let t := s.timing
  let k := s.scn.idx + 1
  if s.kdl.ctl ≠ [] ∨ s.kdl.sweep.any (·.started) then some (s.scn.nextAt / 256)
  else if s.sends = false then none
  else if s.scn.last = false ∧ k + 1 < t.firstActive then some ((s.scn.nextAt + (t.firstActive - 1 - k) * s.scn.lt) / 256)
  else if s.scn.last = false ∧ k < t.firstFront then some (s.scn.nextAt / 256)
  else some ((s.scn.endAt + (t.firstActive - 1) * s.scn.lt) / 256)

/-- Electrical idle of a driver's forward lanes (R83, R287): entered at the end of the line's traffic where the next is at least ei_min
(1 µs or more), and the gap of R83, away, and left so that the training burst ends 8 slots before it. Drivers in training have
traffic of their own. -/
def State.idleDrv (s : State) (next : Option Ns) (d : Nat) : State :=
  let st := (s.drv d).st
  if st = 0 ∨ st = 1 ∨ st = 2 ∨ st = 4 then s
  else
    let l := laneA d
    let both (s : State) (exit : Option Nat) (entry : Bool) (t : Ns) : State := (s.txAsk l exit entry t).txAsk (l + 1) exit entry t
    let idle := s.kdl.busyTo
    let slots := s.symNs l 8
    let gap := max (100 * max 10 (s.fld KDL_CFG_ei_min)) (ceilDiv (s.idleGapPs l) 1000 + slots)
    let far : Bool := match next with
      | some t => decide (idle + gap ≤ t)
      | none => true
    let s := if s.fld KDL_CFG_ei_en = 1 ∧ far ∧ s.kdlUp d then both s none true idle else s
    match next with
    | some t =>
      let n := 2 * s.burstLen l
      let tx := t - (16 + s.symNs l n + slots)
      if (s.lane l).txIdle ∧ tx * 256 < s.scn.nextAt then both s (some n) false tx else s
    | none => s

/-- Electrical idle of the forward lanes over a line time. -/
def State.idlePart (s : State) : State :=
  let next := s.nextTraffic
  s.drvs.foldl (fun s d => s.idleDrv next d) s

/-- What the drive link carries in a line time after the LATCH and the burst for the next line (R277): a sweep's burst, control packets,
what is due in blanking, the skip, and idle. -/
def State.linkLine (s : State) (latch burst causeway : Bool) : State :=
  let s := s.drvs.foldl State.drvFollow s.blankWork
  let r := s.sweepSend causeway
  ((r.2.ctlWindow latch (burst || r.1)).skipLine).idlePart

/-! A line. -/

/-- SCN_STATUS and SCN_STRETCH_POS of the line (R158). -/
def State.showLine (s : State) : State :=
  let k := s.scn.idx
  let t := s.scn.total
  let active := decide (s.timing.firstActive ≤ k) && decide (k < s.timing.firstFront)
  let s := (s.setFld SCN_STATUS_line (min k (t - 1))).setFld SCN_STATUS_stretch (if t ≤ k then 1 else 0)
  (s.setFld SCN_STATUS_blank (if active then 0 else 1)).setFld SCN_STRETCH_POS_pos (k + 1 - t)

/-- The causeway rule (R16): kind 1 a check-word mismatch, else causeway parity. -/
def State.causewayFault (s : State) (kind : Nat) : State :=
  let s := s.setFlag SCN_FLAGS_causeway
  s.raiseLog 0x40 0x08 (s.fld SCN_STATUS_line + (if kind = 1 then 0 else 65536))

/-- A crack measurement falls due at the SOB of every frame whose number is a multiple of the period (R309). -/
def State.crackDue (s : State) : State :=
  let n := s.fld PNL_CRK_CFG_period
  if n ≠ 0 ∧ s.frame % n = 0 ∧ s.fld PNL_CRK_CFG_en ≠ 0 then s.setPnl { s.pnl with measureDue := true } else s

/-- What the SOB brings: the temperature field, the event, a crack measurement, a re-plan that is due (R172, R207, R309, R430). -/
def State.sob (s : State) : State :=
  ((s.computeField.postRaster 1 s.frame s.now SCN_EVT_EN_sob).crackDue).replanAtSob

/-- SOB and LINE_MATCH of a programmed line (R172). -/
def State.lineEvents (s : State) : State :=
  let k := s.scn.idx
  let s := if k = s.timing.firstFront then s.sob else s
  (List.range 8).foldl (fun s i =>
    if s.fld (SCN_LM_CFG_en i) = 1 ∧ s.fld (SCN_LM_CFG_line i) = k then
      s.postRaster 2 (k + 65536 * (i % 4) + 2 ^ 18 * (i / 4)) s.now SCN_EVT_EN_line_match
    else s) s

/-- While a port of layout 0 is lost or being rebuilt, the reads of the line's data rebuild an unknown number of units (R361): it
depends on what the readers fetch at once, which the spec leaves open. -/
def State.reconLine (s : State) : State :=
  if s.storeUp ∧ s.layout = 0 ∧ s.mode ≤ 8 ∧ ((List.range 6).any fun n => (s.cxPort n).st == 4 || (s.cxPort n).st == 5) = true then
    let x := s.draw 65536
    x.2.addSat FST_CNT_RECON_count 0 0 x.1
  else s

/-- Everything a line's start drives, at the line in progress. -/
def State.line (s : State) (e : LineEnv) : State :=
  let k := s.scn.idx
  let s := s.showLine
  let s := if e.causeway = 0 then s else s.causewayFault e.causeway
  let s := e.parity.foldl State.parityError s
  let s := if k < s.scn.total then s.lineEvents else s
  let s := if k = s.scn.latchLn then s.latchPoint (fun r => !e.h0Late.contains r.ord && !e.h1Late.contains r.ord) false else s
  let s := if k = 0 then s else s.dischargeLine false
  let d := s.driveLine
  let burst := d.2.driven (k + 1)
  let s := (d.2.cellarFetch.histFetch).packetise e
  let s := ((s.engineOut.frontEnd.feedSlot).linkLine d.1 burst (e.causeway != 0)).reconLine
  s.publishLt.powerScan

/-- The next line of the frame starts. -/
def State.nextLine (s : State) : State :=
  ({ s with scn := { s.scn with idx := s.scn.idx + 1, lineAt := s.scn.nextAt } }).replan

/-- The line start that is due (R157, R160), with what the world brings to it. While the raster is stopped there is none. -/
def State.lineStart (s : State) (e : LineEnv) : State :=
  if s.running = false then s
  else
    match s.scn.starting with
    | some x => ((s.firstFrame x).frontReset x).line e
    | none =>
      let t := s.reach (rasterTb s.scn.nextAt)
      if s.scn.last then
        let t := t.boundary
        if t.running && t.scn.starting.isNone then t.line e else t
      else t.nextLine.line e

end Sys2Proof.Machine
end

