-- ==== Sys2Proof/Machine/Wake.lean ====
section
/-! DEFINITION. Power manager events (R387 to R404): domains' exits and ends of change, links, rails, temperature, PFW_N, wake
sources, and deep sleep up to the part's restore. Hints are in Machine/Descriptors.lean's reach through `State.takePowerHint`. -/

namespace Sys2Proof.Machine

open Sys2Proof Reg

/-! PFW_N (R43, R306, R307, R415). -/

/-- The part acts on PFW_N, once: DISCHARGE with the shortened discharge, and the hot save. -/
def State.powerFail (s : State) : State :=
  if s.pnl.pfw then s
  else
    let s := s.setPnl { s.pnl with pfw := true }
    let s := s.dropSwitches ABORTED
    let s : State := { s with mod := { s.mod with autoExit := false } }
    let s := if s.mode = 11 then s.pfwPanel else (s.takeDischarge false true).modeLeft s.mode 11
    let s := (s.countLife 1).stopNvs
    if s.nvs.saving then s else s.startSave

/-! Wake sources (R398 to R400). -/

/-- A source is enabled; PFW_N always is. -/
def State.wakeOn (s : State) (src : Nat) : Bool := src == 9 || (s.fld PWR_WAKE_CFG_en).testBit (src - 1)

/-- The domains that deep-sleep entry has taken down are restored, and the frame store comes up again (R397, R400). -/
def State.restoreDoms (s : State) : State :=
  let s := (s.pwr.taken ++ [79, 80]).foldl (fun (s : State) d => if 2 ≤ d ∧ d ≤ 5 then s else s.needNow d) s
  let s : State := { s with pwr := { s.pwr with taken := [], aonTimer := none } }
  if s.fld FST_CFG_en = 1 ∧ s.fld FST_STATUS_state = 0 then s.fstUp else s

/-- A wake source fires: awake it is recorded, and posted where evt asks for it; during the entry to deep sleep it aborts the entry, which
while SVC is on its way to OFF waits until SVC is back; asleep it wakes the part, but for PFW_N, which is only recorded. -/
def State.wakeFires (s : State) (src : Nat) : State :=
  if s.wakeOn src = false then s
  else
    let s := s.setFld PWR_LAST_WAKE_source src
    if s.pwr.deep = 0 then (if s.fld PWR_WAKE_CFG_evt = 1 then s.raise 0x61 0x10 src else s)
    else if s.pwr.deep = 5 then
      (if s.pwr.abortSrc = 0 then { s with pwr := { s.pwr with abortSrc := src, wakeSrc := src } } else s)
    else if s.pwr.deep < 5 then
      let s : State := { s with pwr := { s.pwr with deep := 0 } }
      let s := (s.setFlag PWR_FLAGS_refused).postRefused 1 src true
      s.restoreDoms
    else if s.pwr.deep = 6 ∧ src ≠ 9 then
      let s := (s.addSat PWR_LAST_WAKE_count 0 0 1).countLife 4
      { s with pwr := { s.pwr with deep := 7, ldoLp := false, wakeSrc := src } }
    else s

/-- PFW_N. In deep sleep it is recorded and nothing more (R398). -/
def execPfwN (s : State) : Host.Outcome State Fault Refusal :=
  .next (
    let s := s.wakeFires 9
    if 6 ≤ s.pwr.deep ∨ s.inReset then s else s.powerFail)

/-- MG_ADDRESS_MATCH (R398). -/
def execMgAddressMatch (addr : BitVec 7) (s : State) : Host.Outcome State Fault Refusal :=
  .next (if s.fld PWR_WAKE_CFG_mg_addr = addr.toNat then s.wakeFires 1 else s)

/-- WAKE_N_LOW (R398). -/
def execWakeNLow (s : State) : Host.Outcome State Fault Refusal := .next (s.wakeFires 2)

/-- SYNC_IN_WAKE (R398): an edge from SYNC_IN's level; one of the polarity in PWR_WAKE_CFG.sync_edge fires. -/
def execSyncInWake (s : State) : Host.Outcome State Fault Refusal :=
  let high := s.pwr.syncHigh
  let s : State := { s with pwr := { s.pwr with syncHigh := !high } }
  .next (if high = (s.fld PWR_WAKE_CFG_sync_edge == 1) then s.wakeFires 3 else s)

/-- PCIE_INBAND_WAKE (R398): it is also a need of the port's domain (R389). -/
def execPcieInbandWake (n : Nat) (s : State) : Host.Outcome State Fault Refusal :=
  .next (
    if 4 ≤ n then s
    else
      let s := s.wakeFires (4 + n)
      if s.pwr.deep = 0 then s.needNow (2 + n) else s)

/-- AON_TIMER (R398): the timer that deep-sleep entry armed. -/
def execAonTimer (s : State) : Host.Outcome State Fault Refusal :=
  .next (
    match s.pwr.aonTimer with
    | none => s
    | some _ => ({ s with pwr := { s.pwr with aonTimer := none } }).wakeFires 8)

/-! Entry to deep sleep (R391, R397). -/

/-- The conditions of R397. -/
def State.deepReady (s : State) : Bool :=
  s.mode == 10 && s.fld SCN_CTRL_run == 0 && !s.running && (s.pwrState == 0 || s.pwrState == 4) &&
    (List.range 8).all (fun p => (s.port p).st == 0 || (s.port p).st == 4) && s.domMax 1 == 2 && s.eng.jobs.isEmpty &&
    s.fld PWR_WAKE_CFG_en != 0

/-- Order 3: every domain but AON, SVC, CTX0 and CTX1 goes OFF, the frame store down with them; FST_CFG.en keeps its value. -/
def State.takeDown (s : State) : State :=
  let ds := ((List.range 77).map (· + 2) ++ [81]).filter fun d => (s.dom d).st != 2 || (s.dom d).going.isSome
  let s := if s.fld FST_STATUS_state = 0 then s else s.fstDown
  let s : State := { s with pwr := { s.pwr with deep := 3, taken := ds } }
  ds.foldl (fun s d => s.requestDom d 2) s

/-- The registers that R391 saves: fields of class RW, RWL and RWO, and GLB_LOCK; every other field reads as at reset after the
restore, but for the wake record and an active SAFETY binding, which only a rebinding or a cold reset ends (R451). -/
def savedMask (off : Nat) : Nat :=
  if off = GLB_LOCK then 1
  else if off = PWR_LAST_WAKE then 2 ^ 32 - 1
  else
    match regAt off with
    | some d => (if off = SEC_ROLE then 0x300 else 0) ||| accMask d fun a => a == .rw || a == .rwl || a == .rwo
    | none => 0

/-- The registers as the restore writes them back. -/
def keptRegs (l : List (Nat × Word)) : List (Nat × Word) :=
  l.filterMap fun e =>
    let off := e.1 % 2 ^ 20 * 4
    let d := resetWord off (e.1 / 2 ^ 20 % 2 ^ 20)
    let w := BitVec.ofNat 32 (mergeBits d (savedMask off) e.2.toNat)
    if w = BitVec.ofNat 32 d then none else some (e.1, w)

/-- The exits that an armed launch needs before it, beside SVC's. -/
def launchLead (a : Armed) : Ns :=
  (List.range 82).foldl (fun n d => if concerns a.body d then max n (domExit d 2) else n) 0

/-- The earliest armed launch time less the exits that it needs (R53). -/
def State.launchNeed (s : State) : Option Nat :=
  (s.tbs.armed.foldl (fun n a => minNeed n (some a.launch)) none).map fun t =>
    t - (s.tbs.armed.filter (·.launch == t)).foldl (fun n a => max n (launchLead a)) 0

/-- The AON timer's value: the earlier of T and what the earliest armed launch needs, less SVC's exit (R53, R397). -/
def State.aonValue (s : State) : Option Nat :=
  let t := if s.pwr.deepT = 2 ^ 64 - 1 then none else some s.pwr.deepT
  (minNeed t s.launchNeed).map fun x => x - domExit 1 2

/-- Order 4: CTX0 and CTX1 go to RET, the save list is written, and the AON timer is armed. -/
def State.saveAll (s : State) : State :=
  let s : State := { s with pwr := { s.pwr with
      deep := 4, aonTimer := s.aonValue, saved := some { tb := s.now, regs := keptRegs s.regs } } }
  (s.requestDom 79 1).requestDom 80 1

/-- The entry goes on when a change of a domain has ended: from order 3 to 4 when all are OFF, to order 5 when CTX0 and CTX1 are in
RET, and asleep when SVC is OFF. -/
def State.deepStep (s : State) : State :=
  let quiet (d st : Nat) : Bool := (s.dom d).st == st && (s.dom d).going.isNone
  if s.pwr.deep = 3 then
    if ((List.range 77).map (· + 2) ++ [81]).all fun d => quiet d 2 then s.saveAll else s
  else if s.pwr.deep = 4 then
    if quiet 79 1 && quiet 80 1 then ({ s with pwr := { s.pwr with deep := 5 } }).requestDom 1 2 else s
  else if s.pwr.deep = 5 then
    if quiet 1 2 = false then s
    else if s.pwr.abortSrc = 0 then { s with pwr := { s.pwr with deep := 6, ldoLp := true } }
    else { s with pwr := { s.pwr with deep := 7 } }
  else s

/-- Deep sleep is requested, and its conditions hold: the completion is written, and the hot values are saved. -/
def State.enterDeep (s : State) (r : Req) (t : Nat) : State :=
  let s := s.done r OK
  let s : State := { s with pwr := { s.pwr with deep := 2, deepT := t, taken := [] } }
  if s.nvs.saving then s else s.startSave

/-- HOT_SAVE_DONE (R415): the save ends; an entry to deep sleep goes on (R397). -/
def execHotSaveDone (s : State) : Host.Outcome State Fault Refusal :=
  .next (
    if s.nvs.saving then
      let s := s.endSave
      if s.pwr.deep = 2 then s.takeDown.deepStep else s
    else s)

/-! Hints (R393). -/

/-- Partition `p` may name domain `d` in a hint. -/
def State.hintOk (s : State) (p d : Nat) : Bool :=
  p == s.owner || d == 0 || d == 2 + p || (decide (6 ≤ d) && decide (d ≤ 13) && s.fld (MSP_PORT_CFG_owner (d - 6)) == p) ||
    (decide (22 ≤ d) && decide (d ≤ 53) && s.clOwner (d - 22) == p)

/-- The domains of a mask; bit 0 is ignored. -/
def hintDoms (mask : BitVec 88) : List Nat := (List.range 81).map (· + 1) |>.filter fun d => mask.getLsbD d

/-- A POWER_HINT may be issued by a partition. -/
def State.hintRights (s : State) (p : Nat) (mask : BitVec 88) : Bool := (hintDoms mask).all fun d => s.hintOk p d

/-- A hint for one domain. -/
def State.hintDom (s : State) (kind t d : Nat) : State :=
  let x := s.dom d
  if kind = 1 then
    if t ≤ s.now then (s.setDom d { x with need := none, idle := none }).needNow d
    else s.setDom d { x with need := some t, idle := none }
  else s.setDom d { x with need := none, idle := some t }

/-- A POWER_HINT reaches the power manager, its rights checked. -/
def State.takePowerHint (s : State) (r : Req) (kind t : Nat) (mask : BitVec 88) : State :=
  let ds := hintDoms mask
  if 2 ≤ kind ∨ ds.isEmpty ∨ mask.toNat / 2 ^ 82 ≠ 0 then s.done r INVALID
  else if kind = 0 ∧ mask.getLsbD 1 then
    if s.deepReady = false ∨ s.pwr.deep ≠ 0 then (s.done r NOT_READY)
    else (ds.filter (· != 1)).foldl (fun s d => s.hintDom 0 t d) (s.enterDeep r t)
  else ((ds.filter (· != 1)).foldl (fun s d => s.hintDom kind t d) (s.done r OK)).powerScan

/-! Domains (R387 to R392). -/

/-- DOMAIN_EXIT_START (R388). -/
def execDomainExitStart (d : Nat) (s : State) : Host.Outcome State Fault Refusal :=
  .next (
    match (s.dom d).exitAt with
    | none => s
    | some t => if s.pwr.deep = 0 then ((s.reach t).setDom d { s.dom d with exitAt := none, need := none, idle := none }).needNow d else s)

/-- What a domain that has come ON lets begin. -/
def State.domUp (s : State) (d : Nat) : State :=
  if 6 ≤ d ∧ d ≤ 13 then s.portStart (d - 6)
  else if d = 81 then ((s.emit (.pin "BCB_BUSY_N" 0 true)).xramTouch)
  else s

/-- What a domain that is no longer ON takes with it: a port of MSP is in OFF (R97). -/
def State.domDown (s : State) (d : Nat) : State := if 6 ≤ d ∧ d ≤ 13 then s.portGone (d - 6) else s

/-- A change of domain `d` ends. -/
def State.changeDone (s : State) (d : Nat) : State :=
  let s := s.endChange d
  let s := if (s.dom d).st = 0 then s.domUp d else s.domDown d
  if s.pwr.deep = 0 then (s.servePending d).powerScan
  else
    match (s.dom d).pend with
    | some st => ((s.setDom d { s.dom d with pend := none }).requestDom d st).deepStep
    | none => s.deepStep

/-- DOMAIN_CHANGE_DONE (R392). A lane domain leaves OFF once its rails are up (R390). -/
def execDomainChangeDone (d : Nat) (s : State) : Host.Outcome State Fault Refusal :=
  .next (
    let x := s.dom d
    match x.going with
    | none => s
    | some st => if st = 0 ∧ x.st = 2 ∧ laneDom d ∧ s.railsUp = false then s else s.changeDone d)

/-- XRAM_IDLE (R389): the exchange RAM has had no access for its idle time. -/
def execXramIdle (s : State) : Host.Outcome State Fault Refusal :=
  .next (
    let x := s.dom 81
    if x.st = 0 ∧ x.going = none ∧ s.domMax 81 ≠ 0 ∧ s.pwr.deep = 0 then
      let s := s.reach (s.pwr.xramIdle + 1000 * s.fldI PWR_DOM_CFG_idle 81)
      let st := min 2 (s.domMax 81)
      (s.setDom 81 { s.dom 81 with exitAt := x.idle.map fun t => t - domExit 81 st }).requestDom 81 st
    else s)

/-- HP_LINK_STATE (R389): the domain follows the link; `down` is a link whose HP_PERST_N is asserted. WAKE follows deep sleep at the
OWNER link's first L0, and HP_WAKE_N is released (R399). -/
def execHpLinkState (n : Nat) (l : LinkState) (s : State) : Host.Outcome State Fault Refusal :=
  .next (
    if 4 ≤ n ∨ s.pwr.deep ≠ 0 then s
    else
      let code := match l with
        | .l0 => 1
        | .l1 => 2
        | .l2 => 3
        | .down => 0
      let s : State := { s with hif := { s.hif with links := Sparse.set 0 s.hif.links n code } }
      let d := 2 + n
      match l with
      | .l0 =>
        let s := s.needNow d
        let s :=
          if Sparse.get false s.pwr.hostWake n then
            ({ s with pwr := { s.pwr with hostWake := Sparse.set false s.pwr.hostWake n false } }).emit (.pin "HP_WAKE_N" n true)
          else s
        if s.pwr.wakeDue ∧ n = s.owner then
          ({ s with pwr := { s.pwr with wakeDue := false } }).raise 0x61 0x10 (s.pwr.wakeSrc + 256)
        else s
      | .l1 => if 1 ≤ s.domMax d then s.requestDom d 1 else s
      | _ => if 2 ≤ s.domMax d then s.requestDom d 2 else s)

/-! Rails (R394, R395). -/

/-- RAIL_ACK (R395): the request in progress is confirmed. -/
def execRailAck (k : Nat) (s : State) : Host.Outcome State Fault Refusal :=
  .next (
    let r := s.rail k
    if k < 8 ∧ r.busy then
      let s := s.setRail k { r with busy := false, retried := false, volt := false, pg := true }
      if r.volt then
        match s.cal.replan with
        | some p => (match p.asked with
          | some mv => s.setFld CAL_CORE_mv mv
          | none => s)
        | none => s
      else s
    else s)

/-- The domains that wait for rail power stay OFF. -/
def State.railRefused (s : State) : State :=
  let ds := (List.range 82).filter fun d => laneDom d && (s.dom d).going == some 0 && (s.dom d).st == 2
  let s := ds.foldl (fun s d => s.setDom d { s.dom d with going := none, pend := none }) s
  match ds with
  | [] => s
  | d :: more => (more.foldl (fun s d => s.refuse d 13 false) s).postRefused d 13 false

/-- RAIL_TIMEOUT (R395): one retry; then the request has failed. A failed voltage step ends the re-plan's steps; the event's domain,
which the spec does not give for it, is open. -/
def execRailTimeout (k : Nat) (s : State) : Host.Outcome State Fault Refusal :=
  .next (
    let r := s.rail k
    if 8 ≤ k ∨ r.busy = false then s
    else if r.retried = false then
      let mv := (s.cal.replan.bind (·.asked)).getD (s.fld CAL_CORE_mv)
      (s.setRail k { r with retried := true }).pmbus k (if r.volt then 0x21 else 0x01) (if r.volt then mv else 0x80)
    else
      let s := s.setFld PWR_VR_STATUS_fault (withBit (s.fld PWR_VR_STATUS_fault) k true)
      let s := s.setFlag PWR_FLAGS_vr_fault
      if r.volt then
        let s := s.setRail k { r with busy := false, retried := false, volt := false }
        let x := s.draw 128
        let s := x.2.postRefused x.1 13 false
        match s.cal.replan with
        | some p => (s.endReplan p).calNext
        | none => s
      else (s.setRail k { r with busy := false, retried := false, on := false, pg := false }).railRefused)

/-- STATUS_WORD bits of an output fault, as PMBus names them: VOUT, IOUT or POUT, and the over-voltage and over-current bits. -/
def outputFault (w : Half) : Bool := w.getLsbD 15 || w.getLsbD 14 || w.getLsbD 5 || w.getLsbD 4

/-- PW_ALERT (R394, R395): STATUS_WORD of every used rail is read and cleared; an output fault on a held rail acts as PFW_N. -/
def execPwAlert (status : List (BitVec 16)) (s : State) : Host.Outcome State Fault Refusal :=
  .next (
    let ks := (List.range 8).filter s.railUsed
    let s := ks.foldl (fun s k =>
      let w := status.getD k 0
      let s := s.pmbus k 0x79 0
      if w = 0 then s
      else
        ((s.setFld PWR_VR_STATUS_fault (withBit (s.fld PWR_VR_STATUS_fault) k true)).setFlag PWR_FLAGS_vr_fault).pmbus k 0x03 0) s
    if ks.any fun k => (s.rail k).on && outputFault (status.getD k 0) then s.powerFail else s)

/-- VR_PG_FALL (R395). -/
def execVrPgFall (k : Nat) (s : State) : Host.Outcome State Fault Refusal :=
  .next (
    let r := s.rail k
    if k < 8 ∧ s.railUsed k ∧ r.on ∧ r.pg ∧ s.pwr.deep < 6 then (s.setRail k { r with pg := false }).powerFail else s)

/-! Temperature (R402, R428). -/

/-- A temperature trigger (R428). -/
def State.tempTrigger (s : State) (t : Int) : State :=
  let last := signed 16 (s.fld CAL_TEMP_LAST_temp)
  let items := s.fld CAL_TEMP_CFG_items
  if s.fld CAL_TEMP_CFG_en = 1 ∧ items ≠ 0 ∧ (s.fld CAL_TEMP_CFG_delta : Int) < ((t - last).natAbs : Int) ∧
      s.cal.lastEnd + 1000000000 * s.fld CAL_TEMP_CFG_min_gap ≤ s.now ∧ s.cal.pend.isNone then
    (s.setFlag CAL_FLAGS_temp_trigger).askRun items 4 []
  else s

/-- TEMP_READ (R402): the hottest of the die sensors, in 1/16 °C. -/
def execTempRead (sensors : List Int) (s : State) : Host.Outcome State Fault Refusal :=
  .next (
    match sensors with
    | [] => s
    | x :: xs =>
      if s.trimming then s
      else
        let t := clampInt (-32768) 32767 (xs.foldl max x)
        let old := signed 16 (s.fld PWR_TEMP_temp)
        let warn := signed 16 (s.fld PWR_THERM_warn)
        let trip := signed 16 (s.fld PWR_THERM_trip)
        let s := s.setFld PWR_TEMP_temp (unsigned 16 t)
        let s :=
          if s.pwr.hot = false ∧ warn < t then
            (({ s with pwr := { s.pwr with hot := true } }).setFlag PWR_FLAGS_thermal).raise 0x53 0x10 (unsigned 16 t)
          else if s.pwr.hot ∧ t < warn - 32 then
            ({ s with pwr := { s.pwr with hot := false } }).raise 0x53 0x10 (unsigned 16 t + 65536)
          else s
        let s := if old < trip ∧ trip ≤ t then ((s.setFlag PWR_FLAGS_trip).raiseLog 0x53 0x10 (unsigned 16 t + 131072)).ownDischarge else s
        s.tempTrigger t)

end Sys2Proof.Machine
end

