-- ==== Sys2Proof/Machine/Descriptors.lean ====
section
/-! DEFINITION. Descriptors (R323 to R331): the 64-byte layout, the checks at dispatch, fences, chains, milestone contexts
(R55 to R60, R147), and every opcode's hand-over to its unit. A descriptor row is the dispatch of a descriptor already
copied from its SQ; SQ_FETCH is the copying with the dispatch. -/

namespace Sys2Proof.Machine

open Sys2Proof Reg

/-! Header and body (R323, R325, R327). -/

/-- The header flags. -/
def timed (h : Hdr) : Bool := h.flags.getLsbD 0
def fenced (h : Hdr) : Bool := h.flags.getLsbD 1
def chained (h : Hdr) : Bool := h.flags.getLsbD 4

/-- A header that keeps R323, for its body. -/
def headerGood (h : Hdr) (b : Body) : Bool :=
  let wait := match b with
    | .fenceWait _ => true
    | _ => false
  let ms := match b with
    | .milestone _ _ _ => true
    | _ => false
  let flip := match b with
    | .flip _ => true
    | _ => false
  h.clean && decide (h.flags.toNat < 32) && decide (h.fenceId.toNat < 4096) && (timed h || ms || h.launch == 0) &&
    (fenced h || wait || (h.fenceId == 0 && h.fenceVal == 0)) && (flip || !chained h) && !(timed h && wait)

/-- The two words of a MILESTONE's arguments: bytes 24 to 27 and 28 to 31 (R327). -/
def argLo (a : BitVec 64) : Nat := a.toNat % 2 ^ 32
def argHi (a : BitVec 64) : Nat := a.toNat / 2 ^ 32

/-- A MILESTONE's action and arguments keep R59 and R327. -/
def milestoneGood (act b21 : Nat) (a : BitVec 64) : Bool :=
  match act with
  | 1 => b21 == 0 && decide (argLo a < 4096)
  | 2 => b21 == 0 && a == 0
  | 3 => b21 == 0 && decide (argLo a < 16) && argHi a != 0
  | 4 => decide (b21 < 2) && decide (a.toNat < 1024)
  | 5 => b21 == 0 && argHi a == 0
  | 6 => b21 == 0 && a == 0
  | _ => false

/-- A FLIP's fields keep R141 and R325. -/
def flipGood (f : FlipArgs) : Bool :=
  decide (f.layer ≤ 12) && decide (f.enable ≤ 2) && decide (f.select < 2 ^ 24) && decide (f.galpha < 256) &&
    decide (f.fenceTo < 256) && (f.layer == 12 || f.crc == 0)

/-- Bytes 20 to 63 keep R325, as far as the layout says; the units judge the rest. -/
def bodyGood : Body → Bool
  | .nop => true
  | .commit _ _ => true
  | .flip f => flipGood f
  | .flips l => l.all fun m => flipGood m.2
  | .regionUpdate _ => true
  | .fenceSignal f _ => decide (f < 4096)
  | .fenceWait _ => true
  | .milestone act b21 a => milestoneGood act b21 a
  | .tableLoad code len _ => tableCode code && tableLenOk code len
  | .readback len src _ => decide (1 ≤ len) && decide (len < 2 ^ 32) && decide (src < 2 ^ 48)
  | .engineJob j => decide (j.image < 2 ^ 48) && decide (j.arg < 2 ^ 48)
  | .modeSwitch t => decide (t ≤ 11)
  | .nvmWrite _ _ _ _ _ => true
  | .nvmRead _ copy _ _ => decide (copy ≤ 2)
  | .powerHint _ _ _ => true
  | .harvest _ a => decide (a.result < 2 ^ 48)
  | .streamBind _ => true
  | .calRun _ => true
  | .unknown _ => false

/-- The partition that owns a fence (R143). -/
def fenceOwner (f : Nat) : Nat := f / 1024 % 4

/-- The rights of R325's column "Issued by", and those of R59 for a MILESTONE. -/
def State.rights (s : State) (p : Nat) : Body → Bool
  | .flip f => s.ownsLayer p f.layer || decide (12 < f.layer)
  | .flips l => l.all fun m => s.ownsLayer p m.2.layer || decide (12 < m.2.layer)
  | .fenceSignal f _ => fenceOwner f == p
  | .milestone act _ a =>
    if act = 1 then fenceOwner (argLo a) == p
    else if act = 3 then s.ownsClusters p (BitVec.ofNat 32 (argHi a))
    else if act = 4 then decide (1023 < argLo a) || s.portOwner (argLo a / 128) == p
    else true
  | .tableLoad code _ _ => !tableCode code || s.tableRights p code
  | .readback len src _ => s.mayRead p src len
  | .engineJob j => s.ownsClusters p j.clusters
  | .modeSwitch _ => p == s.owner
  | .nvmWrite _ _ _ _ _ => p == s.owner
  | .nvmRead _ _ _ _ => p == s.owner
  | .powerHint _ _ mask => s.hintRights p mask
  | .harvest _ _ => p == s.owner
  | .streamBind b => decide (1023 < b.ctx) || s.portOwner (b.ctx / 128) == p
  | .calRun _ => p == s.owner
  | .nop => true
  | .commit _ _ => true
  | .regionUpdate _ => true
  | .fenceWait _ => true
  | .unknown _ => true

/-- A FLIP would enable S (R150). -/
def enablesS (f : FlipArgs) : Bool := f.layer == 12 && f.enable == 1

/-- The boot logic alone serves descriptors, and this is not the one it serves (R419). -/
def State.bootOnly (s : State) (b : Body) : Bool :=
  s.hif.noFw && (match b with
    | .nvmWrite key hot _ _ _ => !(key == 1 && !hot)
    | _ => true)

/-- The status with which a descriptor fails at dispatch, if it does: R419, R150's test, rights, then the layout. -/
def State.refusal (s : State) (h : Hdr) (b : Body) : Option Nat :=
  let late : Bool := match b with
    | .flip f => enablesS f && s.safetyPart == []
    | _ => false
  if s.bootOnly b || late then some NOT_READY
  else if s.rights h.part b = false then some DENIED
  else if headerGood h b = false ∨ bodyGood b = false then some INVALID
  else none

/-! Actions. -/

/-- A fence takes a value (R143). -/
def State.setFence (s : State) (f : Nat) (v : Word) : State :=
  { s with hif := { s.hif with fences := Sparse.set 0 s.hif.fences f v } }

/-- A milestone flag is set in every engine of a cluster, its spare included (R59, R267). -/
def State.flagCluster (s : State) (bit c : Nat) : State :=
  let set (s : State) (g : Nat) : State := s.setEn g { s.en g with msflag := (s.en g).msflag ||| BitVec.ofNat 16 (2 ^ bit) }
  let s := ((512 + c) :: (List.range 16).map (16 * c + ·)).foldl set s
  let cl := s.cl c
  let all (m : Sparse Half) : Sparse Half :=
    (List.range 16).foldl (fun m i => Sparse.set 0 m i (Sparse.get 0 m i ||| BitVec.ofNat 16 (2 ^ bit))) m
  s.setCl c { cl with flagsSince := all cl.flagsSince, flagsNew := all cl.flagsNew }

/-- The armed descriptor that a CANCEL names (R59): one that is due in this cycle acts instead (R60). -/
def State.cancelled (s : State) (p : Nat) (a : BitVec 64) : Option Armed :=
  s.tbs.armed.find? fun x =>
    x.req.h.part == p && x.req.h.cq.toNat == argLo a % 65536 && x.req.h.tag.toNat == argLo a / 65536 && decide (s.now < x.launch)

/-- A MILESTONE acts (R58 to R60); `late` where its launch time had passed when it reached the scheduler. -/
def State.actMilestone (s : State) (r : Req) (act b21 : Nat) (a : BitVec 64) (late : Bool) : State :=
  let st := if late then LATE else OK
  match act with
  | 1 => (s.setFence (argLo a) (BitVec.ofNat 32 (argHi a))).done r st
  | 2 => (s.syncPulse 4 s.now).done r st
  | 3 => ((maskClusters (BitVec.ofNat 32 (argHi a))).foldl (fun s c => s.flagCluster (argLo a) c) s).done r st
  | 4 => (s.gate (argLo a) (b21 == 1)).done r st
  | 5 =>
    match s.cancelled r.h.part a with
    | some x => (s.abortArmed x).done r st
    | none => s.done r INVALID
  | _ => s.done r st

/-- The bytes of an area, zero where they cannot be read intact (R329). -/
def State.bytesOrZero (s : State) (a n : Nat) : List Byte :=
  (s.bytes a n).zipIdx.map fun x => if s.unitReadable ((a + x.2) / 4096) then x.1 else 0

/-- READBACK (R329, R348). -/
def State.runReadback (s : State) (r : Req) (len src dst : Nat) : State :=
  if s.storeUp = false then s.done r NOT_READY
  else
    let s := s.l1Out.countRecon src len
    (s.toHost r.h.part dst (s.bytesOrZero src len)).done r (if s.readable src len then OK else DATA_ERROR)

/-- The SVC executes it (R415 to R418, R427): while the SVC restarts it waits (R432). -/
def onSvc : Body → Bool
  | .nvmWrite _ _ _ _ _ => true
  | .nvmRead _ _ _ _ => true
  | .calRun _ => true
  | _ => false

/-- A descriptor that passed its checks acts, or reaches its executing unit. -/
def State.act (s : State) (r : Req) (b : Body) (late : Bool) : State :=
  if s.cal.restarting ∧ onSvc b then { s with cal := { s.cal with held := s.cal.held ++ [(r, b)] } }
  else
    match b with
    | .nop => s.done r OK
    | .commit len block => s.takeCommit r len block
    | .flip f => s.flipArrive [(r, f)] false
    | .flips l => s.flipArrive (l.map fun m => (⟨m.1, r.g, r.ord⟩, m.2)) true
    | .regionUpdate a => s.takeRegion r a
    | .fenceSignal f v => (s.setFence f v).done r OK
    | .fenceWait _ => s.done r OK
    | .milestone act b21 a => s.actMilestone r act b21 a late
    | .tableLoad code len data => s.takeTable r code len data
    | .readback len src dst => s.runReadback r len src dst
    | .engineJob j => if j.image = 0 then s.takeStop r j.clusters else s.takeJob r j
    | .modeSwitch t => s.takeSwitch r t
    | .nvmWrite key hot len addr data => s.takeNvmWrite r key hot len addr data
    | .nvmRead key copy len dst => s.takeNvmRead r key copy len dst
    | .powerHint kind t mask => s.takePowerHint r kind t mask
    | .harvest kind a => s.runHarvest r kind a
    | .streamBind b => s.runBind r b
    | .calRun mask => s.takeCalRun r mask
    | .unknown _ => s.done r INVALID

/-! Arming (R55, R58). -/

/-- A partition's quota of milestone contexts. -/
def State.msQuota (s : State) (p : Nat) : Nat := 8 * (s.reg TBS_MS_QUOTA 0 0 / 256 ^ p % 256)

/-- A descriptor without a launch time acts; one whose time has come launches at once; the others are armed. -/
def State.arm (s : State) (r : Req) (b : Body) : State :=
  let t := r.h.launch.toNat
  if t = 0 then s.act r b false
  else if t ≤ s.now then s.act r b true
  else if s.msQuota r.h.part ≤ (s.tbs.armed.filter fun x => x.req.h.part == r.h.part).length then s.doneBody r b NO_RESOURCE
  else if s.now + 2 ^ 47 < t then s.doneBody r b INVALID
  else s.setArmed (s.tbs.armed ++ [{ req := r, body := b, launch := t }])

/-! Dispatch (R324 to R326, R330, R333, R336). -/

/-- The fence named in a header is reached for its fence value. -/
def State.headerFence (s : State) (h : Hdr) : Bool := s.fenceReached (h.fenceId.toNat % 4096) h.fenceVal

/-- A completion of the partition waits, so that none of its SQs dispatches (R336). -/
def State.holding (s : State) (p : Nat) : Bool := s.hif.held.any fun c => c.p == p

/-- The SQ stops at a descriptor. -/
def State.stopSq (s : State) (r : Req) (b : Body) (t : Ns) : State :=
  s.setQueue r.g { s.queue r.g with stop := some (r, b), stopAt := if t = 0 then none else some (s.now + t) }

/-- A NOP or FLIP from SAFETY restarts the heartbeat (R152). -/
def State.beat (s : State) (p : Nat) : State := if s.isSafety p then s.restartHb else s

/-- A descriptor outside chains is dispatched: it fails, waits for its fence, or goes on. A NOP that waits for its fence is
dispatched, and beats (R152), only once that is reached (R324). -/
def State.letIn (s : State) (r : Req) (b : Body) : State :=
  let s := match b with
    | .nop => if (s.refusal r.h b).isNone && fenced r.h && !s.headerFence r.h then s else s.beat r.h.part
    | .flip _ => s.beat r.h.part
    | _ => s
  match s.refusal r.h b with
  | some st => s.done r st
  | none =>
    match b with
    | .flip _ => s.arm r b
    | .fenceWait t => if s.headerFence r.h then s.done r OK else s.stopSq r b t
    | _ => if fenced r.h && !s.headerFence r.h then s.stopSq r b 0 else s.arm r b

/-! Chains (R147). -/

/-- The open chain of a partition's SQ. -/
def State.openChain (s : State) (p q : Nat) : List (Req × FlipArgs) :=
  ((s.lyr.open_.find? fun c => c.1 == p && c.2.1 == q).map (·.2.2)).getD []

/-- The open chain of an SQ replaced; an empty one is none. -/
def State.setChain (s : State) (p q : Nat) (l : List (Req × FlipArgs)) : State :=
  let rest := s.lyr.open_.filter fun c => !(c.1 == p && c.2.1 == q)
  { s with lyr := { s.lyr with open_ := if l.isEmpty then rest else rest ++ [(p, q, l)] } }

/-- A member that stands for a descriptor discarded for its CQ (R333): no layer has this number. -/
def lostMember (f : FlipArgs) : FlipArgs := { f with layer := 256 }

/-- The members that complete with the chain. -/
def liveMembers (l : List (Req × FlipArgs)) : List Req := (l.filter fun m => m.2.layer != 256).map (·.1)

/-- The status with which a closed chain fails, if it does. -/
def State.chainFault (s : State) (l : List (Req × FlipArgs)) : Option Nat :=
  let layers := l.map (·.2.layer)
  let sts := l.map fun m => s.refusal m.1.h (.flip m.2)
  if sts.contains (some NOT_READY) then some NOT_READY
  else if sts.contains (some DENIED) then some DENIED
  else if sts.contains (some INVALID) ∨ 13 < l.length ∨ layers.dedup.length ≠ layers.length ∨ (l.drop 1).any fun m => m.1.h.launch != 0 then
    some INVALID
  else none

/-- A chain closes: timed by its first member. -/
def State.closeChain (s : State) (l : List (Req × FlipArgs)) : State :=
  match l with
  | [] => s
  | m :: _ =>
    match s.chainFault l with
    | some st => s.doneAll (liveMembers l) st
    | none => s.arm m.1 (.flips (l.map fun x => (x.1.h, x.2)))

/-! An SQ entry is dispatched. -/

/-- The SQ from which a descriptor can be dispatched: enabled, not in ERROR, not stopped, its partition not held. -/
def State.sqOf (s : State) (p q : Nat) : Option Nat :=
  if 4 ≤ p then none
  else
    match s.gq p q with
    | none => none
    | some g =>
      if s.qEn g && s.qKind g == 0 && (s.queue g).err == 0 && (s.queue g).stop.isNone && !s.holding p && decide (s.pwr.deep < 5) then
        some g
      else none

/-- A descriptor discarded for its CQ is counted (R333). -/
def State.rejectCq (s : State) (p g : Nat) : State :=
  (s.setQueue g { s.queue g with rejected := min 65535 ((s.queue g).rejected + 1) }).setFldP HIF_FLAGS_bad_cq p 1

/-- A descriptor of SQ `g` is dispatched. -/
def State.dispatch (s : State) (g : Nat) (h : Hdr) (b : Body) : State :=
  let r : Req := ⟨h, g, s.hif.serial⟩
  let s : State := { s with hif := { s.hif with serial := s.hif.serial + 1 } }
  let ok := (s.ringOf h.part 1 h.cq.toNat).isSome
  let s := if ok then s else s.rejectCq h.part g
  let ms := s.openChain h.part h.sq
  match b with
  | .flip f =>
    let m : Req × FlipArgs := (r, if ok then { f with layer := min 255 f.layer } else lostMember f)
    if chained h then
      let s := if ok then s.beat h.part else s
      s.setChain h.part h.sq (ms ++ [m])
    else if ms.isEmpty then (if ok then s.letIn r b else s)
    else
      let s := if ok then s.beat h.part else s
      (s.setChain h.part h.sq []).closeChain (ms ++ [m])
  | _ =>
    if ms.isEmpty then (if ok then s.letIn r b else s)
    else
      let s := (s.setChain h.part h.sq []).doneAll (liveMembers ms) INVALID
      if ok then s.done r INVALID else s

/-- A stopped SQ whose fence is reached and whose partition is not held. -/
def State.canResume (s : State) (g : Nat) : Bool :=
  match (s.queue g).stop with
  | some (r, _) => s.headerFence r.h && (s.queue g).err == 0 && !s.holding r.h.part
  | none => false

/-- The first stopped SQ, by global number, that can go on. -/
def State.resumable (s : State) : Option Nat := (s.hif.queues.map (·.1)).find? s.canResume

/-- A stopped SQ goes on with the descriptor it stopped at. -/
def State.resumeSq (s : State) (g : Nat) : State :=
  match (s.queue g).stop with
  | none => s
  | some (r, b) =>
    let s := s.setQueue g { s.queue g with stop := none, stopAt := none }
    match b with
    | .fenceWait _ => s.done r OK
    | .nop => (s.beat r.h.part).arm r b
    | _ => s.arm r b

/-- SQs whose waits have ended go on, one after the other: each that goes on may reach another's fence. -/
def State.goOnN : Nat → State → State
  | 0, s => s
  | n + 1, s =>
    match s.resumable with
    | some g => State.goOnN n (s.resumeSq g)
    | none => s

/-- As many times as SQs are stopped. -/
def State.goOn (s : State) : State := s.goOnN s.hif.queues.length

/-- A descriptor row: the descriptor is dispatched from its SQ, if that dispatches now, and waits that it ends go on. -/
def State.take (s : State) (h : Hdr) (b : Body) : State :=
  match s.sqOf h.part h.sq with
  | some g => (s.dispatch g h b).goOn
  | none => s

/-! The 64 bytes of an entry (R323, R325). -/

/-- The byte ranges, first byte and length, that an opcode's body may fill. -/
def bodyRanges : Nat → List (Nat × Nat)
  | 0x02 => [(20, 2), (24, 8)]
  | 0x03 => [(20, 2), (24, 9), (36, 4)]
  | 0x04 => [(20, 17), (40, 4)]
  | 0x05 => [(20, 2), (24, 4)]
  | 0x06 => [(20, 8)]
  | 0x07 => [(20, 2), (24, 8)]
  | 0x08 => [(20, 2), (24, 12)]
  | 0x09 => [(20, 20)]
  | 0x0A => [(20, 24)]
  | 0x0B => [(20, 1)]
  | 0x0C => [(20, 3), (24, 12)]
  | 0x0D => [(20, 3), (24, 12)]
  | 0x0E => [(20, 1), (24, 8), (32, 11)]
  | 0x0F => [(20, 20)]
  | 0x10 => [(20, 7), (28, 8)]
  | 0x11 => [(20, 4)]
  | _ => []

/-- Every byte outside an opcode's ranges is zero, and so are the bits that its layout marks zero. -/
def entryClean (b : List Byte) : Bool :=
  let op := leAt b 0 1
  ((List.range 44).all fun i =>
    (bodyRanges op).any (fun r => decide (r.1 ≤ 20 + i) && decide (20 + i < r.1 + r.2)) || leAt b (20 + i) 1 == 0) &&
    (match op with
     | 0x02 => leAt b 24 8 % 8 == 0
     | 0x08 => !inPlace (leAt b 20 2) || leAt b 24 8 == 0
     | 0x0C => decide (leAt b 22 1 < 2)
     | 0x0D => decide (leAt b 22 1 < 4)
     | 0x10 => decide (leAt b 26 1 < 2)
     | _ => true)

/-- The header of an entry of partition `p`'s SQ `q`. -/
def hdrOf (p q : Nat) (b : List Byte) : Hdr where
  part := p
  sq := q
  flags := BitVec.ofNat 8 (leAt b 1 1)
  tag := BitVec.ofNat 16 (leAt b 2 2)
  cq := BitVec.ofNat 16 (leAt b 4 2)
  fenceId := BitVec.ofNat 16 (leAt b 6 2)
  launch := BitVec.ofNat 64 (leAt b 8 8)
  fenceVal := BitVec.ofNat 32 (leAt b 16 4)
  clean := entryClean b

/-- Bytes 20 to 63 of an entry by opcode; `host` is what the host buffer it names holds. -/
def bodyOf (b : List Byte) (host : Option (List Byte)) : Body :=
  let n (a k : Nat) : Nat := leAt b a k
  match n 0 1 with
  | 0x01 => .nop
  | 0x02 => .commit (n 20 2) host
  | 0x03 => .flip {
      layer := n 20 1, enable := n 21 1, select := n 24 3, x := BitVec.ofNat 16 (n 28 2), y := BitVec.ofNat 16 (n 30 2)
      galpha := n 27 1, fenceTo := n 32 1, crc := BitVec.ofNat 32 (n 36 4) }
  | 0x04 => .regionUpdate {
      strip0 := n 20 2, nstrips := n 22 2, row0 := n 24 2, nrows := n 26 2, patch := n 28 8, format := n 36 1, pitch := n 40 4 }
  | 0x05 => .fenceSignal (n 20 2) (BitVec.ofNat 32 (n 24 4))
  | 0x06 => .fenceWait (n 20 8)
  | 0x07 => .milestone (n 20 1) (n 21 1) (BitVec.ofNat 64 (n 24 8))
  | 0x08 => .tableLoad (n 20 2) (n 32 4) host
  | 0x09 => .readback (n 20 4) (n 24 8) (n 32 8)
  | 0x0A => .engineJob {
      image := n 28 8, clusters := BitVec.ofNat 32 (n 20 4), frames := n 24 2, arg := n 36 8, argLen := n 26 2 }
  | 0x0B => .modeSwitch (n 20 1)
  | 0x0C => .nvmWrite (n 20 2) (n 22 1 % 2 == 1) (n 24 4) (n 28 8) host
  | 0x0D => .nvmRead (n 20 2) (n 22 1 % 4) (n 24 4) (n 28 8)
  | 0x0E => .powerHint (n 20 1) (n 24 8) (BitVec.ofNat 88 (n 32 11))
  | 0x0F => .harvest (n 20 1) {
      line0 := n 24 2, nlines := n 26 2, step := n 22 1, level := n 28 2, colours := n 21 1, settle := n 30 2
      spacing := n 23 1, result := n 32 8 }
  | 0x10 => .streamBind {
      ctx := n 20 2, target := n 22 1, layer := n 23 1, plane := n 24 1, format := n 25 1, bandX0 := n 28 2, bandW := n 30 2
      height := n 32 2, creditInit := n 34 2, crcStrict := n 26 1 % 2 == 1 }
  | 0x11 => .calRun (BitVec.ofNat 32 (n 20 4))
  | op => .unknown op

/-! Commands of the queues. -/

/-- SQ_FETCH (R331): `entry` is the entry as host memory holds it, none where its fetch fails at PCIe; a local ring's entry
comes from the frame store. -/
def State.fetchSq (s : State) (p q : Nat) (entry host : Option (List Byte)) : State :=
  match s.sqOf p q with
  | none => s
  | some g =>
    if s.qCount g = 0 then s
    else
      let head := (s.queue g).head.toNat
      let e := if s.qLoc g then
          (if s.localOk p g then s.ppaRead (s.qBase g + 64 * ringPos head) 64 else none)
        else entry
      match e with
      | none => s.qError p g 2
      | some b =>
        let next := ringNext (s.qSize g) head
        let s := if s.qLoc g then s.countRecon (s.qBase g + 64 * ringPos head) 64 else s
        let s := s.setQueue g { s.queue g with head := BitVec.ofNat 16 next }
        let s := if s.qLoc g then s.ppaWrite (s.qBase g - 62) (leBytes 2 next) else s
        (s.dispatch g (hdrOf p q b) (bodyOf b host)).goOn

/-- SQ_FETCH. -/
def execSqFetch (p q : Nat) (entry host : Option (List Byte)) (s : State) : Host.Outcome State Fault Refusal :=
  .next (s.fetchSq p q entry host)

/-- TAIL_DOORBELL (R320). -/
def execTailDoorbell (p off size : Nat) (v : BitVec 64) (s : State) : Host.Outcome State Fault Refusal :=
  .next (s.bar2Write p off size v).goOn

/-- HEAD_DOORBELL (R320). Completions that waited are written, and the partition's SQs may dispatch again (R336). -/
def execHeadDoorbell (p off size : Nat) (v : BitVec 64) (s : State) : Host.Outcome State Fault Refusal :=
  .next (s.bar2Write p off size v).goOn

/-- WRITE_BACK_DONE (R230): a write of a local ring's header acts as its doorbell (R319). -/
def execWriteBackDone (g : Nat) (s : State) : Host.Outcome State Fault Refusal := .next (s.writeBackDone g).goOn

/-- FENCE_WAIT_TIMEOUT (R326). -/
def State.waitTimeout (s : State) (p q : Nat) : State :=
  match s.gq p q with
  | none => s
  | some g =>
    match (s.queue g).stop, (s.queue g).stopAt with
    | some (r, .fenceWait _), some t =>
      if s.headerFence r.h then s
      else
        let s := (s.reach t).setQueue g { s.queue g with stop := none, stopAt := none }
        (s.post 0x12 0x01 (r.h.fenceId.toNat % 4096 + 0xF * 65536) [p]).done r FENCE_TIMEOUT
    | _, _ => s

/-- FENCE_WAIT_TIMEOUT. -/
def execFenceWaitTimeout (p q : Nat) (s : State) : Host.Outcome State Fault Refusal :=
  .next (if p < 4 ∧ s.pwr.deep < 5 then s.waitTimeout p q else s)

/-! Descriptor rows. -/

/-- NOP (R325). -/
def execNop (h : Hdr) (s : State) : Host.Outcome State Fault Refusal := .next (s.take h .nop)

/-- COMMIT (R166). -/
def execCommit (h : Hdr) (len : Nat) (block : Option (List Byte)) (s : State) : Host.Outcome State Fault Refusal :=
  .next (s.take h (.commit len block))

/-- FLIP (R142, R147). -/
def execFlip (h : Hdr) (f : FlipArgs) (s : State) : Host.Outcome State Fault Refusal := .next (s.take h (.flip f))

/-- REGION_UPDATE (R211). -/
def execRegionUpdate (h : Hdr) (r : RegionArgs) (s : State) : Host.Outcome State Fault Refusal := .next (s.take h (.regionUpdate r))

/-- FENCE_SIGNAL (R143). -/
def execFenceSignal (h : Hdr) (fence : Nat) (v : Word) (s : State) : Host.Outcome State Fault Refusal :=
  .next (s.take h (.fenceSignal fence v))

/-- FENCE_WAIT (R326). -/
def execFenceWait (h : Hdr) (timeout : Ns) (s : State) : Host.Outcome State Fault Refusal := .next (s.take h (.fenceWait timeout))

/-- A MILESTONE's arguments from their two words. -/
def msArgs (lo : Nat) (hi : Nat) : BitVec 64 := BitVec.ofNat 64 (lo % 2 ^ 32 + 2 ^ 32 * (hi % 2 ^ 32))

/-- SIGNAL_FENCE (R59). -/
def execSignalFence (h : Hdr) (fence : Nat) (v : Word) (s : State) : Host.Outcome State Fault Refusal :=
  .next (s.take h (.milestone 1 0 (msArgs fence v.toNat)))

/-- PULSE (R59). -/
def execPulse (h : Hdr) (s : State) : Host.Outcome State Fault Refusal := .next (s.take h (.milestone 2 0 0))

/-- ENGINE_FLAG (R59). -/
def execEngineFlag (h : Hdr) (bit : Nat) (clusters : Word) (s : State) : Host.Outcome State Fault Refusal :=
  .next (s.take h (.milestone 3 0 (msArgs bit clusters.toNat)))

/-- STREAM_GATE (R59). -/
def execStreamGate (h : Hdr) (ctx : Nat) (close : Bool) (s : State) : Host.Outcome State Fault Refusal :=
  .next (s.take h (.milestone 4 (if close then 1 else 0) (msArgs ctx 0)))

/-- CANCEL (R60). -/
def execCancel (h : Hdr) (cq tag : BitVec 16) (s : State) : Host.Outcome State Fault Refusal :=
  .next (s.take h (.milestone 5 0 (msArgs (cq.toNat + 65536 * tag.toNat) 0)))

/-- MARK (R59). -/
def execMark (h : Hdr) (s : State) : Host.Outcome State Fault Refusal := .next (s.take h (.milestone 6 0 0))

/-- The armed descriptor that fires next (R57): earliest launch, then queue, then submission. -/
def firesFirst (a b : Armed) : Armed :=
  if b.launch < a.launch ∨ (b.launch = a.launch ∧ before a.req b.req = false) then b else a

/-- The one of the armed descriptors that fires next. -/
def State.nextArmed (s : State) : Option Armed :=
  match s.tbs.armed with
  | [] => none
  | a :: l => some (l.foldl firesFirst a)

/-- A context fires and frees, and its descriptor launches on time (R56). -/
def State.fire (s : State) (a : Armed) : State := ((s.reach a.launch).setArmed (s.tbs.armed.erase a)).act a.req a.body false

/-- MILESTONE_FIRE (R56). The scheduler stands while SVC is not ON (R53). -/
def execMilestoneFire (s : State) : Host.Outcome State Fault Refusal :=
  .next (
    match s.nextArmed with
    | some a => if s.pwr.deep < 5 then (s.fire a).goOn else s
    | none => s)

/-- Launch times that have passed fire, in the order of R57. -/
def State.fireDue : Nat → State → State
  | 0, s => s
  | n + 1, s =>
    match s.nextArmed with
    | some a => if a.launch ≤ s.now then State.fireDue n (s.fire a) else s
    | none => s

/-- TB has stepped forward: what it passed fires in the cycle of the step (R57). -/
def State.stepFires (s : State) : State :=
  if s.tbs.stepped then
    let s : State := { s with tbs := { s.tbs with stepped := false } }
    (State.fireDue s.tbs.armed.length s).goOn
  else s

/-- LINE_START (R157). A COMMIT whose phase correction steps TB takes effect at a line start that begins a frame (R51, R57). -/
def execLineStart (e : LineEnv) (s : State) : Host.Outcome State Fault Refusal := .next (s.lineStart e).stepFires

/-- MODE_BOOK_LOAD (R29). -/
def execModeBookLoad (h : Hdr) (s : State) : Host.Outcome State Fault Refusal := .next (s.take h (.tableLoad 0x10 0 none))

/-- COLOUR_TABLE_LOAD (R137): code 0x0100 + n. -/
def execColourTableLoad (h : Hdr) (n len : Nat) (data : Option (List Byte)) (s : State) : Host.Outcome State Fault Refusal :=
  .next (s.take h (.tableLoad (if n ≤ 12 then 0x100 + n else 0) len data))

/-- SCALER_COEFF_LOAD (R137): code 0x0110 + v. -/
def execScalerCoeffLoad (h : Hdr) (n len : Nat) (data : Option (List Byte)) (s : State) : Host.Outcome State Fault Refusal :=
  .next (s.take h (.tableLoad (if n ≤ 3 then 0x110 + n else 0) len data))

/-- POST_BLEND_LUT_LOAD (R137). -/
def execPostBlendLutLoad (h : Hdr) (len : Nat) (data : Option (List Byte)) (s : State) : Host.Outcome State Fault Refusal :=
  .next (s.take h (.tableLoad 0x120 len data))

/-- SAFE_IMAGE_VALIDATION (R153). -/
def execSafeImageValidation (h : Hdr) (s : State) : Host.Outcome State Fault Refusal := .next (s.take h (.tableLoad 0x121 0 none))

/-- DEMURA_MAP_LOAD (R191). -/
def execDemuraMapLoad (h : Hdr) (s : State) : Host.Outcome State Fault Refusal := .next (s.take h (.tableLoad 0x200 0 none))

/-- DEMURA_CODEC_LOAD (R191). -/
def execDemuraCodecLoad (h : Hdr) (s : State) : Host.Outcome State Fault Refusal := .next (s.take h (.tableLoad 0x201 0 none))

/-- VINTAGE_MAP_RESTORE (R193). -/
def execVintageMapRestore (h : Hdr) (s : State) : Host.Outcome State Fault Refusal := .next (s.take h (.tableLoad 0x202 0 none))

/-- VINTAGE_TABLES_LOAD (R191). -/
def execVintageTablesLoad (h : Hdr) (len : Nat) (data : Option (List Byte)) (s : State) : Host.Outcome State Fault Refusal :=
  .next (s.take h (.tableLoad 0x203 len data))

/-- REBUILD (R192). -/
def execRebuild (h : Hdr) (s : State) : Host.Outcome State Fault Refusal := .next (s.take h (.tableLoad 0x204 0 none))

/-- RATE_SET_LOAD (R200): code 0x0300 + r. -/
def execRateSetLoad (h : Hdr) (n len : Nat) (data : Option (List Byte)) (s : State) : Host.Outcome State Fault Refusal :=
  .next (s.take h (.tableLoad (if n ≤ 3 then 0x300 + n else 0) len data))

/-- NTC_TABLE_LOAD (R199). -/
def execNtcTableLoad (h : Hdr) (len : Nat) (data : Option (List Byte)) (s : State) : Host.Outcome State Fault Refusal :=
  .next (s.take h (.tableLoad 0x310 len data))

/-- DRIVER_SETUP_LIST_LOAD (R283). -/
def execDriverSetupListLoad (h : Hdr) (len : Nat) (data : Option (List Byte)) (s : State) : Host.Outcome State Fault Refusal :=
  .next (s.take h (.tableLoad 0x400 len data))

/-- READBACK (R329). -/
def execReadback (h : Hdr) (len src dst : Nat) (s : State) : Host.Outcome State Fault Refusal :=
  .next (s.take h (.readback len src dst))

/-- ENGINE_JOB (R233): with an image; PPA 0 names none, and is ENGINE_JOB_STOP's (R232). -/
def execEngineJob (h : Hdr) (j : JobArgs) (s : State) : Host.Outcome State Fault Refusal := .next (s.take h (.engineJob j))

/-- ENGINE_JOB_STOP (R232). -/
def execEngineJobStop (h : Hdr) (clusters : Word) (s : State) : Host.Outcome State Fault Refusal :=
  .next (s.take h (.engineJob ⟨0, clusters, 0, 0, 0⟩))

/-- MODE_SWITCH (R32). -/
def execModeSwitch (h : Hdr) (target : Nat) (s : State) : Host.Outcome State Fault Refusal := .next (s.take h (.modeSwitch target))

/-- NVM_WRITE (R416). -/
def execNvmWrite (h : Hdr) (key len : Nat) (data : Option (List Byte)) (s : State) : Host.Outcome State Fault Refusal :=
  .next (s.take h (.nvmWrite key false len 0 data))

/-- HOT_SAVE_REQUEST (R415, R416). -/
def execHotSaveRequest (h : Hdr) (key len addr : Nat) (s : State) : Host.Outcome State Fault Refusal :=
  .next (s.take h (.nvmWrite key true len addr none))

/-- NVM_READ (R417). -/
def execNvmRead (h : Hdr) (key copy len dst : Nat) (s : State) : Host.Outcome State Fault Refusal :=
  .next (s.take h (.nvmRead key copy len dst))

/-- POWER_HINT_IDLE (R393). -/
def execPowerHintIdle (h : Hdr) (t : Nat) (mask : BitVec 88) (s : State) : Host.Outcome State Fault Refusal :=
  .next (s.take h (.powerHint 0 t mask))

/-- POWER_HINT_NEEDED (R393). -/
def execPowerHintNeeded (h : Hdr) (t : Nat) (mask : BitVec 88) (s : State) : Host.Outcome State Fault Refusal :=
  .next (s.take h (.powerHint 1 t mask))

/-- DEEP_SLEEP_REQUEST (R397): a POWER_HINT of kind 0 with bit 1 of its mask. -/
def execDeepSleepRequest (h : Hdr) (t : Nat) (mask : BitVec 88) (s : State) : Host.Outcome State Fault Refusal :=
  .next (s.take h (.powerHint 0 t (mask ||| 2)))

/-- HARVEST_SENSING (R293). -/
def execHarvestSensing (h : Hdr) (a : HarvestArgs) (s : State) : Host.Outcome State Fault Refusal := .next (s.take h (.harvest 0 a))

/-- HARVEST_MEASUREMENT (R293). -/
def execHarvestMeasurement (h : Hdr) (a : HarvestArgs) (s : State) : Host.Outcome State Fault Refusal := .next (s.take h (.harvest 1 a))

/-- STREAM_BIND (R107). -/
def execStreamBind (h : Hdr) (b : BindArgs) (s : State) : Host.Outcome State Fault Refusal := .next (s.take h (.streamBind b))

/-- STREAM_UNBIND (R107): STREAM_BIND with target 0. -/
def execStreamUnbind (h : Hdr) (ctx : Nat) (s : State) : Host.Outcome State Fault Refusal :=
  .next (s.take h (.streamBind ⟨ctx, 0, 0, 0, 0, 0, 0, 0, 0, false⟩))

/-- CAL_RUN (R427). -/
def execCalRun (h : Hdr) (mask : Word) (s : State) : Host.Outcome State Fault Refusal := .next (s.take h (.calRun mask))

/-! The SVC's watchdog (R432). -/

/-- SVC_WATCHDOG (R432): the SVC restarts from the NVS; what waits on it is delayed. -/
def execSvcWatchdog (s : State) : Host.Outcome State Fault Refusal :=
  .next (if s.hif.noFw ∨ s.inReset ∨ s.pwr.deep ≠ 0 then s else { s with cal := { s.cal with restarting := true } })

/-- The SVC runs again: counted and logged, it writes what its hardware's responses have left it to record (R18), and serves what
waited. -/
def State.svcBack (s : State) : State :=
  let l := s.cal.held
  let notes := s.cal.notes
  let records := s.cal.records
  let s : State := { s with cal := { s.cal with restarting := false, held := [], notes := [], records := [] } }
  let s := notes.foldl (fun s n => s.logAt n.1 n.2.1 n.2.2.1 n.2.2.2.1 n.2.2.2.2.1 n.2.2.2.2.2) s
  let s := (records.foldl (fun s r => s.gatherRecord r.1 r.2) s).nvsNext
  let s := (s.addSat CAL_SVC_RST_count 0 0 1).setFlag CAL_FLAGS_svc_restart
  let s := s.log 0x0101 0x12 (s.fld CAL_SVC_RST_count) (s.fld NVS_STATUS_fw)
  (l.foldl (fun s x => s.act x.1 x.2 false) s).calNext

/-- SVC_RESTART_DONE (R432). -/
def execSvcRestartDone (s : State) : Host.Outcome State Fault Refusal := .next (if s.cal.restarting then s.svcBack.goOn else s)

end Sys2Proof.Machine
end

