-- ==== Sys2Proof/Machine/Registers.lean ====
section
/-! DEFINITION. BAR0 writes (R454 to R464): sizes and alignment, denied writes and their log, the lock, single-register ranges,
what the writes that act directly do (R17), the MSI-X table (R342) and the frame-store window (R355). -/

namespace Sys2Proof.Machine

open Sys2Proof Reg

/-! Denied writes (R459, R464). -/

/-- A denied write is counted, logged and flagged. -/
def State.deny (s : State) (p cause off : Nat) : State :=
  let n := s.fld GLB_DENY_HEAD_next
  let s := if s.fld (GLB_DENY_LOG_valid n) = 1 then s.setFld GLB_DENY_HEAD_wrapped 1 else s
  let s := s.setReg (GLB_DENY_LOG n) 0 0 (2 ^ 31 + p * 2 ^ 29 + cause * 2 ^ 26 + off / 4 % 2 ^ 19 * 4)
  let s := s.setFld GLB_DENY_HEAD_next ((n + 1) % 8)
  (s.addSat GLB_DENY_CNT_count 0 p 1).setFlag GLB_FLAGS_deny

/-- GLB_DENY_HEAD.clr. -/
def State.clearDenyLog (s : State) : State :=
  ((List.range 8).foldl (fun s k => s.setReg (GLB_DENY_LOG k) 0 0 0) s).setReg GLB_DENY_HEAD 0 0 0

/-- The object that partition `p` has selected for a register's index; none where no such object is (R89, R155, R345, R405). -/
def State.selected (s : State) (p : Nat) : Ix → Option Nat
  | .none => some 0
  | .lane => let l := s.fldP LNK_SEL_lane p; if l < 264 then some l else none
  | .laneRx => let l := s.fldP LNK_SEL_lane p; if isRx l then some l else none
  | .laneTx => let l := s.fldP LNK_SEL_lane p; if isTx l then some l else none
  | .stream => some (s.fldP MSP_STREAM_SEL_ctx p)
  | .layer => let l := s.fldP LYR_SEL_layer p; if l ≤ 12 then some l else none
  | .cluster => some (s.fldP ENG_SEL_cluster p)
  | .driver => some (s.fldP KDL_DRV_SEL_drv p)
  | .queue => s.gq p (s.fldP HIF_Q_SEL_q p)
  | .domain => let d := s.fld PWR_DOM_SEL_dom; if d ≤ 81 then some d else none

/-- The scope of a register for its selected object: the layer registers of S have scope SAFETY (R155). -/
def scopeFor (d : RegDesc) (ix : Nat) : Scope := if d.ix = .layer ∧ ix = 12 then .safety else d.scope

/-- The scope grants partition `p` a write (R457). -/
def State.granted (s : State) (p : Nat) : Scope → Bool
  | .owner => p == s.owner
  | .safety => s.isSafety p
  | .part => true

/-- The selected object is another partition's, and writes to it are denied (R121, R243). -/
def State.foreign (s : State) (p : Nat) (d : RegDesc) (ix : Nat) : Bool :=
  (d.ix == .stream && s.portOwner (ix / 128) != p) || (d.ix == .cluster && s.clOwner ix != p)

/-- A write of `w` over `cur` would change a field of class RWL. -/
def changesRwl (d : RegDesc) (cur w : Nat) : Bool := cur &&& accMask d (· == .rwl) != w &&& accMask d (· == .rwl)

/-- The cause for which a write is denied, if one applies; the part's maps hold no field of class RWO. -/
def State.denyCause (s : State) (p : Nat) (d : RegDesc) (off w : Nat) : Option Nat :=
  let ix := (s.selected p d.ix).getD 13
  if s.partOn p = false then some 4
  else if s.granted p (scopeFor d ix) = false then some 0
  else if s.foreign p d ix then some 3
  else if s.locked ∧ (s.selected p d.ix).isSome ∧ changesRwl d (s.reg off ix 0) w then some 1
  else none

/-! Writes that R17 refuses while the raster runs. -/

/-- The registers that only a COMMIT or a MODE_SWITCH changes while the raster runs. -/
def rasterReg (off : Nat) : Bool :=
  off == SCN_VSYNC_VBACK || off == SCN_VACTIVE_VFRONT || off == SCN_LINE_TIME || off == SCN_SYNC_CFG || off == SCN_PHASE ||
    off == TBS_SHUT_CFG || (decide (TBS_SHUT_OFFSET 0 ≤ off) && decide (off ≤ TBS_SHUT_OFFSET 3))

/-! The word a write leaves. -/

/-- The word after a write of `w` over `cur` (R7): RW and RWL fields take it, W1C bits written 1 clear, W1S bits written 1 set. -/
def written (d : RegDesc) (cur w : Nat) : Nat :=
  let c := accMask d (· == .w1c) &&& w
  let t := accMask d (· == .w1s) &&& w
  mergeBits (mergeBits (mergeBits cur (paramMask d) w) c 0) t t

/-- Ranges of registers that no COMMIT carries: FST_CFG's reserved layout and rates, and a deepest state that is none. -/
def setupOk (off w : Nat) : Bool :=
  if off = FST_CFG then ofWord w FST_CFG_layout != 3 && decide (ofWord w FST_CFG_rate_max ≤ 1)
  else if off = PWR_DOM_CFG then ofWord w PWR_DOM_CFG_max != 3
  else true

/-- The word lies in a range that other registers give: TBS_SHUT_OFFSETk below P ÷ S (R66). -/
def State.setInRange (s : State) (off w : Nat) : Bool :=
  !(decide (TBS_SHUT_OFFSET 0 ≤ off) && decide (off ≤ TBS_SHUT_OFFSET 3)) || s.shutOffOk w

/-- A register's word written as its classes say; what follows from it is the caller's. -/
def State.plainWrite (s : State) (d : RegDesc) (off ix bank w : Nat) : State :=
  if written d (s.reg off ix bank) w = s.reg off ix bank then s else s.setReg off ix bank (written d (s.reg off ix bank) w)

/-! Single registers. -/

/-- A queue of partition `p` is enabled. -/
def State.hasQueue (s : State) (p : Nat) : Bool := s.qsOn.any fun g => s.gqPart g == some p

/-- GLB_PART_EN (R463). -/
def State.writePartEn (s : State) (w : Nat) : State :=
  let new := w % 16
  let gone (p : Nat) : Bool := s.partOn p && !new.testBit p
  if gone s.owner ∨ (List.range 4).any (fun p => gone p && s.hasQueue p) ∨ ((s.layer 12).en ∧ s.safetyPart.any gone) then
    s.setFlag GLB_FLAGS_refused
  else s.setReg GLB_PART_EN 0 0 new

/-- SEC_ROLE (R450, R451): a rebinding of SAFETY is active at once without a pin, and pending with one. -/
def State.writeRole (s : State) (w : Nat) : State :=
  let cur := s.reg SEC_ROLE 0 0
  let bind (v : Nat) : Nat := v / 16 % 16
  if bind cur ≠ bind w ∧ (s.layer 12).en then s.setFlag SEC_FLAGS_refused
  else
    let st := if bind cur = bind w then s.fld SEC_ROLE_safety_state
      else if ofWord w SEC_ROLE_safety_en = 0 then 0
      else if ofWord w SEC_ROLE_pin_en = 0 then 2 else 1
    s.setReg SEC_ROLE 0 0 (w % 4 + 16 * bind w + 256 * st)

/-- SEC_IMG_FLOOR (R450). -/
def State.writeFloor (s : State) (w : Nat) : State :=
  if w < s.fld SEC_IMG_FLOOR_svn then s.setFlag SEC_FLAGS_refused else s.setFld SEC_IMG_FLOOR_svn w

/-- HIF_QALLOCn (R315). -/
def State.writeQalloc (s : State) (p n w : Nat) : State :=
  let lo (k : Nat) : Nat := if k = n then w % 64 else s.fld (HIF_QALLOC_base k)
  let cnt (k : Nat) : Nat := if k = n then w / 65536 % 128 else s.fld (HIF_QALLOC_count k)
  let meet (j k : Nat) : Bool := j != k && cnt j != 0 && cnt k != 0 && decide (lo j < lo k + cnt k) && decide (lo k < lo j + cnt j)
  if s.hasQueue n ∨ (List.range 4).any (meet n) ∨ 64 < lo n + cnt n then s.setFldP HIF_FLAGS_alloc_refused p 1
  else s.setReg (HIF_QALLOC n) 0 0 (w % 64 + w / 65536 % 128 * 65536)

/-- HIF_Q_CFG of context `g` (R316). -/
def State.writeQcfg (s : State) (p g w : Nat) (d : RegDesc) : State :=
  let on := ofWord w HIF_Q_CFG_en
  if s.qEn g then (if on = 0 then s.queueOff p g else s)
  else if on = 1 ∧ ofWord w HIF_Q_CFG_kind = 3 then s.setFlag GLB_FLAGS_range
  else
    let s := s.plainWrite d HIF_Q_CFG g 0 w
    if on = 1 then s.queueFresh g else s

/-- SCN_CTRL.run (R160). -/
def State.writeRun (s : State) (w : Nat) : State :=
  let on := w % 2
  if on = s.fld SCN_CTRL_run then s
  else if on = 1 then
    let s := s.setFld SCN_CTRL_run 1
    if s.running then s else s.startRaster
  else if s.mode ≠ 10 then s.setFlag SCN_FLAGS_refused
  else
    let s := s.setFld SCN_CTRL_run 0
    if s.scn.starting.isSome then ({ s with scn := { s.scn with starting := none } }).stopRaster
    else { s with scn := { s.scn with stopping := s.running } }

/-- FST_CFG (R348). -/
def State.writeFstCfg (s : State) (d : RegDesc) (w : Nat) : State :=
  let was := s.fld FST_CFG_en
  let s := s.plainWrite d FST_CFG 0 0 w
  let on := s.fld FST_CFG_en
  if was = 0 ∧ on = 1 then s.fstUp
  else if was = 1 ∧ on = 0 then s.fstDown
  else s

/-- The registers of region `k` (R352): its base and size while it is enabled, and a write that would enable it wrongly, are ignored. -/
def State.writeRegion (s : State) (d : RegDesc) (off w : Nat) : State :=
  let k := (off - FST_RGN_BASE 0) / 16
  if off % 16 = 8 then
    if ofWord w (FST_RGN_CFG_en k) = 1 ∧ s.regionOk k w = false then s.setFlag FST_FLAGS_rgn_refused
    else s.plainWrite d off 0 0 w
  else if s.rgnEn k then s
  else s.plainWrite d off 0 0 w

/-- PNL_PANEL (R298). -/
def State.writePanel (s : State) (d : RegDesc) (w : Nat) : State :=
  if s.panelFree then (s.plainWrite d PNL_PANEL 0 0 w).follow s PNL_PANEL 0 else s.setFlag PNL_FLAGS_refused

/-- KDL_CFG: its rate is accepted in BRINGUP alone (R271). -/
def State.writeKdlCfg (s : State) (d : RegDesc) (w : Nat) : State :=
  let w := if s.mode = 10 then w else w / 4 * 4 + s.fld KDL_CFG_rate
  (s.plainWrite d KDL_CFG 0 0 w).follow s KDL_CFG 0

/-- PWR_DOM_CFG (R405): AON, CTX0 and CTX1 keep their deepest state. -/
def State.writeDomCfg (s : State) (d : RegDesc) (dom w : Nat) : State :=
  let w := if dom = 0 ∨ dom = 79 ∨ dom = 80 then w / 4 * 4 + s.domMax dom else w
  s.plainWrite d PWR_DOM_CFG dom 0 w

/-- PWR_BOR: W1C bits of the brown-out latch (R396). -/
def State.writeBor (s : State) (w : Nat) : State :=
  { s with pwr := { s.pwr with
      bor := s.pwr.bor && !ofWord w PWR_BOR_bor == 1, borLp := s.pwr.borLp && !ofWord w PWR_BOR_lp == 1 } }

/-- The four counters of a lane cleared (R84). -/
def State.clearLane (s : State) (l : Nat) : State := s.setLane l { s.lane l with code := 0, disp := 0, lock := 0, eix := 0 }

/-- The five counters of a stream context cleared (R121). -/
def State.clearStream (s : State) (c : Nat) : State :=
  s.setStream c { s.stream c with cDone := 0, cInc := 0, cDrop := 0, cViol := 0, cCrc := 0 }

/-- What a write does besides leaving its word: the WO bits that act (R17), and what follows a changed set-up. -/
def State.afterWrite (s old : State) (p off ix w : Nat) : State :=
  let go := w % 2 = 1
  if off = GLB_DENY_HEAD then (if w.testBit 31 then s.clearDenyLog else s)
  else if off = TBS_SNAP then (if go then s.takeSnap p else s)
  else if off = TBS_TB_LOAD_GO then (if go then s.loadTb else s)
  else if off = LNK_CNT_CLR then (if go then s.clearLane ix else s)
  else if MSP_PORT_CTRL 0 ≤ off ∧ off ≤ MSP_PORT_CTRL 7 then (if go then s.portRestore ((off - MSP_PORT_CTRL 0) / 4) else s)
  else if off = MSP_STREAM_CNT_CLR then (if go then s.clearStream ix else s)
  else if off = SCN_LINE_TIME then s.checkBudgets
  else if off = ODV_HIST_INVAL then (if go then { s with odv := { s.odv with histInval := true } } else s)
  else if off = KDL_CTRL then (if go then s.trainAll else s)
  else if off = PNL_PWR_CTRL then
    let s := if ofWord w PNL_PWR_CTRL_on = 1 then s.powerOn else s
    if ofWord w PNL_PWR_CTRL_off = 1 then s.powerOff else s
  else if off = PNL_CRK_CTRL then (if go then s.startCapture else s)
  else if FST_PORT_CTRL 0 ≤ off ∧ off ≤ FST_PORT_CTRL 5 then (if go then s.startRebuild ((off - FST_PORT_CTRL 0) / 4) else s)
  else if off = MEM_XRAM_CFG then
    (if s.bcbIntN = old.bcbIntN then s else s.emit (.pin "BCB_INT_N" 0 s.bcbIntN))
  else if off = NVS_CFG then s.nvsPump
  else if off = CAL_LOG_SEL then s.fetchLog
  else if off = CAL_LOG_ACK then s.ackLog
  else s.follow old off ix

/-- A write that no cause denies: reserved bits, R17, ranges, and then the register. -/
def State.acceptWrite (s : State) (p : Nat) (d : RegDesc) (off ix w : Nat) : State :=
  let bank := if d.scope = .part ∧ d.ix = .none then p else 0
  let s := if w &&& usedMask d = w then s else s.setFlag GLB_FLAGS_rsvd
  let w := w &&& usedMask d
  let new := written d (s.reg off ix bank) w
  if s.running ∧ rasterReg off ∧ new ≠ s.reg off ix bank then s.setFlag SCN_FLAGS_refused
  else if wordOk off new = false ∨ setupOk off new = false ∨ s.setInRange off new = false then s.setFlag GLB_FLAGS_range
  else if off = GLB_PART_EN then s.writePartEn w
  else if off = SEC_ROLE then s.writeRole w
  else if off = SEC_IMG_FLOOR then s.writeFloor w
  else if HIF_QALLOC 0 ≤ off ∧ off ≤ HIF_QALLOC 3 then s.writeQalloc p ((off - HIF_QALLOC 0) / 4) w
  else if off = HIF_Q_CFG then s.writeQcfg p ix w d
  else if off = HIF_Q_BASE_LO ∨ off = HIF_Q_BASE_HI ∨ off = HIF_Q_AGG then (if s.qEn ix then s else s.plainWrite d off ix 0 w)
  else if off = SCN_CTRL then s.writeRun w
  else if off = FST_CFG then s.writeFstCfg d w
  else if FST_RGN_BASE 0 ≤ off then
    (if off / 0x10000 = 0xD then s.writeRegion d off w
     else if off = PWR_DOM_CFG then s.writeDomCfg d ix w
     else if off = PWR_BOR then s.writeBor w
     else (s.plainWrite d off ix bank w).afterWrite s p off ix w)
  else if off = PNL_PANEL then s.writePanel d w
  else if off = KDL_CFG then s.writeKdlCfg d w
  else (s.plainWrite d off ix bank w).afterWrite s p off ix w

/-- One 4-byte write of BAR0 outside the windows (R455, R459, R460). -/
def State.barWord (s : State) (p off w : Nat) : State :=
  match regAt off with
  | none => s.setFlag GLB_FLAGS_unmapped
  | some d =>
    match s.denyCause p d off w with
    | some c => s.deny p c off
    | none =>
      match s.selected p d.ix with
      | some ix => s.acceptWrite p d off ix w
      | none => s

/-! Windows (R454). -/

/-- FST_WIN, the MSI-X table and the PBA. -/
def inWin (off : Nat) : Bool := decide (0xD8000 ≤ off) && decide (off < 0xE0000)
def inMsix (off : Nat) : Bool := decide (0xC8000 ≤ off) && decide (off < 0xD0000)
def inPba (off : Nat) : Bool := decide (0xC7000 ≤ off) && decide (off < 0xC7100)

/-- A word of a vector's MSI-X table entry (R342): address, upper address, data, and the mask bit. -/
def State.tableWord (s : State) (p off w : Nat) : State :=
  let vec := (off - 0xC8000) / 16
  let k := off / 4 % 4
  if k = 3 then s.setVecMask p vec (w % 2 == 1)
  else { s with hif := { s.hif with table := Sparse.set 0 s.hif.table ((2048 * p + vec) * 4 + k) (BitVec.ofNat 32 w) } }

/-- A write in the MSI-X table: naturally aligned, of 4 or 8 bytes. -/
def State.tableWrite (s : State) (p off size v : Nat) : State :=
  if off % size ≠ 0 ∨ ¬(size = 4 ∨ size = 8) then s
  else
    let s := s.tableWord p off (v % 2 ^ 32)
    if size = 8 then s.tableWord p (off + 4) (v / 2 ^ 32) else s

/-- A BAR0 write of `size` bytes by partition `p`. -/
def State.bar0 (s : State) (p off size v : Nat) : State :=
  if inWin off then
    if s.partOn p then s.winWrite p (off - 0xD8000) (leBytes size v) else s.deny p 4 off
  else if inMsix off ∨ inPba off then
    if s.partOn p = false then s.deny p 4 off
    else if inMsix off then s.tableWrite p off size v else s
  else if ¬(size = 4 ∨ size = 8) ∨ off % size ≠ 0 then s.setFlag GLB_FLAGS_size
  else
    let s := s.barWord p off (v % 2 ^ 32)
    if size = 8 then s.barWord p (off + 4) (v / 2 ^ 32) else s

/-- A BAR0 write as a command. -/
def State.bar0Write (s : State) (p off size v : Nat) : State :=
  if s.reachable p then (s.bar0 p off size v).goOn else s

/-! Commands. -/

/-- REGISTER_WRITE (R459). -/
def execRegisterWrite (p off size : Nat) (v : BitVec 64) (s : State) : Host.Outcome State Fault Refusal :=
  .next (s.bar0Write p off size v.toNat)

/-- GLB_LOCK_SET (R462). -/
def execGlbLockSet (p : Nat) (v : Word) (s : State) : Host.Outcome State Fault Refusal := .next (s.bar0Write p GLB_LOCK 4 v.toNat)

/-- DENY_LOG_CLEAR (R464). -/
def execDenyLogClear (p : Nat) (v : Word) (s : State) : Host.Outcome State Fault Refusal :=
  .next (s.bar0Write p GLB_DENY_HEAD 4 v.toNat)

/-- GLB_PART_EN_WRITE (R463). -/
def execGlbPartEnWrite (p : Nat) (v : Word) (s : State) : Host.Outcome State Fault Refusal :=
  .next (s.bar0Write p GLB_PART_EN 4 v.toNat)

/-- SEC_ROLE_WRITE (R450). -/
def execSecRoleWrite (p : Nat) (v : Word) (s : State) : Host.Outcome State Fault Refusal := .next (s.bar0Write p SEC_ROLE 4 v.toNat)

/-- SEC_IMG_FLOOR_WRITE (R450). -/
def execSecImgFloorWrite (p : Nat) (v : Word) (s : State) : Host.Outcome State Fault Refusal :=
  .next (s.bar0Write p SEC_IMG_FLOOR 4 v.toNat)

/-- TB_LOAD (R52). -/
def execTbLoad (p : Nat) (v : Word) (s : State) : Host.Outcome State Fault Refusal := .next (s.bar0Write p TBS_TB_LOAD_GO 4 v.toNat)

/-- SNAPSHOT (R66). -/
def execSnapshot (p : Nat) (v : Word) (s : State) : Host.Outcome State Fault Refusal := .next (s.bar0Write p TBS_SNAP 4 v.toNat)

/-- SCN_RUN (R160). -/
def execScnRun (p : Nat) (v : Word) (s : State) : Host.Outcome State Fault Refusal := .next (s.bar0Write p SCN_CTRL 4 v.toNat)

/-- SCN_STOP (R160). -/
def execScnStop (p : Nat) (v : Word) (s : State) : Host.Outcome State Fault Refusal := .next (s.bar0Write p SCN_CTRL 4 v.toNat)

/-- PORT_ENABLE (R97). -/
def execPortEnable (p k : Nat) (v : Word) (s : State) : Host.Outcome State Fault Refusal :=
  .next (if k < 8 then s.bar0Write p (MSP_PORT_CFG k) 4 v.toNat else s)

/-- PORT_DISABLE (R97). -/
def execPortDisable (p k : Nat) (v : Word) (s : State) : Host.Outcome State Fault Refusal :=
  .next (if k < 8 then s.bar0Write p (MSP_PORT_CFG k) 4 v.toNat else s)

/-- PORT_RESTORE (R99). -/
def execPortRestore (p k : Nat) (v : Word) (s : State) : Host.Outcome State Fault Refusal :=
  .next (if k < 8 then s.bar0Write p (MSP_PORT_CTRL k) 4 v.toNat else s)

/-- LNK_COUNTER_CLEAR (R84). -/
def execLnkCounterClear (p : Nat) (v : Word) (s : State) : Host.Outcome State Fault Refusal := .next (s.bar0Write p LNK_CNT_CLR 4 v.toNat)

/-- STREAM_COUNTER_CLEAR (R121). -/
def execStreamCounterClear (p : Nat) (v : Word) (s : State) : Host.Outcome State Fault Refusal :=
  .next (s.bar0Write p MSP_STREAM_CNT_CLR 4 v.toNat)

/-- KDL_TRAIN (R285). -/
def execKdlTrain (p : Nat) (v : Word) (s : State) : Host.Outcome State Fault Refusal := .next (s.bar0Write p KDL_CTRL 4 v.toNat)

/-- HIST_INVALIDATE (R206). -/
def execHistInvalidate (p : Nat) (v : Word) (s : State) : Host.Outcome State Fault Refusal := .next (s.bar0Write p ODV_HIST_INVAL 4 v.toNat)

/-- PNL_POWER_ON (R303). -/
def execPnlPowerOn (p : Nat) (v : Word) (s : State) : Host.Outcome State Fault Refusal := .next (s.bar0Write p PNL_PWR_CTRL 4 v.toNat)

/-- PNL_POWER_OFF (R305). -/
def execPnlPowerOff (p : Nat) (v : Word) (s : State) : Host.Outcome State Fault Refusal := .next (s.bar0Write p PNL_PWR_CTRL 4 v.toNat)

/-- CRACK_CAPTURE (R309). -/
def execCrackCapture (p : Nat) (v : Word) (s : State) : Host.Outcome State Fault Refusal := .next (s.bar0Write p PNL_CRK_CTRL 4 v.toNat)

/-- FRAME_STORE_UP (R348). -/
def execFrameStoreUp (p : Nat) (v : Word) (s : State) : Host.Outcome State Fault Refusal := .next (s.bar0Write p FST_CFG 4 v.toNat)

/-- FRAME_STORE_DOWN (R348). -/
def execFrameStoreDown (p : Nat) (v : Word) (s : State) : Host.Outcome State Fault Refusal := .next (s.bar0Write p FST_CFG 4 v.toNat)

/-- PORT_REBUILD (R363). -/
def execPortRebuild (p k : Nat) (v : Word) (s : State) : Host.Outcome State Fault Refusal :=
  .next (if k < 6 then s.bar0Write p (FST_PORT_CTRL k) 4 v.toNat else s)

/-- REGION_ENABLE_WRITE (R352). -/
def execRegionEnableWrite (p k : Nat) (v : Word) (s : State) : Host.Outcome State Fault Refusal :=
  .next (if k < 64 then s.bar0Write p (FST_RGN_CFG k) 4 v.toNat else s)

/-- HIF_QALLOC_WRITE (R315). -/
def execHifQallocWrite (p k : Nat) (v : Word) (s : State) : Host.Outcome State Fault Refusal :=
  .next (if k < 4 then s.bar0Write p (HIF_QALLOC k) 4 v.toNat else s)

/-- QUEUE_ENABLE (R316). -/
def execQueueEnable (p : Nat) (v : Word) (s : State) : Host.Outcome State Fault Refusal := .next (s.bar0Write p HIF_Q_CFG 4 v.toNat)

/-- QUEUE_DISABLE (R316). -/
def execQueueDisable (p : Nat) (v : Word) (s : State) : Host.Outcome State Fault Refusal := .next (s.bar0Write p HIF_Q_CFG 4 v.toNat)

/-- MSIX_UNMASK (R342): the host clears the mask bit of a vector's table entry. -/
def execMsixUnmask (p vec : Nat) (s : State) : Host.Outcome State Fault Refusal :=
  .next (if vec < 2048 then s.bar0Write p (0xC8000 + 16 * vec + 12) 4 0 else s)

/-- CAL_LOG_FETCH (R436). -/
def execCalLogFetch (p : Nat) (v : Word) (s : State) : Host.Outcome State Fault Refusal := .next (s.bar0Write p CAL_LOG_SEL 4 v.toNat)

/-- CAL_LOG_ACK_WRITE (R436). -/
def execCalLogAckWrite (p : Nat) (v : Word) (s : State) : Host.Outcome State Fault Refusal := .next (s.bar0Write p CAL_LOG_ACK 4 v.toNat)

/-- APERTURE_WRITE (R355): `off` counts from the window's start. -/
def execApertureWrite (p off : Nat) (data : List Byte) (s : State) : Host.Outcome State Fault Refusal :=
  .next (
    if s.reachable p = false ∨ 32768 ≤ off then s
    else if s.partOn p then (s.winWrite p off data).goOn
    else s.deny p 4 (0xD8000 + off))

/-- APERTURE_READ (R355). -/
def execApertureRead (p off len : Nat) (s : State) : Host.Outcome State Fault Refusal :=
  .next (if s.reachable p = false ∨ 32768 ≤ off then s else s.winRead p off len)

end Sys2Proof.Machine
end

