-- ==== Sys2Proof/Machine/Views.lean ====
section
/-! DEFINITION. BAR0 reads (R455, R457, R458): the words of registers, among them those whose fields show another part of the
state, and the reads of the windows. -/

namespace Sys2Proof.Machine

open Sys2Proof Reg

/-- A field's bits in its word. -/
def Fld.put (f : Fld) (v : Nat) : Nat := v % 2 ^ (f.hi - f.lo + 1) * 2 ^ f.lo

/-- A one-bit field. -/
def Fld.bit (f : Fld) (b : Bool) : Nat := f.put b.toNat

/-- The 32 bits of a map, from bit 32k of a predicate. -/
def mapWord (k : Nat) (f : Nat → Bool) : Nat :=
  (List.range 32).foldl (fun w j => if f (32 * k + j) then w + 2 ^ j else w) 0

/-! Registers that show other state, block by block; none where the stored word is the register. -/

/-- TBS (R66). -/
def State.viewTbs (s : State) (off : Nat) : Option Nat :=
  if off = TBS_FREQ_EST then some (unsigned 32 s.freqTerm)
  else if off = TBS_SHUT_STATUS then some (s.reg off 0 0 % 16 + TBS_SHUT_STATUS_cur_slot.put s.scn.slot)
  else none

/-- LNK (R89). The inner eye is an analogue reading: see `State.readMargin`. -/
def State.viewLnk (s : State) (off l : Nat) : Option Nat :=
  let x := s.lane l
  let tap (i n : Nat) : Nat := unsigned n (x.eqCode i)
  if off = LNK_RX_STATE then
    some (LNK_RX_STATE_lock.put x.st + LNK_RX_STATE_ctle.put (tap 0 4) + LNK_RX_STATE_tap1.put (tap 1 6) +
      LNK_RX_STATE_tap2.put (tap 2 5) + LNK_RX_STATE_tap3.put (tap 3 5) + LNK_RX_STATE_tap4.put (tap 4 5) +
      LNK_RX_STATE_tap5.put (tap 5 5))
  else if off = LNK_RX_MARGIN then
    some (LNK_RX_MARGIN_tap_at_lim.bit ([1, 2, 3, 4, 5].any (s.atLimit l)) + LNK_RX_MARGIN_ctle_at_lim.bit (s.atLimit l 0) +
      LNK_RX_MARGIN_eff_tap1_lim.put (s.tapLim l 1) + LNK_RX_MARGIN_eff_tapn_lim.put (s.tapLim l 2))
  else if off = LNK_CNT_CODE then some x.code
  else if off = LNK_CNT_DISP then some x.disp
  else if off = LNK_CNT_LOCK then some x.lock
  else if off = LNK_CNT_EIX then some x.eix
  else if LNK_LOCK_MAP 0 ≤ off ∧ off ≤ LNK_LOCK_MAP 8 then
    some (mapWord ((off - LNK_LOCK_MAP 0) / 4) fun l => isRx l && (s.lane l).st == 3)
  else none

/-- MSP (R121). -/
def State.viewMsp (s : State) (off c : Nat) : Option Nat :=
  let x := s.stream c
  if MSP_PORT_STATUS 0 ≤ off ∧ off ≤ MSP_PORT_STATUS 7 then
    let k := (off - MSP_PORT_STATUS 0) / 4
    let y := s.port k
    some ((MSP_PORT_STATUS_state k).put y.st + (MSP_PORT_STATUS_act_width k).put y.actW +
      (MSP_PORT_STATUS_act_first k).put y.actFirst + (MSP_PORT_STATUS_blk_lock k).put (mapWord 0 fun j => decide (j < 8) && y.locked j) +
      (MSP_PORT_STATUS_skew k).put (min 255 y.skew) + (MSP_PORT_STATUS_deskew_fail k).put (min 255 y.deskewFail))
  else if MSP_PORT_DOWN 0 ≤ off ∧ off ≤ MSP_PORT_DOWN 7 then some (s.port ((off - MSP_PORT_DOWN 0) / 4)).down
  else if off = MSP_STREAM_STATE then
    some (if x.bound then
      MSP_STREAM_STATE_state.put (if x.inFrame then 2 else 1) + MSP_STREAM_STATE_target.put x.b.target +
        MSP_STREAM_STATE_format.put x.b.format + MSP_STREAM_STATE_held.bit x.withheld +
        MSP_STREAM_STATE_credit_init.put x.b.creditInit + MSP_STREAM_STATE_avail.put (min 511 x.avail)
      else 0)
  else if off = MSP_STREAM_FRAME then some (MSP_STREAM_FRAME_complete.bit x.lastDone + MSP_STREAM_FRAME_frame.put x.lastFrame)
  else if off = MSP_STREAM_CNT_DONE then some x.cDone
  else if off = MSP_STREAM_CNT_INC then some x.cInc
  else if off = MSP_STREAM_CNT_DROP then some x.cDrop
  else if off = MSP_STREAM_CNT_VIOL then some x.cViol
  else if off = MSP_STREAM_CNT_CRC then some x.cCrc
  else none

/-- LYR (R155). -/
def State.viewLyr (s : State) (off l : Nat) : Option Nat :=
  let x := s.layer l
  if off = LYR_L_CTRL then
    let w := s.reg off l 0 % 2 ^ 31 + LYR_L_CTRL_en.bit x.en
    some (if l = 12 then setBits w 30 30 1 else w)
  else if off = LYR_L_STATUS then
    some (LYR_L_STATUS_ready.bit (s.slotIn l 2).isSome + LYR_L_STATUS_latched.bit ((s.slotIn l 3).isSome || (s.slotIn l 4).isSome) +
      LYR_L_STATUS_pending.put (min 16 (s.flipsOn l)) + LYR_L_STATUS_shown.put x.shown)
  else if off = LYR_L_CNT_REPEAT then some x.cRepeat
  else if off = LYR_L_CNT_DROP then some x.cDrop
  else none

/-- A vintage summary of the selected tile (R189); above the last tile they read 0. -/
def State.selSum (s : State) (k : Nat) : Nat :=
  let t := s.fld CMP_SUM_SEL_tile
  if t ≤ 184319 then (Sparse.get {} s.odv.tiles t).sums.getD k 0 % 65536 else 0

/-- CMP (R197). -/
def State.viewCmp (s : State) (off : Nat) : Option Nat :=
  if off = CMP_SUM_RG then some (CMP_SUM_RG_g.put (s.selSum 1) + CMP_SUM_RG_r.put (s.selSum 0))
  else if off = CMP_SUM_B then some (CMP_SUM_B_b.put (s.selSum 2))
  else none

/-- ODV (R217): the tile and the driver that partition `p` has selected. -/
def State.viewOdv (s : State) (p off : Nat) : Option Nat :=
  let t := s.fldP ODV_TILE_SEL_tile p
  let x : Tile := if t ≤ 184319 then Sparse.get {} s.odv.tiles t else {}
  if off = ODV_TILE_STATE then
    some (ODV_TILE_STATE_hist_valid.bit x.histValid + ODV_TILE_STATE_damage.bit x.damageLast + ODV_TILE_STATE_wf.put x.wf +
      ODV_TILE_STATE_rs_l.put x.rsL + ODV_TILE_STATE_band_l.put x.bandL + ODV_TILE_STATE_band_c.put x.bandC +
      ODV_TILE_STATE_temp.put (unsigned 16 x.temp))
  else if off = ODV_TILE_RU then some (ODV_TILE_RU_valid.bit x.ru.isSome + ODV_TILE_RU_id.put (x.ru.getD 0))
  else if off = ODV_DRV_TEMP then
    let v := s.drvTemp (s.fldP ODV_DRV_SEL_drv p)
    some (ODV_DRV_TEMP_valid.bit v.isSome + ODV_DRV_TEMP_temp.put (unsigned 16 (v.getD 0)))
  else none

/-- ENG (R243). -/
def State.viewEng (s : State) (p off c : Nat) : Option Nat :=
  let x := s.cl c
  if off = ENG_CL_STATUS then
    some (ENG_CL_STATUS_job.put x.jobSt + ENG_CL_STATUS_spare.put x.spare + ENG_CL_STATUS_spare_for.put x.spareFor +
      ENG_CL_STATUS_retired.bit x.retired + ENG_CL_STATUS_ctx.put (x.job.getD 0))
  else if off = ENG_CL_BYPASS then some x.bypass.toNat
  else if off = ENG_CL_MISS then some x.miss
  else if off = ENG_CL_TAKEOVER then some x.fires
  else if off = ENG_CONF_HI then some (s.reg off 0 p)
  else if off = ENG_BUDGET then some (s.budget 0)
  else none

/-- KDL (R297). -/
def State.viewKdl (s : State) (off d : Nat) : Option Nat :=
  let x := s.drv d
  if off = KDL_STATUS then
    some (KDL_STATUS_run.put s.running_.length + KDL_STATUS_down.put (s.drvs.filter fun j => (s.drv j).st == 5).length)
  else if off = KDL_DRV_STATE then
    some (KDL_DRV_STATE_state.put x.st + KDL_DRV_STATE_lane_a.bit x.laneA + KDL_DRV_STATE_lane_b.bit x.laneB +
      KDL_DRV_STATE_deskew.bit x.deskew + KDL_DRV_STATE_bc_sync.bit x.bcSync + KDL_DRV_STATE_cseq.put x.cseqAcc)
  else if off = KDL_DRV_FLIGHT then some (KDL_DRV_FLIGHT_phi.put x.phi)
  else if off = KDL_DRV_DECL then some (KDL_DRV_DECL_t_rxd.put x.tRxd + KDL_DRV_DECL_t_conv.put x.tConv)
  else if off = KDL_DRV_CNT_CRC then some x.cCrc
  else if off = KDL_DRV_CNT_HOLD then some x.cHold
  else if off = KDL_DRV_CNT_CTL then some x.cCtl
  else if off = KDL_DRV_CNT_RETRAIN then some x.cRetrain
  else if off = KDL_DRV_CNT_BC then some x.cBc
  else none

/-- HIF (R345). -/
def State.viewHif (s : State) (p off g : Nat) : Option Nat :=
  let q := s.queue g
  if off = HIF_Q_PTR then some (HIF_Q_PTR_head.put q.head.toNat + HIF_Q_PTR_tail.put q.tail.toNat)
  else if off = HIF_Q_STATUS then
    some (HIF_Q_STATUS_state.put (if s.qEn g = false then 0 else if q.err ≠ 0 then 3 else if q.stop.isSome then 2 else 1) +
      HIF_Q_STATUS_err.put q.err)
  else if off = HIF_Q_CNT then some (HIF_Q_CNT_dropped.put (min 65535 q.dropped) + HIF_Q_CNT_rejected.put (min 65535 q.rejected))
  else if off = HIF_HOLD then
    some (HIF_HOLD_hold.bit (s.holding p) + HIF_HOLD_waiting.put (min 65535 (s.hif.held.filter fun c => c.p == p).length))
  else none

/-- MEM (R383): the instance selected; above 593 they read 0. -/
def State.viewMem (s : State) (off : Nat) : Option Nat :=
  let i := s.fld MEM_INST_SEL_inst
  let x := s.inst i
  if off = MEM_INST_STATUS then
    some (if 593 < i then 0 else
      MEM_INST_STATUS_full.bit (x.remaps.length == 8) + MEM_INST_STATUS_remap_used.put x.remaps.length +
        MEM_INST_STATUS_red_used.put (Config.redundant i).toNat + MEM_INST_STATUS_macros.put (Config.macros i).toNat)
  else if off = MEM_INST_PERR then some (if 593 < i then 0 else x.perr)
  else if MEM_REMAP 0 ≤ off ∧ off ≤ MEM_REMAP 7 then
    let k := (off - MEM_REMAP 0) / 4
    some (if 593 < i then 0 else
      match x.remaps[k]? with
      | some w => (MEM_REMAP_valid k).put 1 + (MEM_REMAP_word k).put w
      | none => 0)
  else none

/-- PWR (R405). -/
def State.viewPwr (s : State) (off d : Nat) : Option Nat :=
  let x := s.dom d
  if off = PWR_DOM_STATE then
    some (PWR_DOM_STATE_state.put x.st + PWR_DOM_STATE_busy.bit x.going.isSome + PWR_DOM_STATE_pending.bit x.pend.isSome +
      PWR_DOM_STATE_pend_state.put (x.pend.getD 0) + PWR_DOM_STATE_slack.put (min 0xFFFFFF x.slack))
  else if PWR_ON_MAP 0 ≤ off ∧ off ≤ PWR_ON_MAP 2 then
    some (mapWord ((off - PWR_ON_MAP 0) / 4) fun j => decide (j ≤ 81) && s.domOn j)
  else if off = PWR_STATUS then
    some (PWR_STATUS_acct.bit s.accounting + PWR_STATUS_recovery.bit s.pwr.bor + PWR_STATUS_ldo_lp.bit s.pwr.ldoLp)
  else if off = PWR_VR_STATUS then
    some (PWR_VR_STATUS_on.put (mapWord 0 fun k => decide (k < 8) && s.railUsed k && (s.rail k).on) +
      PWR_VR_STATUS_pg.put (mapWord 0 fun k => decide (k < 8) && (s.rail k).pg) +
      PWR_VR_STATUS_fault.put (s.fld PWR_VR_STATUS_fault))
  else if off = PWR_BOR then some (PWR_BOR_bor.bit s.pwr.bor + PWR_BOR_lp.bit s.pwr.borLp)
  else none

/-- NVS (R422): the copies of the selected key. -/
def State.viewNvs (s : State) (off : Nat) : Option Nat :=
  let (a, b) := copiesOf s.nvs.mem (s.fld NVS_KEY_SEL_key)
  let seq (c : Option (Nat × List Byte)) : Nat := (c.map (·.1)).getD 0
  if off = NVS_STATUS then
    some (NVS_STATUS_busy.bit (!nvsIdle s.nvs || s.nvs.saving) + NVS_STATUS_saving.bit s.nvs.saving +
      NVS_STATUS_fw.put (s.fld NVS_STATUS_fw) + NVS_STATUS_commit.put (s.fld NVS_STATUS_commit))
  else if off = NVS_KEY_STATE then
    some (NVS_KEY_STATE_a_valid.bit a.isSome + NVS_KEY_STATE_b_valid.bit b.isSome +
      NVS_KEY_STATE_newest.bit (b.isSome && (a.isNone || bWins (seq a) (seq b))) +
      NVS_KEY_STATE_tie.bit (a.isSome && b.isSome && seq a == seq b))
  else if off = NVS_KEY_SEQ_A then some (seq a)
  else if off = NVS_KEY_SEQ_B then some (seq b)
  else if off = NVS_ONTIME_LO then some (s.nvs.onTime % 2 ^ 32)
  else if off = NVS_ONTIME_HI then some (s.nvs.onTime / 2 ^ 32 % 2 ^ 32)
  else none

/-- CAL (R438). -/
def State.viewCal (s : State) (off : Nat) : Option Nat :=
  let items (q : Option CalReq) : Nat := (q.map (·.items)).getD 0
  if off = CAL_STATUS then
    some (CAL_STATUS_busy.bit s.cal.run.isSome + CAL_STATUS_pending.bit s.cal.pend.isSome + CAL_STATUS_replan.bit s.cal.replan.isSome +
      CAL_STATUS_refin_ok.put (s.fld CAL_STATUS_refin_ok) + CAL_STATUS_pend_items.put (items s.cal.pend) +
      CAL_STATUS_failed.put (s.fld CAL_STATUS_failed) + CAL_STATUS_items.put (items s.cal.run))
  else if off = CAL_REPLAN_DUE then
    some (if s.cal.due then 0 else min (2 ^ 32 - 1) (s.cal.planTime + 86400 * max 1 (s.fld CAL_REPLAN_CFG_days) - s.nvs.onTime))
  else if off = CAL_MON then
    let m := s.fld CAL_MON_SEL_mon
    let least := Sparse.get 32767 s.cal.slackMin m
    some (CAL_MON_min.put (if least = 32767 then 0 else unsigned 16 least) + CAL_MON_slack.put (unsigned 16 ((s.monSlack m).getD 0)))
  else none

/-- Some W1C bit of a block is set (GLB_FLAG_SUM), in any bank or index. -/
def State.blockFlag (s : State) (b : Nat) : Bool :=
  (b == 15 && (s.pwr.bor || s.pwr.borLp)) ||
    s.regs.any fun e =>
      let off := e.1 % 2 ^ 20 * 4
      off / 0x10000 == b &&
        (match regAt off with
        | some d => (e.2.toNat &&& accMask d (· == .w1c)) != 0
        | none => false)

/-- GLB (R464), as partition `p` reads it. -/
def State.viewGlb (s : State) (p off : Nat) : Option Nat :=
  if off = GLB_WHOAMI then
    some (GLB_WHOAMI_locked.bit s.locked + GLB_WHOAMI_enabled.bit (s.partOn p) + GLB_WHOAMI_safety.bit (s.isSafety p) +
      GLB_WHOAMI_owner.bit (p == s.owner) + GLB_WHOAMI_part.put p)
  else if off = GLB_STATUS then
    some (GLB_STATUS_ready.bit (s.hif.released && !s.hif.noFw) + GLB_STATUS_svc.bit (!s.inReset && !s.hif.noFw && !s.cal.restarting) +
      GLB_STATUS_svc_restart.bit s.cal.restarting)
  else if off = GLB_FLAG_SUM then some (mapWord 0 fun b => decide (b ≤ 18) && s.blockFlag b)
  else none

/-- A register that shows other state. -/
def State.view (s : State) (p off ix : Nat) : Option Nat :=
  match off / 0x10000 with
  | 0 => s.viewGlb p off
  | 1 => s.viewTbs off
  | 3 => s.viewLnk off ix
  | 4 => s.viewMsp off ix
  | 5 => s.viewLyr off ix
  | 7 => s.viewCmp off
  | 8 => s.viewOdv p off
  | 9 => s.viewEng p off ix
  | 10 => s.viewKdl off ix
  | 12 => s.viewHif p off ix
  | 14 => s.viewMem off
  | 15 => s.viewPwr off ix
  | 16 => s.viewNvs off
  | 17 => s.viewCal off
  | _ => none

/-- Registers of PART scope that show one value to every partition (R457). -/
def sharedPart (off : Nat) : Bool :=
  off == TBS_MS_USED || off == SCN_STATUS || off == SCN_FRAME || off == SCN_STRETCH_POS || off == PNL_PWR_STATUS ||
    off == FST_STATUS || (decide (FST_PORT_STATUS 0 ≤ off) && decide (off ≤ FST_PORT_STATUS 5))

/-- The word of a register for its object, as partition `p` reads it. -/
def State.regWord (s : State) (p : Nat) (d : RegDesc) (off ix : Nat) : Nat :=
  (s.view p off ix).getD (s.reg off ix (if d.scope = .part ∧ d.ix = .none ∧ sharedPart off = false then p else 0))

/-- LNK_RX_MARGIN: in SYNC the eye is what the receiver measures, which the spec leaves to the channel. -/
def State.readMargin (s : State) (l w : Nat) : Nat × State :=
  if (s.lane l).st = 3 then
    let (h, s) := s.draw 256
    let (x, s) := s.draw 64
    (w + LNK_RX_MARGIN_eye_h.put h + LNK_RX_MARGIN_eye_w.put x, s)
  else (w, s)

/-- One register read by partition `p`: 0 where no such object is or it is another partition's (R458), and unmapped offsets
read 0 and are flagged (R455). -/
def State.readWord (s : State) (p off : Nat) : Nat × State :=
  match regAt off with
  | none => (0, s.setFlag GLB_FLAGS_unmapped)
  | some d =>
    if off = ENG_CONF_LO then s.engConf p
    else if off = MEM_CONF_LO then s.memConf p
    else
      match s.selected p d.ix with
      | none => (0, s)
      | some ix =>
        if s.foreign p d ix then (0, s)
        else if off = LNK_RX_MARGIN then s.readMargin ix (s.regWord p d off ix)
        else (s.regWord p d off ix, s)

/-- A byte of the MSI-X table: message address, data, and the mask bit of the vector control word (R342). -/
def State.tableByte (s : State) (p o : Nat) : Byte :=
  let vec := o / 16
  let k := o / 4 % 4
  let w := if k = 3 then (Sparse.get true s.hif.mask (2048 * p + vec)).toNat else (Sparse.get 0 s.hif.table ((2048 * p + vec) * 4 + k)).toNat
  BitVec.ofNat 8 (w / 256 ^ (o % 4))

/-- A byte of the pending-bit array. -/
def State.pbaByte (s : State) (p o : Nat) : Byte :=
  BitVec.ofNat 8 (mapWord 0 fun j => decide (j < 8) && Sparse.get false s.hif.pba (2048 * p + 8 * o + j))

/-- A BAR0 read of `size` bytes by partition `p`; the data returned goes out. -/
def State.bar0Read (s : State) (p off size : Nat) : State :=
  let ret (d : List Byte) (s : State) : State := s.emit (.readData p d false)
  if s.reachable p = false then s
  else if inWin off then s.winRead p (off - 0xD8000) size
  else if inMsix off then ret ((List.range size).map fun i => s.tableByte p (off - 0xC8000 + i)) s
  else if inPba off then ret ((List.range size).map fun i => s.pbaByte p (off - 0xC7000 + i)) s
  else if ¬(size = 1 ∨ size = 2 ∨ size = 4 ∨ size = 8) ∨ off % size ≠ 0 then ret (List.replicate size 0) (s.setFlag GLB_FLAGS_size)
  else if size = 8 then
    let (a, s) := s.readWord p off
    let (b, s) := s.readWord p (off + 4)
    ret (leBytes 4 a ++ leBytes 4 b) s
  else
    let (a, s) := s.readWord p (off / 4 * 4)
    ret (((leBytes 4 a).drop (off % 4)).take size) s

/-- BAR0_READ_ERROR (R455): any BAR0 read, and so those that return 0 with a flag. -/
def execBar0ReadError (p off size : Nat) (s : State) : Host.Outcome State Fault Refusal := .next (s.bar0Read p off size)

/-- ENG_CONF_READ (R243). -/
def execEngConfRead (p : Nat) (s : State) : Host.Outcome State Fault Refusal := .next (s.bar0Read p ENG_CONF_LO 4)

/-- MEM_CONF_READ (R383). -/
def execMemConfRead (p : Nat) (s : State) : Host.Outcome State Fault Refusal := .next (s.bar0Read p MEM_CONF_LO 4)

end Sys2Proof.Machine
end

