-- ==== Sys2Proof/Machine/Security.lean ====
section
/-! DEFINITION. The SPDM responders (R440 to R443, R451) and the TAP (R472). The spec names the SPDM, DOE and IEEE 1149.1 standards
and what the part supports of them; response codes, DOE types and message contents are those of the standards (PRESUMED), and
a signature is over what the model hashes for it. -/

namespace Sys2Proof.Machine

open Sys2Proof Reg

/-! SPDM. -/

/-- A port's responder. -/
def State.spdmOf (s : State) (n : Nat) : Spdm := Sparse.get {} s.sec.spdm n

/-- A responder changed. -/
def State.setSpdm (s : State) (n : Nat) (x : Spdm) : State := { s with sec := { s.sec with spdm := Sparse.set {} s.sec.spdm n x } }

/-- A responder takes requests: its port exists, and the part is released and awake (R441, R489). A partition disabled in
GLB_PART_EN keeps its responder (R463). -/
def State.spdmUp (s : State) (n : Nat) : Bool := decide (n < 4) && s.hif.released && decide (s.pwr.deep < 5)

/-- A response leaves. -/
def State.answer (s : State) (n code : Nat) (d : List Byte) : State := s.emit (.spdm n code d)

/-- ERROR with its code. -/
def State.spdmError (s : State) (n code : Nat) : State := s.answer n 0x7F (leBytes 1 code)

/-- The certificate chain of slot 0 (R440): its length, the root hash and the record's certificates; none without a record. -/
def State.certChain (s : State) : Option (List Byte) :=
  let b := s.record 0x0002
  let n1 := leAt b 2 4
  let n2 := leAt b (6 + n1) 4
  let certs := (b.drop 6).take n1 ++ (b.drop (10 + n1)).take n2
  if b.isEmpty then none else some (leBytes 2 (52 + n1 + n2) ++ [0, 0] ++ Config.rootHash ++ certs)

/-- A request that needs the negotiation done, else UnexpectedRequest. -/
def State.negotiated (s : State) (n : Nat) (f : State → State) : State :=
  if s.spdmUp n = false then s
  else if (s.spdmOf n).algs then f s
  else s.spdmError n 4

/-- The capability bits of R441, as the standard places them. -/
def capFlags : Nat := 2 + 4 + 16 + 32 + 256 + 512 + 4096 + 8192 + 16384

/-- GET_VERSION (R441): the negotiation starts anew. -/
def execGetVersion (n : Nat) (s : State) : Host.Outcome State Fault Refusal :=
  .next (if s.spdmUp n then (s.setSpdm n { version := true }).answer n 0x04 (leBytes 2 0x1200) else s)

/-- GET_CAPABILITIES (R441). -/
def execGetCapabilities (n : Nat) (_caps : Word) (s : State) : Host.Outcome State Fault Refusal :=
  .next (
    let x := s.spdmOf n
    if s.spdmUp n = false then s
    else if x.version = false then s.spdmError n 4
    else (s.setSpdm n { x with caps := true }).answer n 0x61 (leBytes 1 14 ++ leBytes 4 capFlags ++ leBytes 4 4096 ++ leBytes 4 4096))

/-- NEGOTIATE_ALGORITHMS (R441): `p384` says that the request offers the one set that the part supports. -/
def execNegotiateAlgorithms (n : Nat) (p384 : Bool) (s : State) : Host.Outcome State Fault Refusal :=
  .next (
    let x := s.spdmOf n
    if s.spdmUp n = false then s
    else if x.caps = false then s.spdmError n 4
    else if p384 then (s.setSpdm n { x with algs := true }).answer n 0x63 (leBytes 4 0x80 ++ leBytes 4 2)
    else s.spdmError n 1)

/-- GET_DIGESTS (R441). -/
def execGetDigests (n : Nat) (s : State) : Host.Outcome State Fault Refusal :=
  .next (s.negotiated n fun s =>
    match s.certChain with
    | some c => s.answer n 0x01 (Config.sha384 c)
    | none => s.spdmError n 5)

/-- GET_CERTIFICATE (R440): a portion of slot 0's chain with the lengths of the portion and of what is left. -/
def execGetCertificate (n slot off len : Nat) (s : State) : Host.Outcome State Fault Refusal :=
  .next (s.negotiated n fun s =>
    match s.certChain with
    | some c =>
      if slot ≠ 0 ∨ c.length ≤ off then s.spdmError n 1
      else
        let d := (c.drop off).take (min len 4088)
        s.answer n 0x02 (leBytes 2 d.length ++ leBytes 2 (c.length - off - d.length) ++ d)
    | none => s.spdmError n 5)

/-- Bytes that the part's generator gives: open. -/
def openBytes : Nat → State → List Byte × State
  | 0, s => ([], s)
  | n + 1, s =>
    let x := s.draw 256
    let r := openBytes n x.2
    (BitVec.ofNat 8 x.1 :: r.1, r.2)

/-- A response with the part's nonce and the unit key's signature over the peer's nonce, the part's and what is answered. -/
def State.signed (s : State) (n code : Nat) (nonce d : List Byte) : State :=
  let r := openBytes 32 s
  r.2.answer n code (d ++ r.1 ++ Config.p384Sign (Config.sha384 (nonce ++ r.1 ++ d)))

/-- CHALLENGE (R441). -/
def execChallenge (n slot : Nat) (nonce : List Byte) (s : State) : Host.Outcome State Fault Refusal :=
  .next (s.negotiated n fun s =>
    match s.certChain with
    | some c => if slot ≠ 0 then s.spdmError n 1 else s.signed n 0x03 nonce (Config.sha384 c)
    | none => s.spdmError n 5)

/-- The SVC firmware image in use less its signature block (R442): what boot logic loaded, also after an NVM_WRITE of its copy
(R419). -/
def State.firmwareBytes (s : State) : List Byte :=
  match s.sec.fwImage with
  | some b => b.take (b.length - 256)
  | none => Config.noFirmware

/-- The 48 bytes of the SAFETY pin. -/
def State.pinBytes (s : State) : List Byte := (List.range 12).flatMap fun k => leBytes 4 (s.reg (SEC_PIN k) 0 0)

/-- Digest of measurement block `i` (R442), none for an index that is not offered. -/
def State.measurement (s : State) (i : Nat) : Option (List Byte) :=
  if i = 1 then some (Config.sha384 Config.bootVersion)
  else if i = 2 then some (Config.sha384 s.firmwareBytes)
  else if i = 3 then some (Config.sha384 (leBytes 4 (s.reg SEC_FUSE 0 0)))
  else if i = 4 then some (Config.sha384 s.sec.bootRec)
  else if i = 5 then some (Config.sha384 (leBytes 4 (s.reg SEC_ROLE 0 0) ++ s.pinBytes ++ leBytes 4 (s.reg GLB_LOCK 0 0)))
  else if 16 ≤ i ∧ i < 48 then
    let c := s.cl (i - 16)
    some (if c.job.isSome then c.digest else List.replicate 48 0)
  else none

/-- A measurement block: index, and the digest with its type as the standard codes it. -/
def State.measBlock (s : State) (i : Nat) : Option (List Byte) :=
  let type := if i = 1 then 0 else if i = 2 ∨ 16 ≤ i then 1 else if i = 3 then 2 else 3
  (s.measurement i).map fun d => leBytes 1 i ++ leBytes 1 type ++ d

/-- GET_MEASUREMENTS (R442, R443): the blocks asked for, as they stand in one cycle; an index that is not offered is refused. -/
def execGetMeasurements (n : Nat) (idx : List Nat) (signed : Bool) (nonce : List Byte) (s : State) :
    Host.Outcome State Fault Refusal :=
  .next (s.negotiated n fun s =>
    if idx.any fun i => (s.measBlock i).isNone then s.spdmError n 1
    else
      let d := idx.flatMap fun i => (s.measBlock i).getD []
      if signed then s.signed n 0x60 nonce d else s.answer n 0x60 d)

/-- KEY_EXCHANGE (R441): one session per port. -/
def execKeyExchange (n slot : Nat) (mutAuth : Bool) (s : State) : Host.Outcome State Fault Refusal :=
  .next (s.negotiated n fun s =>
    let x := s.spdmOf n
    if slot ≠ 0 then s.spdmError n 1
    else if x.session ≠ 0 then s.spdmError n 2
    else (s.setSpdm n { x with session := 1, mutAuth := mutAuth, peer := [], keys := 0 }).signed n 0x64 [] (s.certChain.getD []))

/-- ENCAPSULATED_REQUEST (R441): the flow that brings the peer's certificate and its proof in a handshake with mutual
authentication. -/
def execEncapsulatedRequest (n : Nat) (spki : List Byte) (sigOk : Bool) (s : State) : Host.Outcome State Fault Refusal :=
  .next (s.negotiated n fun s =>
    let x := s.spdmOf n
    if x.session ≠ 1 ∨ x.mutAuth = false then s.spdmError n 4
    else if sigOk then (s.setSpdm n { x with peer := Config.sha384 spki }).answer n 0x6B []
    else (s.setSpdm n { x with session := 0 }).spdmError n 6)

/-- A session with mutual authentication on the SAFETY partition's own port (R451): the pinned binding that is pending becomes
active, or pin_fail is set. -/
def State.pinCheck (s : State) (n : Nat) (peer : List Byte) : State :=
  if s.fld SEC_ROLE_safety_state = 1 ∧ s.fld SEC_ROLE_pin_en = 1 ∧ s.fld SEC_ROLE_safety = n then
    if peer = s.pinBytes then s.setFld SEC_ROLE_safety_state 2 else s.setFlag SEC_FLAGS_pin_fail
  else s

/-- FINISH (R451). -/
def execFinish (n : Nat) (hmacOk : Bool) (s : State) : Host.Outcome State Fault Refusal :=
  .next (s.negotiated n fun s =>
    let x := s.spdmOf n
    if x.session ≠ 1 ∨ (x.mutAuth && x.peer.isEmpty) then s.spdmError n 4
    else if hmacOk then
      let s := (s.setSpdm n { x with session := 2 }).answer n 0x65 []
      if x.mutAuth then s.pinCheck n x.peer else s
    else (s.setSpdm n { x with session := 0 }).spdmError n 6)

/-- A request of an established session. -/
def State.inSession (s : State) (n : Nat) (f : State → State) : State :=
  s.negotiated n fun s => if (s.spdmOf n).session = 2 then f s else s.spdmError n 4

/-- HEARTBEAT (R441). -/
def execHeartbeat (n : Nat) (s : State) : Host.Outcome State Fault Refusal := .next (s.inSession n fun s => s.answer n 0x68 [])

/-- KEY_UPDATE (R441). -/
def execKeyUpdate (n : Nat) (s : State) : Host.Outcome State Fault Refusal :=
  .next (s.inSession n fun s => (s.setSpdm n { s.spdmOf n with keys := (s.spdmOf n).keys + 1 }).answer n 0x69 [])

/-- END_SESSION (R441). -/
def execEndSession (n : Nat) (s : State) : Host.Outcome State Fault Refusal :=
  .next (s.inSession n fun s => (s.setSpdm n { s.spdmOf n with session := 0, mutAuth := false, peer := [], keys := 0 }).answer n 0x6C [])

/-- DOE_DISCOVERY (R441): index 0 is Discovery itself, 1 SPDM, 2 Secured SPDM; the answer gives vendor, type and next index. -/
def execDoeDiscovery (n idx : Nat) (s : State) : Host.Outcome State Fault Refusal :=
  .next (
    if s.spdmUp n = false then s
    else if idx ≤ 2 then s.answer n 0 (leBytes 2 1 ++ leBytes 1 idx ++ leBytes 1 (if idx = 2 then 0 else idx + 1))
    else s.answer n 0 (leBytes 2 0xFFFF ++ leBytes 1 0 ++ leBytes 1 0))

/-! The TAP (R472). -/

/-- Cells of the boundary-scan register. -/
def tapCells : Nat := 176

/-- Bits shifted through a register, its first cell nearest TDI: what leaves at TDO, first to last, and the cells after. -/
def shiftBits (cells : List Bool) : List Bool → List Bool × List Bool
  | [] => ([], cells)
  | b :: bs =>
    let r := shiftBits (b :: cells.dropLast) bs
    (cells.getLast?.getD b :: r.1, r.2)

/-- The TAP is powered: it lies in the SVC domain (R470). -/
def State.tapOn (s : State) : Bool := decide (s.pwr.deep < 6)

/-- A scan through the one-bit bypass register, which captures 0, under an instruction; `held` is the test mode of the
pins. -/
def State.scanBypass (s : State) (inst : Nat) (held : Bool) (bits : List Bool) : State :=
  if s.tapOn then
    let r := shiftBits [false] bits
    ({ s with tap := { s.tap with inst := inst, held := held, bypassBit := r.2.headD false } }).emit (.tap r.1)
  else s

/-- The levels that a capture finds at the cells: what the board and the part drive there, which the spec leaves open. -/
def openBits : Nat → State → List Bool × State
  | 0, s => ([], s)
  | n + 1, s =>
    let x := s.draw 2
    let r := openBits n x.2
    ((x.1 == 1) :: r.1, r.2)

/-- A scan through the boundary-scan register: capture, shift, and the update of the cells. -/
def State.scanCells (s : State) (inst : Nat) (held : Bool) (bits : List Bool) : State :=
  if s.tapOn then
    let c := openBits tapCells s
    let r := shiftBits c.1 bits
    ({ c.2 with tap := { c.2.tap with inst := inst, held := held, cells := r.2 } }).emit (.tap r.1)
  else s

/-- BYPASS. -/
def execBypass (shift : List Bool) (s : State) : Host.Outcome State Fault Refusal := .next (s.scanBypass 0 false shift)

/-- SAMPLE/PRELOAD. -/
def execSamplePreload (shift : List Bool) (s : State) : Host.Outcome State Fault Refusal := .next (s.scanCells 1 false shift)

/-- EXTEST: the cells drive the pins. -/
def execExtest (shift : List Bool) (s : State) : Host.Outcome State Fault Refusal := .next (s.scanCells 2 true shift)

/-- CLAMP: the cells drive the pins, and the scan goes through the bypass register. -/
def execClamp (shift : List Bool) (s : State) : Host.Outcome State Fault Refusal := .next (s.scanBypass 3 true shift)

/-- HIGHZ: the outputs float, and the scan goes through the bypass register. -/
def execHighz (shift : List Bool) (s : State) : Host.Outcome State Fault Refusal := .next (s.scanBypass 4 true shift)

end Sys2Proof.Machine
end

