-- ==== Sys2Proof/Machine/Boot.lean ====
section
/-! DEFINITION. Reset and start-up (R461, R488 to R492, R396, R414, R419, R426, R431, R449), the AON clock (R478), and the
part's restore from deep sleep (R53, R390, R391, R399). -/

namespace Sys2Proof.Machine

open Sys2Proof Reg

/-! Reset. -/

/-- Output pins go to the levels of R470. -/
def State.resetPins (s : State) : State :=
  let low (s : State) (name : String) (n : Nat) : State := (List.range n).foldl (fun s k => s.emit (.pin name k false)) s
  let s := [("CX_PERST_N", 6), ("SYNC_OUT", 1), ("STV", 4), ("CKV", 12), ("AGO", 1), ("GRST", 1), ("SCAN_DIR", 1), ("LS_EN", 1),
    ("PNL_EN", 8), ("CRK_DRV", 4), ("BCB_BUSY_N", 1)].foldl (fun s x => low s x.1 x.2) s
  (List.range 4).foldl (fun s n => s.emit (.pin "HP_WAKE_N" n true)) (s.emit (.pin "BCB_INT_N" 0 true))

/-- Cold reset (R461): every register and context at its reset value. What no reset of the part touches stays: the NVS, the
brown-out latch, which VDD_AON_IN powers, the crystal's state, the TAP, and what lies outside the part. -/
def State.assertReset (s : State) : State :=
  ({ State.reset with
    pending := s.pending, sent := s.sent, free := s.free, tap := s.tap
    hif := { State.reset.hif with hostMem := s.hif.hostMem }
    pwr := { State.reset.pwr with bor := s.pwr.bor, borLp := s.pwr.borLp, crystal := s.pwr.crystal, syncHigh := s.pwr.syncHigh }
    nvs := { State.reset.nvs with mem := s.nvs.mem } }).resetPins

/-- RESET_ASSERT (R488): RST_N falls. -/
def execResetAssert (s : State) : Host.Outcome State Fault Refusal := .next s.assertReset

/-! The AON clock (R53, R478). -/

/-- TBS_AON_PERIOD measured: within 5 % of nominal on the RC oscillator and 50 ppm on the crystal. -/
def State.measureAon (s : State) : State :=
  let lo := if s.pwr.crystal then 1999900005 else 1904761905
  let hi := if s.pwr.crystal then 2000100005 else 2105263158
  let x := s.draw (hi - lo + 1)
  x.2.setFld TBS_AON_PERIOD_period (lo + x.1)

/-- CRYSTAL_SWITCH (R478). -/
def execCrystalSwitch (s : State) : Host.Outcome State Fault Refusal :=
  .next (
    let t : State := { s with pwr := { s.pwr with crystal := true } }
    if s.pwr.crystal then s else if s.inReset ∨ 6 ≤ s.pwr.deep then t else t.measureAon)

/-! What the SVC reads at start-up. -/

/-- Remap tables reloaded from their record (R379). -/
def State.loadRemaps (s : State) : State :=
  let b := s.record 0x0020
  (List.range (b.length / 4)).foldl (fun s k =>
    let i := leAt b (4 * k) 2
    let x := s.inst i
    if i ≤ 593 ∧ x.remaps.length < 8 then s.setInst i { x with remaps := x.remaps ++ [leAt b (4 * k + 2) 2] } else s) s

/-- The margin plan applied (R431): the VDD_CORE request, the effective limits and the retirements (R239). -/
def State.applyPlan (s : State) : State :=
  let b := s.record 0x0011
  if leAt b 0 2 ≠ 1 then s
  else
    let mv := leAt b 2 2
    let s := (if mv = s.fld CAL_CORE_mv then s else s.pmbus 0 0x21 mv).setFld CAL_CORE_mv mv
    let s := rxLanes.zipIdx.foldl (fun s l =>
      s.setLane l.1 { s.lane l.1 with effTap1 := some (leAt b (12 + 2 * l.2) 1), effTapn := some (leAt b (13 + 2 * l.2) 1) }) s
    let s := (List.range 32).foldl (fun s c =>
      let v := leAt b (268 + c) 1
      if v < 128 then s
      else
        let s := s.setEn (16 * c + v % 16) { s.en (16 * c + v % 16) with st := 4 }
        s.setCl c { s.cl c with spare := 2, spareFor := v % 16, retired := true, takeCause := 4 }) s
    { s with cal := { s.cal with
        planTime := leAt b 4 8
        retiredPlan := (List.range 32).foldl (fun m c => Sparse.set 0 m c (if leAt b (268 + c) 1 < 128 then 0 else leAt b (268 + c) 1)) [] } }

/-- The stored calibration results loaded (R426). -/
def State.loadCal (s : State) : State :=
  let b := s.record 0x0010
  let c : CalOutcome := if leAt b 0 2 = 1 then calOf b else factoryCal
  ({ s with cal := { s.cal with result := some c, crackOff := c.cracks.map BitVec.toInt } }).applyCodes c (31 - c.failed % 32)

/-- The log state (R435). -/
def State.loadLog (s : State) : State :=
  let b := s.record 0x0051
  ((s.setFld CAL_LOG_NEXT_n (leAt b 0 4)).setFld CAL_LOG_ACK_n (leAt b 4 4)).setFld CAL_LOG_OVF_count (leAt b 8 4)

/-- The crack-baseline record (R309). -/
def State.loadCracks (s : State) : State :=
  let b := s.record 0x0021
  (List.range 4).foldl (fun s k => s.setFld (PNL_CRK_CODE_base k) (leAt b (2 * k) 2)) s

/-- The hot values (R409): lifetime counters, panel on-time and tile summaries. -/
def State.loadHot (s : State) : State :=
  let c := s.record 0x0040
  let t := s.record 0x0042
  let s : State := { s with nvs := { s.nvs with
      counters := (List.range 8).foldl (fun m k => Sparse.set 0 m k (leAt c (8 * k) 8)) []
      onTime := leAt (s.record 0x0041) 0 8, loaded := true } }
  if t.isEmpty then s
  else
    (List.range 184320).foldl (fun s k =>
      let v := [leAt t (6 * k) 2, leAt t (6 * k + 2) 2, leAt t (6 * k + 4) 2]
      if v = [0, 0, 0] then s
      else { s with odv := { s.odv with tiles := Sparse.modify {} s.odv.tiles k fun x => { x with sums := v } } }) s

/-- The boot configuration record, if it has the version this part reads. -/
def State.bootRecord (s : State) : List Byte :=
  let b := s.record 0x0003
  if leAt b 0 2 = 1 then b else []

/-- Roles, pin, image keys and floor (R449). -/
def State.loadRoles (s : State) : State :=
  let b := s.bootRecord
  let n := min 4 (leAt b 52 1)
  let en := leAt b 3 1 % 2
  let pin := leAt b 3 1 / 8 % 2
  let s := s.setReg SEC_ROLE 0 0 (leAt b 2 1 % 4 + 16 * (leAt b 3 1 / 2 % 4) + 64 * en + 128 * pin +
    256 * (if en = 0 then 0 else if pin = 0 then 2 else 1))
  let s := (List.range 12).foldl (fun s k => s.setReg (SEC_PIN k) 0 0 (leAt b (4 + 4 * k) 4)) s
  let s := s.setFld SEC_IMG_FLOOR_svn (leAt b 248 4)
  { s with sec := { s.sec with
      bootRec := s.record 0x0003, imgKeys := (List.range n).map fun k => (b.drop (56 + 48 * k)).take 48 } }

/-! Boot configuration entries (R491, R492). -/

/-- The selector of a register's index. -/
def selectorOf : Ix → Option Nat
  | .none => none
  | .lane | .laneRx | .laneTx => some LNK_SEL
  | .stream => some MSP_STREAM_SEL
  | .layer => some LYR_SEL
  | .cluster => some ENG_SEL
  | .driver => some KDL_DRV_SEL
  | .queue => some HIF_Q_SEL
  | .domain => some PWR_DOM_SEL

/-- An entry as a 4-byte write of the OWNER partition `o`; the index goes through the register's selector, and windows are
skipped. -/
def State.bootEntry (o : Nat) (s : State) (b : List Byte) : State :=
  let off := leAt b 0 4 % 2 ^ 21
  let w := leAt b 4 4
  if inWin off ∨ inMsix off ∨ inPba off then s.setFlag GLB_FLAGS_unmapped
  else if off % 4 ≠ 0 then s.setFlag GLB_FLAGS_size
  else
    match (regAt off).bind fun d => selectorOf d.ix with
    | some sel => ((s.barWord o sel (leAt b 3 1)).barWord o off w).barWord o sel 0
    | none => s.barWord o off w

/-- The entries in record order, and fst_auto: writes of the OWNER that R449 loaded, also after an entry that rebinds the roles
(DEDUCED, log 47). -/
def State.bootEntries (s : State) : State :=
  let b := s.bootRecord
  let o := s.owner
  if b.length < 1032 ∨ leAt b 512 2 ≠ 1 then s
  else
    let s := (List.range (min (leAt b 516 2) ((b.length - 1032) / 8))).foldl (fun s k => State.bootEntry o s ((b.drop (1032 + 8 * k)).take 8)) s
    if leAt b 514 1 % 2 = 1 then
      s.barWord o FST_CFG (FST_CFG_layout.put (leAt b 515 1) + FST_CFG_l1_en.put 1 + FST_CFG_en.put 1)
    else s

/-! Start-up (R488). -/

/-- The keys whose newest copies the SVC reads at start-up: a tie is posted (R410). -/
def bootKeys : List Nat := [0x0001, 0x0003, 0x0010, 0x0011, 0x0020, 0x0021, 0x0040, 0x0041, 0x0042, 0x0051]

/-- The third row: VOUT_MODE of every used rail (R394), the journal, the records, the lifetime counters, and the log entry of the cold reset. -/
def State.svcStart (s : State) (brown : Bool) : State :=
  let s := (List.range 8).foldl (fun s k => s.pmbus k 0x20 0) s
  let s := s.checkJournal.loadLog.loadRemaps.loadCal.applyPlan.loadRoles.loadHot.loadCracks
  let s := s.countLife 0
  let s := if brown then s.countLife 2 else s
  let s := s.log 0x0100 0x10 (s.pwr.bor.toNat + 2 * s.pwr.borLp.toNat) (Sparse.get 0 s.nvs.counters 0 % 2 ^ 32)
  bootKeys.foldl (fun s k => s.noteTie k) s

/-- The host interface is released; NVM_COMMIT follows if the journal was acted on (R414). -/
def State.release_ (s : State) : State :=
  let s : State := { s with hif := { s.hif with released := true } }
  match s.nvs.bootEvent with
  | some (kind, no) => ({ s with nvs := { s.nvs with bootEvent := none } }).raise 0x70 0x11 (no % 65536 + kind * 65536)
  | none => s

/-- Start-up, from reset to the release. -/
def State.startUp (s : State) (fillUs : Nat) (cal : CalOutcome) (brown : Bool) : State :=
  let s : State := { s with inReset := false }
  let s := ((s.setFld MEM_FILL_done 1).setFld MEM_FILL_time (min 1023 fillUs)).measureAon.emit (.pin "BCB_BUSY_N" 0 true)
  let x := bootFirmware s.nvs.mem
  let fw := x.1
  let s := s.setFld NVS_STATUS_fw fw
  let s : State := { s with sec := { s.sec with fwImage := if fw = 3 then none else some x.2 } }
  if fw = 3 then { s with hif := { s.hif with released := true, noFw := true } }
  else
    let s := ((s.svcStart brown).takeResults 31 1 cal).bootEntries
    ({ s with mod := { s.mod with defaultsDue := s.flag MOD_CTRL_nvm_default_load } }).release_

/-- COLD_RESET (R488): RST_N has risen with VR_PG[6:0] high. -/
def execColdReset (fillUs : Nat) (cal : CalOutcome) (s : State) : Host.Outcome State Fault Refusal :=
  .next (s.assertReset.startUp fillUs cal false)

/-- BROWN_OUT (R396): the latch, and a cold reset, whose start-up waits for RST_N where that is low. -/
def execBrownOut (fillUs : Nat) (cal : CalOutcome) (s : State) : Host.Outcome State Fault Refusal :=
  .next (
    let t : State := { s with pwr := { s.pwr with bor := true, borLp := s.pwr.ldoLp, crystal := false } }
    if s.inReset then t.assertReset else t.assertReset.startUp fillUs cal true)

/-- CONFIG_REQUEST (R489). -/
def execConfigRequest (n : Nat) (s : State) : Host.Outcome State Fault Refusal :=
  .next (if n < 4 ∧ s.inReset = false then s.emit (.config n (!s.hif.released)) else if n < 4 then s.emit (.config n true) else s)

/-! Restore from deep sleep. -/

/-- Descriptors that waited in logic that SVC going OFF has lost. -/
def State.lostReqs (s : State) : List (Req × Body) :=
  let cal (q : Option CalReq) : List Req := match q with
    | some q => q.reqs.map (·.1)
    | none => []
  let sw (w : Option Switch) : List Req := (w.bind (·.req)).toList
  let replan : List Req := match s.cal.replan with
    | some p => p.reqs.map (·.1)
    | none => []
  let rs : List Req := s.lyr.flips.flatMap (fun g => g.members.map (·.1)) ++ s.lyr.open_.flatMap (fun c => c.2.2.map (·.1)) ++
    s.scn.commits.map (·.req) ++ s.scn.tables.map (·.req) ++ sw s.mod.pend ++ sw s.mod.comm ++ s.cmp.build.toList ++
    s.kdl.setupReq.toList ++ cal s.cal.run ++ cal s.cal.pend ++ s.cal.dueReqs.map (·.1) ++ replan ++ s.cal.ended.map (·.1)
  rs.map (fun r => (r, Body.nop)) ++ s.cal.held

/-- The part as the restore leaves it: the save list written back, contexts as CTX0 and CTX1 kept them, and every other unit of the
SVC domain as after reset. TB never falls below what it had reached (R45, R53). -/
def State.restored (s : State) (v : Saved) (ticks : Nat) : State :=
  let t := max s.now (v.tb + ticks * s.fld TBS_AON_PERIOD_period / 65536)
  let up (m : Sparse Dom) (d : Nat) : Sparse Dom := Sparse.set {} m d { Sparse.get {} m d with st := 0, going := none, pend := none, since := t }
  { State.reset with
    pending := s.pending, sent := s.sent, free := s.free
    tb := BitVec.ofNat 64 t
    regs := v.regs
    tbs := { State.reset.tbs with armed := s.tbs.armed }
    lnk := s.lnk
    streams := s.streams
    scn := { State.reset.scn with serial := s.scn.serial }
    odv := { State.reset.odv with tiles := s.odv.tiles, regions := s.odv.regions }
    eng := s.eng
    pnl := { State.reset.pnl with pfw := s.pnl.pfw }
    hif := { s.hif with links := [] }
    mem := { State.reset.mem with conf := s.mem.conf }
    nvs := s.nvs
    sec := { s.sec with verify := [], spdm := [] }
    inReset := false
    pwr := { s.pwr with
      doms := up (up (up s.pwr.doms 1) 79) 80
      deep := 0, saved := none, aonTimer := none, wakeDue := s.pwr.abortSrc == 0, ldoLp := false, xramIdle := t } }

/-- HP_WAKE_N of the ports in PWR_WAKE_CFG.hostwake goes low until the port's link reaches L0 (R399). -/
def State.wakeHosts (s : State) : State :=
  (List.range 4).foldl (fun s n =>
    if (s.fld PWR_WAKE_CFG_hostwake).testBit n then
      ({ s with pwr := { s.pwr with hostWake := Sparse.set false s.pwr.hostWake n true } }).emit (.pin "HP_WAKE_N" n false)
    else s) s

/-- The restore of SVC: registers, TB, records, hosts' wake lines, domains by need, and milestones that have passed. After an entry that a
wake has ended, POWER_REFUSED is posted instead (R400). -/
def State.wakeUp (s : State) (v : Saved) (ticks : Nat) : State :=
  let lost := s.lostReqs
  let t := (s.restored v ticks).measureAon
  let ack := t.fld CAL_LOG_ACK_n
  let t := ((t.setFld NVS_STATUS_fw (s.fld NVS_STATUS_fw)).setFld NVS_STATUS_commit (t.nvs.commitNo % 65536)).loadLog
  let t := (t.setFld CAL_LOG_ACK_n ack).loadRemaps.loadCal.applyPlan.loadCracks
  let t := (t.dpllFollow State.reset).setFld TBS_DPLL_STATUS_coarse 1
  let t := (t.setArmed t.tbs.armed).showJobs.showRegions
  let t := lost.foldl (fun s r => s.doneBody r.1 r.2 ABORTED) t
  let t := t.emit (.outputs 1 true)
  let t := if t.pwr.abortSrc = 0 then t.wakeHosts.restoreDoms
    else
      let src := t.pwr.abortSrc
      let t : State := { t with pwr := { t.pwr with abortSrc := 0 } }
      ((t.setFlag PWR_FLAGS_refused).postRefused 1 src true).restoreDoms
  (State.fireDue t.tbs.armed.length t).goOn

/-- SVC_RESTORE_DONE (R399): `ticks` AON ticks have passed since the save. -/
def execSvcRestoreDone (ticks : Nat) (s : State) : Host.Outcome State Fault Refusal :=
  .next (
    match s.pwr.saved with
    | some v => if s.pwr.deep = 7 then s.wakeUp v ticks else s
    | none => s)

end Sys2Proof.Machine
end

