-- ==== Sys2Proof/Machine/Dispatch.lean ====
section
/-! DEFINITION. The dispatch: one arm per command, each one direct call of its meaning. -/

namespace Sys2Proof.Machine

open Sys2Proof

/-- A command's effect on everything but the queue of commands. -/
def exec (i : Instr) (s : State) : Host.Outcome State Fault Refusal :=
  match i with
  | .coldReset fillUs cal => Sys2Proof.Machine.execColdReset fillUs cal s
  | .brownOut fillUs cal => Sys2Proof.Machine.execBrownOut fillUs cal s
  | .configRequest n => Sys2Proof.Machine.execConfigRequest n s
  | .hpPerst n => Sys2Proof.Machine.execHpPerst n s
  | .flr n => Sys2Proof.Machine.execFlr n s
  | .hpLinkState n l => Sys2Proof.Machine.execHpLinkState n l s
  | .registerWrite p off size v => Sys2Proof.Machine.execRegisterWrite p off size v s
  | .bar0ReadError p off size => Sys2Proof.Machine.execBar0ReadError p off size s
  | .glbLockSet p v => Sys2Proof.Machine.execGlbLockSet p v s
  | .denyLogClear p v => Sys2Proof.Machine.execDenyLogClear p v s
  | .glbPartEnWrite p v => Sys2Proof.Machine.execGlbPartEnWrite p v s
  | .secRoleWrite p v => Sys2Proof.Machine.execSecRoleWrite p v s
  | .secImgFloorWrite p v => Sys2Proof.Machine.execSecImgFloorWrite p v s
  | .tbLoad p v => Sys2Proof.Machine.execTbLoad p v s
  | .snapshot p v => Sys2Proof.Machine.execSnapshot p v s
  | .scnRun p v => Sys2Proof.Machine.execScnRun p v s
  | .scnStop p v => Sys2Proof.Machine.execScnStop p v s
  | .portEnable p k v => Sys2Proof.Machine.execPortEnable p k v s
  | .portDisable p k v => Sys2Proof.Machine.execPortDisable p k v s
  | .portRestore p k v => Sys2Proof.Machine.execPortRestore p k v s
  | .lnkCounterClear p v => Sys2Proof.Machine.execLnkCounterClear p v s
  | .streamCounterClear p v => Sys2Proof.Machine.execStreamCounterClear p v s
  | .kdlTrain p v => Sys2Proof.Machine.execKdlTrain p v s
  | .histInvalidate p v => Sys2Proof.Machine.execHistInvalidate p v s
  | .pnlPowerOn p v => Sys2Proof.Machine.execPnlPowerOn p v s
  | .pnlPowerOff p v => Sys2Proof.Machine.execPnlPowerOff p v s
  | .crackCapture p v => Sys2Proof.Machine.execCrackCapture p v s
  | .frameStoreUp p v => Sys2Proof.Machine.execFrameStoreUp p v s
  | .frameStoreDown p v => Sys2Proof.Machine.execFrameStoreDown p v s
  | .frameStoreReady => Sys2Proof.Machine.execFrameStoreReady s
  | .portRebuild p k v => Sys2Proof.Machine.execPortRebuild p k v s
  | .rebuildDone => Sys2Proof.Machine.execRebuildDone s
  | .regionEnableWrite p k v => Sys2Proof.Machine.execRegionEnableWrite p k v s
  | .apertureWrite p off data => Sys2Proof.Machine.execApertureWrite p off data s
  | .apertureRead p off len => Sys2Proof.Machine.execApertureRead p off len s
  | .hifQallocWrite p k v => Sys2Proof.Machine.execHifQallocWrite p k v s
  | .queueEnable p v => Sys2Proof.Machine.execQueueEnable p v s
  | .queueDisable p v => Sys2Proof.Machine.execQueueDisable p v s
  | .tailDoorbell p off size v => Sys2Proof.Machine.execTailDoorbell p off size v s
  | .headDoorbell p off size v => Sys2Proof.Machine.execHeadDoorbell p off size v s
  | .sqFetch p q entry host => Sys2Proof.Machine.execSqFetch p q entry host s
  | .msixAggTimeout p q => Sys2Proof.Machine.execMsixAggTimeout p q s
  | .msixUnmask p vec => Sys2Proof.Machine.execMsixUnmask p vec s
  | .nop h => Sys2Proof.Machine.execNop h s
  | .commit h len block => Sys2Proof.Machine.execCommit h len block s
  | .commitStaged id => Sys2Proof.Machine.execCommitStaged id s
  | .flip h f => Sys2Proof.Machine.execFlip h f s
  | .regionUpdate h r => Sys2Proof.Machine.execRegionUpdate h r s
  | .fenceSignal h fence v => Sys2Proof.Machine.execFenceSignal h fence v s
  | .fenceWait h timeout => Sys2Proof.Machine.execFenceWait h timeout s
  | .fenceWaitTimeout p q => Sys2Proof.Machine.execFenceWaitTimeout p q s
  | .signalFence h fence v => Sys2Proof.Machine.execSignalFence h fence v s
  | .pulse h => Sys2Proof.Machine.execPulse h s
  | .engineFlag h bit clusters => Sys2Proof.Machine.execEngineFlag h bit clusters s
  | .streamGate h ctx close => Sys2Proof.Machine.execStreamGate h ctx close s
  | .cancel h cq tag => Sys2Proof.Machine.execCancel h cq tag s
  | .mark h => Sys2Proof.Machine.execMark h s
  | .milestoneFire => Sys2Proof.Machine.execMilestoneFire s
  | .modeBookLoad h => Sys2Proof.Machine.execModeBookLoad h s
  | .colourTableLoad h n len data => Sys2Proof.Machine.execColourTableLoad h n len data s
  | .scalerCoeffLoad h n len data => Sys2Proof.Machine.execScalerCoeffLoad h n len data s
  | .postBlendLutLoad h len data => Sys2Proof.Machine.execPostBlendLutLoad h len data s
  | .safeImageValidation h => Sys2Proof.Machine.execSafeImageValidation h s
  | .demuraMapLoad h => Sys2Proof.Machine.execDemuraMapLoad h s
  | .demuraCodecLoad h => Sys2Proof.Machine.execDemuraCodecLoad h s
  | .vintageMapRestore h => Sys2Proof.Machine.execVintageMapRestore h s
  | .vintageTablesLoad h len data => Sys2Proof.Machine.execVintageTablesLoad h len data s
  | .rebuild h => Sys2Proof.Machine.execRebuild h s
  | .rateSetLoad h n len data => Sys2Proof.Machine.execRateSetLoad h n len data s
  | .ntcTableLoad h len data => Sys2Proof.Machine.execNtcTableLoad h len data s
  | .driverSetupListLoad h len data => Sys2Proof.Machine.execDriverSetupListLoad h len data s
  | .tableReady id => Sys2Proof.Machine.execTableReady id s
  | .readback h len src dst => Sys2Proof.Machine.execReadback h len src dst s
  | .engineJob h j => Sys2Proof.Machine.execEngineJob h j s
  | .engineJobStop h clusters => Sys2Proof.Machine.execEngineJobStop h clusters s
  | .imageVerified => Sys2Proof.Machine.execImageVerified s
  | .modeSwitch h target => Sys2Proof.Machine.execModeSwitch h target s
  | .nvmWrite h key len data => Sys2Proof.Machine.execNvmWrite h key len data s
  | .hotSaveRequest h key len addr => Sys2Proof.Machine.execHotSaveRequest h key len addr s
  | .nvmRead h key copy len dst => Sys2Proof.Machine.execNvmRead h key copy len dst s
  | .powerHintIdle h t mask => Sys2Proof.Machine.execPowerHintIdle h t mask s
  | .powerHintNeeded h t mask => Sys2Proof.Machine.execPowerHintNeeded h t mask s
  | .deepSleepRequest h t mask => Sys2Proof.Machine.execDeepSleepRequest h t mask s
  | .harvestSensing h a => Sys2Proof.Machine.execHarvestSensing h a s
  | .harvestMeasurement h a => Sys2Proof.Machine.execHarvestMeasurement h a s
  | .streamBind h b => Sys2Proof.Machine.execStreamBind h b s
  | .streamUnbind h ctx => Sys2Proof.Machine.execStreamUnbind h ctx s
  | .calRun h mask => Sys2Proof.Machine.execCalRun h mask s
  | .lineStart e => Sys2Proof.Machine.execLineStart e s
  | .heartbeatExpiry => Sys2Proof.Machine.execHeartbeatExpiry s
  | .syncInEdge e width => Sys2Proof.Machine.execSyncInEdge e width s
  | .syncPeriodEnd => Sys2Proof.Machine.execSyncPeriodEnd s
  | .shutterInEdge k e width => Sys2Proof.Machine.execShutterInEdge k e width s
  | .shutterWindowEnd k => Sys2Proof.Machine.execShutterWindowEnd k s
  | .syncOutPulse => Sys2Proof.Machine.execSyncOutPulse s
  | .phaseSlewEnd => Sys2Proof.Machine.execPhaseSlewEnd s
  | .rxSymbol lane sym lms => Sys2Proof.Machine.execRxSymbol lane sym lms s
  | .signalDetect lane => Sys2Proof.Machine.execSignalDetect lane s
  | .signalLoss lane => Sys2Proof.Machine.execSignalLoss lane s
  | .exitFailure lane => Sys2Proof.Machine.execExitFailure lane s
  | .minIdleEnd lane => Sys2Proof.Machine.execMinIdleEnd lane s
  | .degradeWindow lane => Sys2Proof.Machine.execDegradeWindow lane s
  | .block b => Sys2Proof.Machine.execBlock b s
  | .deskewRetry port => Sys2Proof.Machine.execDeskewRetry port s
  | .fallbackTimeout port => Sys2Proof.Machine.execFallbackTimeout port s
  | .sleepExitTimeout port => Sys2Proof.Machine.execSleepExitTimeout port s
  | .pixel k => Sys2Proof.Machine.execPixel k s
  | .frameStart k => Sys2Proof.Machine.execFrameStart k s
  | .frameEnd k => Sys2Proof.Machine.execFrameEnd k s
  | .metaPacket k => Sys2Proof.Machine.execMetaPacket k s
  | .streamDataWritten ctx credits => Sys2Proof.Machine.execStreamDataWritten ctx credits s
  | .creditBatchTime ctx => Sys2Proof.Machine.execCreditBatchTime ctx s
  | .mspStatusTimer port => Sys2Proof.Machine.execMspStatusTimer port s
  | .lineSlot c => Sys2Proof.Machine.execLineSlot c s
  | .watchdogStall g => Sys2Proof.Machine.execWatchdogStall g s
  | .spareLoaded c => Sys2Proof.Machine.execSpareLoaded c s
  | .checkpointDrainDone g => Sys2Proof.Machine.execCheckpointDrainDone g s
  | .jobLoadDone c => Sys2Proof.Machine.execJobLoadDone c s
  | .fetchUnitArrived c stream unit => Sys2Proof.Machine.execFetchUnitArrived c stream unit s
  | .writeBackDone g => Sys2Proof.Machine.execWriteBackDone g s
  | .saluAdd g rd ra rb => Sys2Proof.Machine.execSaluAdd g rd ra rb s
  | .saluSub g rd ra rb => Sys2Proof.Machine.execSaluSub g rd ra rb s
  | .saluAnd g rd ra rb => Sys2Proof.Machine.execSaluAnd g rd ra rb s
  | .saluOr g rd ra rb => Sys2Proof.Machine.execSaluOr g rd ra rb s
  | .saluXor g rd ra rb => Sys2Proof.Machine.execSaluXor g rd ra rb s
  | .saluSll g rd ra rb => Sys2Proof.Machine.execSaluSll g rd ra rb s
  | .saluSrl g rd ra rb => Sys2Proof.Machine.execSaluSrl g rd ra rb s
  | .saluSra g rd ra rb => Sys2Proof.Machine.execSaluSra g rd ra rb s
  | .saluSlt g rd ra rb => Sys2Proof.Machine.execSaluSlt g rd ra rb s
  | .saluSltu g rd ra rb => Sys2Proof.Machine.execSaluSltu g rd ra rb s
  | .saluMul g rd ra rb => Sys2Proof.Machine.execSaluMul g rd ra rb s
  | .saluMulh g rd ra rb => Sys2Proof.Machine.execSaluMulh g rd ra rb s
  | .saluMulhu g rd ra rb => Sys2Proof.Machine.execSaluMulhu g rd ra rb s
  | .saluMin g rd ra rb => Sys2Proof.Machine.execSaluMin g rd ra rb s
  | .saluMax g rd ra rb => Sys2Proof.Machine.execSaluMax g rd ra rb s
  | .saluMinu g rd ra rb => Sys2Proof.Machine.execSaluMinu g rd ra rb s
  | .saluMaxu g rd ra rb => Sys2Proof.Machine.execSaluMaxu g rd ra rb s
  | .addi g rd ra imm => Sys2Proof.Machine.execAddi g rd ra imm s
  | .slti g rd ra imm => Sys2Proof.Machine.execSlti g rd ra imm s
  | .sltiu g rd ra imm => Sys2Proof.Machine.execSltiu g rd ra imm s
  | .andi g rd ra imm => Sys2Proof.Machine.execAndi g rd ra imm s
  | .ori g rd ra imm => Sys2Proof.Machine.execOri g rd ra imm s
  | .xori g rd ra imm => Sys2Proof.Machine.execXori g rd ra imm s
  | .slli g rd ra sh => Sys2Proof.Machine.execSlli g rd ra sh s
  | .srli g rd ra sh => Sys2Proof.Machine.execSrli g rd ra sh s
  | .srai g rd ra sh => Sys2Proof.Machine.execSrai g rd ra sh s
  | .lui g rd imm => Sys2Proof.Machine.execLui g rd imm s
  | .br g ra rb cond off => Sys2Proof.Machine.execBr g ra rb cond off s
  | .jal g off => Sys2Proof.Machine.execJal g off s
  | .jalr g rd ra => Sys2Proof.Machine.execJalr g rd ra s
  | .loop g rc count len => Sys2Proof.Machine.execLoop g rc count len s
  | .ctrlNop g => Sys2Proof.Machine.execCtrlNop g s
  | .waitl g rd => Sys2Proof.Machine.execWaitl g rd s
  | .sig g ch => Sys2Proof.Machine.execSig g ch s
  | .halt g => Sys2Proof.Machine.execHalt g s
  | .fence g => Sys2Proof.Machine.execFence g s
  | .csrRead g rd ra csr => Sys2Proof.Machine.execCsrRead g rd ra csr s
  | .csrWrite g rd ra csr => Sys2Proof.Machine.execCsrWrite g rd ra csr s
  | .csrSet g rd ra csr => Sys2Proof.Machine.execCsrSet g rd ra csr s
  | .csrClear g rd ra csr => Sys2Proof.Machine.execCsrClear g rd ra csr s
  | .lb g rd ra off => Sys2Proof.Machine.execLb g rd ra off s
  | .lbu g rd ra off => Sys2Proof.Machine.execLbu g rd ra off s
  | .lh g rd ra off => Sys2Proof.Machine.execLh g rd ra off s
  | .lhu g rd ra off => Sys2Proof.Machine.execLhu g rd ra off s
  | .lw g rd ra off => Sys2Proof.Machine.execLw g rd ra off s
  | .sb g rb ra off => Sys2Proof.Machine.execSb g rb ra off s
  | .sh g rb ra off => Sys2Proof.Machine.execSh g rb ra off s
  | .sw g rb ra off => Sys2Proof.Machine.execSw g rb ra off s
  | .vld g vd ra pg off perr => Sys2Proof.Machine.execVld g vd ra pg off perr s
  | .vst g vb ra pg off => Sys2Proof.Machine.execVst g vb ra pg off s
  | .valuAdd g vd va vb pg src => Sys2Proof.Machine.execValuAdd g vd va vb pg src s
  | .valuSub g vd va vb pg src => Sys2Proof.Machine.execValuSub g vd va vb pg src s
  | .addss g vd va vb pg src => Sys2Proof.Machine.execAddss g vd va vb pg src s
  | .subss g vd va vb pg src => Sys2Proof.Machine.execSubss g vd va vb pg src s
  | .addus g vd va vb pg src => Sys2Proof.Machine.execAddus g vd va vb pg src s
  | .subus g vd va vb pg src => Sys2Proof.Machine.execSubus g vd va vb pg src s
  | .mullo g vd va vb pg src => Sys2Proof.Machine.execMullo g vd va vb pg src s
  | .mulhs g vd va vb pg src => Sys2Proof.Machine.execMulhs g vd va vb pg src s
  | .valuMulhu g vd va vb pg src => Sys2Proof.Machine.execValuMulhu g vd va vb pg src s
  | .valuMin g vd va vb pg src => Sys2Proof.Machine.execValuMin g vd va vb pg src s
  | .valuMax g vd va vb pg src => Sys2Proof.Machine.execValuMax g vd va vb pg src s
  | .valuMinu g vd va vb pg src => Sys2Proof.Machine.execValuMinu g vd va vb pg src s
  | .valuMaxu g vd va vb pg src => Sys2Proof.Machine.execValuMaxu g vd va vb pg src s
  | .valuAnd g vd va vb pg src => Sys2Proof.Machine.execValuAnd g vd va vb pg src s
  | .valuOr g vd va vb pg src => Sys2Proof.Machine.execValuOr g vd va vb pg src s
  | .valuXor g vd va vb pg src => Sys2Proof.Machine.execValuXor g vd va vb pg src s
  | .valuAndn g vd va vb pg src => Sys2Proof.Machine.execValuAndn g vd va vb pg src s
  | .valuSll g vd va vb pg src => Sys2Proof.Machine.execValuSll g vd va vb pg src s
  | .valuSrl g vd va vb pg src => Sys2Proof.Machine.execValuSrl g vd va vb pg src s
  | .valuSra g vd va vb pg src => Sys2Proof.Machine.execValuSra g vd va vb pg src s
  | .srar g vd va vb pg src => Sys2Proof.Machine.execSrar g vd va vb pg src s
  | .absdu g vd va vb pg src => Sys2Proof.Machine.execAbsdu g vd va vb pg src s
  | .avgu g vd va vb pg src => Sys2Proof.Machine.execAvgu g vd va vb pg src s
  | .vmov g vd va vb pg src => Sys2Proof.Machine.execVmov g vd va vb pg src s
  | .vcmp g pd va vb pg src cond => Sys2Proof.Machine.execVcmp g pd va vb pg src cond s
  | .plogAnd g pd pa pb sa => Sys2Proof.Machine.execPlogAnd g pd pa pb sa s
  | .plogOr g pd pa pb sa => Sys2Proof.Machine.execPlogOr g pd pa pb sa s
  | .plogXor g pd pa pb sa => Sys2Proof.Machine.execPlogXor g pd pa pb sa s
  | .plogAndn g pd pa pb sa => Sys2Proof.Machine.execPlogAndn g pd pa pb sa s
  | .plogNot g pd pa pb sa => Sys2Proof.Machine.execPlogNot g pd pa pb sa s
  | .froms g pd pa pb sa => Sys2Proof.Machine.execFroms g pd pa pb sa s
  | .tos g pd pa pb sa => Sys2Proof.Machine.execTos g pd pa pb sa s
  | .cnt g pd pa pb sa => Sys2Proof.Machine.execCnt g pd pa pb sa s
  | .firstn g pd pa pb sa => Sys2Proof.Machine.execFirstn g pd pa pb sa s
  | .vsel g vd va vb ps => Sys2Proof.Machine.execVsel g vd va vb ps s
  | .vperm g vd va vb ps => Sys2Proof.Machine.execVperm g vd va vb ps s
  | .vbcst g vd va vb ps => Sys2Proof.Machine.execVbcst g vd va vb ps s
  | .vbcsts g vd va vb ps => Sys2Proof.Machine.execVbcsts g vd va vb ps s
  | .vredAdd g vd va vb ps => Sys2Proof.Machine.execVredAdd g vd va vb ps s
  | .vredAddu g vd va vb ps => Sys2Proof.Machine.execVredAddu g vd va vb ps s
  | .vredMin g vd va vb ps => Sys2Proof.Machine.execVredMin g vd va vb ps s
  | .vredMax g vd va vb ps => Sys2Proof.Machine.execVredMax g vd va vb ps s
  | .vredMinu g vd va vb ps => Sys2Proof.Machine.execVredMinu g vd va vb ps s
  | .vredMaxu g vd va vb ps => Sys2Proof.Machine.execVredMaxu g vd va vb ps s
  | .vmul g ad va vb pg src sgn => Sys2Proof.Machine.execVmul g ad va vb pg src sgn s
  | .vmac g ad va vb pg src sgn => Sys2Proof.Machine.execVmac g ad va vb pg src sgn s
  | .vmsu g ad va vb pg src sgn => Sys2Proof.Machine.execVmsu g ad va vb pg src sgn s
  | .aclr g ad va vb pg src sgn => Sys2Proof.Machine.execAclr g ad va vb pg src sgn s
  | .aext g vd ad pg sh rnd sat => Sys2Proof.Machine.execAext g vd ad pg sh rnd sat s
  | .vlut g vd va ra sh pg sgn => Sys2Proof.Machine.execVlut g vd va ra sh pg sgn s
  | .vlut2u g vd va vb ra sh pg => Sys2Proof.Machine.execVlut2u g vd va vb ra sh pg s
  | .vlut2s g vd va vb ra sh pg => Sys2Proof.Machine.execVlut2s g vd va vb ra sh pg s
  | .vrnd g vd pg => Sys2Proof.Machine.execVrnd g vd pg s
  | .pget g vd pd => Sys2Proof.Machine.execPget g vd pd s
  | .pput g vd pd => Sys2Proof.Machine.execPput g vd pd s
  | .sget g vd pd => Sys2Proof.Machine.execSget g vd pd s
  | .bcStatus k => Sys2Proof.Machine.execBcStatus k s
  | .echo k rt => Sys2Proof.Machine.execEcho k rt s
  | .sense k => Sys2Proof.Machine.execSense k s
  | .senseTimeout d line => Sys2Proof.Machine.execSenseTimeout d line s
  | .trainTimeout d => Sys2Proof.Machine.execTrainTimeout d s
  | .retrainCheck d => Sys2Proof.Machine.execRetrainCheck d s
  | .echoPeriod => Sys2Proof.Machine.execEchoPeriod s
  | .downRetry d => Sys2Proof.Machine.execDownRetry d s
  | .bcLost d => Sys2Proof.Machine.execBcLost d s
  | .pnlPgRise k => Sys2Proof.Machine.execPnlPgRise k s
  | .pgTimeout => Sys2Proof.Machine.execPgTimeout s
  | .seqDelayEnd => Sys2Proof.Machine.execSeqDelayEnd s
  | .pnlPgFall k => Sys2Proof.Machine.execPnlPgFall k s
  | .agoHoldEnd => Sys2Proof.Machine.execAgoHoldEnd s
  | .offDelayEnd => Sys2Proof.Machine.execOffDelayEnd s
  | .pfwN => Sys2Proof.Machine.execPfwN s
  | .crackMeasurement codes => Sys2Proof.Machine.execCrackMeasurement codes s
  | .stripeFlush buf => Sys2Proof.Machine.execStripeFlush buf s
  | .cxlReadReturn n dev poisoned => Sys2Proof.Machine.execCxlReadReturn n dev poisoned s
  | .readWatchdog n => Sys2Proof.Machine.execReadWatchdog n s
  | .cxlLinkDown n => Sys2Proof.Machine.execCxlLinkDown n s
  | .cxlFatalError n => Sys2Proof.Machine.execCxlFatalError n s
  | .l1Entry => Sys2Proof.Machine.execL1Entry s
  | .l1Exit => Sys2Proof.Machine.execL1Exit s
  | .l1ExitTimeout n => Sys2Proof.Machine.execL1ExitTimeout n s
  | .parityRewriteCheck inst word bad => Sys2Proof.Machine.execParityRewriteCheck inst word bad s
  | .xramRead p off size coll => Sys2Proof.Machine.execXramRead p off size coll s
  | .xramWrite p off data coll => Sys2Proof.Machine.execXramWrite p off data coll s
  | .bcbRead w coll => Sys2Proof.Machine.execBcbRead w coll s
  | .bcbWrite w v coll => Sys2Proof.Machine.execBcbWrite w v coll s
  | .bcbCsWake => Sys2Proof.Machine.execBcbCsWake s
  | .engConfRead p => Sys2Proof.Machine.execEngConfRead p s
  | .memConfRead p => Sys2Proof.Machine.execMemConfRead p s
  | .domainExitStart d => Sys2Proof.Machine.execDomainExitStart d s
  | .domainChangeDone d => Sys2Proof.Machine.execDomainChangeDone d s
  | .xramIdle => Sys2Proof.Machine.execXramIdle s
  | .railAck k => Sys2Proof.Machine.execRailAck k s
  | .railTimeout k => Sys2Proof.Machine.execRailTimeout k s
  | .pwAlert status => Sys2Proof.Machine.execPwAlert status s
  | .vrPgFall k => Sys2Proof.Machine.execVrPgFall k s
  | .tempRead sensors => Sys2Proof.Machine.execTempRead sensors s
  | .ntcMeasure k code => Sys2Proof.Machine.execNtcMeasure k code s
  | .mgAddressMatch addr => Sys2Proof.Machine.execMgAddressMatch addr s
  | .wakeNLow => Sys2Proof.Machine.execWakeNLow s
  | .syncInWake => Sys2Proof.Machine.execSyncInWake s
  | .pcieInbandWake n => Sys2Proof.Machine.execPcieInbandWake n s
  | .aonTimer => Sys2Proof.Machine.execAonTimer s
  | .svcRestoreDone ticks => Sys2Proof.Machine.execSvcRestoreDone ticks s
  | .gatherTimeout => Sys2Proof.Machine.execGatherTimeout s
  | .journalCommit failed => Sys2Proof.Machine.execJournalCommit failed s
  | .directWriteDone failed => Sys2Proof.Machine.execDirectWriteDone failed s
  | .hotSaveDone => Sys2Proof.Machine.execHotSaveDone s
  | .scrubGranule r => Sys2Proof.Machine.execScrubGranule r s
  | .calibrationRunEnd cal => Sys2Proof.Machine.execCalibrationRunEnd cal s
  | .monitorReread slack => Sys2Proof.Machine.execMonitorReread slack s
  | .pathMonitorSample m slack => Sys2Proof.Machine.execPathMonitorSample m slack s
  | .calLogFetch p v => Sys2Proof.Machine.execCalLogFetch p v s
  | .calLogAckWrite p v => Sys2Proof.Machine.execCalLogAckWrite p v s
  | .svcWatchdog => Sys2Proof.Machine.execSvcWatchdog s
  | .getVersion n => Sys2Proof.Machine.execGetVersion n s
  | .getCapabilities n caps => Sys2Proof.Machine.execGetCapabilities n caps s
  | .negotiateAlgorithms n p384 => Sys2Proof.Machine.execNegotiateAlgorithms n p384 s
  | .getDigests n => Sys2Proof.Machine.execGetDigests n s
  | .getCertificate n slot off len => Sys2Proof.Machine.execGetCertificate n slot off len s
  | .challenge n slot nonce => Sys2Proof.Machine.execChallenge n slot nonce s
  | .getMeasurements n idx signed nonce => Sys2Proof.Machine.execGetMeasurements n idx signed nonce s
  | .keyExchange n slot mutAuth => Sys2Proof.Machine.execKeyExchange n slot mutAuth s
  | .finish n hmacOk => Sys2Proof.Machine.execFinish n hmacOk s
  | .heartbeat n => Sys2Proof.Machine.execHeartbeat n s
  | .keyUpdate n => Sys2Proof.Machine.execKeyUpdate n s
  | .endSession n => Sys2Proof.Machine.execEndSession n s
  | .encapsulatedRequest n spki sigOk => Sys2Proof.Machine.execEncapsulatedRequest n spki sigOk s
  | .bypass shift => Sys2Proof.Machine.execBypass shift s
  | .samplePreload shift => Sys2Proof.Machine.execSamplePreload shift s
  | .extest shift => Sys2Proof.Machine.execExtest shift s
  | .clamp shift => Sys2Proof.Machine.execClamp shift s
  | .highz shift => Sys2Proof.Machine.execHighz shift s
  | .illegalInstruction g w => Sys2Proof.Machine.execIllegalInstruction g w s
  | .resetAssert => Sys2Proof.Machine.execResetAssert s
  | .crystalSwitch => Sys2Proof.Machine.execCrystalSwitch s
  | .cxlLinkL0 n exit => Sys2Proof.Machine.execCxlLinkL0 n exit s
  | .cxlPortTrained n dev => Sys2Proof.Machine.execCxlPortTrained n dev s
  | .cxlCorrectableError n => Sys2Proof.Machine.execCxlCorrectableError n s
  | .cxlWriteAck buf unit => Sys2Proof.Machine.execCxlWriteAck buf unit s
  | .echoStepEnd d => Sys2Proof.Machine.execEchoStepEnd d s
  | .svcRestartDone => Sys2Proof.Machine.execSvcRestartDone s
  | .onTimeSecond => Sys2Proof.Machine.execOnTimeSecond s
  | .doeDiscovery n idx => Sys2Proof.Machine.execDoeDiscovery n idx s
  | .dischargeCopyTimer => Sys2Proof.Machine.execDischargeCopyTimer s

end Sys2Proof.Machine
end

