-- ==== Sys2Proof/Safety.lean ====
section
/-! DEFINITION. What every state that a run reaches keeps: the canonical form of the memories and of the registers, the hard-wired
engine registers, and modes that exist. -/

namespace Sys2Proof.Machine

open Sys2Proof

/-- A memory of bytes is in canonical form: addresses strictly rising, no entry equal to the 0 an unlisted address reads as. -/
abbrev Memory.wf (m : List (Nat × Byte)) : Prop := Sparse.wf (fun _ => (0 : Byte)) m

/-- The part's byte memories: frame store, exchange RAM, record store, the line-store frame, and what it has written into hosts. -/
abbrev State.memWf (s : State) : Prop :=
  Memory.wf s.fst.mem ∧ Memory.wf s.mem.xram ∧ Memory.wf s.nvs.mem ∧ Memory.wf s.lyr.lineBuf ∧ Memory.wf s.hif.hostMem

/-- The register file lists no word that equals its reset value. -/
abbrev State.regsWf (s : State) : Prop :=
  Sparse.wf (fun k => BitVec.ofNat 32 (resetWord (k % 2 ^ 20 * 4) (k / 2 ^ 20 % 2 ^ 20))) s.regs

/-- An engine's registers and memory are in canonical form, and neither s0 nor p0 has a value of its own (R244). -/
abbrev Eng.wf (e : Eng) : Prop :=
  Sparse.wf (fun _ => (0 : Word)) e.s ∧ (∀ x ∈ e.s, x.1 ≠ 0) ∧ Sparse.wf (fun _ => (0 : Half)) e.p ∧ (∀ x ∈ e.p, x.1 ≠ 0) ∧
    Memory.wf e.mem

/-- Every engine is so. -/
abbrev State.engWf (s : State) : Prop := ∀ g ∈ s.eng.engines, Eng.wf g.2

/-- The mode in force is one of the twelve of R23. -/
abbrev State.modeWf (s : State) : Prop := s.mode ≤ 11

/-- What every state of a run keeps. -/
abbrev State.safe (s : State) : Prop := s.memWf ∧ s.regsWf ∧ s.engWf ∧ s.modeWf

/-! What an engine instruction meets (R249, R250, R262, R265, R386). -/

/-- Engine g retires instructions: it runs, and its cluster's domain is ON. -/
abbrev State.runs (s : State) (g : Nat) : Prop := (s.en g).st = 1 ∧ s.clOn (clusterOf g) = true

/-- Engine g runs, and the instruction at its pc is followed by the next one: no LOOP body ends there, and it is not the last
of instruction memory. -/
abbrev State.straight (s : State) (g : Nat) : Prop :=
  s.runs g ∧ (s.en g).pc.toNat < 4095 ∧ ∀ l ∈ (s.en g).loops, l.stop ≠ (s.en g).pc.toNat

/-- The state in which engine g is `e`, one instruction further, and nothing else has changed. -/
def State.stepped (s : State) (g : Nat) (e : Eng) : State := s.setEn g { e with pc := (s.en g).pc + 1 }

/-! What an access of a host port and a descriptor meet (R316, R323 to R326, R333, R459, R463, R489). -/

/-- Accesses of partition p's port are served, and its writes are not denied for its being disabled. -/
abbrev State.hostUp (s : State) (p : Nat) : Prop := s.reachable p = true ∧ s.partOn p = true

/-- Partition p is the OWNER, its writes are served, and set-up is not locked. -/
abbrev State.ownerUp (s : State) (p : Nat) : Prop := s.hostUp p ∧ p = s.owner ∧ s.locked = false

/-- A descriptor that names no fence and no launch time, belongs to no chain, and sets no reserved bit. -/
abbrev plainHdr (h : Hdr) : Prop := h.clean = true ∧ h.flags = 0 ∧ h.fenceId = 0 ∧ h.fenceVal = 0 ∧ h.launch = 0

/-- The submission queue, global number g, dispatches the descriptor: no chain is open on it, the completion queue that it
names is enabled, and neither firmware recovery nor a restart of the SVC holds it. -/
abbrev State.takes (s : State) (h : Hdr) (g : Nat) : Prop :=
  s.sqOf h.part h.sq = some g ∧ (s.ringOf h.part 1 h.cq.toNat).isSome = true ∧ s.openChain h.part h.sq = [] ∧
    s.hif.noFw = false ∧ s.cal.restarting = false

/-- The request that a descriptor becomes at its dispatch, and the state that has counted it. -/
def State.reqOf (s : State) (h : Hdr) (g : Nat) : Req := ⟨h, g, s.hif.serial⟩
def State.counted (s : State) : State := { s with hif := { s.hif with serial := s.hif.serial + 1 } }

end Sys2Proof.Machine
end

