-- ==== Sys2Proof/WellFormed.lean ====
section
/-! DEFINITION. Which commands make sense: the numbers of partitions, lanes, ports, engines, clusters, drivers and so on lie
within the part, byte strings have the length their format gives, and an engine instruction's codes are not reserved (R246).
A command that is not well-formed has a meaning all the same: it names nothing of the part. -/

namespace Sys2Proof

/-- A list of a given length. -/
def sized {α : Type} (l : List α) (n : Nat) : Bool := l.length == n

/-- A partition, and its port HPn (R312). -/
def partOk (p : Nat) : Bool := decide (p < 4)

/-- A serial lane (R67). -/
def laneOk (l : Nat) : Bool := decide (l < 264)

/-- A pixel engine, or a cluster's spare (R244). -/
def engOk (g : Nat) : Bool := decide (g < 544)

/-- A cluster (R220). -/
def clOk (c : Nat) : Bool := decide (c < 32)

/-- A column driver (R270). -/
def drvOk (d : Nat) : Bool := decide (d < 64)

/-- A stream context (R105). -/
def ctxOk (c : Nat) : Bool := decide (c < 1024)

/-- Access sizes of a BAR (R455). -/
def accOk (n : Nat) : Bool := n == 1 || n == 2 || n == 4 || n == 8

/-- A descriptor's header: a partition and a local queue number of its 14 bits (R315). -/
def hdrOk (h : Hdr) : Bool := partOk h.part && decide (h.sq < 16384)

/-- A forward packet: its port, and header and CRC of 8 and 4 bytes (R100). -/
def packetOk (k : Packet) : Bool := decide (k.port < 8) && sized k.hdr 8 && sized k.crc 4

/-- A back-channel packet: its driver, and header and CRC of 4 bytes (R284). -/
def bcOk (k : BcPacket) : Bool := drvOk k.drv && sized k.hdr 4 && sized k.crc 4

/-- A parity error names an array instance and a byte of a word (R365). -/
def parityIn (e : Option ParityErr) : Bool := e.all fun e => decide (e.inst < 594) && decide (e.byte < 64)

/-- What a line start brings names clusters, columns and tiles of the panel, and the causes of R171. -/
def envOk (e : LineEnv) : Bool :=
  (e.late.all fun l => clOk l.cluster && decide (l.column < 480) && decide (l.cause < 8)) && decide (e.causeway < 3) &&
    (e.histBad.all fun t => decide (t < 184320)) && e.parity.all fun p => parityIn (some p)

/-- The command is well-formed. -/
def Instr.wf : Instr → Bool
  | .coldReset _ _ | .brownOut _ _ | .frameStoreReady | .rebuildDone | .commitStaged _ | .milestoneFire
  | .tableReady _ | .imageVerified | .heartbeatExpiry | .syncInEdge _ _ | .syncPeriodEnd | .syncOutPulse
  | .phaseSlewEnd | .echoPeriod | .pgTimeout | .seqDelayEnd | .agoHoldEnd | .offDelayEnd | .pfwN | .l1Entry | .l1Exit
  | .bcbRead _ _ | .bcbWrite _ _ _ | .bcbCsWake | .xramIdle | .mgAddressMatch _ | .wakeNLow | .syncInWake | .aonTimer
  | .svcRestoreDone _ | .gatherTimeout | .journalCommit _ | .directWriteDone _ | .hotSaveDone | .scrubGranule _
  | .calibrationRunEnd _ | .svcWatchdog | .bypass _ | .samplePreload _ | .extest _ | .clamp _ | .highz _
  | .resetAssert | .crystalSwitch | .svcRestartDone | .onTimeSecond | .dischargeCopyTimer =>
      true
  | .configRequest n | .hpPerst n | .flr n | .hpLinkState n _ | .pcieInbandWake n | .getVersion n
  | .getCapabilities n _ | .negotiateAlgorithms n _ | .getDigests n | .getCertificate n _ _ _ | .keyExchange n _ _
  | .finish n _ | .heartbeat n | .keyUpdate n | .endSession n | .encapsulatedRequest n _ _ | .doeDiscovery n _ =>
      partOk n
  | .registerWrite p _ size _ | .bar0ReadError p _ size | .tailDoorbell p _ size _ | .headDoorbell p _ size _
  | .xramRead p _ size _ =>
      partOk p && accOk size
  | .glbLockSet p _ | .denyLogClear p _ | .glbPartEnWrite p _ | .secRoleWrite p _ | .secImgFloorWrite p _
  | .tbLoad p _ | .snapshot p _ | .scnRun p _ | .scnStop p _ | .lnkCounterClear p _ | .streamCounterClear p _
  | .kdlTrain p _ | .histInvalidate p _ | .pnlPowerOn p _ | .pnlPowerOff p _ | .crackCapture p _ | .frameStoreUp p _
  | .frameStoreDown p _ | .apertureWrite p _ _ | .apertureRead p _ _ | .queueEnable p _ | .queueDisable p _
  | .msixAggTimeout p _ | .fenceWaitTimeout p _ | .xramWrite p _ _ _ | .engConfRead p | .memConfRead p
  | .calLogFetch p _ | .calLogAckWrite p _ =>
      partOk p
  | .portEnable p k _ | .portDisable p k _ | .portRestore p k _ =>
      partOk p && decide (k < 8)
  | .portRebuild p k _ =>
      partOk p && decide (k < 6)
  | .regionEnableWrite p k _ =>
      partOk p && decide (k < 64)
  | .hifQallocWrite p k _ =>
      partOk p && decide (k < 4)
  | .sqFetch p _ entry _ =>
      partOk p && (entry.all fun e => sized e 64)
  | .msixUnmask p vec =>
      partOk p && decide (vec < 2048)
  | .nop h | .commit h _ _ | .flip h _ | .regionUpdate h _ | .fenceSignal h _ _ | .fenceWait h _ | .signalFence h _ _
  | .pulse h | .engineFlag h _ _ | .cancel h _ _ | .mark h | .modeBookLoad h | .postBlendLutLoad h _ _
  | .safeImageValidation h | .demuraMapLoad h | .demuraCodecLoad h | .vintageMapRestore h | .vintageTablesLoad h _ _
  | .rebuild h | .ntcTableLoad h _ _ | .driverSetupListLoad h _ _ | .readback h _ _ _ | .engineJob h _
  | .engineJobStop h _ | .modeSwitch h _ | .nvmWrite h _ _ _ | .hotSaveRequest h _ _ _ | .nvmRead h _ _ _ _
  | .powerHintIdle h _ _ | .powerHintNeeded h _ _ | .deepSleepRequest h _ _ | .harvestSensing h _
  | .harvestMeasurement h _ | .streamBind h _ | .calRun h _ =>
      hdrOk h
  | .streamGate h ctx _ | .streamUnbind h ctx =>
      hdrOk h && ctxOk ctx
  | .colourTableLoad h n _ _ =>
      hdrOk h && decide (n ≤ 12)
  | .scalerCoeffLoad h n _ _ | .rateSetLoad h n _ _ =>
      hdrOk h && decide (n ≤ 3)
  | .lineStart e =>
      envOk e
  | .shutterInEdge k _ _ | .shutterWindowEnd k =>
      decide (k < 4)
  | .rxSymbol lane _ lms =>
      laneOk lane && sized lms 6
  | .signalDetect lane | .signalLoss lane | .exitFailure lane | .minIdleEnd lane | .degradeWindow lane =>
      laneOk lane
  | .block b =>
      decide (b.port < 8) && decide (b.lane < 8) && b.syms.length == 64
  | .deskewRetry port | .fallbackTimeout port | .sleepExitTimeout port | .mspStatusTimer port =>
      decide (port < 8)
  | .pixel k | .frameStart k | .frameEnd k | .metaPacket k =>
      packetOk k
  | .streamDataWritten ctx _ | .creditBatchTime ctx =>
      ctxOk ctx
  | .lineSlot c | .spareLoaded c | .jobLoadDone c =>
      clOk c
  | .watchdogStall g | .checkpointDrainDone g | .writeBackDone g | .saluAdd g _ _ _ | .saluSub g _ _ _
  | .saluAnd g _ _ _ | .saluOr g _ _ _ | .saluXor g _ _ _ | .saluSll g _ _ _ | .saluSrl g _ _ _ | .saluSra g _ _ _
  | .saluSlt g _ _ _ | .saluSltu g _ _ _ | .saluMul g _ _ _ | .saluMulh g _ _ _ | .saluMulhu g _ _ _
  | .saluMin g _ _ _ | .saluMax g _ _ _ | .saluMinu g _ _ _ | .saluMaxu g _ _ _ | .addi g _ _ _ | .slti g _ _ _
  | .sltiu g _ _ _ | .andi g _ _ _ | .ori g _ _ _ | .xori g _ _ _ | .slli g _ _ _ | .srli g _ _ _ | .srai g _ _ _
  | .lui g _ _ | .jal g _ | .jalr g _ _ | .loop g _ _ _ | .ctrlNop g | .waitl g _ | .sig g _ | .halt g | .fence g
  | .csrRead g _ _ _ | .csrWrite g _ _ _ | .csrSet g _ _ _ | .csrClear g _ _ _ | .lb g _ _ _ | .lbu g _ _ _
  | .lh g _ _ _ | .lhu g _ _ _ | .lw g _ _ _ | .sb g _ _ _ | .sh g _ _ _ | .sw g _ _ _ | .vst g _ _ _ _
  | .plogAnd g _ _ _ _ | .plogOr g _ _ _ _ | .plogXor g _ _ _ _ | .plogAndn g _ _ _ _ | .plogNot g _ _ _ _
  | .froms g _ _ _ _ | .tos g _ _ _ _ | .cnt g _ _ _ _ | .firstn g _ _ _ _ | .vsel g _ _ _ _ | .vperm g _ _ _ _
  | .vbcst g _ _ _ _ | .vbcsts g _ _ _ _ | .aext g _ _ _ _ _ _ | .vlut g _ _ _ _ _ _ | .vlut2u g _ _ _ _ _ _
  | .vlut2s g _ _ _ _ _ _ | .vrnd g _ _ | .pget g _ _ | .pput g _ _ | .sget g _ _ | .illegalInstruction g _ =>
      engOk g
  | .fetchUnitArrived c stream _ =>
      clOk c && decide (stream < 4)
  | .br g _ _ cond _ =>
      engOk g && decide (cond < 6)
  | .vld g _ _ _ _ perr =>
      engOk g && parityIn perr
  | .valuAdd g _ _ vb _ src | .valuSub g _ _ vb _ src | .addss g _ _ vb _ src | .subss g _ _ vb _ src
  | .addus g _ _ vb _ src | .subus g _ _ vb _ src | .mullo g _ _ vb _ src | .mulhs g _ _ vb _ src
  | .valuMulhu g _ _ vb _ src | .valuMin g _ _ vb _ src | .valuMax g _ _ vb _ src | .valuMinu g _ _ vb _ src
  | .valuMaxu g _ _ vb _ src | .valuAnd g _ _ vb _ src | .valuOr g _ _ vb _ src | .valuXor g _ _ vb _ src
  | .valuAndn g _ _ vb _ src | .valuSll g _ _ vb _ src | .valuSrl g _ _ vb _ src | .valuSra g _ _ vb _ src
  | .srar g _ _ vb _ src | .absdu g _ _ vb _ src | .avgu g _ _ vb _ src | .vmov g _ _ vb _ src =>
      engOk g && srcOk src vb
  | .vcmp g _ _ vb _ src cond =>
      engOk g && decide (cond < 10) && srcOk src vb
  | .vredAdd g vd _ _ _ | .vredAddu g vd _ _ _ | .vredMin g vd _ _ _ | .vredMax g vd _ _ _ | .vredMinu g vd _ _ _
  | .vredMaxu g vd _ _ _ =>
      engOk g && decide (vd < 16)
  | .vmul g _ _ vb _ src sgn | .vmac g _ _ vb _ src sgn | .vmsu g _ _ vb _ src sgn | .aclr g _ _ vb _ src sgn =>
      engOk g && srcOk src vb && sgn != 3
  | .bcStatus k | .echo k _ | .sense k =>
      bcOk k
  | .senseTimeout d _ | .trainTimeout d | .retrainCheck d | .downRetry d | .bcLost d | .echoStepEnd d =>
      drvOk d
  | .pnlPgRise k | .pnlPgFall k | .railAck k | .railTimeout k | .vrPgFall k =>
      decide (k < 8)
  | .crackMeasurement codes =>
      sized codes 4
  | .stripeFlush buf =>
      decide (buf < 48)
  | .cxlReadReturn n _ _ | .readWatchdog n | .cxlLinkDown n | .cxlFatalError n | .l1ExitTimeout n | .cxlLinkL0 n _
  | .cxlPortTrained n _ | .cxlCorrectableError n =>
      decide (n < 6)
  | .parityRewriteCheck inst _ _ =>
      decide (inst < 594)
  | .domainExitStart d | .domainChangeDone d =>
      decide (d ≤ 81)
  | .pwAlert status =>
      sized status 8
  | .tempRead sensors =>
      sized sensors 16
  | .ntcMeasure k code =>
      decide (k < 8) && decide (code < 4096)
  | .monitorReread slack =>
      sized slack 64
  | .pathMonitorSample m _ =>
      decide (m < 64)
  | .challenge n _ nonce | .getMeasurements n _ _ nonce =>
      partOk n && sized nonce 32
  | .cxlWriteAck buf unit =>
      decide (buf < 48) && decide (unit < 6)

end Sys2Proof
end

