-- ==== Sys2Proof/Certificates/Slice0/Obligations.lean ====
section
/-! DEFINITION. The statements about the part, each named by what it states. A statement's docstring names the rules it rests on,
and any choice of the model that it holds by. -/

open Sys2Proof Sys2Proof.Machine Sys2Proof.Machine.Reg


/-- At reset nothing is waiting and TB is 0 (the model's choice, log entry 2), the memories and the registers are in
canonical form, and every register reads as the reset value of its table: the mode is BRINGUP, GLB_ID 0x96164A01,
NVS_CFG 0x00011E0A, the tap limits of every LNK_RX_CFG 31 and 15, every fence is 0, every engine's registers are 0
with p0 all ones, no engine runs, and the domains' limits are those of PWR_DOM_CFG. (R25, R143, R244, R461,
spec/21_register_space.md, spec/02_operating_modes.md) -/
def Obligations.ResetState : Prop :=
  State.reset.safe ∧ State.reset.pending = [] ∧ State.reset.tb = 0 ∧ State.reset.inReset = true ∧ State.reset.mode = 10 ∧
    State.reset.reg GLB_ID 0 0 = 0x96164A01 ∧ State.reset.reg NVS_CFG 0 0 = 0x00011E0A ∧
    (∀ off ix b : Nat, State.reset.reg off ix b = resetWord off ix % 2 ^ 32) ∧
    (∀ f : Nat, Sparse.get 0 State.reset.hif.fences f = 0) ∧
    (∀ (g n : Nat), (State.reset.en g).sreg n = 0 ∧ (State.reset.en g).preg 0 = 0xFFFF ∧ (State.reset.en g).pc = 0 ∧
      ¬State.reset.runs g) ∧
    (∀ d : Nat, State.reset.domMax d = if d = 81 then 1 else if d = 0 ∨ d = 79 ∨ d = 80 then 0 else 2) ∧
    ∀ l : Nat, State.reset.fldI LNK_RX_CFG_tap1_lim l = 31 ∧ State.reset.fldI LNK_RX_CFG_tapn_lim l = 15

/-- From every state in which each engine's s-registers, predicates and memory are in canonical form, s0 and p0 have
no value of their own, and the frame store, exchange RAM, record store, line-store frame and host memory are in
canonical form, a step whose front command is any engine instruction, faulting or not, with or without a parity error,
answers a next state in which all of this still holds and s0 reads 0 and p0 all ones in every engine. (R235, R236,
R244, R251, R269, spec/10_pixel_engines.md, spec/11_engine_instruction_set.md) -/
def Obligations.EngineStepsKeepTheForm : Prop :=
  ∀ (s : State) (i : Instr) (rest : List Instr) (g : Nat), i.engine? = some g → s.engWf → s.memWf →
    ∃ t : State, step { s with pending := i :: rest } = .next t ∧ t.engWf ∧ t.memWf ∧ t.pending = rest ∧
      ∀ k : Nat, (t.en k).sreg 0 = 0 ∧ (t.en k).preg 0 = 0xFFFF

/-- An engine instruction of engine g (a VLD without a parity error), faulting or not, leaves every cluster but g's as
it was, every engine but g, and every engine but the one it serves where g is a spare, whose recorded fault alone it
may write; it leaves TB, the raster, the layers, the mode unit, the tables, the overdrive, the panel, the drive link,
the ports and streams, the milestones, the exchange RAM, the security state, the jobs and the queue of commands as
they were. (R218, R219, R220, R236, R269, spec/10_pixel_engines.md, spec/11_engine_instruction_set.md) -/
def Obligations.EngineStepsAreIsolated : Prop :=
  ∀ (s t : State) (i : Instr) (g : Nat), i.engine? = some g → (∀ vd ra pg off p, i ≠ .vld g vd ra pg off (some p)) →
    exec i s = .next t →
    (∀ c : Nat, c ≠ clusterOf g → t.cl c = s.cl c) ∧
    (∀ k : Nat, k ≠ g → (512 ≤ g → k ≠ 16 * (g - 512) + (s.cl (g - 512)).spareFor % 16) → t.en k = s.en k) ∧
    (∀ k : Nat, k ≠ g → { t.en k with fault := (s.en k).fault, faultAt := (s.en k).faultAt } = s.en k) ∧
    t.pending = s.pending ∧ t.tb = s.tb ∧ t.tbFrac = s.tbFrac ∧ t.scn = s.scn ∧ t.lyr = s.lyr ∧ t.mod = s.mod ∧ t.cmp = s.cmp ∧
    t.odv = s.odv ∧ t.pnl = s.pnl ∧ t.kdl = s.kdl ∧ t.lnk = s.lnk ∧ t.ports = s.ports ∧ t.streams = s.streams ∧ t.tbs = s.tbs ∧
    t.mem = s.mem ∧ t.pwr = s.pwr ∧ t.sec = s.sec ∧ t.tap = s.tap ∧ t.eng.jobs = s.eng.jobs ∧ t.eng.input = s.eng.input ∧
    t.hif.fences = s.hif.fences ∧ t.inReset = s.inReset

/-- The OWNER's write of 1 to TBS_TB_LOAD_GO while set-up is not locked: in BRINGUP (mode 10) with no armed context TB
takes TBS_TB_LOAD, TB_FRAC is 0, and the raster's and the DPLL's instants move with TB (the model's choice, log entry
12: they are held as TB values), and whole seconds for SYNC_OUT count from the value loaded; otherwise only
TBS_DPLL_STATUS.load_refused is set. Any served partition's write of 1 to TBS_SNAP copies TB, TB_FRAC and the frame
counter into that partition's own snapshot and changes nothing else. With no command waiting, a step answers the state
in which the 96-bit value TB:TB_FRAC has gained INC modulo 2^96 and nothing else has changed (the model's choice of
what a step without a command is, log entry 1: it is the spec's ECLK cycle); in reset and in deep sleep, where the SVC
domain is not ON, it changes nothing. With the DPLL FREE, no host frequency source and no slew, INC is 0xD5555555.
(The queues' waits that have ended go on, goOn, R326.) (R46, R52, R53, R66, spec/03_timebase_and_milestones.md) -/
def Obligations.TimebaseTickLoadAndSnapshot : Prop :=
  (∀ (s : State) (p : Nat), s.ownerUp p →
    let v : Nat := s.reg TBS_TB_LOAD_LO 0 0 + 2 ^ 32 * s.reg TBS_TB_LOAD_HI 0 0
    exec (.tbLoad p 1) s =
      .next (if s.mode = 10 ∧ s.tbs.armed = [] then
          (let t := s.shiftTimes ((v : Int) - s.tb.toNat)
           { t with tb := BitVec.ofNat 64 v, tbFrac := 0, tbs := { t.tbs with outAt := v } })
        else s.setFld TBS_DPLL_STATUS_load_refused 1).goOn) ∧
  (∀ (s : State) (p : Nat), s.hostUp p →
    exec (.snapshot p 1) s =
      .next ((((s.setReg TBS_SNAP_TB_LO 0 p (s.tb.toNat % 2 ^ 32)).setReg TBS_SNAP_TB_HI 0 p (s.tb.toNat / 2 ^ 32)).setReg
        TBS_SNAP_FRAC 0 p s.tbFrac.toNat).setReg TBS_SNAP_FRAME 0 p (s.fld SCN_FRAME_frame)).goOn) ∧
  ∀ s : State, s.pending = [] →
    (s.inReset = false → s.pwr.deep < 6 →
      let v := s.tb.toNat * 2 ^ 32 + s.tbFrac.toNat + s.inc
      step s = .next { s with tb := BitVec.ofNat 64 (v / 2 ^ 32), tbFrac := BitVec.ofNat 32 v }) ∧
    (s.inReset = true ∨ 6 ≤ s.pwr.deep → step s = .next s) ∧
    (s.fld TBS_DPLL_STATUS_state = 0 → s.fld TBS_CTRL_src ≠ 2 → s.tbs.slewLeft = 0 → s.inc = 0xD5555555)

/-- For every command c, every rest of the queue and every state, step of the state whose queue is c followed by the
rest is exec of c on the state with the rest as its queue; a word spells no command, since the command table gives its
rows no bits. (spec/01_architecture.md, spec/95_what_each_step_holds.md) -/
def Obligations.StepRunsTheFrontCommand : Prop :=
  ∀ (s : State) (c : Instr) (rest : List Instr),
    step { s with pending := c :: rest } = exec c { s with pending := rest } ∧
      ∀ nbits w : Nat, decodeTableWord nbits w = none ∧ s.withFetchWord nbits w = s

/-- A SYNC_IN pulse shorter than 50 ns changes nothing, and an edge that is not of the polarity of TBS_CTRL.sync_edge
only leaves its level, which the wake source of R398 sees (the model's choice, log entry 44). An accepted SYNC_IN edge
that is the DPLL's input, while the DPLL runs, is in ACQUIRE, lies within the window of an expected instant and brings
the count of edges within lock_thr to less than 16, becomes the last valid edge and the reference instant, is counted
as valid and toward lock, shows its phase error (measured as log entry 13 says, the model's choice), and takes a
frequency term within 100 ppm that the spec leaves open (a free value). (In both this and the next clause no phase
correction is being absorbed.) An expected period that ends without a valid edge while the DPLL runs outside LOCKED
counts once as missed and ends the runs of valid edges and of edges near the input. A SHUTTER_IN edge of the other
polarity than TBS_SHUT_CFG.edge gives the input, or outside SHUTTER, changes nothing; one of its polarity within
tolerance of an enabled input, in SHUTTER, whose period has not been judged, with fewer than 15 periods in tolerance
before it and the input not the DPLL's, counts its period and ends the run of misses; a window that ends without an
edge on an input that is not in lock counts one miss. (R48, R49, R54, R64, spec/03_timebase_and_milestones.md) -/
def Obligations.SyncAndShutterEdges : Prop :=
  (∀ (s : State) (e : Edge) (width : Ns),
    (width < 50 → exec (.syncInEdge e width) s = .next s) ∧
    (50 ≤ width → e.rising = (s.fld TBS_CTRL_sync_edge == 1) →
      exec (.syncInEdge e width) s = .next { s with pwr := { s.pwr with syncHigh := e.rising } })) ∧
  (∀ (s : State) (x : Edge) (width : Ns) (t0 : Ns), 50 ≤ width → x.rising = !(s.fld TBS_CTRL_sync_edge == 1) → s.dpllInput = 0 →
    s.fld TBS_CTRL_src = 1 → s.fld TBS_CTRL_dpll_en = 1 →
    s.fld TBS_DPLL_STATUS_state = 1 → s.tbs.fresh = false → s.tbs.lastEdge = some t0 → s.tbs.slewLeft = 0 →
    0 < s.period16 → s.tbs.lockRun < 15 →
    let stamp := x.stamp
    let d : Int := ((stamp : Int) - t0) * 65536
    let k := (2 * d + s.period16) / (2 * s.period16)
    let e := d - k * s.period16
    1 ≤ k → e.natAbs ≤ s.fld TBS_DPLL_CFG_window * 1000 * 65536 →
    ∃ t : State, exec (.syncInEdge x width) s = .next t ∧
      t.tbs.lastEdge = some stamp ∧ t.tbs.refAt = some stamp ∧ t.tbs.validRun = s.tbs.validRun + 1 ∧ t.tbs.missRun = 0 ∧
      t.tbs.lockRun = (if (e / 65536).natAbs ≤ s.fld TBS_DPLL_CFG_lock_thr * 10 then s.tbs.lockRun + 1 else 0) ∧
      t.fld TBS_DPLL_STATUS_state = 1 ∧
      t.fld TBS_DPLL_STATUS_phase_err = unsigned 16 (clampInt (-32768) 32767 (e / 65536)) ∧
      -10000000 ≤ t.tbs.freq ∧ t.tbs.freq ≤ 10000000 ∧ t.free = s.free + 1 ∧ t.tb.toNat = max s.tb.toNat (stamp + 50) % 2 ^ 64) ∧
  (∀ (s : State) (t0 : Ns), s.fld TBS_CTRL_src = 1 → s.fld TBS_CTRL_dpll_en = 1 → s.tbs.fresh = false →
    s.tbs.lastEdge = some t0 → s.tbs.slewLeft = 0 → s.fld TBS_DPLL_STATUS_state ≠ 2 →
    exec .syncPeriodEnd s =
      .next { s.reach (t0 + ((s.tbs.periods + 1) * s.period16 + s.fld TBS_DPLL_CFG_window * 65536000) / 65536) with
        tbs := { s.tbs with periods := s.tbs.periods + 1, missRun := s.tbs.missRun + 1, validRun := 0, lockRun := 0 } }) ∧
  (∀ (s : State) (k : Nat) (e : Edge) (width : Ns), width < 50 ∨ s.mode ≠ 4 ∨ e.rising = (s.fld TBS_SHUT_CFG_edge).testBit k →
    exec (.shutterInEdge k e width) s = .next s) ∧
  (∀ (s : State) (k : Nat) (e : Edge) (width : Ns), 50 ≤ width → s.mode = 4 → e.rising = !(s.fld TBS_SHUT_CFG_edge).testBit k →
    s.shutEn k = true → s.dpllInput ≠ 1 + k → k < 4 → (s.shutter k).inRun < 15 →
    let d := s.shutErr k e.stamp
    d.natAbs ≤ s.fld TBS_SHUT_TOL_tol * 10 → s.shutJudged k ((e.stamp : Int) - d) = false →
    exec (.shutterInEdge k e width) s =
      .next ((s.reach (e.stamp + 50)).setShutter k { s.shutter k with
        lastEdge := some e.stamp, judged := some ((e.stamp : Int) - d), inRun := (s.shutter k).inRun + 1, outRun := 0 })) ∧
  ∀ (s : State) (k : Nat), s.mode = 4 → s.shutEn k = true → (s.fld TBS_SHUT_STATUS_locked).testBit k = false →
    exec (.shutterWindowEnd k) s =
      .next (s.setShutter k { s.shutter k with
        judged := (s.shutter k).judged.map (· + max 1 ((s.period16 / 65536 : Nat) : Int)), inRun := 0
        outRun := (s.shutter k).outRun + 1 })

/-- With TBS_OUT_CFG.sel 3 the pulse comes at the whole multiple of 10^9 ns of TB that follows the last one judged;
with sel 2 and a pulse due, at the earliest due instant, which is no longer due; it is width times 100 ns long and of
the polarity in pol; TB is then at least that instant and nothing else has changed. At the end of a phase slew the
slew term is 0, the DPLL's reference has moved by what TB absorbed, TBS_DPLL_STATUS.slewing reads 0 and TB is at least
the slew's end. (R51, R54, spec/03_timebase_and_milestones.md) -/
def Obligations.SyncOutAndSlew : Prop :=
  (∀ s : State, s.fld TBS_OUT_CFG_sel = 3 →
    let t := (s.tbs.outAt / 1000000000 + 1) * 1000000000
    exec .syncOutPulse s =
      .next (({ s.reach t with tbs := { s.tbs with outAt := t } } : State).emit
        (.syncOut t (100 * s.fld TBS_OUT_CFG_width) (s.fld TBS_OUT_CFG_pol == 0)))) ∧
  (∀ (s : State) (t : Ns) (ts : List Ns), s.fld TBS_OUT_CFG_sel = 2 → s.tbs.outDue = t :: ts →
    exec .syncOutPulse s =
      .next (({ s with tbs := { s.tbs with outDue := ts } }.reach t).emit
        (.syncOut t (100 * s.fld TBS_OUT_CFG_width) (s.fld TBS_OUT_CFG_pol == 0)))) ∧
  ∀ s : State, s.tbs.slewLeft ≠ 0 →
    let mv (x : Option Ns) : Option Ns := x.map (fun t => ((t : Int) + s.tbs.slewLeft).toNat)
    exec .phaseSlewEnd s =
      .next (({ s.reach s.tbs.slewEnd with tbs := { s.tbs with
        slewLeft := 0, slewAt := max s.tbs.slewAt s.tbs.slewEnd, lastEdge := mv s.tbs.lastEdge, refAt := mv s.tbs.refAt } }).setFld
        TBS_DPLL_STATUS_slewing 0)

/-- Dispatched from an SQ that takes it, without fence or launch time: SIGNAL_FENCE on a fence of the partition gives
the fence its value; PULSE pulses SYNC_OUT if sel is 4; ENGINE_FLAG with a bit below 16 and a non-empty mask of
clusters the partition owns sets the bit in every engine of each, spares included; STREAM_GATE on a context of a port
the partition owns closes or opens its credit return; MARK does nothing; each completes OK with the frame and TB in
force. CANCEL of an armed descriptor of the partition with the named CQ and tag, not yet due, completes that
descriptor ABORTED, frees its context and completes OK; with none it completes INVALID. (Queues whose waits the
completion ends go on, goOn, R326.) (R58, R59, R60, R143, R327, spec/03_timebase_and_milestones.md) -/
def Obligations.MilestoneActions : Prop :=
  ∀ (s : State) (h : Hdr) (g : Nat), s.takes h g → plainHdr h →
    let u := s.counted
    let r := s.reqOf h g
    (∀ (f : Nat) (v : Word), f < 4096 → f / 1024 = h.part →
      exec (.signalFence h f v) s = .next ((u.setFence f v).done r OK).goOn) ∧
    exec (.pulse h) s = .next ((if s.fld TBS_OUT_CFG_sel = 4 then
      u.emit (.syncOut s.now (100 * s.fld TBS_OUT_CFG_width) (s.fld TBS_OUT_CFG_pol == 0)) else u).done r OK).goOn ∧
    (∀ (bit : Nat) (m : Word), bit < 16 → m ≠ 0 → (∀ c < 32, m.getLsbD c = true → s.clOwner c = h.part) →
      exec (.engineFlag h bit m) s =
        .next ((((List.range 32).filter m.getLsbD).foldl (fun t c => t.flagCluster bit c) u).done r OK).goOn) ∧
    (∀ (c : Nat) (close : Bool), c < 1024 → s.portOwner (c / 128) = h.part →
      exec (.streamGate h c close) s = .next ((u.gate c close).done r OK).goOn) ∧
    (∀ (cq tag : BitVec 16) (x : Armed),
      s.tbs.armed.find? (fun x => x.req.h.part == h.part && x.req.h.cq == cq && x.req.h.tag == tag && decide (s.now < x.launch)) = some x →
        exec (.cancel h cq tag) s = .next ((u.abortArmed x).done r OK).goOn) ∧
    (∀ (cq tag : BitVec 16), (∀ x ∈ s.tbs.armed, x.req.h.part = h.part → x.req.h.cq = cq → x.req.h.tag = tag → x.launch ≤ s.now) →
      exec (.cancel h cq tag) s = .next (u.done r INVALID).goOn) ∧
    exec (.mark h) s = .next (u.done r OK).goOn

/-- A MARK with a launch time after TB by at most 2^47 ns, within its partition's quota of contexts, is armed and does
nothing yet; over the quota it completes NO_RESOURCE; with a launch time not after TB it completes LATE. Outside deep
sleep the next firing takes an armed descriptor that no other armed one precedes in launch time, then queue context
number, then submission order; TB is then at least its launch time, its context is free, and its descriptor acts as
launched on time. (goOn: queues whose waits have ended, R326.) (R55, R56, R57, R58,
spec/03_timebase_and_milestones.md) -/
def Obligations.MilestonesArmAndFireInOrder : Prop :=
  (∀ (s : State) (h : Hdr) (g : Nat), s.takes h g → plainHdr { h with launch := 0 } → h.launch ≠ 0 →
    let u := s.counted
    let r := s.reqOf h g
    let mine := (s.tbs.armed.filter fun x => x.req.h.part == h.part).length
    exec (.mark h) s =
      .next (if h.launch.toNat ≤ s.now then u.done r LATE
        else if 8 * (s.reg TBS_MS_QUOTA 0 0 / 256 ^ h.part % 256) ≤ mine then u.done r NO_RESOURCE
        else if s.now + 2 ^ 47 < h.launch.toNat then u.done r INVALID
        else u.setArmed (s.tbs.armed ++ [⟨r, .milestone 6 0 0, h.launch.toNat⟩])).goOn) ∧
  ∀ s : State, s.tbs.armed ≠ [] → s.pwr.deep < 5 →
    ∃ a ∈ s.tbs.armed,
      (∀ b ∈ s.tbs.armed, a.launch < b.launch ∨ (a.launch = b.launch ∧
        (a.req.g < b.req.g ∨ (a.req.g = b.req.g ∧ a.req.ord ≤ b.req.ord)))) ∧
      exec .milestoneFire s =
        .next (((s.reach a.launch).setArmed (s.tbs.armed.erase a)).act a.req a.body false).goOn

/-- For a receive lane whose domain is ON and whose polarity is not inverted: in IDLE ten bits change nothing; in HUNT
they lock the first of the ten alignments at which a comma stands, with one comma, entering CHECK, or stay in HUNT; in
CHECK an invalid group goes to HUNT and is counted once, as a disparity error or as a code violation, and the third
comma enters SYNC and is reported; in SYNC a group that leaves the bad count below 4 stays in SYNC, an invalid one
adding 1 to the bad count and each run of 16 valid ones subtracting 1 while it is positive, and the symbol it stands
for, or an invalid mark, goes to the lane's link unless it is K28.0; the bad count's 4 is a lock loss, counted and
reported, and the second K28.3 in a row goes to IDLE. In each state but IDLE the clock recovery's frequency estimate
lies within 300 ppm (a free value). Signal detect in IDLE enters HUNT (on a stream lane where it does not wake a
sleeping port); for a stream lane whose domain is not ON it is a need of that domain. Loss of signal in HUNT returns
to IDLE, and in SYNC it is a lock loss. An exit failure after a signal detect, in HUNT or CHECK of a stream lane,
counts one; without a signal detect that waits it changes nothing. A held exit of a transmitter starts when min_idle
has elapsed, with the preset and amp set and its burst of n symbols, and its link sends what is due. A degrade window
of any receive lane ends with its counts cleared, and one of a lane without equaliser values posts LANE_DEGRADED
reason 1 when its errors exceed the threshold, at most once per second (where the windows lie is log entry 22's
choice). (R69, R70, R71, R72, R78, R79, R80, R81, R82, R84, R85, spec/04_serial_lanes.md) -/
def Obligations.LaneSymbolsAndIdle : Prop :=
  (∀ (s : State) (l : Nat) (sym : RxGroup) (lms : List Int), s.rxOn l = true → s.fldI LNK_RX_CFG_rx_inv l = 0 →
    let x := s.lane l
    let g := groupAt (x.raw.getD 0) sym.code.toNat x.align
    let k := classify x.rdPos g
    (x.st = 0 → exec (.rxSymbol l sym lms) s = .next s) ∧
    (x.st ≠ 0 → ∃ u : State, ∃ r : LaneReport, ∃ y : Option Sym,
      exec (.rxSymbol l sym lms) s = .next (match y with
        | some z => (u.linkReport l r sym.arrival).linkSym l z sym.arrival
        | none => u.linkReport l r sym.arrival) ∧
      (u.lane l).raw = some sym.code.toNat ∧ (u.lane l).cdrFreq.natAbs ≤ 300 ∧
      (x.st = 1 → r = .none ∧ y = none ∧
        (∀ a : Nat, findComma x.raw sym.code.toNat = some a → (u.lane l).st = 2 ∧ (u.lane l).commas = 1 ∧ (u.lane l).align = a) ∧
        (findComma x.raw sym.code.toNat = none → (u.lane l).st = 1)) ∧
      (x.st = 2 → k ≠ 0 → r = .none ∧ y = none ∧ (u.lane l).st = 1 ∧
        (u.lane l).disp = (if k = 1 then min (2 ^ 32 - 1) (x.disp + 1) else x.disp) ∧
        (u.lane l).code = (if k = 2 then min (2 ^ 32 - 1) (x.code + 1) else x.code)) ∧
      (x.st = 2 → k = 0 → isComma g = true → x.commas = 2 → r = .sync ∧ y = none ∧ (u.lane l).st = 3 ∧ (u.lane l).bc = 0) ∧
      (x.st = 3 → k = 0 → isK283 g = true → x.k283 = 1 → r = .idle ∧ y = none ∧ (u.lane l).st = 0) ∧
      (x.st = 3 → k ≠ 0 → x.bc = 3 → r = .lost ∧ y = none ∧ (u.lane l).st = 1 ∧ (u.lane l).lock = min (2 ^ 32 - 1) (x.lock + 1)) ∧
      (x.st = 3 → ¬(isK283 g = true ∧ x.k283 = 1) → (k ≠ 0 → x.bc < 3) → x.bc < 4 →
        r = .none ∧ y = elastic (if k = 0 then decGroup x.rdPos g else .bad) ∧ (u.lane l).st = 3 ∧
        (u.lane l).bc = (if k ≠ 0 then x.bc + 1 else if x.good = 15 then x.bc - 1 else x.bc) ∧
        (u.lane l).good = (if k ≠ 0 ∨ x.good = 15 then 0 else x.good + 1)))) ∧
  (∀ (s : State) (l : Nat),
    (s.rxOn l = true →
      ((s.lane l).st = 0 → ¬(l < 64 ∧ l % 8 = 0 ∧ (s.port (l / 8)).st = 4) →
        exec (.signalDetect l) s = .next ((s.setLane l { s.lane l with sdAt := some s.now }).hunt l)) ∧
      ((s.lane l).st = 1 → exec (.signalLoss l) s = .next (s.setLane l (s.lane l).toIdle)) ∧
      ((s.lane l).st = 3 → ∃ u : State, (u.lane l).st = 1 ∧ (u.lane l).lock = min (2 ^ 32 - 1) ((s.lane l).lock + 1) ∧
        exec (.signalLoss l) s = .next (u.linkReport l .lost 0)) ∧
      (∀ t : Ns, (s.lane l).sdAt = some t → (s.lane l).st = 1 ∨ (s.lane l).st = 2 → l < 64 →
        exec (.exitFailure l) s =
          .next ((s.reach (t + 16 * s.fldI LNK_EI_CFG_exit_to l * s.symbolPs l / 1000)).setLane l
            { s.lane l with eix := min (2 ^ 32 - 1) ((s.lane l).eix + 1), sdAt := none }))) ∧
    ((s.lane l).sdAt = none → exec (.exitFailure l) s = .next s) ∧
    (l < 64 → s.domOn (laneDomain l) = false → s.pwr.deep = 0 → exec (.signalDetect l) s = .next (s.portNeed l))) ∧
  (∀ (s : State) (l n : Nat), isTx l = true → (s.lane l).txIdle = true → (s.lane l).txHeldExit = some n →
    let x := s.lane l
    let v := s.reach (x.txIdleSince + 10 * s.fldI LNK_EI_CFG_min_idle l)
    let u := v.txBurst l n v.now
    exec (.minIdleEnd l) s = .next (u.linkTalk l) ∧
      (u.lane l).txIdle = false ∧ (u.lane l).txHeldExit = none ∧
      (u.lane l).txPreset = (if 5 < s.fldI LNK_TX_CFG_preset l then 1 else s.fldI LNK_TX_CFG_preset l) ∧
      (u.lane l).txAmp = s.fldI LNK_TX_CFG_amp l ∧ (u.lane l).calCode = x.calNext.getD x.calCode ∧ (u.lane l).calNext = none ∧
      Out.idle l false n ∈ u.sent) ∧
  ∀ (s : State) (l : Nat), isRx l = true →
    let clear (t : State) : State := t.setLane l { t.lane l with winErr := 0, tapOff := [], ctleOff := false }
    (∃ u : State, exec (.degradeWindow l) s = .next (clear u) ∧ { u with regs := s.regs, lnk := s.lnk, hif := s.hif, fst := s.fst, sent := s.sent } = s) ∧
    ((s.lane l).eq = [] →
      ((s.lane l).winErr ≤ s.fld LNK_DEG_CFG_thr ∨ s.fld LNK_DEG_CFG_en = 0 → exec (.degradeWindow l) s = .next (clear s)) ∧
      (s.fld LNK_DEG_CFG_thr < (s.lane l).winErr → s.fld LNK_DEG_CFG_en = 1 → (s.lane l).degPost.getD 0 none = none →
        exec (.degradeWindow l) s =
          .next (clear ((s.setLane l { s.lane l with degPost := (s.lane l).degPost.set 0 (some s.now) }).raise 0x32 0x05 (l + 4096)))))

/-- The OWNER's write of 1 to LNK_CNT_CLR clears code, disp, lock and eix of the lane its LNK_SEL selects, and a write
of 1 to MSP_STREAM_CNT_CLR by the owner of the port of the context its MSP_STREAM_SEL selects clears that context's
five counters; set-up is otherwise unchanged (queues whose waits have ended go on, goOn, R326). (R84, R89, R121, R458,
spec/04_serial_lanes.md, spec/05_stream_ports.md) -/
def Obligations.LaneAndStreamCounterClears : Prop :=
  (∀ (s : State) (p : Nat), s.ownerUp p → s.fldP LNK_SEL_lane p < 264 →
    let l := s.fldP LNK_SEL_lane p
    exec (.lnkCounterClear p 1) s =
      .next (s.setLane l { s.lane l with code := 0, disp := 0, lock := 0, eix := 0 }).goOn) ∧
  ∀ (s : State) (p : Nat), s.hostUp p →
    let c := s.fldP MSP_STREAM_SEL_ctx p
    s.portOwner (c / 128) = p →
    exec (.streamCounterClear p 1) s =
      .next (s.setStream c { s.stream c with cDone := 0, cInc := 0, cDrop := 0, cViol := 0, cCrc := 0 }).goOn

/-- The OWNER's write that sets a port's en asks for its domain and starts the port with the width and rate written;
one that clears it puts the port to OFF. Restore sets the configured width as the active one and, in UP, is a loss of
cause 3, in TRAIN or DESKEW a new training. A block (K28.1, sequence byte, 62 symbols after the elastic buffer) of a
lane in SYNC of a port in TRAIN, another active lane of which is not in LOCK, advances that lane's block lock alone:
from HUNT to CHECK, in CHECK to LOCK at the 32nd valid header, back to HUNT at an invalid one, and out of LOCK at 8
invalid among the last 64. In UP with one active lane, in LOCK, the block's 62 symbols go on in order as payload,
control symbols without a use as invalid. A deskew comparison with a skew up to 48 symbols puts the port in UP; above,
it counts a failure and waits, the first after a change of width being reported with cause 2 (the lane named: log
entry 21's choice). With fallback at 1, a port in TRAIN narrows to the widest smaller set of lanes all in LOCK, the
lowest of those, and deskews on it. A wake that is not UP in time is a loss of cause 1. The status timer sends STATUS
with the lanes in LOCK, the active width and first lane, up, and the TB at which its SOP leaves, on the reverse lane
if it is out of electrical idle. (goOn after BAR0 writes: R326.) (R90, R91, R93, R95, R96, R97, R98, R99, R114, R119,
spec/05_stream_ports.md) -/
def Obligations.PortStates : Prop :=
  (∀ (s : State) (p k : Nat) (v : Word), s.ownerUp p → k < 8 → v.toNat &&& 0x00FF8CF1 = v.toNat →
    let w := s.setReg (MSP_PORT_CFG k) 0 0 v.toNat
    (s.fld (MSP_PORT_CFG_en k) = 0 → v.getLsbD 0 = true →
      s.reg (MSP_PORT_CFG k) 0 0 &&& 0x00FF8CF1 = s.reg (MSP_PORT_CFG k) 0 0 →
      exec (.portEnable p k v) s = .next ((w.needNow (6 + k)).portStart k).goOn) ∧
    (s.fld (MSP_PORT_CFG_en k) = 1 → v.getLsbD 0 = false →
      s.reg (MSP_PORT_CFG k) 0 0 &&& 0x00FF8CF1 = s.reg (MSP_PORT_CFG k) 0 0 →
      exec (.portDisable p k v) s = .next (w.portOff k).goOn) ∧
    (let x := s.port k
     let wide : Port := { x with actW := x.width, actFirst := 0, wchg := x.wchg || x.actW != x.width }
     exec (.portRestore p k 1) s =
       .next (if x.st = 0 then s
         else if x.st = 3 then ((s.endPacket k true false).setPort k { wide with packet := none }).portLoss k 0 3
         else if x.st = 4 then s.setPort k wide else (s.setPort k wide).portTrain k).goOn)) ∧
  (∀ (s : State) (b : Block) (q : Byte) (pay : List Sym), b.port < 8 → b.lane < 8 → s.domOn (6 + b.port) = true →
    (s.lane (8 * b.port + b.lane)).st = 3 → b.syms = .ctl k281 :: .data q :: pay → pay.length = 62 → Sym.ctl k280 ∉ pay →
    let p := b.port
    let x := s.port p
    let y := x.lane b.lane
    (x.st = 1 → x.active.any (fun j => j != b.lane && !x.locked j) = true → y.st = 0 ∨ y.pos = 0 → y.expect < 256 → y.st ≤ 2 →
      ∃ t : State, exec (.block b) s = .next t ∧ (t.port p).st = 1 ∧ (∀ j ≠ b.lane, (t.port p).lane j = x.lane j) ∧
        let z := (t.port p).lane b.lane
        (y.st = 0 → z.st = 1 ∧ z.run = 1 ∧ z.expect = (q.toNat + 1) % 256) ∧
        (y.st = 1 → q.toNat = y.expect → z.st = (if y.run = 31 then 2 else 1) ∧ z.run = y.run + 1 ∧
          z.expect = (q.toNat + 1) % 256 ∧ z.seq = q.toNat ∧ z.arrival = b.arrival) ∧
        (y.st = 1 → q.toNat ≠ y.expect → Sym.ctl k281 ∉ pay → z.st = 0) ∧
        (y.st = 2 → q.toNat ≠ y.expect → Sym.ctl k281 ∉ pay →
          z.st = if 8 ≤ (((false :: y.hist).take 64).filter (!·)).length then 0 else 2)) ∧
    (x.st = 3 → x.active = [b.lane] → x.idleLanes = [] → x.statusArg = some x.arg → y.st = 2 → y.pos = 0 → y.rows = [] →
      q.toNat = y.expect → (((true :: y.hist).take 64).filter (!·)).length < 8 →
      exec (.block b) s =
        .next (((pay.map payloadSym).foldl (fun u v => u.paySym p v) (s.setPort p (x.setLane b.lane { y with
          expect := (y.expect + 1) % 256, seq := y.expect, arrival := b.arrival, hist := (true :: y.hist).take 64, pos := 0
          hdrK := false, hdrAt := b.arrival, pay := [], rows := [] }))).portTalk p))) ∧
  (∀ (s : State) (p : Nat), (s.port p).st = 2 → (s.port p).waiting = true →
    let x := s.port p
    let u := s.setPort p { x with skew := min 255 x.skewNow }
    let f := s.setPort p { x with
      skew := min 255 x.skewNow, deskewFail := min 255 (x.deskewFail + 1), waiting := true, wchg := false }
    (x.skewNow ≤ 48 → exec (.deskewRetry p) s = .next ((u.portUp p).portTalk p)) ∧
    (48 < x.skewNow → exec (.deskewRetry p) s =
      .next ((if x.wchg = true then f.postPort p 0x30 (8 * p + x.actFirst + 8192) else f).portTalk p))) ∧
  (∀ (s : State) (p : Nat), p < 8 → (s.port p).st = 1 → s.fld (MSP_PORT_CFG_fallback p) = 1 →
    let x := s.port p
    let ok (w f : Nat) : Prop := w < x.actW ∧ f % 2 ^ w = 0 ∧ f + 2 ^ w ≤ 2 ^ x.width ∧ ∀ i < 2 ^ w, x.locked (f + i) = true
    ∀ w f : Nat, x.width ≤ 3 → ok w f → (∀ w' f', ok w' f' → w' < w ∨ (w' = w ∧ f ≤ f')) →
      exec (.fallbackTimeout p) s =
        .next ((((s.reach (x.trainSince + 1000000 * max 1 (s.fld (MSP_PORT_CFG_fb_to p)))).setPort p
          { x with actW := w, actFirst := f, wchg := true }).tryDeskew p).portTalk p)) ∧
  (∀ (s : State) (p : Nat) (t : Ns), (s.port p).wokeAt = some t → (s.port p).st = 1 ∨ (s.port p).st = 2 →
    ∃ j ∈ (s.port p).active, exec (.sleepExitTimeout p) s =
      .next (((s.reach (t + 1000000)).setPort p { s.port p with wokeAt := none }).portLoss p j 1)) ∧
  ∀ (s : State) (p : Nat), 1 ≤ (s.port p).st → (s.port p).st ≤ 3 → s.revOn p = true →
    ∃ locks < 256, (∀ j < 8, locks.testBit j = (s.port p).locked j) ∧
      let arg := locks + 256 * (s.port p).actW + 1024 * (s.port p).actFirst + (if (s.port p).st = 3 then 8192 else 0)
      let v := s.reach ((s.port p).statusAt + 10000)
      let u := v.setPort p { s.port p with statusAt := v.now, statusArg := some arg }
      let sop := (u.revNext p).2
      exec (.mspStatusTimer p) s =
        .next ((u.emit (.mspStatus p arg (BitVec.ofNat 64 sop))).revPacket p 9 0 arg false (leBytes 8 sop))

/-- For a whole forward packet with a readable header of a bound stream, on a port in UP, whose need is within the
stream's avail and which waits behind none: a PIXEL in a frame at the expected position, with the body of n samples
and a correct CRC, is written to its place and moves the expected position by n samples, to the next line at the
line's end; a FRAME_START between frames of a line-store stream, or of a layer stream whose slot is being written with
that frame number by streams other than it, opens the frame at line 0; a FRAME_END of the frame number begun, with
nothing spoiled and the last line reached, ends a line-store frame complete and counts it; META of a line-store stream
is discarded uncounted and its credits are returned. In each case the sequence number and the credits consumed advance
by the packet; a PIXEL's data stays in the buffer until written out. A packet whose need exceeds avail is dropped,
counted as a violation once with its flag, and its need is added to the credit limit. (R104, R108, R109, R110, R111,
R112, R118, R125, spec/05_stream_ports.md) -/
def Obligations.StreamPackets : Prop :=
  ∀ (s : State) (k : Packet), k.port < 8 → (s.port k.port).st = 3 → pktHdrOk k = true → pktWhole k = true →
    (s.stream (pktCtx k)).bound = true → (s.stream (pktCtx k)).queue = [] →
    let c := pktCtx k
    let x := s.stream c
    let need := (pktLen k + 511) / 512
    let gap := x.inFrame && pktSeq k != (x.seq + 1) % 16
    let line := pktArg k % 16384
    let x0 := pktArg k / 16384 * 16
    (need ≤ x.avail →
      (∀ n : Nat, pktType k = 1 → x.inFrame = true → line = x.line → x0 = x.x → line < x.ph → x0 < x.pw →
        segSamples x.fmt.sample x.pw x0 (pktLen k) = some n → k.symBad = false → crc32c k.body = leNat k.crc →
        exec (.pixel k) s =
          .next ((s.setStream c { x with
            seq := pktSeq k, cc := x.cc + BitVec.ofNat 24 need, bad := x.bad || gap, buffered := x.buffered + need
            line := if x0 + n = x.pw then line + 1 else line, x := if x0 + n = x.pw then 0 else x0 + n }).writeSegment
              c line x0 n k.body)) ∧
      (pktType k = 2 → x.inFrame = false → x.rebind = none → x.b.target = 2 →
        exec (.frameStart k) s =
          .next (s.setStream c { x with
            seq := pktSeq k, inFrame := true, frameNo := pktArg k, bad := false, line := 0, x := 0 })) ∧
      (∀ j : Nat, pktType k = 2 → x.inFrame = false → x.rebind = none → x.b.target = 1 → s.slotIn x.b.layer 1 = some j →
        (s.slot x.b.layer j).frame = pktArg k → c ∉ (s.slot x.b.layer j).doneBy →
        exec (.frameStart k) s =
          .next (s.setStream c { x with
            seq := pktSeq k, inFrame := true, frameNo := pktArg k, bad := false, lost := false, line := 0, x := 0 })) ∧
      (pktType k = 3 → x.inFrame = true → x.bad = false → gap = false → pktArg k = x.frameNo → x.ph ≤ x.line → x.b.target = 2 →
        exec (.frameEnd k) s =
          .next (s.setStream c { x with
            seq := pktSeq k, inFrame := false, lost := false, lastFrame := x.frameNo, lastDone := true
            cDone := min (2 ^ 32 - 1) (x.cDone + 1) })) ∧
      (pktType k = 4 → x.b.target = 2 →
        exec (.metaPacket k) s =
          .next ((s.setStream c { x with
            seq := pktSeq k, cc := x.cc + BitVec.ofNat 24 need, bad := x.bad || gap }).accrue c need))) ∧
    (x.avail < need → pktType k = 1 → x.violFrame = some s.frame →
      exec (.pixel k) s =
        .next (((s.setStream c { x with
          seq := pktSeq k, cc := x.cc + BitVec.ofNat 24 need, bad := x.bad || gap, cViol := min (2 ^ 32 - 1) (x.cViol + 1)
          violFrame := some s.frame }).setFldI MSP_STREAM_FLAGS_viol c 1).accrue c need))

/-- Data written out of a bound stream's buffer leaves the buffer, at most what waits neither for a slot nor, on the
line-store stream, for the front end, and its credits are added to the limit (accrue), after which a due initial grant
may be sent; the end of batch_time sends a CREDIT with the whole count on the reverse lane and nothing is accrued any
more, if the port is UP and that lane out of electrical idle, no grant is due and nothing withholds credits.
STREAM_BIND completes with the first of DENIED, NOT_READY, INVALID, NO_RESOURCE that applies (bindStatus, in R107's
order) and else takes effect; STREAM_UNBIND of a context of a port that the partition owns takes effect and completes
OK, above 1,023 it completes INVALID. (goOn: R326.) (R107, R111, R113, spec/05_stream_ports.md) -/
def Obligations.CreditsAndBinds : Prop :=
  (∀ (s : State) (c n : Nat), (s.stream c).bound = true → n + s.waitingCredits c ≤ (s.stream c).buffered →
    exec (.streamDataWritten c n) s =
      .next (((s.setStream c { s.stream c with buffered := (s.stream c).buffered - n }).accrue c n).tryGrant c)) ∧
  (∀ (s : State) (c : Nat), (s.stream c).bound = true → (s.stream c).accrued ≠ 0 → (s.stream c).gated = false →
    (s.stream c).held = false → (s.stream c).slotHeld = false → (s.stream c).grantDue = false → (s.port (c / 128)).st = 3 →
    s.revOn (c / 128) = true →
    exec (.creditBatchTime c) s =
      .next ((((s.reach ((s.stream c).accSince + 100 * max 1 (s.fld MSP_CREDIT_CFG_batch_time))).setStream c
        { s.stream c with accrued := 0 }).emit (.credit (c / 128) (c % 128) false (s.stream c).cl)).revPacket (c / 128) 8 (c % 128)
          (s.stream c).cl.toNat false [])) ∧
  ∀ (s : State) (h : Hdr) (g : Nat), s.takes h g → plainHdr h →
    let u := s.counted
    let r := s.reqOf h g
    (∀ b : BindArgs, b.target ≠ 0 → b.ctx < 1024 → s.portOwner (b.ctx / 128) = h.part →
      exec (.streamBind h b) s =
        .next (if b.target = 1 ∧ b.layer ≤ 12 ∧ s.ownsSlots h.part b.layer = false then u.done r DENIED
          else if b.target = 2 ∧ s.mode ≠ 5 then u.done r NOT_READY
          else if bindRange b = false ∨ s.bindFits b = false ∨
              ((s.stream b.ctx).bound = true ∧ (s.stream b.ctx).b.creditInit ≠ b.creditInit) then u.done r INVALID
          else if 256 < s.creditSum b.ctx + b.creditInit then u.done r NO_RESOURCE
          else (u.bind b).done r OK).goOn) ∧
    (∀ b : BindArgs, b.target ≠ 0 → b.ctx < 1024 → s.portOwner (b.ctx / 128) ≠ h.part →
      exec (.streamBind h b) s = .next (u.done r DENIED).goOn) ∧
    (∀ c : Nat, c < 1024 → s.portOwner (c / 128) = h.part →
      exec (.streamUnbind h c) s = .next ((u.unbind c).done r OK).goOn) ∧
    (∀ c : Nat, 1024 ≤ c → exec (.streamUnbind h c) s = .next (u.done r INVALID).goOn)

/-- Dispatched without fence or launch time: the OWNER's loads of the mode book, the post-blend LUT, the NTC table, a
driver set-up list and a rate set, the layer owner's loads of a colour table or scaler coefficients, and SAFETY's
validation of the safe image, each with its table's length and data, wait under a new serial number for TABLE_READY; a
rate set replaces one that waits, which completes SUPERSEDED, and loading reads 0 until the new one is ready.
TABLE_READY of a post-blend LUT whose CRC holds marks it ready now; one whose CRC fails is dropped and completes
INVALID. (goOn: R326.) (R26, R29, R137, R153, R200, R283, R328, R493, spec/14_host_queues.md) -/
def Obligations.TableLoads : Prop :=
  (∀ (s : State) (h : Hdr) (g : Nat), s.takes h g → plainHdr h →
    let u := s.counted
    let staged (t : State) (code : Nat) (d : List Byte) : Host.Outcome State Fault Refusal :=
      .next ({ t with scn := { t.scn with
        serial := s.scn.serial + 1
        tables := t.scn.tables ++ [{ id := s.scn.serial, req := s.reqOf h g, code := code, data := d }] } } : State).goOn
    (h.part = s.owner →
      exec (.modeBookLoad h) s = staged u 0x10 [] ∧
      (∀ d : List Byte, exec (.postBlendLutLoad h 24580 (some d)) s = staged u 0x120 d) ∧
      (∀ d : List Byte, exec (.ntcTableLoad h 72 (some d)) s = staged u 0x310 d) ∧
      (∀ (n : Nat) (d : List Byte), 12 ≤ n → n ≤ 1032 → n % 4 = 0 →
        exec (.driverSetupListLoad h n (some d)) s = staged u 0x400 d) ∧
      (∀ (k : Nat) (d : List Byte), k ≤ 3 →
        let old := s.scn.tables.filter fun t => decide (0x300 ≤ t.code) && decide (t.code ≤ 0x303)
        let rest := s.scn.tables.filter fun t => !(decide (0x300 ≤ t.code) && decide (t.code ≤ 0x303))
        exec (.rateSetLoad h k 156836 (some d)) s =
          staged ((({ u with scn := { u.scn with tables := rest } }).doneAll (old.map Table.req) SUPERSEDED).setFld
            ODV_STATUS_loading 0) (0x300 + k) d)) ∧
    (∀ (l : Nat) (d : List Byte), l ≤ 12 → s.ownsLayer h.part l = true →
      exec (.colourTableLoad h l 6212 (some d)) s = staged u (0x100 + l) d) ∧
    (∀ (v : Nat) (d : List Byte), v ≤ 3 → s.ownsLayer h.part v = true →
      exec (.scalerCoeffLoad h v 1796 (some d)) s = staged u (0x110 + v) d) ∧
    (s.isSafety h.part = true → exec (.safeImageValidation h) s = staged u 0x121 [])) ∧
  ∀ (s : State) (id : Nat) (t : Table), (s.scn.tables.find? fun t => t.id == id && t.readyAt.isNone) = some t → t.code = 0x120 →
    (crcGood t.data 24580 = true →
      exec (.tableReady id) s = .next { s with scn := { s.scn with tables :=
        (s.scn.tables.map fun x => if x.id = id then { x with data := t.data, readyAt := some s.now } else x) } }) ∧
    (crcGood t.data 24580 = false →
      exec (.tableReady id) s =
        .next ((({ s with scn := { s.scn with tables := (s.scn.tables.filter (·.id != id)) } } : State)).done t.req INVALID))

/-- The OWNER's loads 0x0200 to 0x0204, dispatched without fence or launch time with the right length: where an area
that the load names does not lie in its region the load completes NOT_READY (and with the store up the miss is
flagged); where data cannot be read or fails its check it completes with that status; else the build restarts from row
0 with this load as the one that completes with it, and a load whose build ran completes SUPERSEDED with its flag. The
rebuild reads nothing; the vintage tables take effect for the build when their CRC holds and their zero bytes are
zero. (goOn: R326.) (R191, R192, R193, R328, R354, spec/08_compensation_and_dither.md) -/
def Obligations.CompensationLoads : Prop :=
  ∀ (s : State) (h : Hdr) (g : Nat), s.takes h g → plainHdr h → h.part = s.owner →
    let u := s.counted
    let r := s.reqOf h g
    let build (t : State) : State :=
      let b := (({ t with cmp := { t.cmp with build := some r, buildDone := false } }).setFld CMP_STATUS_building 1).setFld
        CMP_STATUS_build_row 0
      match t.cmp.build with
      | some o => (b.setFld CMP_FLAGS_superseded 1).done o SUPERSEDED
      | none => b
    let load (code len : Nat) (d : Option (List Byte)) : Host.Outcome State Fault Refusal :=
      .next (if s.cmpAreas code = false then (if s.storeUp then u.regionMiss else u).done r NOT_READY
        else if (u.cmpRead code len d).1 ≠ OK then u.done r (u.cmpRead code len d).1
        else build (u.cmpRead code len d).2).goOn
    exec (.demuraMapLoad h) s = load 0x200 0 none ∧
    exec (.demuraCodecLoad h) s = load 0x201 0 none ∧
    exec (.vintageMapRestore h) s = load 0x202 0 none ∧
    (∀ d : Option (List Byte), exec (.vintageTablesLoad h 1412 d) s = load 0x203 1412 d) ∧
    (s.cmpAreas 0x204 = true → exec (.rebuild h) s = .next (build u).goOn) ∧
    (∀ d : List Byte, s.cmpAreas 0x203 = true → crcGood d 1412 = true → leAt d 1402 6 = 0 →
      exec (.vintageTablesLoad h 1412 (some d)) s =
        .next (build { u with cmp := { u.cmp with tabs := some (vintTabsOf d), newTabs := true } }).goOn)

/-- A FLIP of the layer's owner with fields in range, not enabling S while no partition holds the SAFETY role,
dispatched without a chain or a launch time, restarts the heartbeat if it comes from SAFETY, and then waits in the
front end from this TB, or completes NO_RESOURCE when 16 FLIPs wait on its layer; with CHAIN set it joins its SQ's
open chain instead. When the heartbeat timer runs out with hb_en 1 and S enabled, SAFETY_HEARTBEAT is posted to SAFETY
and the OWNER with hb_win in bits 9:0 and bit 24 set, it is logged, and the safe image is due with reason 3. (goOn:
R326.) (R123, R141, R142, R146, R147, R150, R152, spec/06_layers_and_composition.md) -/
def Obligations.FlipsAndHeartbeat : Prop :=
  (∀ (s : State) (h : Hdr) (g : Nat) (f : FlipArgs), s.takes h g → s.ownsLayer h.part f.layer = true →
    ¬(f.layer = 12 ∧ f.enable = 1 ∧ s.safetyPart = []) → f.layer ≤ 12 → f.enable ≤ 2 → f.select < 2 ^ 24 → f.galpha < 256 →
    f.fenceTo < 256 → (f.layer ≠ 12 → f.crc = 0) →
    let u := if s.isSafety h.part = true then s.counted.restartHb else s.counted
    let r := s.reqOf h g
    (plainHdr h →
      exec (.flip h f) s =
        .next (if 16 ≤ s.flipsOn f.layer then u.done r NO_RESOURCE
          else { u with lyr := { u.lyr with flips := u.lyr.flips ++
            [{ members := [(r, f)], chain := false, arrived := s.now, fenceSlips := [0] }] } }).goOn) ∧
    (plainHdr { h with flags := 0 } → h.flags = 0x10 →
      exec (.flip h f) s =
        .next ({ u with lyr := { u.lyr with open_ :=
          (s.lyr.open_.filter fun c : Nat × Nat × List (Req × FlipArgs) => !(c.1 == h.part && c.2.1 == h.sq)) ++ [(h.part, h.sq, [(r, f)])] } }).goOn)) ∧
  ∀ (s : State) (t : Ns), s.lyr.hbAt = some t → s.fld LYR_S_CTRL_hb_en = 1 → (s.layer 12).en = true →
    let u : State := { s.reach t with lyr := { s.lyr with hbAt := none } }
    let arg := s.fld LYR_S_CTRL_hb_win + 2 ^ 24
    let v := (u.post 0x81 0x06 arg (s.safetyPart ++ [s.owner])).log 0x81 0x06 arg 0
    exec .heartbeatExpiry s = .next { v with lyr := { v.lyr with safeDue := some 3 } }

/-- A COMMIT dispatched without fence or launch time completes DATA_ERROR if its block could not be read, else DENIED
if an entry fails the scope check, else INVALID if the block breaks its layout, else it waits under a new serial
number; COMMIT_STAGED notes when both halves hold it. A MODE_SWITCH of the OWNER to a mode 0 to 10, with no switch
waiting or committed and not in DISCHARGE, completes INVALID for a transition that R33's table does not mark,
NOT_READY where R24, R34 or R38 says so, and else is the pending switch and shown in MOD_STATUS. (goOn: R326.) (R32,
R33, R34, R35, R166, R167, spec/02_operating_modes.md, spec/07_scanout_and_raster.md) -/
def Obligations.CommitsAndSwitches : Prop :=
  (∀ (s : State) (h : Hdr) (g len : Nat), s.takes h g → plainHdr h →
    let u := s.counted
    let r := s.reqOf h g
    exec (.commit h len none) s = .next (u.done r DATA_ERROR).goOn ∧
    ∀ b : List Byte,
      let es := (blockEntries b).map (·.1)
      exec (.commit h len (some b)) s =
        .next (if ∃ e ∈ es, s.scopeOk h.part e = false then u.done r DENIED
          else if blockOk b len = false then u.done r INVALID
          else { u with scn := { u.scn with
            serial := s.scn.serial + 1,
            commits := s.scn.commits ++ [{ id := s.scn.serial, req := r, entries := es, arrived := s.now }] } }).goOn) ∧
  (∀ (s : State) (id : Nat),
    exec (.commitStaged id) s = .next { s with scn := { s.scn with commits := (s.scn.commits.map fun c =>
      if c.id = id ∧ c.stagedAt.isNone = true then { c with stagedAt := some s.now } else c) } }) ∧
  ∀ (s : State) (h : Hdr) (g target : Nat), s.takes h g → plainHdr h → h.part = s.owner → target ≤ 10 → s.mod.pend = none →
    s.mod.comm = none → s.mod.autoExit = false → s.mode ≤ 10 →
    let u := s.counted
    let r := s.reqOf h g
    let row : List Nat :=
      if s.mode ≤ 3 then [0, 1, 2, 3, 4, 5, 6, 7, 8, 9, 10] else if s.mode = 4 then [0, 1, 2, 3, 4, 10]
      else if s.mode = 5 then [0, 1, 2, 3, 5, 7, 8, 10] else if s.mode = 6 then [0, 1, 2, 3, 6, 7, 8, 10]
      else if s.mode ≤ 8 then [0, 1, 2, 3, 5, 6, 7, 8, 9, 10] else if s.mode = 9 then [0, 1, 2, 3, 9, 10]
      else [0, 1, 2, 3, 5, 6, 9, 10]
    exec (.modeSwitch h target) s =
      .next (if target ∉ row then u.done r INVALID
        else if s.switchNotReady s.mode target = true then u.done r NOT_READY
        else ({ u with mod := { u.mod with pend := some { req := some r, target := target, arrived := s.now } } }.setFld
          MOD_STATUS_pending 1).setFld MOD_STATUS_pending_mode target).goOn

/-- The OWNER's write that sets SCN_CTRL.run while the raster is stopped sets running and lets frame 0 wait for TB +
10 us, or, with lock 1 or 2 and the DPLL LOCKED, for the first target instant from there on. One that clears run is
ignored with SCN_FLAGS.refused outside BRINGUP; in BRINGUP it stops the raster at the end of the frame in progress. A
line start with the raster stopped does nothing; the start of the next line within a frame sets TB to at least that
line's start, advances the line counter and drives that line; the start of frame 0 takes the held actions, empties the
line stores and drives line 0; what a forward step of TB has passed then fires (R57). (goOn: R326.) (R157, R159, R160,
spec/07_scanout_and_raster.md) -/
def Obligations.RasterRunsAndStops : Prop :=
  (∀ (s : State) (p : Nat), s.ownerUp p → s.reg SCN_CTRL 0 0 = 0 → s.running = false →
    let x := 256 * (s.now + 10000)
    let lk := s.timing.lock != 0 && s.fld TBS_CTRL_src == 1 && s.fld TBS_DPLL_STATUS_state == 2 && s.tbs.refAt.isSome
    let u := s.setFld SCN_CTRL_run 1
    exec (.scnRun p 1) s =
      .next (({ u with scn := { u.scn with starting := some (if lk then s.targetFrom s.timing x else x), startLocked := lk } }).setFld
        SCN_STATUS_running 1).goOn) ∧
  (∀ (s : State) (p : Nat), s.ownerUp p → s.fld SCN_CTRL_run = 1 →
    (s.mode ≠ 10 → exec (.scnStop p 0) s = .next (s.setFld SCN_FLAGS_refused 1).goOn) ∧
    (s.mode = 10 → s.running = true → s.scn.starting = none →
      exec (.scnStop p 0) s =
        .next ({ s.setFld SCN_CTRL_run 0 with scn := { s.scn with stopping := true } }).goOn)) ∧
  ∀ (s : State) (e : LineEnv),
    (s.running = false → s.tbs.stepped = false → exec (.lineStart e) s = .next s) ∧
    (s.running = true → s.scn.starting = none → s.scn.last = false →
      let t := s.reach (rasterTb s.scn.nextAt)
      exec (.lineStart e) s =
        .next ((({ t with scn := { t.scn with idx := s.scn.idx + 1, lineAt := s.scn.nextAt } }).replan).line e).stepFires) ∧
    (∀ x : Nat, s.running = true → s.scn.starting = some x → exec (.lineStart e) s = .next (((s.firstFrame x).frontReset x).line e).stepFires)

/-- A REGION_UPDATE dispatched without fence or launch time completes NOT_READY in modes 9 to 11, else INVALID for
values outside R211's table or a patch in modes 0 to 6, else DENIED for a patch outside the partition's LAYER regions
or a rectangle that meets S's while S is enabled and the issuer is not SAFETY, else NO_RESOURCE with 8,192 contexts in
use; else it waits in the first free context. The OWNER's write of 1 to ODV_HIST_INVAL is noted for the frame boundary
at which it acts. An NTC conversion while no calibration trims the converters shows its code, held to 12 bits, in its
register. (goOn: R326.) (R199, R206, R207, R211, R212, spec/09_overdrive_waveforms.md) -/
def Obligations.OverdriveAndUpdates : Prop :=
  (∀ (s : State) (h : Hdr) (g : Nat) (a : RegionArgs), s.takes h g → plainHdr h →
    let u := s.counted
    let r := s.reqOf h g
    let id := ((List.range 8192).find? fun i => !s.odv.regions.any fun x => x.id == i).getD 0
    let fits := 1 ≤ a.nstrips ∧ a.strip0 + a.nstrips ≤ 512 ∧ 1 ≤ a.nrows ∧ a.row0 + a.nrows ≤ 360 ∧
      (a.patch ≠ 0 → a.patch < 2 ^ 48 ∧ (a.format = 3 ∨ a.format = 5) ∧ a.pitch % 64 = 0 ∧
        (fmtD a.format).pitch (30 * a.nstrips) ≤ a.pitch)
    exec (.regionUpdate h a) s =
      .next (if 9 ≤ s.mode then u.done r NOT_READY
        else if ¬fits ∨ (a.patch ≠ 0 ∧ s.mode ≤ 6) then u.done r INVALID
        else if (a.patch ≠ 0 ∧ s.inOwn 1 h.part a.patch (regionPatch a) = false) ∨
            ((s.layer 12).en = true ∧ s.isSafety h.part = false ∧ s.meetsS a = true) then u.done r DENIED
        else if 8192 ≤ s.odv.regions.length then u.done r NO_RESOURCE
        else ({ u with odv := { u.odv with regions := s.odv.regions ++ [{ id := id, req := r, a := a, arrived := s.now }] } } : State).setFld
          ODV_RU_ACTIVE_running (s.odv.regions.length + 1)).goOn) ∧
  (∀ (s : State) (p : Nat), s.ownerUp p →
    exec (.histInvalidate p 1) s = .next ({ s with odv := { s.odv with histInval := true } } : State).goOn) ∧
  ∀ (s : State) (k code : Nat), k < 8 → s.trimming = false → s.odv.ntcTab = none →
    exec (.ntcMeasure k code) s = .next (s.setFld (ODV_NTC_TEMP_code k) (min 4095 code))

/-- Dispatched without fence or launch time by the partition that owns every named cluster: an ENGINE_JOB completes
NOT_READY in DISCHARGE or with the store down, DENIED where its image header or argument block does not lie in a
region of the partition, and, where every test of R233 holds, takes the lowest free of the 1,024 contexts with the
image and argument read (units reconstructed for it counted); under policy OPEN (fused) it is ready from this TB, else
its verification waits behind the others. A stop with a non-empty mask takes a context and is ready at once; with an
empty mask it is INVALID. The oldest verification that ends makes its job ready, SEC_IMG_LAST saying so, or frees the
context with DENIED, the reason and SEC_FLAGS.img_denied. (goOn: R326.) (R232, R233, R234, R446, R447, R453,
spec/10_pixel_engines.md) -/
def Obligations.EngineJobs : Prop :=
  (∀ (s : State) (h : Hdr) (g : Nat) (j : JobArgs), s.takes h g → plainHdr h → j.image ≠ 0 → j.image < 2 ^ 48 → j.arg < 2 ^ 48 →
    (∀ c < 32, j.clusters.getLsbD c = true → s.clOwner c = h.part) →
    let u := s.counted
    let r := s.reqOf h g
    (s.mode = 11 ∨ s.storeUp = false → exec (.engineJob h j) s = .next (u.done r NOT_READY).goOn) ∧
    (s.mode ≠ 11 → s.storeUp = true →
      s.inOwn 7 h.part j.image 64 = false ∨ (j.argLen ≠ 0 ∧ s.inOwned h.part j.arg j.argLen = false) →
      exec (.engineJob h j) s = .next (u.done r DENIED).goOn) ∧
    (s.jobStatus h.part j = OK →
      let x : Job := { id := s.freeJobId, req := r, a := j, argData := s.bytes j.arg j.argLen,
                       image := imageOf (s.bytes j.image (headerTotal (s.bytes j.image 64))) }
      let v := (u.countRecon j.image (headerTotal (s.bytes j.image 64))).countRecon j.arg j.argLen
      exec (.engineJob h j) s =
        .next (if imgPolicy = 0 then (v.imgLast h.part 3 0 h.tag.toNat).addJob { x with readyAt := some s.now }
          else { v.addJob x with sec := { s.sec with verify := s.sec.verify ++ [x.id] } }).goOn)) ∧
  (∀ (s : State) (h : Hdr) (g : Nat) (m : Word), s.takes h g → plainHdr h → s.mode ≠ 11 →
    (∀ c < 32, m.getLsbD c = true → s.clOwner c = h.part) →
    let u := s.counted
    let r := s.reqOf h g
    exec (.engineJobStop h m) s =
      .next (if m = 0 then u.done r INVALID
        else if 1024 ≤ s.eng.jobs.length then u.done r NO_RESOURCE
        else u.addJob { id := s.freeJobId, req := r, a := ⟨0, m, 0, 0, 0⟩, image := noImage, argData := [], readyAt := some s.now,
                        stop := true }).goOn) ∧
  ∀ (s : State) (id : Nat) (ids : List Nat) (j : Job), s.sec.verify = id :: ids → s.eng.jobs.find? (·.id == id) = some j →
    let u : State := { s with sec := { s.sec with verify := ids } }
    let why := s.sigReason (s.bytes j.a.image j.image.total) j.image.sigLen
    let p := j.req.h.part
    let tag := j.req.h.tag.toNat
    exec .imageVerified s =
      .next (if why = 0 then
          (u.imgLast p 1 0 tag).mapJobs fun k => if k.id = id then { k with sealed_ := true, readyAt := some s.now } else k
        else ((((u.imgLast p 2 why tag).setFld SEC_FLAGS_img_denied 1).setJobs (s.eng.jobs.filter (·.id != id))).showJobs).done j.req DENIED)

/-- The slot that the raster gives (active for the clusters its line is for) starts on cluster c: the cluster holds
it, every other cluster and the engines of other clusters are unchanged; where the cluster is not ON, or holds no job,
none passes to it and no spare resumes, nothing but the slot changes. The end of a job's load puts the image's code
and data and the argument block, with registers at 0, into each engine of a cluster without bypass or takeover, runs
it from entry, and touches no other cluster's engine. The end of a drain makes the copy that was not the newest the
newest whole one, with the milestone flags set after it was taken kept apart. A fetched unit that is due lies in its
ring and counts as there; another changes nothing. The oldest posted write-back that keeps its shape and may be
written is written, and its count advances. A partition's read of its own cluster's conflict counter of a master
returns the low half, keeps the high half for ENG_CONF_HI and changes no other counter, nor that one if the master has
requested nothing (how much it has grown else is free); for another's cluster or no master it returns 0 and the high
half reads 0. (goOn: R326.) (R224, R228, R230, R234, R235, R243, spec/10_pixel_engines.md) -/
def Obligations.SlotsOfClusters : Prop :=
  (∀ (s : State) (c : Nat), c < 32 →
    let x : LineSlotInfo := { s.eng.next with active := s.eng.next.active && s.eng.carry.getLsbD c }
    (s.cl c).slot ≠ x →
    (∃ t : State, exec (.lineSlot c) s = .next t ∧ (t.cl c).slot = x ∧
      (∀ k, k ≠ c → t.cl k = s.cl k) ∧ ∀ g, clusterOf g ≠ c → t.en g = s.en g) ∧
    ((s.clOn c = false ∨ ((s.cl c).jobSt ≠ 2 ∧ (s.cl c).job = none ∧ (s.cl c).resumeDue = false ∧
        ∀ j ∈ s.eng.jobs, c ∉ j.todo)) →
      exec (.lineSlot c) s = .next (s.setCl c { s.cl c with slot := x }))) ∧
  (∀ (s : State) (c : Nat) (j : Job), c < 32 → s.jobOf c = some j → (s.cl c).jobSt = 3 → (s.cl c).spare = 0 → (s.cl c).bypass = 0 →
    ∃ t : State, exec (.jobLoadDone c) s = .next t ∧ (t.cl c).jobSt = 2 ∧ (t.cl c).job = (s.cl c).job ∧
      (∀ i < 16, t.en (16 * c + i) = { loadedEng j.image j.argData (16 * c + i) with
        hv := (s.en (16 * c + i)).hv, firings := (s.en (16 * c + i)).firings, slot := (s.cl c).slot }) ∧
      ∀ g, clusterOf g ≠ c → t.en g = s.en g) ∧
  (∀ (s : State) (g : Nat), g < 512 →
    let cl := s.cl (g / 16)
    let i := g % 16
    let k := if Sparse.get 0 cl.whole i = 1 then 1 else 0
    Sparse.get [] cl.drain i ≠ [] →
    exec (.checkpointDrainDone g) s = .next (s.setCl (g / 16) { cl with
      mem := Sparse.write 0 cl.mem (0x20000 + (2 * i + k) * 0x1800) (Sparse.get [] cl.drain i)
      whole := Sparse.set 0 cl.whole i (k + 1)
      older := Sparse.set false cl.older i (Sparse.get 0 cl.whole i != 0)
      flagsSince := Sparse.set 0 cl.flagsSince i (Sparse.get 0 cl.flagsNew i)
      drain := Sparse.set [] cl.drain i [] })) ∧
  (∀ (s : State) (c n u : Nat) (j : Job) (f : List Nat) (d : List Byte), s.jobOf c = some j → 2 ≤ (s.cl c).jobSt →
    j.image.streams[n]? = some f → u < 65536 →
    let a := strmFld f 0 + u * strmFld f 1 + c * strmFld f 2
    (s.unitDue f u = false → exec (.fetchUnitArrived c n u) s = .next s) ∧
    (s.unitDue f u = true → s.ppaRead a (strmFld f 3) = some d →
      exec (.fetchUnitArrived c n u) s = .next ((s.countRecon a (strmFld f 3)).setCl c { (s.cl c).ask 17 with
        mem := Sparse.write 0 (s.cl c).mem (strmFld f 4 + u % max 1 (strmFld f 6) * strmFld f 3) d
        units := ((s.cl c).units.filter (· != n * 65536 + u)) ++ [n * 65536 + u] }))) ∧
  (∀ (s : State) (g : Nat), g < 512 →
    let c := g / 16
    let cl := s.cl c
    let cnt := Sparse.get 0 cl.wbCnt (g % 16)
    let e := s.wbEntry c (g % 16) cnt.toNat
    let u := s.setCl c ({ cl with wbCnt := Sparse.set 0 cl.wbCnt (g % 16) (cnt + 1) }.ask 17)
    cnt ≠ Sparse.get 0 cl.wbPost (g % 16) → e.1 % 64 = 0 → e.2.1 % 64 = 0 → 64 ≤ e.2.1 → e.2.1 ≤ 65536 → e.1 + e.2.1 ≤ 2 ^ 20 →
    e.2.2 % 64 = 0 →
    exec (.writeBackDone g) s =
      .next (if s.storeUp = true ∧ s.mayWrite cl.wbPart e.2.2 e.2.1 = true then
          (u.ppaWrite e.2.2 ((List.range e.2.1).map fun k => s.windowByte c (e.1 + k))).ringBells e.2.2 e.2.1
        else (u.fstDeny cl.wbPart).setFld ENG_FLAGS_wb_denied 1).goOn) ∧
  ∀ (s : State) (p : Nat), s.reachable p = true →
    let c := s.fldP ENG_SEL_cluster p
    let m := s.fldP ENG_SEL_master p
    (s.clOwner c ≠ p ∨ 19 < m →
      exec (.engConfRead p) s = .next ((s.setReg ENG_CONF_HI 0 p 0).emit (.readData p [0, 0, 0, 0] false))) ∧
    (s.clOwner c = p → m ≤ 19 → ∃ (t : State) (v : BitVec 48),
      exec (.engConfRead p) s = .next (t.emit (.readData p (leBytes 4 (v.toNat % 2 ^ 32)) false)) ∧
        Sparse.get 0 (t.cl c).conf m = v ∧ t.reg ENG_CONF_HI 0 p = v.toNat / 2 ^ 32 ∧
        (∀ k, k ≠ m → Sparse.get 0 (t.cl c).conf k = Sparse.get 0 (s.cl c).conf k) ∧
        ((s.cl c).asked.contains m = false → v = Sparse.get 0 (s.cl c).conf m))

/-- With wd_en 1, for a running engine of a cluster that is ON and has a job, a stall halts the engine and counts;
with the cluster's spare idle and spare_en 1 the spare is called for that engine with cause 0 and nothing else
changes; with spare_en 0 or the spare not idle the strip goes into bypass, sensed lines that it alone kept in the ring
leave it, and ENGINE_TAKEOVER is posted with the bypass bit. Once the spare is loaded it is due to resume: without a
whole checkpoint it is to start at entry with the image and argument loaded and the rest of memory 0; with one it
holds that checkpoint's window and registers too, with the milestone flags set since. (R236, R238, R239, R240,
spec/10_pixel_engines.md) -/
def Obligations.WatchdogAndTakeover : Prop :=
  (∀ (s : State) (g : Nat), g < 512 → s.runs g → s.fld ENG_CTRL_wd_en = 1 → (s.cl (g / 16)).job.isSome = true →
    let c := g / 16
    let cl := s.cl c
    let u := (s.setFld ENG_FLAGS_takeover 1).setEn g { s.en g with st := 4, firings := (s.en g).firings + 1 }
    let fires := min (2 ^ 32 - 1) (cl.fires + 1)
    (cl.spare = 0 → s.fld ENG_CTRL_spare_en = 1 →
      exec (.watchdogStall g) s = .next (u.setCl c { cl with
        fires := fires, spare := 1, spareFor := g % 16, retired := false, takeCause := 0 })) ∧
    (cl.spare ≠ 0 ∨ s.fld ENG_CTRL_spare_en = 0 →
      exec (.watchdogStall g) s = .next (((u.setCl c { cl with
        fires := fires, bypass := cl.bypass ||| BitVec.ofNat 16 (2 ^ (g % 16)) }).hvPrune c).postTakeover c (g % 16) 0 1))) ∧
  ∀ (s : State) (c : Nat), (s.cl c).spare = 1 → (s.cl c).resumeDue = false →
    let cl := s.cl c
    let due := { cl with resumeDue := true }
    (s.jobOf c = none → exec (.spareLoaded c) s = .next (s.setCl c due)) ∧
    ∀ j : Job, s.jobOf c = some j → cl.jobSt = 2 →
      let i := cl.spareFor
      let w := Sparse.get 0 cl.whole i
      let fl : Half := Sparse.get 0 cl.flagsSince i
      let e := { loadedEng j.image j.argData (16 * c + i) with
        st := 0, started := false, hv := (s.en (16 * c + i)).hv, firings := (s.en (512 + c)).firings, msflag := fl }
      let d := Sparse.read 0 cl.mem (0x20000 + (2 * i + (w - 1)) * 0x1800) 0x1800
      let m := restoreFrom { e with
        mem := Sparse.write 0 e.mem (64 * j.image.ckptBase) ((d.drop 1536).take (64 * j.image.ckptLen)) } d
      exec (.spareLoaded c) s = .next ((s.setEn (512 + c) (if w = 0 then { e with atEntry := true }
        else { m with msflag := m.msflag ||| fl })).setCl c { cl.ask 16 with
          flagsSince := Sparse.set 0 cl.flagsSince i 0, flagsNew := Sparse.set 0 cl.flagsNew i 0, resumeDue := true })

/-- On an engine that runs straight on, each SALU function answers the state in which s[rd] holds the result of R248's
table (arithmetic mod 2^32, shifts by bits 4:0 of the second operand) for the old s[ra] and s[rb], pc is one further,
and nothing else has changed; with rd 0 no register changes. (R244, R248, R249, spec/11_engine_instruction_set.md) -/
def Obligations.ScalarResults : Prop :=
  ∀ (s : State) (g : Nat) (rd ra rb : BitVec 4), s.straight g →
    let e := s.en g
    let a := e.sreg ra.toNat
    let b := e.sreg rb.toNat
    let n := b.toNat % 32
    let put (w : Word) : Host.Outcome State Fault Refusal :=
      .next (s.stepped g (if rd = 0 then e else { e with s := Sparse.set 0 e.s rd.toNat w }))
    exec (.saluAdd g rd ra rb) s = put (BitVec.ofNat 32 (a.toNat + b.toNat)) ∧
    exec (.saluSub g rd ra rb) s = put (BitVec.ofInt 32 ((a.toNat : Int) - b.toNat)) ∧
    exec (.saluAnd g rd ra rb) s = put (a &&& b) ∧
    exec (.saluOr g rd ra rb) s = put (a ||| b) ∧
    exec (.saluXor g rd ra rb) s = put (a ^^^ b) ∧
    exec (.saluSll g rd ra rb) s = put (BitVec.ofNat 32 (a.toNat * 2 ^ n)) ∧
    exec (.saluSrl g rd ra rb) s = put (BitVec.ofNat 32 (a.toNat / 2 ^ n)) ∧
    exec (.saluSra g rd ra rb) s = put (BitVec.ofInt 32 (a.toInt / 2 ^ n)) ∧
    exec (.saluSlt g rd ra rb) s = put (if a.toInt < b.toInt then 1 else 0) ∧
    exec (.saluSltu g rd ra rb) s = put (if a.toNat < b.toNat then 1 else 0) ∧
    exec (.saluMul g rd ra rb) s = put (BitVec.ofNat 32 (a.toNat * b.toNat)) ∧
    exec (.saluMulh g rd ra rb) s = put (BitVec.ofInt 32 (a.toInt * b.toInt / 2 ^ 32)) ∧
    exec (.saluMulhu g rd ra rb) s = put (BitVec.ofNat 32 (a.toNat * b.toNat / 2 ^ 32)) ∧
    exec (.saluMin g rd ra rb) s = put (BitVec.ofInt 32 (min a.toInt b.toInt)) ∧
    exec (.saluMax g rd ra rb) s = put (BitVec.ofInt 32 (max a.toInt b.toInt)) ∧
    exec (.saluMinu g rd ra rb) s = put (BitVec.ofNat 32 (min a.toNat b.toNat)) ∧
    exec (.saluMaxu g rd ra rb) s = put (BitVec.ofNat 32 (max a.toNat b.toNat))

/-- On an engine that runs straight on, ADDI, SLTI and SLTIU with imm sign-extended, ANDI, ORI and XORI with imm zero-
extended, SLLI, SRLI and SRAI by sh, and LUI with imm << 16 answer the state in which s[rd] holds that result for the
old s[ra], pc is one further, and nothing else has changed; with rd 0 no register changes. (R244, R248,
spec/11_engine_instruction_set.md) -/
def Obligations.ImmediateResults : Prop :=
  ∀ (s : State) (g : Nat) (rd ra : BitVec 4) (imm : BitVec 18) (sh : BitVec 5) (hi : BitVec 16), s.straight g →
    let e := s.en g
    let a := e.sreg ra.toNat
    let put (w : Word) : Host.Outcome State Fault Refusal :=
      .next (s.stepped g (if rd = 0 then e else { e with s := Sparse.set 0 e.s rd.toNat w }))
    exec (.addi g rd ra imm) s = put (BitVec.ofInt 32 (a.toInt + imm.toInt)) ∧
    exec (.slti g rd ra imm) s = put (if a.toInt < imm.toInt then 1 else 0) ∧
    exec (.sltiu g rd ra imm) s = put (if a.toNat < (BitVec.ofInt 32 imm.toInt).toNat then 1 else 0) ∧
    exec (.andi g rd ra imm) s = put (a &&& BitVec.ofNat 32 imm.toNat) ∧
    exec (.ori g rd ra imm) s = put (a ||| BitVec.ofNat 32 imm.toNat) ∧
    exec (.xori g rd ra imm) s = put (a ^^^ BitVec.ofNat 32 imm.toNat) ∧
    exec (.slli g rd ra sh) s = put (BitVec.ofNat 32 (a.toNat * 2 ^ sh.toNat)) ∧
    exec (.srli g rd ra sh) s = put (BitVec.ofNat 32 (a.toNat / 2 ^ sh.toNat)) ∧
    exec (.srai g rd ra sh) s = put (BitVec.ofInt 32 (a.toInt / 2 ^ sh.toNat)) ∧
    exec (.lui g rd hi) s = put (BitVec.ofNat 32 (hi.toNat * 2 ^ 16))

/-- On an engine that runs, a BR whose condition holds, a JAL and a JALR answer the state in which pc is the target,
JAL's s15 and JALR's rd hold pc + 1, only the LOOP levels whose body and whose enclosing bodies hold the target stay
open, and nothing else has changed; a target outside 0 to 4,095 is a fetch fault (code 4) at the jump; a BR whose
condition does not hold goes on to the next instruction when the engine runs straight on; a reserved condition is an
illegal instruction (code 1); an instruction that runs pc past 4,095 is a fetch fault. (R249) -/
def Obligations.BranchesAndJumps : Prop :=
  ∀ (s : State) (g : Nat), s.runs g →
    let e := s.en g
    let go (t : Int) (f : Eng) : Host.Outcome State Fault Refusal :=
      if 0 ≤ t ∧ t < 4096 then
        .next (s.setEn g { f with
          pc := BitVec.ofInt 12 t
          loops := (e.loops.reverse.takeWhile fun l => decide (l.start ≤ t) && decide (t ≤ l.stop)).reverse })
      else .next (s.engFault g 4)
    (∀ (ra rb : BitVec 4) (cond : BitVec 3) (off : BitVec 15),
      let a := e.sreg ra.toNat
      let b := e.sreg rb.toNat
      let holds := (cond = 0 ∧ a = b) ∨ (cond = 1 ∧ a ≠ b) ∨ (cond = 2 ∧ a.toInt < b.toInt) ∨ (cond = 3 ∧ b.toInt ≤ a.toInt) ∨
        (cond = 4 ∧ a.toNat < b.toNat) ∨ (cond = 5 ∧ b.toNat ≤ a.toNat)
      (holds → exec (.br g ra rb cond off) s = go (e.pc.toNat + off.toInt) e) ∧
      (cond < 6 → ¬ holds → s.straight g → exec (.br g ra rb cond off) s = .next (s.stepped g e)) ∧
      (6 ≤ cond → exec (.br g ra rb cond off) s = .next (s.engFault g 1))) ∧
    (∀ off : BitVec 26, exec (.jal g off) s =
      go (e.pc.toNat + off.toInt) { e with s := Sparse.set 0 e.s 15 (BitVec.ofNat 32 (e.pc.toNat + 1)) }) ∧
    (∀ rd ra : BitVec 4, exec (.jalr g rd ra) s =
      go (e.sreg ra.toNat).toNat
        (if rd = 0 then e else { e with s := Sparse.set 0 e.s rd.toNat (BitVec.ofNat 32 (e.pc.toNat + 1)) })) ∧
    (e.pc.toNat = 4095 → e.loops = [] → exec (.ctrlNop g) s = .next (s.engFault g 4))

/-- On an engine that runs, LOOP with n from s[rc] bits 15:0 (from count when rc is 0) opens a level of its body with
n passes left and goes to the next instruction, or for n 0 goes past the body; len 0, a body past 4,095, a third
level, an end beyond the open level's end, or a body that ends in a BR, JAL, JALR, LOOP or HALT is an illegal
instruction (code 1). That a LOOP of 0 passes is not refused for a third level or an inner end is the model's reading
(log entry 29). When a NOP at the end of the innermost body retires with more than one pass left, the next pc is the
body's start and one pass fewer is left; with the last pass the level closes. (R250, R269,
spec/11_engine_instruction_set.md) -/
def Obligations.LoopLevels : Prop :=
  ∀ (s : State) (g : Nat), s.runs g →
    let e := s.en g
    let pc := e.pc.toNat
    (∀ (rc : BitVec 4) (count : BitVec 12) (len : BitVec 10),
      let n := if rc = 0 then count.toNat else (e.sreg rc.toNat).toNat % 65536
      let w := (e.code.getD (pc + len.toNat) 0).toNat
      let control := (0x0A ≤ w / 2 ^ 26 ∧ w / 2 ^ 26 ≤ 0x0D) ∨ (w / 2 ^ 26 = 0x0E ∧ w % 16 = 3)
      let bad := len = 0 ∨ 4095 < pc + len.toNat ∨ control ∨
        (n ≠ 0 ∧ (2 ≤ e.loops.length ∨ ∃ l, e.loops.head? = some l ∧ l.stop < pc + len.toNat))
      (bad → exec (.loop g rc count len) s = .next (s.engFault g 1)) ∧
      (¬ bad → n = 0 → pc + len.toNat < 4095 →
        exec (.loop g rc count len) s = .next (s.setEn g { e with pc := BitVec.ofNat 12 (pc + len.toNat + 1) })) ∧
      (¬ bad → n ≠ 0 → exec (.loop g rc count len) s =
        .next (s.stepped g { e with loops := { start := pc + 1, stop := pc + len.toNat, left := n } :: e.loops }))) ∧
    (∀ l ls, e.loops = l :: ls → l.stop = pc → l.start < 4096 → 1 < l.left →
      exec (.ctrlNop g) s =
        .next (s.setEn g { e with pc := BitVec.ofNat 12 l.start, loops := { l with left := l.left - 1 } :: ls })) ∧
    (∀ l ls, e.loops = l :: ls → l.stop = pc → l.left ≤ 1 → (∀ k ∈ ls, k.stop ≠ pc) → pc < 4095 →
      exec (.ctrlNop g) s = .next (s.setEn g { e with pc := e.pc + 1, loops := ls }))

/-- On an engine that runs straight on, with a := s[ra] + off mod 2^32, LB, LBU, LH, LHU and LW put the extended
little-endian value of their bytes at a into s[rd], and SB, SH and SW store the low bytes of s[rb] at a; beyond pc
nothing else changes but the model's counter of free values, which a load from the cluster window moves on (log entry
5). A load not wholly within local memory or the cluster window, and a store that R251 does not allow, is an address
fault (code 2). (R251, R219, R220, R269, spec/11_engine_instruction_set.md) -/
def Obligations.ScalarMemory : Prop :=
  ∀ (s : State) (g : Nat) (r ra : BitVec 4) (off : BitVec 14), s.straight g →
    let e := s.en g
    let a := (BitVec.ofInt 32 ((e.sreg ra.toNat).toInt + off.toInt)).toNat
    let inside (n : Nat) : Prop := a + n ≤ 0x10000 ∨ (0x100000 ≤ a ∧ a + n ≤ 0x200000)
    let own := 0x11C000 + 128 * s.localOf g
    let writable (n : Nat) : Prop :=
      a + n ≤ 0x10000 ∨ (0x180000 ≤ a ∧ a + n ≤ 0x200000) ∨ (own ≤ a ∧ a + n ≤ own + 128 ∧ a + n ≤ 0x200000)
    let num (n : Nat) : Nat := leNat (s.engRead g a n)
    let s' : State := { s with free := if a < 0x10000 then s.free else s.free + 2 ^ 20 }
    let put (w : Word) : Host.Outcome State Fault Refusal :=
      .next (s'.stepped g (if r = 0 then e else { e with s := Sparse.set 0 e.s r.toNat w }))
    let store (n : Nat) : Host.Outcome State Fault Refusal :=
      .next ((s.engWrite g a (leBytes n (e.sreg r.toNat).toNat)).stepped g
        ((s.engWrite g a (leBytes n (e.sreg r.toNat).toNat)).en g))
    let stop : Host.Outcome State Fault Refusal := .next (s.engFault g 2)
    (inside 1 → exec (.lb g r ra off) s = put (BitVec.ofInt 32 (signed 8 (num 1))) ∧
      exec (.lbu g r ra off) s = put (BitVec.ofNat 32 (num 1))) ∧
    (inside 2 → exec (.lh g r ra off) s = put (BitVec.ofInt 32 (signed 16 (num 2))) ∧
      exec (.lhu g r ra off) s = put (BitVec.ofNat 32 (num 2))) ∧
    (inside 4 → exec (.lw g r ra off) s = put (BitVec.ofNat 32 (num 4))) ∧
    (writable 1 → exec (.sb g r ra off) s = store 1) ∧
    (writable 2 → exec (.sh g r ra off) s = store 2) ∧
    (writable 4 → exec (.sw g r ra off) s = store 4) ∧
    (¬ inside 1 → exec (.lb g r ra off) s = stop ∧ exec (.lbu g r ra off) s = stop) ∧
    (¬ inside 2 → exec (.lh g r ra off) s = stop ∧ exec (.lhu g r ra off) s = stop) ∧
    (¬ inside 4 → exec (.lw g r ra off) s = stop) ∧
    (¬ writable 1 → exec (.sb g r ra off) s = stop) ∧
    (¬ writable 2 → exec (.sh g r ra off) s = stop) ∧
    (¬ writable 4 → exec (.sw g r ra off) s = stop)

/-- On an engine that runs straight on, after an SB, SH or SW of n bytes at a = s[ra] + off that lies in local memory,
in the kernel area or in the engine's own write-back ring, byte k of s[rb] reads at a + k for k below n, and every
other address of local memory and of the cluster window reads as before; every s-register, v-register, accumulator and
predicate, the loop levels and every memory of the part outside the engine's and its cluster's are unchanged. (R219,
R220, R251, spec/11_engine_instruction_set.md) -/
def Obligations.StoresTouchOnlyTheirBytes : Prop :=
  ∀ (s t : State) (g : Nat) (rb ra : BitVec 4) (off : BitVec 14) (n : Nat) (i : Instr), s.straight g → s.localOf g < 16 →
    ((i = .sb g rb ra off ∧ n = 1) ∨ (i = .sh g rb ra off ∧ n = 2) ∨ (i = .sw g rb ra off ∧ n = 4)) →
    (addrOk ((s.en g).ea ra off) n = true ∧ s.storeOk g ((s.en g).ea ra off) n = true) → exec i s = .next t →
    (∀ k, k < n → t.engRead g ((s.en g).ea ra off + k) 1 =
      [BitVec.ofNat 8 (((s.en g).sreg rb.toNat).toNat / 256 ^ k)]) ∧
    (∀ b, (b < (s.en g).ea ra off ∨ (s.en g).ea ra off + n ≤ b) →
      (b < 0x10000 ∨ (0x100000 ≤ b ∧ b < 0x200000)) → t.engRead g b 1 = s.engRead g b 1) ∧
    (∀ r, (t.en g).sreg r = (s.en g).sreg r ∧ (t.en g).vreg r = (s.en g).vreg r ∧ (t.en g).acc r = (s.en g).acc r ∧
      (t.en g).preg r = (s.en g).preg r) ∧
    (t.en g).loops = (s.en g).loops ∧ t.fst = s.fst ∧ t.mem = s.mem ∧ t.nvs = s.nvs ∧ t.hif = s.hif ∧ t.regs = s.regs

/-- On an engine that runs straight on, with b chosen by src (0 the lanes of v[vb], 1 bits 15:0 of s[vb] with vb below
16, 2 the value of vb), each VALU function answers the state in which lane l of v[vd] holds R253's result for the old
va[l] and b[l] where pg[l] is 1 and its old value elsewhere, pc is one further, and nothing else has changed. A
reserved src, or a vb of 16 or more beside src 1, is an illegal instruction (code 1), and the function codes from 0x18
on spell no instruction. (R253) -/
def Obligations.LaneResults : Prop :=
  ∀ (s : State) (g : Nat) (vd va vb : BitVec 5) (pg : BitVec 3) (src : BitVec 2), s.straight g →
    let e := s.en g
    let b (l : Nat) : Half :=
      if src = 0 then (e.vreg vb.toNat).getD l 0
      else if src = 1 then (e.sreg vb.toNat).setWidth 16
      else BitVec.ofNat 16 vb.toNat
    let bad := src = 3 ∨ (src = 1 ∧ 16 ≤ vb.toNat)
    let put (f : Half → Half → Half) : Host.Outcome State Fault Refusal :=
      if bad then .next (s.engFault g 1)
      else .next (s.stepped g (e.setV vd.toNat ((List.range 16).map fun l =>
        if (e.preg pg.toNat).getLsbD l then f ((e.vreg va.toNat).getD l 0) (b l) else (e.vreg vd.toNat).getD l 0)))
    let clampS (x : Int) : Half := BitVec.ofInt 16 (max (-32768) (min 32767 x))
    let clampU (x : Int) : Half := BitVec.ofInt 16 (max 0 (min 65535 x))
    exec (.valuAdd g vd va vb pg src) s = put (fun x y => x + y) ∧
    exec (.valuSub g vd va vb pg src) s = put (fun x y => x - y) ∧
    exec (.addss g vd va vb pg src) s = put (fun x y => clampS (x.toInt + y.toInt)) ∧
    exec (.subss g vd va vb pg src) s = put (fun x y => clampS (x.toInt - y.toInt)) ∧
    exec (.addus g vd va vb pg src) s = put (fun x y => clampU ((x.toNat : Int) + y.toNat)) ∧
    exec (.subus g vd va vb pg src) s = put (fun x y => clampU ((x.toNat : Int) - y.toNat)) ∧
    exec (.mullo g vd va vb pg src) s = put (fun x y => x * y) ∧
    exec (.mulhs g vd va vb pg src) s = put (fun x y => BitVec.ofInt 16 (x.toInt * y.toInt / 2 ^ 16)) ∧
    exec (.valuMulhu g vd va vb pg src) s = put (fun x y => BitVec.ofNat 16 (x.toNat * y.toNat / 2 ^ 16)) ∧
    exec (.valuMin g vd va vb pg src) s = put (fun x y => BitVec.ofInt 16 (min x.toInt y.toInt)) ∧
    exec (.valuMax g vd va vb pg src) s = put (fun x y => BitVec.ofInt 16 (max x.toInt y.toInt)) ∧
    exec (.valuMinu g vd va vb pg src) s = put (fun x y => BitVec.ofNat 16 (min x.toNat y.toNat)) ∧
    exec (.valuMaxu g vd va vb pg src) s = put (fun x y => BitVec.ofNat 16 (max x.toNat y.toNat)) ∧
    exec (.valuAnd g vd va vb pg src) s = put (fun x y => x &&& y) ∧
    exec (.valuOr g vd va vb pg src) s = put (fun x y => x ||| y) ∧
    exec (.valuXor g vd va vb pg src) s = put (fun x y => x ^^^ y) ∧
    exec (.valuAndn g vd va vb pg src) s = put (fun x y => x &&& ~~~y) ∧
    exec (.valuSll g vd va vb pg src) s = put (fun x y => BitVec.ofNat 16 (x.toNat * 2 ^ (y.toNat % 16))) ∧
    exec (.valuSrl g vd va vb pg src) s = put (fun x y => BitVec.ofNat 16 (x.toNat / 2 ^ (y.toNat % 16))) ∧
    exec (.valuSra g vd va vb pg src) s = put (fun x y => BitVec.ofInt 16 (x.toInt / 2 ^ (y.toNat % 16))) ∧
    exec (.srar g vd va vb pg src) s = put (fun x y =>
      if y.toNat % 16 = 0 then x else BitVec.ofInt 16 ((x.toInt + 2 ^ (y.toNat % 16 - 1)) / 2 ^ (y.toNat % 16))) ∧
    exec (.absdu g vd va vb pg src) s = put (fun x y => BitVec.ofNat 16 ((x.toNat : Int) - y.toNat).natAbs) ∧
    exec (.avgu g vd va vb pg src) s = put (fun x y => BitVec.ofNat 16 ((x.toNat + y.toNat + 1) / 2)) ∧
    exec (.vmov g vd va vb pg src) s = put (fun _ y => y) ∧
    ∀ w : Word, w.toNat / 2 ^ 26 = 0x14 → 0x18 ≤ w.toNat % 64 → decodeEngine g w = none

/-- On an engine that runs straight on, VCMP with an operand and a condition that are not reserved sets pd[l] exactly
where pg[l] is 1 and va[l] cond b[l] holds; AND, OR, XOR, ANDN, NOT and FROMS write pd, TOS and CNT write s[sa],
FIRSTN sets lanes 0 to s[sa] - 1; pc is one further and nothing else has changed. A condition above 9 is an illegal
instruction (code 1). (R244, R254, R269, spec/11_engine_instruction_set.md) -/
def Obligations.PredicateResults : Prop :=
  ∀ (s : State) (g : Nat), s.straight g →
    let e := s.en g
    let putP (pd : BitVec 3) (x : Half) : Host.Outcome State Fault Refusal :=
      .next (s.stepped g (if pd = 0 then e else { e with p := Sparse.set 0 e.p pd.toNat x }))
    let putS (rd : BitVec 4) (x : Word) : Host.Outcome State Fault Refusal :=
      .next (s.stepped g (if rd = 0 then e else { e with s := Sparse.set 0 e.s rd.toNat x }))
    (∀ (pd : BitVec 3) (va vb : BitVec 5) (pg : BitVec 3) (src : BitVec 2) (cond : BitVec 4) (b : List Half),
      e.vsrc src vb = some b →
      let x (l : Nat) : Half := (e.vreg va.toNat).getD l 0
      let y (l : Nat) : Half := b.getD l 0
      let holds (l : Nat) : Prop := (cond = 0 ∧ x l = y l) ∨ (cond = 1 ∧ x l ≠ y l) ∨
        (cond = 2 ∧ (x l).toInt < (y l).toInt) ∨ (cond = 3 ∧ (x l).toInt ≤ (y l).toInt) ∨
        (cond = 4 ∧ (y l).toInt < (x l).toInt) ∨ (cond = 5 ∧ (y l).toInt ≤ (x l).toInt) ∨
        (cond = 6 ∧ (x l).toNat < (y l).toNat) ∨ (cond = 7 ∧ (x l).toNat ≤ (y l).toNat) ∨
        (cond = 8 ∧ (y l).toNat < (x l).toNat) ∨ (cond = 9 ∧ (y l).toNat ≤ (x l).toNat)
      (cond < 10 → ∃ m : Half, exec (.vcmp g pd va vb pg src cond) s = putP pd m ∧
        ∀ l < 16, (m.getLsbD l = true ↔ (e.preg pg.toNat).getLsbD l = true ∧ holds l)) ∧
      (10 ≤ cond → exec (.vcmp g pd va vb pg src cond) s = .next (s.engFault g 1))) ∧
    (∀ (pd pa pb : BitVec 3) (sa : BitVec 4),
      let a := e.preg pa.toNat
      let b := e.preg pb.toNat
      let w := e.sreg sa.toNat
      exec (.plogAnd g pd pa pb sa) s = putP pd (a &&& b) ∧
      exec (.plogOr g pd pa pb sa) s = putP pd (a ||| b) ∧
      exec (.plogXor g pd pa pb sa) s = putP pd (a ^^^ b) ∧
      exec (.plogAndn g pd pa pb sa) s = putP pd (a &&& ~~~b) ∧
      exec (.plogNot g pd pa pb sa) s = putP pd (~~~a) ∧
      exec (.froms g pd pa pb sa) s = putP pd (BitVec.ofNat 16 w.toNat) ∧
      exec (.tos g pd pa pb sa) s = putS sa (BitVec.ofNat 32 a.toNat) ∧
      exec (.cnt g pd pa pb sa) s = putS sa (BitVec.ofNat 32 ((List.range 16).filter (a.getLsbD ·)).length) ∧
      exec (.firstn g pd pa pb sa) s = putP pd (BitVec.ofNat 16 (2 ^ min 16 w.toNat - 1)))

/-- On an engine that runs straight on, VSEL selects by ps in all lanes; VPERM, VBCST and VBCSTS write the lanes of
ps, VPERM from the old vd and va by bits 4:0 of vb; a VRED form with vd below 16 writes s[vd] the sum, minimum or
maximum of va over the lanes of ps, extended to 32 bits by its signedness, 0 over no lane; pc is one further and
nothing else has changed. A VRED whose vd is 16 or more is an illegal instruction (code 1). (R255, R269,
spec/11_engine_instruction_set.md) -/
def Obligations.LaneMoves : Prop :=
  ∀ (s : State) (g : Nat) (vd va vb : BitVec 5) (ps : BitVec 3), s.straight g →
    let e := s.en g
    let m := e.preg ps.toNat
    let a (l : Nat) : Half := (e.vreg va.toNat).getD l 0
    let b (l : Nat) : Half := (e.vreg vb.toNat).getD l 0
    let old (l : Nat) : Half := (e.vreg vd.toNat).getD l 0
    let put (f : Nat → Half) : Host.Outcome State Fault Refusal := .next (s.stepped g (e.setV vd.toNat ((List.range 16).map f)))
    let sum (f : Half → Word) : Word := ((List.range 16).filter (m.getLsbD ·)).foldl (fun w l => w + f (a l)) 0
    let red (w : Word) : Host.Outcome State Fault Refusal :=
      if 16 ≤ vd.toNat then .next (s.engFault g 1)
      else .next (s.stepped g (if vd = 0 then e else { e with s := Sparse.set 0 e.s vd.toNat w }))
    let best (le : Half → Half → Prop) (ext : Half → Word) (w : Word) : Prop :=
      (m = 0 ∧ w = 0) ∨ (∃ l < 16, m.getLsbD l = true ∧ w = ext (a l) ∧ ∀ k < 16, m.getLsbD k = true → le (a l) (a k))
    exec (.vsel g vd va vb ps) s = put (fun l => if m.getLsbD l then a l else b l) ∧
    exec (.vperm g vd va vb ps) s = put (fun l =>
      if m.getLsbD l then
        (if 16 ≤ (b l).toNat % 32 then old ((b l).toNat % 32 - 16) else a ((b l).toNat % 32))
      else old l) ∧
    exec (.vbcst g vd va vb ps) s = put (fun l => if m.getLsbD l then a (vb.toNat % 16) else old l) ∧
    exec (.vbcsts g vd va vb ps) s = put (fun l =>
      if m.getLsbD l then BitVec.ofNat 16 (e.sreg (vb.toNat % 16)).toNat else old l) ∧
    exec (.vredAdd g vd va vb ps) s = red (sum fun x => BitVec.ofInt 32 x.toInt) ∧
    exec (.vredAddu g vd va vb ps) s = red (sum fun x => BitVec.ofNat 32 x.toNat) ∧
    (∃ w, exec (.vredMin g vd va vb ps) s = red w ∧ best (fun x y => x.toInt ≤ y.toInt) (fun x => BitVec.ofInt 32 x.toInt) w) ∧
    (∃ w, exec (.vredMax g vd va vb ps) s = red w ∧ best (fun x y => y.toInt ≤ x.toInt) (fun x => BitVec.ofInt 32 x.toInt) w) ∧
    (∃ w, exec (.vredMinu g vd va vb ps) s = red w ∧ best (fun x y => x.toNat ≤ y.toNat) (fun x => BitVec.ofNat 32 x.toNat) w) ∧
    (∃ w, exec (.vredMaxu g vd va vb ps) s = red w ∧ best (fun x y => y.toNat ≤ x.toNat) (fun x => BitVec.ofNat 32 x.toNat) w)

/-- On an engine that runs straight on, with an operand b that is not reserved and sgn not 3, the lanes of pg of
accumulator ad become p, a + p, a - p or 0 mod 2^40, with p the product of va[l] and b[l] of the signedness sgn; AEXT
with sh at most 39 writes the lanes of pg of vd with the accumulator shifted right by sh, rounded half up when rnd is
1, and saturated by sat, sat 2 to the depth of the mode in force; pc is one further and nothing else has changed. A
reserved src or sgn, and an sh above 39, are illegal instructions (code 1). (R256, R257) -/
def Obligations.AccumulatorResults : Prop :=
  ∀ (s : State) (g : Nat), s.straight g →
    let e := s.en g
    (∀ (ad : BitVec 2) (va vb : BitVec 5) (pg : BitVec 3) (src sgn : BitVec 2),
      let put (f : BitVec 40 → Int → BitVec 40) : Host.Outcome State Fault Refusal :=
        match e.vsrc src vb with
        | none => .next (s.engFault g 1)
        | some b =>
          if sgn = 3 then .next (s.engFault g 1)
          else
            let p (l : Nat) : Int :=
              let x := (e.vreg va.toNat).getD l 0
              let y := b.getD l 0
              if sgn = 0 then (x.toNat : Int) * y.toNat else if sgn = 1 then x.toInt * y.toNat else x.toInt * y.toInt
            .next (s.stepped g (e.setA ad.toNat ((List.range 16).map fun l =>
              if (e.preg pg.toNat).getLsbD l then f ((e.acc ad.toNat).getD l 0) (p l) else (e.acc ad.toNat).getD l 0)))
      exec (.vmul g ad va vb pg src sgn) s = put (fun _ p => BitVec.ofInt 40 p) ∧
      exec (.vmac g ad va vb pg src sgn) s = put (fun a p => BitVec.ofInt 40 (a.toInt + p)) ∧
      exec (.vmsu g ad va vb pg src sgn) s = put (fun a p => BitVec.ofInt 40 (a.toInt - p)) ∧
      exec (.aclr g ad va vb pg src sgn) s = put (fun _ _ => 0)) ∧
    (∀ (vd : BitVec 5) (ad : BitVec 2) (pg : BitVec 3) (sh : BitVec 6) (rnd : Bool) (sat : BitVec 2),
      let n := sh.toNat
      let t (l : Nat) : Int :=
        (((e.acc ad.toNat).getD l 0).toInt + (if rnd = true ∧ 0 < n then 2 ^ (n - 1) else 0)) / 2 ^ n
      let out (x : Int) : Half :=
        if sat = 0 then BitVec.ofInt 16 (max (-32768) (min 32767 x))
        else if sat = 1 then BitVec.ofInt 16 (max 0 (min 65535 x))
        else if sat = 2 then BitVec.ofInt 16 (max 0 (min (2 ^ s.depth - 1) x))
        else BitVec.ofInt 16 x
      (n ≤ 39 → exec (.aext g vd ad pg sh rnd sat) s =
        .next (s.stepped g (e.setV vd.toNat ((List.range 16).map fun l =>
          if (e.preg pg.toNat).getLsbD l then out (t l) else (e.vreg vd.toNat).getD l 0)))) ∧
      (39 < n → exec (.aext g vd ad pg sh rnd sat) s = .next (s.engFault g 1)))

/-- On an engine that runs straight on, VLUT interpolates its table in each lane of pg and takes an address fault
(code 2) where the table ends past 0xFFFF; VLUT2U and VLUT2S interpolate theirs with both halves of the rule in each
lane, taking an illegal instruction (code 1) for mx or my 0 and an address fault for a table past 0xFFFF; VRND steps
the LFSR of each lane of pg 16 times and writes it, and no other lane's LFSR or vd changes; pc is one further and
nothing else has changed. (R258, R259, R260, R269, spec/11_engine_instruction_set.md) -/
def Obligations.TableAndRandomResults : Prop :=
  ∀ (s : State) (g : Nat) (vd va vb : BitVec 5) (ra sh : BitVec 4) (pg : BitVec 3), s.straight g →
    let e := s.en g
    let w := (e.sreg ra.toNat).toNat
    let base := w % 65536
    let x (l : Nat) : Nat := ((e.vreg va.toNat).getD l 0).toNat
    let y (l : Nat) : Nat := ((e.vreg vb.toNat).getD l 0).toNat
    let on (l : Nat) : Bool := (e.preg pg.toNat).getLsbD l
    let put (f : Nat → Int) : Host.Outcome State Fault Refusal :=
      .next (s.stepped g (e.setV vd.toNat ((List.range 16).map fun l =>
        if on l then BitVec.ofInt 16 (f l) else (e.vreg vd.toNat).getD l 0)))
    let S : Nat := 2 ^ sh.toNat
    (∀ sgn : Bool,
      let m := w / 2 ^ 16 % 4096
      let T (i : Nat) : Int := e.tab base sgn i
      exec (.vlut g vd va ra sh pg sgn) s =
        if 0xFFFF < base + 2 * m + 1 then .next (s.engFault g 2)
        else put fun l =>
          if m ≤ x l / S then T m
          else T (x l / S) +
            ((T (x l / S + 1) - T (x l / S)) * (x l % S : Nat) + (if 0 < sh.toNat then (S / 2 : Nat) else 0)) / S) ∧
    (∀ sgn : Bool,
      let mx := w / 2 ^ 16 % 256
      let my := w / 2 ^ 24
      let T (i j : Nat) : Int := e.tab base sgn (j * (mx + 1) + i)
      let ix (l : Nat) : Nat := if mx ≤ x l / S then mx - 1 else x l / S
      let fx (l : Nat) : Nat := if mx ≤ x l / S then S else x l % S
      let iy (l : Nat) : Nat := if my ≤ y l / S then my - 1 else y l / S
      let fy (l : Nat) : Nat := if my ≤ y l / S then S else y l % S
      exec (if sgn then .vlut2s g vd va vb ra sh pg else .vlut2u g vd va vb ra sh pg) s =
        if mx = 0 ∨ my = 0 then .next (s.engFault g 1)
        else if 0xFFFF < base + 2 * (my * (mx + 1) + mx) + 1 then .next (s.engFault g 2)
        else put fun l =>
          (T (ix l) (iy l) * (S - fx l) * (S - fy l) + T (ix l + 1) (iy l) * fx l * (S - fy l) +
            T (ix l) (iy l + 1) * (S - fx l) * fy l + T (ix l + 1) (iy l + 1) * fx l * fy l +
            (if 0 < sh.toNat then (S * S / 2 : Nat) else 0)) / (S * S : Nat)) ∧
    (let step (q : Half) : Half := if q.getLsbD 0 then (q >>> 1) ^^^ 0xB400 else q >>> 1
     let q (l : Nat) : Half := if on l then (step^[16]) (e.q.getD l 0) else e.q.getD l 0
     exec (.vrnd g vd pg) s =
       .next (s.stepped g ({ e with q := (List.range 16).map q }.setV vd.toNat
         ((List.range 16).map fun l => if on l then q l else (e.vreg vd.toNat).getD l 0))))

/-- On an engine that runs straight on, with a := s[ra] + off mod 2^32, a VLD that meets no parity error writes lane l
of vd with the little-endian value at a + 2l where pg[l] is 1 and changes nothing else but pc and the model's counter
of free values; a VST into local memory writes exactly the bytes of those lanes there and changes nothing else but pc;
a VLD not wholly within local memory or the cluster window, and a VST that R251 does not allow, is an address fault
(code 2), whatever pg holds. (R251, R219, R220, R269, spec/11_engine_instruction_set.md) -/
def Obligations.VectorLoadsAndStores : Prop :=
  ∀ (s : State) (g : Nat) (v : BitVec 5) (ra : BitVec 4) (pg : BitVec 3) (off : BitVec 14), s.straight g →
    let e := s.en g
    let a := (BitVec.ofInt 32 ((e.sreg ra.toNat).toInt + off.toInt)).toNat
    let on (l : Nat) : Bool := (e.preg pg.toNat).getLsbD l
    let s' : State := { s with free := if a < 0x10000 then s.free else s.free + 2 ^ 20 }
    ((a + 32 ≤ 0x10000 ∨ (0x100000 ≤ a ∧ a + 32 ≤ 0x200000)) →
      exec (.vld g v ra pg off none) s =
        .next (s'.stepped g (e.setV v.toNat ((List.range 16).map fun l =>
          if on l then BitVec.ofNat 16 (leNat (s.engRead g (a + 2 * l) 2)) else (e.vreg v.toNat).getD l 0)))) ∧
    (a + 32 ≤ 0x10000 → ∃ m : List (Nat × Byte), exec (.vst g v ra pg off) s = .next (s.stepped g { e with mem := m }) ∧
      ∀ b, Sparse.get 0 m b =
        if a ≤ b ∧ b < a + 32 ∧ on ((b - a) / 2) = true then
          BitVec.ofNat 8 (((e.vreg v.toNat).getD ((b - a) / 2) 0).toNat / 256 ^ ((b - a) % 2))
        else Sparse.get 0 e.mem b) ∧
    (¬ (a + 32 ≤ 0x10000 ∨ (0x100000 ≤ a ∧ a + 32 ≤ 0x200000)) →
      exec (.vld g v ra pg off none) s = .next (s.engFault g 2)) ∧
    (¬ (addrOk a 32 = true ∧ s.storeOk g a 32 = true) → exec (.vst g v ra pg off) s = .next (s.engFault g 2))

/-- On an engine that runs straight on: in an active slot with fewer than 6 vectors taken, PGET writes vd the strip's
next input vector and counts it; with fewer than 6 given, PPUT appends v[vd] to the slot's output; elsewhere, both are
stream faults (code 3). SGET with no sensed line queued for the engine clears vd and pd; with one queued it writes vd
bits 11:0 and pd bit 15 of the next 16 entries of the strip. That a nonzero pd of PGET or PPUT is an illegal
instruction is the model's reading (log entry 28). (R218, R227, R229, R261, R269, spec/10_pixel_engines.md,
spec/11_engine_instruction_set.md) -/
def Obligations.PixelAndSampleStreams : Prop :=
  ∀ (s : State) (g : Nat) (vd : BitVec 5) (pd : BitVec 3), s.straight g →
    let e := s.en g
    let c := clusterOf g
    let at_ (line : List Nat) (m l : Nat) : Nat := if 16 * m + l < 90 then line.getD (90 * s.localOf g + 16 * m + l) 0 else 0
    ((s.cl c).slot.active = true → e.gets < 6 →
      exec (.pget g vd 0) s = .next (s.stepped g { e.setV vd.toNat (s.inVec (s.stripOf g) e.gets) with gets := e.gets + 1 })) ∧
    ((s.cl c).slot.active = true → e.puts.length < 6 →
      exec (.pput g vd 0) s = .next (s.stepped g { e with puts := e.puts ++ [e.vreg vd.toNat] })) ∧
    (¬ ((s.cl c).slot.active = true ∧ e.gets < 6) → exec (.pget g vd 0) s = .next (s.engFault g 3)) ∧
    (¬ ((s.cl c).slot.active = true ∧ e.puts.length < 6) → exec (.pput g vd 0) s = .next (s.engFault g 3)) ∧
    (pd ≠ 0 → exec (.pget g vd pd) s = .next (s.engFault g 1) ∧ exec (.pput g vd pd) s = .next (s.engFault g 1)) ∧
    (let hv := max e.hv (6 * (s.cl c).hvBase)
     let line := (s.cl c).harvest.getD (hv / 6 - (s.cl c).hvBase) []
     ((s.cl c).hvBase + (s.cl c).harvest.length ≤ hv / 6 →
        exec (.sget g vd pd) s = .next (s.stepped g ((e.setV vd.toNat (List.replicate 16 0)).setP pd.toNat 0))) ∧
     (hv / 6 < (s.cl c).hvBase + (s.cl c).harvest.length → ∃ t, exec (.sget g vd pd) s = .next t ∧
        (t.en g).pc = e.pc + 1 ∧ (t.en g).hv = hv + 1 ∧
        (∀ l < 16, ((t.en g).vreg vd.toNat).getD l 0 = BitVec.ofNat 16 (at_ line (hv % 6) l % 4096)) ∧
        (pd ≠ 0 → ∀ l < 16, ((t.en g).preg pd.toNat).getLsbD l = decide (32768 ≤ at_ line (hv % 6) l)) ∧
        ∀ r, (t.en g).sreg r = e.sreg r ∧ (t.en g).acc r = e.acc r ∧ (r ≠ pd.toNat → (t.en g).preg r = e.preg r) ∧
          (r ≠ vd.toNat → (t.en g).vreg r = e.vreg r)))

/-- On an engine that runs: NOP and FENCE, when it runs straight on, only advance pc; HALT leaves it halted with its
registers as they are; WAITL whose engine has not overrun a slot puts the engine to sleep with its registers as they
are, the captured checkpoint in the cluster's drain when a job holds the cluster; a WAITL that has overrun returns at
once with rd's late bit 31 set and, in an active slot, bit 30, the line in bits 29:16 and the programmed line in bits
15:0; SIG 0 adds 1 to the engine's posted count, or with 8 entries outstanding is a stream fault (code 3); SIG 1 to 7
adds 1 to the cluster's counter of the channel; SIG 8 to 15 is an illegal instruction (code 1). (R230, R235, R262,
R263, R264, R265, R267, R269, spec/11_engine_instruction_set.md) -/
def Obligations.EngineControl : Prop :=
  ∀ (s : State) (g : Nat), s.runs g →
    let e := s.en g
    let c := clusterOf g
    let i := s.localOf g
    (s.straight g → exec (.ctrlNop g) s = .next (s.stepped g e) ∧ exec (.fence g) s = .next (s.stepped g e)) ∧
    (∃ t, exec (.halt g) s = .next t ∧ t.en g = { e with st := 3 } ∧ (∀ k, k ≠ g → t.en k = s.en k)) ∧
    (∀ rd : BitVec 4, e.overrun = false → ∃ t, exec (.waitl g rd) s = .next t ∧ t.en g = { e with st := 2, waitRd := rd } ∧
      (∀ k, k ≠ g → t.en k = s.en k) ∧
      ∀ j, s.jobOf c = some j →
        Sparse.get [] (t.cl c).drain i = checkpointOf e j.image.ckptBase j.image.ckptLen) ∧
    (∀ rd : BitVec 4, rd ≠ 0 → e.overrun = true → s.straight g → ∃ t, exec (.waitl g rd) s = .next t ∧
      (t.en g).st = 1 ∧ (t.en g).pc = e.pc + 1 ∧ (t.en g).overrun = false ∧ (t.en g).slot = (s.cl c).slot ∧
      let x := (s.cl c).slot
      (x.line < 2 ^ 14 → x.prog < 2 ^ 16 → ((t.en g).sreg rd.toNat).toNat =
        2 ^ 31 + (if x.active then 2 ^ 30 + x.line * 65536 else 0) + x.prog)) ∧
    (s.straight g → Sparse.get 0 (s.cl c).wbPost i - Sparse.get 0 (s.cl c).wbCnt i ≠ 8 →
      exec (.sig g 0) s = .next ((s.setCl c { s.cl c with
        wbPost := Sparse.set 0 (s.cl c).wbPost i (Sparse.get 0 (s.cl c).wbPost i + 1) }).stepped g e)) ∧
    (Sparse.get 0 (s.cl c).wbPost i - Sparse.get 0 (s.cl c).wbCnt i = 8 → exec (.sig g 0) s = .next (s.engFault g 3)) ∧
    (∀ ch : BitVec 4, s.straight g → 1 ≤ ch.toNat → ch.toNat ≤ 7 →
      exec (.sig g ch) s = .next ((s.setCl c { s.cl c with
        sig := Sparse.set 0 (s.cl c).sig ch.toNat (Sparse.get 0 (s.cl c).sig ch.toNat + 1) }).stepped g e)) ∧
    (∀ ch : BitVec 4, 8 ≤ ch.toNat → exec (.sig g ch) s = .next (s.engFault g 1))

/-- On an engine that runs straight on: a read of a listed CSR writes s[rd] its value and, but for CSR_CYC (whose
value is free), changes nothing else but pc, where CSR_EID, CSR_FRAME, CSR_TSLOT_LO and HI, CSR_MSFLAG, CSR_WBPOST,
CSR_WBCNT and CSR_LCNT0 and 1 are as R267 lists them and CSR_RNDSEED reads 0; write, set and clear of CSR_MSFLAG first
read its old value into rd and then give it s[ra], the or, or the and-not of its 16 bits; a write of CSR_RNDSEED seeds
the LFSRs as R260 says; a write, set or clear of an RO CSR and any access to a number not listed are illegal
instructions (code 1). (R266) -/
def Obligations.CsrResults : Prop :=
  ∀ (s : State) (g : Nat) (rd ra : BitVec 4) (n : BitVec 12), s.straight g →
    let e := s.en g
    let k := n.toNat
    let c := clusterOf g
    let ro := k ≤ 7 ∨ (0x11 ≤ k ∧ k ≤ 0x19) ∨ k = 0x30 ∨ k = 0x31
    let listed := ro ∨ k = 0x10 ∨ k = 0x20
    let rdSet (w : Nat) : Eng := if rd = 0 then e else { e with s := Sparse.set 0 e.s rd.toNat (BitVec.ofNat 32 w) }
    let left (l : Option LoopLv) : Nat := (l.map (·.left)).getD 0
    let value : Option Nat :=
      if k = 0 then some (s.stripOf g + if 512 ≤ g then 65536 else 0)
      else if k = 2 then some e.slot.frame
      else if k = 3 then some (e.slot.tb % 2 ^ 32)
      else if k = 4 then some (e.slot.tb / 2 ^ 32)
      else if k = 0x10 then some e.msflag.toNat
      else if k = 0x11 then some (Sparse.get 0 (s.cl c).wbPost (s.localOf g)).toNat
      else if k = 0x12 then some (Sparse.get 0 (s.cl c).wbCnt (s.localOf g)).toNat
      else if 0x13 ≤ k ∧ k ≤ 0x19 then some (Sparse.get 0 (s.cl c).sig (k - 0x12)).toNat
      else if k = 0x20 then some 0
      else if k = 0x30 then some (left (outerLv e.loops))
      else if k = 0x31 then some (left (innerLv e.loops))
      else none
    (∀ w, value = some w → exec (.csrRead g rd 0 n) s = .next (s.stepped g (rdSet w))) ∧
    (listed → ∃ w f, exec (.csrRead g rd 0 n) s = .next ({ s with free := f }.stepped g (rdSet w))) ∧
    (let a : Word := (rdSet e.msflag.toNat).sreg ra.toNat
     let put (x : Half) : Host.Outcome State Fault Refusal := .next (s.stepped g { rdSet e.msflag.toNat with msflag := x })
     exec (.csrWrite g rd ra 0x10) s = put (a.setWidth 16) ∧
     exec (.csrSet g rd ra 0x10) s = put (e.msflag ||| a.setWidth 16) ∧
     exec (.csrClear g rd ra 0x10) s = put (e.msflag &&& ~~~(a.setWidth 16))) ∧
    (let w := ((rdSet 0).sreg ra.toNat).toNat % 65536
     exec (.csrWrite g rd ra 0x20) s = .next (s.stepped g { rdSet 0 with
       q := (List.range 16).map fun l =>
         let x : Half := BitVec.ofNat 16 w ^^^ BitVec.ofNat 16 (0x9E37 * (l + 1))
         if x = 0 then 1 else x })) ∧
    (¬ listed → exec (.csrRead g rd ra n) s = .next (s.engFault g 1)) ∧
    (ro ∨ ¬ listed → exec (.csrWrite g rd ra n) s = .next (s.engFault g 1) ∧
      exec (.csrSet g rd ra n) s = .next (s.engFault g 1) ∧ exec (.csrClear g rd ra n) s = .next (s.engFault g 1))

/-- On an engine that runs, with the watchdog off for its cluster, the fetch of a word that no format of R246 admits
leaves the engine halted with fault code 1 at the pc of that word, its registers, memory and pc as they were, and
every other engine as it was (that engine keeps no sensed line in its cluster's harvest ring any longer, hvPrune,
R229); an engine so halted retires nothing: every engine instruction on it changes nothing. The words of opcode 0 and
of opcodes 0x1F to 0x3F are such words. (R236, R245, R269, spec/11_engine_instruction_set.md) -/
def Obligations.IllegalWordsFault : Prop :=
  (∀ (s : State) (g : Nat) (w : Word), s.runs g → g < 512 → s.wdRuns (clusterOf g) = false → decodeEngine g w = none →
    exec (.illegalInstruction g w) s =
      .next ((s.setEn g { s.en g with st := 5, fault := 1, faultAt := (s.en g).pc.toNat }).hvPrune (clusterOf g))) ∧
  (∀ (s : State) (g : Nat) (i : Instr), (s.en g).st = 5 → i.engine? = some g → exec i s = .next s) ∧
  (∀ (g : Nat) (w : Word), w.toNat / 2 ^ 26 = 0 ∨ 0x1F ≤ w.toNat / 2 ^ 26 → decodeEngine g w = none)

/-- For every well-formed engine instruction (a VLD without the parity error that a run may bring to it), its word
decodes to that instruction with every operand at every value. (R245, R246, spec/11_engine_instruction_set.md) -/
def Obligations.EngineWordsRoundTrip : Prop :=
  ∀ (i : Instr) (w : Word), i.wf = true → encodeEngine i = some w → (∀ g vd ra pg off p, i ≠ .vld g vd ra pg off (some p)) →
    ∃ g, i.engine? = some g ∧ decodeEngine g w = some i

/-- Every word that engine g of the part decodes gives a well-formed engine instruction of g, never an illegal one;
unless the word's opcode is CTRL's (whose functions leave fields unused), the word is exactly that instruction's
encoding, so no two words outside CTRL decode to one instruction. (R245, R246, spec/11_engine_instruction_set.md) -/
def Obligations.DecodedWordsAreWellFormed : Prop :=
  ∀ (g : Nat) (w : Word) (i : Instr), g < 544 → decodeEngine g w = some i →
    i.wf = true ∧ i.engine? = some g ∧ (w.toNat / 2 ^ 26 ≠ 0x0E → encodeEngine i = some w)

/-- The OWNER's write of 1 to KDL_CTRL.train trains every enabled driver at KDL_CFG.rate. On a back channel in SYNC,
once training's due packets are queued, a packet whose CRC or driver number is wrong only counts in KDL_DRV_CNT_BC. A
STATUS records its flags, counts and temperature; with all three lock bits it takes a driver in TRAIN to the ECHO step
of 16 ECHO_REQs and one in RETRAIN back to RUN with one check ECHO_REQ; in RUN a clear lock bit, or an alert for
failed bursts (log entry 31's reading), starts a transient retrain. A valid ECHO gives phi = (RT - turn x UI) / 2: a
sample of the ECHO step; a retrain's check, which asks for 16 more where it is off by more than 1 ns; in RUN one of
the last 16 samples whose mean is phi, unless off by more than 1 ns. Without STATUS in 200 us a driver tries again up
to twice, from preset, then goes to DOWN with cause 3. The ECHO step ends in RUN with at least 12 samples within 200
ps, is repeated once, and ends in DOWN with cause 2. A retrain not locked in time is tried again, then DOWN with cause
0. Every second each driver in RUN gets one ECHO_REQ, in vertical blanking. An enabled driver in DOWN trains again
after 10 ms, in vertical blanking. A back channel down 1 ms posts LANE_DOWN with cause 1, once, and the driver stays
in RUN. With the raster stopped packets go out at once (ctlOut; log entry 31). (goOn after BAR0 writes: R326.) (R281,
R284, R285, R286, R289, R290, R291, spec/12_drive_link.md) -/
def Obligations.DriverTraining : Prop :=
  (∀ (s : State) (p : Nat), s.ownerUp p →
    exec (.kdlTrain p 1) s =
      .next (s.drvs.foldl State.trainDrv { s with kdl := { s.kdl with rate := s.fld KDL_CFG_rate } }).goOn) ∧
  (∀ (s : State) (k : BcPacket) (rt : Nat), k.drv < 64 → (s.lane (200 + k.drv)).st = 3 →
    let d := k.drv
    let u := s.drvFollow d
    let x := u.drv d
    let b := k.body
    (bcGood k = false →
      let bad : Host.Outcome State Fault Refusal := .next (u.setDrv d { x with cBc := min (2 ^ 32 - 1) (x.cBc + 1) })
      exec (.bcStatus k) s = bad ∧ exec (.echo k rt) s = bad ∧ exec (.sense k) s = bad) ∧
    (bcGood k = true → bcByte k 0 = 1 → b.length = 16 →
      let f := leAt b 2 1
      let flags := f % 8 + f / 16 * 16
      let add (c last now : Nat) : Nat := min (2 ^ 32 - 1) (c + (now + 65536 - last) % 65536)
      let y : Driver := { x with
        laneA := f.testBit 0, laneB := f.testBit 1, deskew := f.testBit 2, cseqAcc := leAt b 3 1, lastFlags := flags
        cCrc := add x.cCrc x.lastCrc (leAt b 4 2), lastCrc := leAt b 4 2
        cHold := add x.cHold x.lastHold (leAt b 6 2), lastHold := leAt b 6 2
        cCtl := add x.cCtl x.lastCtl (leAt b 8 2), lastCtl := leAt b 8 2
        temp := some (signed 16 (leAt b 0 2)), tempAt := u.now }
      let failed := f.testBit 3 = true ∧ (flags = x.lastFlags ∨ 2 ≤ (leAt b 4 2 + 65536 - x.lastCrc) % 65536)
      exec (.bcStatus k) s =
        .next (if x.st = 1 ∧ f % 8 = 7 then
            ((u.setDrv d { y with st := 2, since := u.now, samples := [], echoes := 16, nextAt := u.now }).drvFollow d).ctlOut
          else if x.st = 3 ∧ (f % 8 ≠ 7 ∨ failed) then (u.setDrv d y).retrainDrv d 1
          else if x.st = 4 ∧ f % 8 = 7 then (u.setDrv d { y with st := 3, check := true, attempt := 0 }).sendEchoes d 1
          else u.setDrv d y).ctlOut) ∧
    (bcGood k = true → bcByte k 0 = 3 → b.length = 16 → 100 ≤ leAt b 0 2 →
      let ui := if s.kdl.rate = 0 then 320 else if s.kdl.rate = 1 then 160 else if s.kdl.rate = 2 then 100 else 80
      let phi := (10 * rt - leAt b 0 2 * ui) / 2
      let y : Driver := { x with tRxd := leAt b 2 2, tConv := leAt b 4 2 }
      let far (m : Nat) : Prop := m + 1000 < phi ∨ phi + 1000 < m
      let l := (x.samples ++ [phi]).drop (x.samples.length + 1 - 16)
      (x.st = 2 → exec (.echo k rt) s = .next (u.setDrv d { y with samples := x.samples ++ [phi] }).ctlOut) ∧
      (x.st = 3 → x.check = true →
        let z := u.setDrv d { y with check := false }
        (far x.phi → exec (.echo k rt) s = .next ((z.setFld KDL_FLAGS_echo_drift 1).sendEchoes d 16).ctlOut) ∧
        (¬far x.phi → exec (.echo k rt) s = .next z.ctlOut)) ∧
      (x.st = 3 → x.check = false →
        (far (meanOf x.samples) → exec (.echo k rt) s = .next ((u.setDrv d y).setFld KDL_FLAGS_echo_drift 1).ctlOut) ∧
        (¬far (meanOf x.samples) → exec (.echo k rt) s = .next (u.setDrv d { y with samples := l, phi := meanOf l }).ctlOut)))) ∧
  (∀ (s : State) (d : Nat),
    let x := s.drv d
    (x.st = 1 →
      let t := (s.reach (x.since + 200000)).drvFollow d
      exec (.trainTimeout d) s =
        .next (if x.tries < 2 then
            (((t.setDrv d { t.drv d with tries := x.tries + 1, since := t.now, nextAt := t.now }).askPreset (200 + d)).burstDrv d
              256 |>.drvFollow d).ctlOut
          else t.drvDown d 3)) ∧
    (x.st = 2 →
      let t := (s.reach (x.since + 30000)).drvFollow d
      exec (.echoStepEnd d) s =
        .next (if 12 ≤ x.samples.length ∧ ∀ a ∈ x.samples, ∀ b ∈ x.samples, a ≤ b + 200 then t.drvRun d
          else if x.echoRepeat = true then t.drvDown d 2
          else (t.setDrv d { t.drv d with echoRepeat := true }).echoStep d)) ∧
    (x.st = 4 → exec (.retrainCheck d) s =
      .next (if x.attempt = 1 then ((s.reach (x.since + 2500)).drvFollow d).retrainDrv d 2
        else ((s.reach (x.since + 4000)).drvFollow d).drvDown d 0)) ∧
    (x.st = 5 → s.drvOn d = true →
      let t := (s.reach (x.since + 10000000)).setDrv d { x with retryDue := true }
      (s.inBlank = false → exec (.downRetry d) s = .next t) ∧
      (s.inBlank = true → d < 64 → s.kdl.echoDue = false → (∀ e, e ≠ d → (s.drv e).retryDue = false) →
        exec (.downRetry d) s = .next (t.trainDrv d))) ∧
    (∀ t : Ns, x.st = 3 → x.bcDown = some t → x.bcLost = false →
      exec (.bcLost d) s =
        .next ((((s.reach (t + 1000000)).setDrv d { x with bcLost := true }).setFld KDL_FLAGS_bc_lost 1).postKdl 0x30 (72 + 2 * d + 4096)))) ∧
  ∀ s : State,
    let t := s.reach (s.kdl.echoAt + 1000000000)
    let due (b : Bool) : State := { t with kdl := { s.kdl with echoAt := t.now, echoDue := b } }
    (s.inBlank = false → exec .echoPeriod s = .next (due true)) ∧
    (s.inBlank = true → (∀ d, (s.drv d).retryDue = false) →
      exec .echoPeriod s =
        .next (((List.range 64).filter fun d => s.drvOn d && (s.drv d).st == 3).foldl (fun v d => v.ctl d 5 0x80 []) (due false)).ctlOut)

/-- Dispatched without fence or launch time, from the OWNER: a HARVEST of either kind completes DENIED where its
result area is not in the OWNER's regions, else NOT_READY outside mode 9, for kind 0 on an LCD panel, with no enabled
driver in RUN or with a result area while the frame store is down, else NO_RESOURCE while a sweep is there, else
INVALID for values outside R292 or R302 or a spacing too short, else it is the sweep. The SENSE of an outstanding line
and driver leaves the list of those awaited, is written to the result area if there is one, and joins its line; the
cluster's ring takes the line once both drivers' parts are settled. A SENSE not there in time is to be requested once
more after the sweep; one asked for again is missing, sets KDL_FLAGS.sense_miss and leaves entries with bit 15 clear
(zeros: log entry 32's choice). (goOn: R326.) (R292, R293, R294, R295, R302, spec/12_drive_link.md) -/
def Obligations.HarvestSweeps : Prop :=
  (∀ (s : State) (h : Hdr) (g : Nat) (a : HarvestArgs), s.takes h g → plainHdr h → h.part = s.owner → a.result < 2 ^ 48 →
    let u := s.counted
    let r := s.reqOf h g
    let run := (List.range 64).filter fun d => s.drvOn d && (s.drv d).st == 3
    let tconv := run.foldl (fun m d => max m (s.drv d).tConv) 0
    let ok := 1 ≤ a.nlines ∧ a.nlines ≤ 8640 ∧ 1 ≤ a.step ∧ a.step ≤ 255 ∧ a.line0 + (a.nlines - 1) * a.step < s.timing.vactive ∧
      a.level < 1024 ∧ 1 ≤ a.colours ∧ a.colours ≤ 7 ∧ 1 ≤ a.spacing ∧ a.spacing ≤ 255 ∧
      (a.settle * 100 + tconv * 10 + 4000) * 256 ≤ a.spacing * s.timing.lt ∧
      (a.settle + s.fld PNL_HV_hold) * 25600 + (a.step - 1) * 2 * s.fld PNL_HV_pass * 160 ≤ a.spacing * s.timing.lt
    let sweep (kind : Nat) : Host.Outcome State Fault Refusal :=
      .next (if a.result ≠ 0 ∧ s.areaIn (fun _ o => o == s.owner) 65 a.result (a.nlines * 92160) = false then u.done r DENIED
        else if s.mode ≠ 9 ∨ (kind = 0 ∧ s.fld PNL_PANEL_type = 0) ∨ run = [] ∨ (a.result ≠ 0 ∧ s.storeUp = false) then
          u.done r NOT_READY
        else if s.kdl.sweep.isSome = true then u.done r NO_RESOURCE
        else if ¬ok then u.done r INVALID
        else { u with kdl := { s.kdl with sweep := some { req := r, kind := kind, a := a } } }).goOn
    exec (.harvestSensing h a) s = sweep 0 ∧ exec (.harvestMeasurement h a) s = sweep 1) ∧
  (∀ (s : State) (k : BcPacket) (w : Sweep) (o : Nat × Nat × Ns), k.drv < 64 → (s.lane (200 + k.drv)).st = 3 →
    bcGood k = true → bcByte k 0 = 2 → k.body.length = 1084 → s.kdl.sweep = some w →
    (w.out.find? fun o => o.2.1 == k.drv && w.a.line0 + o.1 * w.a.step == leAt k.body 0 2) = some o →
    let d := k.drv
    let e := senseEntries (leAt k.body 2 1 % 8) k.body
    let w' := { w with out := w.out.filter (· != o), part := w.part ++ [(o.1, d, e)] }
    let u := s.drvFollow d
    let t := (if w.a.result = 0 then u
      else u.ppaWrite (w.a.result + o.1 * 92160 + d * 1440) (e.flatMap (leBytes 2))).countLine w' o.1
    exec (.sense k) s = .next ((t.ringLine w' o.1 (d / 2)).2.putSweep (t.ringLine w' o.1 (d / 2)).1).ctlOut) ∧
  ∀ (s : State) (d line : Nat) (w : Sweep) (o : Nat × Nat × Ns), s.kdl.sweep = some w →
    (w.out.find? fun o => o.2.1 == d && w.a.line0 + o.1 * w.a.step == line) = some o →
    let t := s.reach (o.2.2 + 20000)
    let w' := { w with out := w.out.filter (· != o) }
    (w.retrying = false →
      exec (.senseTimeout d line) s = .next ({ t.setFld KDL_HV_STATUS_missing (min 32767 w.missing.length) with
        kdl := { s.kdl with sweep := some { w' with retry := w.retry ++ [(o.1, d)] } } })) ∧
    (w.retrying = true →
      let m := { w' with missing := if w.missing.contains o.1 then w.missing else w.missing ++ [o.1] }
      let f := t.setFld KDL_FLAGS_sense_miss 1
      let r := (if w.a.result = 0 then f
        else f.ppaWrite (w.a.result + o.1 * 92160 + d * 1440) ((List.replicate 720 0).flatMap (leBytes 2))).ringLine m o.1 (d / 2)
      exec (.senseTimeout d line) s = .next (r.2.putSweep r.1))

/-- The OWNER's write of on starts a power-on in BRINGUP from OFF or FAULT (at the first enabled step when no crack
loop is used, else with the crack measurement), and is refused otherwise; its write of off in BRINGUP in ON starts the
full discharge (with the raster stopped the first DISCHARGE copy goes out at once), does nothing otherwise; capture in
BRINGUP starts two measurements. PG that rises ends its step's wait; a PG timeout releases the raised steps without
AGO, to FAULT with cause 1; after its delay the next enabled step follows, and after the last one GRST, LS_EN and ON.
PG that falls in ON starts the shortened discharge, to FAULT with cause 2. The second copy with the raster stopped is
followed by AGO; after its hold, and after each off delay, the highest raised step falls, and after the last AGO and
LS_EN fall, the lanes idle and the end state is entered. A second PFW_N does nothing but its wake record; with panel
power OFF or FAULT the panel outputs do not change on PFW_N. A due measurement updates every enabled loop with the
converter's code less the input's offset (the first of a power-on counts one check), and two captures give the
baseline. (goOn after BAR0 writes: R326.) (R303, R304, R305, R306, R307, R308, R309, R310, R43,
spec/13_row_timing_and_panel_power.md) -/
def Obligations.PanelPowerAndDischarge : Prop :=
  (∀ (s : State) (p : Nat), s.ownerUp p →
    exec (.pnlPowerOn p 1) s =
      .next (if s.mode = 10 ∧ (s.pwrState = 0 ∨ s.pwrState = 4) then
          let u := (s.setFld PNL_PWR_STATUS_state 1).setPnl { s.pnl with waitPg := false, checks := 0, stage := .none, live := false }
          if s.fld PNL_CRK_CFG_en = 0 then (u.setPnl { u.pnl with checks := 2 }).raiseFrom 0 else u.setFld PNL_CRK_STATUS_busy 1
        else s.setFld PNL_FLAGS_refused 1).goOn ∧
    exec (.pnlPowerOff p 2) s =
      .next (if s.mode = 10 ∧ s.pwrState = 2 then
          (if s.pnl.stage = .none then
            let u := s.setFld PNL_PWR_STATUS_state 3
            let x : Pnl := { s.pnl with waitPg := false, short := false, endState := 0, endCause := 5 }
            if s.running = true then u.setPnl { x with stage := .blackDue } else (u.sendDischarge true).setPnl { x with stage := .copies 1 }
          else s)
        else s).goOn ∧
    exec (.crackCapture p 1) s =
      .next (if s.mode = 10 then (s.setPnl { s.pnl with capturing := 2, sums := [] }).setFld PNL_CRK_STATUS_busy 1
        else s.setFld PNL_FLAGS_refused 1).goOn) ∧
  (∀ (s : State) (k : Nat), k < 8 →
    let u (b : Bool) := s.setFld PNL_PWR_STATUS_pg (withBit (s.fld PNL_PWR_STATUS_pg) k b)
    exec (.pnlPgRise k) s =
      .next (if s.pwrState = 1 ∧ s.pnl.waitPg = true ∧ s.fld PNL_PWR_STATUS_step = k then
        (u true).setPnl { s.pnl with waitPg := false, stepAt := s.now } else u true) ∧
    exec (.pnlPgFall k) s =
      .next (if s.pwrState = 2 ∧ s.fld (PNL_SEQ_en k) = 1 ∧ s.fld (PNL_SEQ_pg_used k) = 1 then
        (((u false).setFld PNL_FLAGS_pg_lost 1).setFld PNL_PWR_STATUS_step k).startShort 4 2 else u false)) ∧
  (∀ s : State,
    let k := s.fld PNL_PWR_STATUS_step
    (s.pwrState = 1 → s.pnl.waitPg = true → exec .pgTimeout s =
      .next (((s.reach (s.pnl.stepAt + 1000000 * max 1 (s.fld (PNL_SEQ_pg_to k)))).setFld PNL_FLAGS_pg_to 1).release 4 1)) ∧
    (s.pwrState = 1 → s.pnl.waitPg = false → s.pnl.checks = 2 → s.pnl.stage = .none →
      let t := s.reach (s.pnl.stepAt + 10000 * s.fld (PNL_SEQ_on_delay k))
      exec .seqDelayEnd s = .next (t.raiseFrom (k + 1)) ∧
      ((∀ j < 8, k < j → s.fld (PNL_SEQ_en j) = 0) →
        let r : Int := (t.now * 256 / 160 * 160 : Nat)
        exec .seqDelayEnd s =
          .next (((t.gatePulse "GRST" 0 0 r (r + 160 * (s.fld PNL_GRST_width : Int))).setLs true).enterPwr 2 0))) ∧
    (s.running = false → s.pnl.stage = .copies 1 →
      exec .dischargeCopyTimer s = .next ((s.reach (s.now + 1000)).sendDischarge false).startAgo) ∧
    (s.pnl.stage = .ago → exec .agoHoldEnd s = .next (s.reach s.pnl.agoUntil).releaseNext) ∧
    (s.pnl.stage = .rails →
      exec .offDelayEnd s = .next (s.reach (s.pnl.stepAt + 10000 * s.fld (PNL_SEQ_off_delay k))).releaseNext) ∧
    (∀ j < 8, (s.fld PNL_PWR_STATUS_en).testBit j = true → (∀ i < 8, j < i → (s.fld PNL_PWR_STATUS_en).testBit i = false) →
      s.releaseNext = (s.setPanelEn j false).setPnl { s.pnl with stage := .rails, stepAt := s.now }) ∧
    (s.fld PNL_PWR_STATUS_en = 0 → s.pnl.ago = true → s.pnl.lsEn = true →
      s.releaseNext = ((((s.setPnl { s.pnl with stage := .none, live := false }).setAgo false).setLs false).kdlIdle).enterPwr
        s.pnl.endState s.pnl.endCause)) ∧
  (∀ s : State,
    (s.pnl.pfw = true → s.pwr.deep = 0 → exec .pfwN s = .next (s.wakeFires 9)) ∧
    (s.pnl.pfw = false → s.pwr.deep = 0 → s.inReset = false → s.mode = 11 →
      let u := s.wakeFires 9
      let v := (u.setPnl { u.pnl with pfw := true }).dropSwitches ABORTED
      let w := ((({ v with mod := { v.mod with autoExit := false } } : State).pfwPanel).countLife 1).stopNvs
      exec .pfwN s = .next (if w.nvs.saving = true then w else w.startSave)) ∧
    (s.pwrState = 0 ∨ s.pwrState = 4 → s.pfwPanel = s)) ∧
  ∀ (s : State) (raw : List Nat), s.trimming = false → s.fld PNL_CRK_STATUS_busy = 1 ∨ s.pnl.measureDue = true →
    let code (k : Nat) : Nat := min 4095 ((raw.getD k 0 : Int) - s.cal.crackOff.getD k 0).toNat
    let t := (List.range 4).foldl (fun t k => t.measureLoop (code k) k) s
    (t.pnl.capturing = 0 → t.pwrState = 1 → t.pnl.checks = 0 →
      let u := (List.range 4).foldl (fun t k => t.declareCrack true k) t
      exec (.crackMeasurement raw) s = .next (u.setPnl { u.pnl with checks := u.pnl.checks + 1 })) ∧
    (t.pnl.capturing = 0 → t.pwrState ≠ 1 →
      let u := (List.range 4).foldl (fun t k => t.declareCrack false k) t
      exec (.crackMeasurement raw) s = .next ((u.setPnl { u.pnl with measureDue := false }).setFld PNL_CRK_STATUS_busy 0)) ∧
    (t.pnl.capturing = 1 →
      let sums := (List.range 4).map fun k => t.pnl.sums.getD k 0 + code k
      let u := t.setPnl { t.pnl with capturing := 0, sums := sums }
      let v := (List.range 4).foldl (fun v k => if v.loopOn k = true then v.setFld (PNL_CRK_CODE_base k) (sums.getD k 0 / 2) else v) u
      exec (.crackMeasurement raw) s =
        .next ((v.setFld PNL_CRK_STATUS_base_valid 1).setFld PNL_CRK_STATUS_busy 0).storeBaseline)

/-- The OWNER's write of an allocation takes effect when no queue of that partition is enabled and no two ranges
overlap or pass 16,383, and is refused otherwise. A write that enables the selected disabled queue with kind 0 to 2
takes the word with head and tail 0; with kind 3 only GLB_FLAGS.range; a write that disables it empties it, with
completions that waited counted as dropped. A tail doorbell within the ring gives the tail and one beyond it ERROR
with cause 1; a head doorbell not beyond the tail gives the head and frees entries; an ignored doorbell is counted. An
aggregation time that ends sends the queue's message. Clearing a vector's mask sends a message that waited. A reset of
a port's host interface leaves no queue of the partition enabled, drops what waited for it and changes nothing outside
registers, front-end chains and host interface. L0 needs the port's domain; L1 asks for RET, L2 and a link down for
OFF, where allowed. Configuration requests answer retry until the release. (goOn: R326.) (R314, R315, R316, R320,
R321, R342, R343, R389, R489, spec/14_host_queues.md) -/
def Obligations.QueuesDoorbellsAndMessages : Prop :=
  (∀ (s : State) (p k : Nat) (v : Word), s.ownerUp p → k < 4 → v.toNat &&& 0x7F003F = v.toNat →
    let b := v.toNat % 64
    let c := v.toNat / 65536
    let meets (j : Nat) : Prop := j ≠ k ∧ c ≠ 0 ∧ s.fld (HIF_QALLOC_count j) ≠ 0 ∧
      b < s.fld (HIF_QALLOC_base j) + s.fld (HIF_QALLOC_count j) ∧ s.fld (HIF_QALLOC_base j) < b + c
    (s.hasQueue k = false → (∀ j < 4, ¬meets j) → b + c ≤ 64 →
      exec (.hifQallocWrite p k v) s = .next (s.setReg (HIF_QALLOC k) 0 0 v.toNat).goOn) ∧
    (s.hasQueue k = true ∨ (∃ j < 4, meets j) ∨ 64 < b + c →
      exec (.hifQallocWrite p k v) s = .next (s.setFldP HIF_FLAGS_alloc_refused p 1).goOn)) ∧
  (∀ (s : State) (p g : Nat) (v : Word), s.hostUp p → s.gq p (s.fldP HIF_Q_SEL_q p) = some g → v.toNat &&& 0xFFF00FFF = v.toNat →
    (s.qEn g = false → v.getLsbD 31 = true → s.reg HIF_Q_CFG g 0 &&& 0xFFF00FFF = s.reg HIF_Q_CFG g 0 →
      exec (.queueEnable p v) s =
        .next (if v.toNat / 2 ^ 29 % 4 = 3 then s.setFld GLB_FLAGS_range 1
          else (s.setReg HIF_Q_CFG g 0 v.toNat).setQueue g
            { ({} : Queue) with dropped := (s.queue g).dropped, rejected := (s.queue g).rejected }).goOn) ∧
    (s.qEn g = true → v.getLsbD 31 = false →
      let mine (c : Cpl) : Bool := c.p == p && c.cq == s.lq p g
      let n := (s.hif.held.filter mine).length
      let d := (s.queue g).dropped
      let u := (s.setFldI HIF_Q_CFG_en g 0).setQueue g
        { ({} : Queue) with dropped := if n = 0 then d else min 65535 (d + n), rejected := (s.queue g).rejected }
      exec (.queueDisable p v) s = .next ({ u with
        hif := { u.hif with held := s.hif.held.filter fun c => !mine c },
        lyr := { u.lyr with open_ := s.lyr.open_.filter fun c => !(c.1 == p && c.2.1 == s.lq p g) } } : State).goOn)) ∧
  (∀ (s : State) (p i g size : Nat) (v : BitVec 64), p < 4 → s.hif.released = true → s.pwr.deep < 5 →
    let bad := s.partOn p = false ∨ s.gq p i = none ∨ size ≠ 4 ∧ size ≠ 8
    let idx := v.toNat % 2 ^ 32
    let good := s.partOn p = true ∧ s.gq p i = some g ∧ s.qEn g = true ∧ (s.queue g).err = 0 ∧ (size = 4 ∨ size = 8)
    let n := s.qSize g
    let q := s.queue g
    (bad → exec (.tailDoorbell p (8 * i) size v) s = .next (s.dbDrop p).goOn ∧
      exec (.headDoorbell p (8 * i) size v) s = .next (s.dbDrop p).goOn) ∧
    (good → s.qKind g = 0 → exec (.tailDoorbell p (8 * i) size v) s =
      .next (if idx < 65536 ∧ idx % 32768 < n ∧ ringCount n q.head.toNat idx ≤ n then
          s.setQueue g { q with tail := BitVec.ofNat 16 idx }
        else s.qError p g 1).goOn) ∧
    (good → s.qKind g ≠ 0 → exec (.headDoorbell p (8 * i) size v) s =
      .next (if idx < 65536 ∧ idx % 32768 < n ∧ ringCount n q.head.toNat idx ≤ s.qCount g then
          (s.setQueue g { q with head := BitVec.ofNat 16 idx }).headFreed p g
        else s.qError p g 1).goOn)) ∧
  (∀ (s : State) (p q g : Nat), s.gq p q = some g → s.qEn g = true → s.qKind g ≠ 0 → s.qLoc g = false → (s.queue g).recs ≠ 0 →
    (s.queue g).await = false → s.fldI HIF_Q_CFG_msix_en g = 1 →
    exec (.msixAggTimeout p q) s = .next ((s.reach ((s.queue g).recAt + 100 * s.fldI HIF_Q_AGG_agg_time g)).msixDue p g)) ∧
  (∀ (s : State) (p vec : Nat), s.hostUp p → vec < 2048 →
    let k := 2048 * p + vec
    let u : State := { s with hif := { s.hif with mask := Sparse.set true s.hif.mask k false } }
    exec (.msixUnmask p vec) s =
      .next (if Sparse.get false s.hif.fmask p = false ∧ Sparse.get false s.hif.pba k = true then
          ({ u with hif := { u.hif with pba := Sparse.set false s.hif.pba k false } } : State).emit (.msix p vec)
        else u).goOn) ∧
  (∀ (s : State) (n : Nat), n < 4 → ∃ t : State, exec (.hpPerst n) s = .next t ∧ exec (.flr n) s = .next t ∧
    ({ t with regs := s.regs, hif := s.hif, lyr := s.lyr } : State) = s ∧
    t.hif.held = (s.hif.held.filter fun c => c.p != n) ∧ t.lyr.open_ = (s.lyr.open_.filter fun c => c.1 != n) ∧
    ∀ g < 16384, s.gqPart g = some n → t.queue g = {} ∧ t.reg HIF_Q_CFG g 0 = 0x04100000) ∧
  (∀ (s : State) (n : Nat), n < 4 → s.pwr.deep = 0 →
    let u (code : Nat) : State := { s with hif := { s.hif with links := Sparse.set 0 s.hif.links n code } }
    (Sparse.get false s.pwr.hostWake n = false → s.pwr.wakeDue = false →
      exec (.hpLinkState n .l0) s = .next ((u 1).needNow (2 + n))) ∧
    exec (.hpLinkState n .l1) s = .next (if 1 ≤ s.domMax (2 + n) then (u 2).requestDom (2 + n) 1 else u 2) ∧
    exec (.hpLinkState n .l2) s = .next (if 2 ≤ s.domMax (2 + n) then (u 3).requestDom (2 + n) 2 else u 3) ∧
    exec (.hpLinkState n .down) s = .next (if 2 ≤ s.domMax (2 + n) then (u 0).requestDom (2 + n) 2 else u 0)) ∧
  ∀ (s : State) (n : Nat), n < 4 →
    exec (.configRequest n) s = .next (s.emit (.config n (s.inReset || !s.hif.released)))

/-- Dispatched without fence or launch time: a NOP completes OK, restarting the heartbeat if it comes from SAFETY; a
FENCE_SIGNAL on a fence of the partition sets it and completes OK; a READBACK that may be read copies its bytes to the
host and completes OK, or DATA_ERROR with unreadable units as zero, or NOT_READY with the store down, and completes
DENIED otherwise. A FENCE_WAIT whose fence is reached completes OK; one that is not stops its SQ until its timeout, at
which FENCE_TIMEOUT is posted and completed. SQ_FETCH of a host ring with pending entries advances the head past the
entry and dispatches it; a failed fetch is ERROR with cause 2. A local ring's entry is read from the frame store
(reconstructed units counted) and its header's bytes 2 and 3 follow. (goOn: R326.) (R143, R152, R324, R325, R326,
R329, R331, R348, spec/14_host_queues.md) -/
def Obligations.DispatchFencesAndReadback : Prop :=
  (∀ (s : State) (h : Hdr) (g : Nat), s.takes h g → plainHdr h →
    let u := s.counted
    let r := s.reqOf h g
    exec (.nop h) s = .next ((if s.isSafety h.part = true then u.restartHb else u).done r OK).goOn ∧
    (∀ (f : Nat) (v : Word), f < 4096 → f / 1024 = h.part →
      exec (.fenceSignal h f v) s =
        .next (({ u with hif := { u.hif with fences := Sparse.set 0 s.hif.fences f v } } : State).done r OK).goOn) ∧
    ∀ len src dst : Nat, 1 ≤ len → len < 2 ^ 32 → src < 2 ^ 48 →
      exec (.readback h len src dst) s =
        .next (if s.mayRead h.part src len = false then u.done r DENIED
          else if s.storeUp = false then u.done r NOT_READY
          else
            let t := u.l1Out.countRecon src len
            (t.toHost h.part dst (t.bytesOrZero src len)).done r (if t.readable src len = true then OK else DATA_ERROR)).goOn) ∧
  (∀ (s : State) (h : Hdr) (g : Nat) (w : Ns), s.takes h g → plainHdr { h with fenceId := 0, fenceVal := 0 } → h.fenceId.toNat < 4096 →
    let u := s.counted
    let r := s.reqOf h g
    exec (.fenceWait h w) s =
      .next (if ((s.fence h.fenceId.toNat) - h.fenceVal).toNat < 2 ^ 31 then u.done r OK
        else u.setQueue g { s.queue g with stop := some (r, .fenceWait w), stopAt := if w = 0 then none else some (s.now + w) }).goOn) ∧
  (∀ (s : State) (p q g : Nat) (r : Req) (w t : Ns), p < 4 → s.pwr.deep < 5 → s.gq p q = some g →
    (s.queue g).stop = some (r, .fenceWait w) → (s.queue g).stopAt = some t → s.headerFence r.h = false →
    exec (.fenceWaitTimeout p q) s =
      .next ((((s.reach t).setQueue g { s.queue g with stop := none, stopAt := none }).post 0x12 0x01
        (r.h.fenceId.toNat % 4096 + 0xF0000) [p]).done r FENCE_TIMEOUT)) ∧
  ∀ (s : State) (p q g : Nat) (host : Option (List Byte)), s.sqOf p q = some g → s.qCount g ≠ 0 →
    let next := ringNext (s.qSize g) (s.queue g).head.toNat
    let u := s.setQueue g { s.queue g with head := BitVec.ofNat 16 next }
    let v := s.countRecon (s.qBase g + 64 * ringPos (s.queue g).head.toNat) 64
    (s.qLoc g = false → ∀ b : List Byte,
      exec (.sqFetch p q (some b) host) s = .next (u.dispatch g (hdrOf p q b) (bodyOf b host)).goOn ∧
      exec (.sqFetch p q none host) s = .next (s.qError p g 2)) ∧
    (s.qLoc g = true → ∀ e : Option (List Byte),
      (s.localOk p g = false → exec (.sqFetch p q e host) s = .next (s.qError p g 2)) ∧
      ∀ b : List Byte, s.localOk p g = true → s.ppaRead (s.qBase g + 64 * ringPos (s.queue g).head.toNat) 64 = some b →
        exec (.sqFetch p q e host) s =
          .next (((v.setQueue g { s.queue g with head := BitVec.ofNat 16 next }).ppaWrite (s.qBase g - 62) (leBytes 2 next)).dispatch g (hdrOf p q b) (bodyOf b host)).goOn)

/-- The OWNER's write that sets FST_CFG.en takes the layout, brings its ports out of reset and trains them; one that
clears it asserts every CX_PERST_N and empties the store. A port whose device meets R347 is in use, and with the last
of them the fill starts; one that does not is absent and the store failed. The fill's end, with no mode-book default
due and no vintage, makes the store optimal. A read outstanding 4 us in L0, a link down, a fatal error or the 17th bad
read within 1 ms loses a live port with cause 0, 1, 2 or 3; a bad read is rewritten from its stripe where the other
five units are there, else it stays unreadable with data_lost. Correctable errors are logged once an hour per port. A
lost port whose link is back is rebuilt in layout 0 on the OWNER's write, and is optimal with the store at the end.
With L1 allowed, nothing outstanding and in CELLAR and LAYBY the prefetch full the ports go to L1 together; the exit,
when LT has fallen to R174's sum while a reader needs the store, brings their domains back; a port back in L0 shows
its exit time, and one that is late is lost with cause 1. (goOn after BAR0 writes: R326.) (R346, R347, R348, R349,
R359, R360, R361, R362, R363, R434, R174, spec/15_frame_store.md) -/
def Obligations.FrameStoreLife : Prop :=
  (∀ (s : State) (p : Nat) (v : Word), s.ownerUp p → v.toNat &&& 0xBD = v.toNat → v.toNat / 4 % 4 ≠ 3 → v.toNat / 16 % 4 ≤ 1 →
    s.reg FST_CFG 0 0 &&& 0xBD = s.reg FST_CFG 0 0 →
    let u := s.setReg FST_CFG 0 0 v.toNat
    (s.fld FST_CFG_en = 0 → v.getLsbD 0 = true →
      let lay := v.toNat / 4 % 4
      let t : State := { u with fst := { layout := lay, rateMax := v.toNat / 16 % 4 } }
      exec (.frameStoreUp p v) s = .next (((List.range (if lay = 0 then 6 else if lay = 1 then 4 else 3)).foldl
        (fun t n => ((t.needNow (14 + n)).emit (.pin "CX_PERST_N" n true)).portState n 1) t).showStore 1).goOn) ∧
    (s.fld FST_CFG_en = 1 → v.getLsbD 0 = false → exec (.frameStoreDown p v) s = .next u.fstDown.goOn)) ∧
  (∀ (s : State) (n : Nat), (s.cxPort n).st = 1 → n < layoutPorts s.layout → s.fld FST_CFG_en = 1 →
    exec (.cxlPortTrained n none) s = .next ((s.portState n 0).showStore 4) ∧
    ∀ d : CxlDevice,
      (s.deviceOk d = false → exec (.cxlPortTrained n (some d)) s = .next ((s.portState n 0).showStore 4)) ∧
      (s.deviceOk d = true →
        let t := (((s.setCxPort n { s.cxPort n with capMiB := d.capMiB, rate := d.rate, linkUp := true }).setFld
          (FST_PORT_STATUS_rate n) d.rate).setFld (FST_PORT_STATUS_cap n) (d.capMiB / 1024)).portState n 2
        exec (.cxlPortTrained n (some d)) s =
          .next (if ∀ k < layoutPorts s.layout, k = n ∨ (s.cxPort k).st = 2 then
            ({ t with fst := { t.fst with filling := true } } : State).showStore 1 else t))) ∧
  (∀ s : State, s.fst.filling = true → s.fld FST_STATUS_state = 1 → s.mod.defaultsDue = false → s.fld CMP_CTRL_vint_en = 0 →
    exec .frameStoreReady s = .next (({ s with fst := { s.fst with filling := false } } : State).showStore 2)) ∧
  (∀ (s : State) (n : Nat), n < layoutPorts s.layout →
    let live := (s.cxPort n).st = 2 ∨ (s.cxPort n).st = 5
    (live → exec (.readWatchdog n) s = .next ((s.addSat FST_CNT_WD_count 0 0 1).losePort n 0)) ∧
    (live ∨ (s.cxPort n).st = 3 →
      exec (.cxlLinkDown n) s = .next (s.losePort n 1) ∧ exec (.cxlFatalError n) s = .next (s.losePort n 2)) ∧
    (∀ dev : Nat, live →
      let bad := s.now :: (s.cxPort n).bad.filter fun t => decide (s.now < t + 1000000)
      let k := 8 * (dev / 4096) + n
      let u := s.setCxPort n { s.cxPort n with bad := bad }
      let there := s.layout = 0 ∧ ∀ j < 6, j = n ∨ s.unitHere (dev / 4096) j = true
      exec (.cxlReadReturn n dev false) s = .next s ∧
      (17 ≤ bad.length → exec (.cxlReadReturn n dev true) s = .next (s.losePort n 3)) ∧
      (bad.length ≤ 16 → there → exec (.cxlReadReturn n dev true) s =
        .next (let w := u.addSat FST_CNT_RECON_count 0 0 1
          { w with fst := { w.fst with poisoned := s.fst.poisoned.erase k } })) ∧
      (bad.length ≤ 16 → ¬there → exec (.cxlReadReturn n dev true) s =
        .next (({ u with fst := { u.fst with poisoned := s.fst.poisoned.erase k ++ [k] } } : State).setFld FST_FLAGS_data_lost 1))) ∧
    (live → ∀ t : Ns, (s.cxPort n).corrLog = some t →
      exec (.cxlCorrectableError n) s =
        .next (if t + 3600000000000 ≤ s.now then
            (s.setCxPort n { s.cxPort n with corr := 0, corrLog := some s.now }).log 0x0102 0x0E n ((s.cxPort n).corr + 1)
          else s.setCxPort n { s.cxPort n with corr := (s.cxPort n).corr + 1 })) ∧
    (∀ e : Nat, (s.cxPort n).st = 3 → (s.cxPort n).exitAt.isSome = true →
      exec (.cxlLinkL0 n e) s = .next (((s.setCxPort n { s.cxPort n with exitAt := none }).portState n 2).setFld (FST_PORT_WAKE_obs n)
        (max (s.fld (FST_PORT_WAKE_obs n)) (min 65535 e)))) ∧
    (∀ e : Nat, (s.cxPort n).st = 4 → exec (.cxlLinkL0 n e) s = .next (s.setCxPort n { s.cxPort n with linkUp := true })) ∧
    (∀ t : Ns, (s.cxPort n).st = 3 → (s.cxPort n).exitAt = some t →
      exec (.l1ExitTimeout n) s = .next ((s.reach (t + s.wakeLat n + 4000)).losePort n 1))) ∧
  (∀ (s : State) (p k : Nat), s.ownerUp p → k < 6 →
    (s.layout = 0 → (s.cxPort k).st = 4 → (s.cxPort k).linkUp = true → (∀ j < 6, j ≠ k → (s.cxPort j).st ≠ 4) →
      exec (.portRebuild p k 1) s =
        .next ((((({ s with fst := { s.fst with rebuildPt := 0 } } : State).portState k 5).setFld FST_REBUILD_port k).setFld
          FST_REBUILD_done 0).showStore 5).goOn) ∧
    (s.layout ≠ 0 ∨ (s.cxPort k).st ≠ 4 ∨ (s.cxPort k).linkUp = false → exec (.portRebuild p k 1) s = .next s.goOn)) ∧
  (∀ (s : State) (n : Nat), s.layout = 0 → n < 6 → (s.cxPort n).st = 5 → (∀ k < 6, k ≠ n → (s.cxPort k).st = 2) →
    let t := (s.portState n 2).setFld FST_REBUILD_done (s.portCap / 2 ^ 26)
    exec .rebuildDone s = .next ((({ t with fst := { t.fst with
      rebuildPt := s.portCap / 4096, poisoned := s.fst.poisoned.filter fun k => k % 8 != n } } : State).showStore 2).setFld
        FST_FLAGS_rebuilt 1)) ∧
  ∀ s : State,
    (s.fld FST_CFG_l1_en = 1 → s.storeUp = true → s.fst.asleep = false →
      (∀ n < layoutPorts s.layout, (s.cxPort n).st = 2 ∨ (s.cxPort n).st = 4) → s.fst.bufs = [] → s.cellarFull = true → s.wakeSum ≤ s.fld SCN_LAT_TOL_lt →
      let t := (List.range (layoutPorts s.layout)).foldl (fun t n => if (t.cxPort n).st = 2 then t.portState n 3 else t) s
      exec .l1Entry s = .next ({ t with fst := { t.fst with asleep := true } } : State).powerScan) ∧
    (s.fst.asleep = true →
      let u := if s.running = true ∧ s.fld SCN_LAT_TOL_lt ≠ 2 ^ 32 - 1 then s.reach (s.scn.needAt / 256 - s.wakeSum) else s
      exec .l1Exit s = .next ((List.range (layoutPorts s.layout)).foldl (fun t n =>
        if (t.cxPort n).st = 3 then (t.setCxPort n { t.cxPort n with exitAt := some t.now }).needNow (14 + n) else t)
        { u with fst := { s.fst with asleep := false } }))

/-- The OWNER's write of a region's configuration takes the word, unless it would enable the region against a
condition of R352: then it is ignored and rgn_refused set. A window write of 1 to 512 bytes that its partition may
make, with the store up, is taken by the stripe buffers and rings the local queues' doorbells it reaches; one that it
may not make is counted and flagged and stores nothing. A window read that the partition may make, with the store up
and the links awake, returns the bytes, counting reconstructed units; one it may not make, or with the store down,
returns zeros. A stripe buffer that is not yet written out is written out 10 us after its last write; the last
acknowledgement of its unit writes frees it. (goOn: R326.) (R319, R351, R352, R353, R355, spec/15_frame_store.md) -/
def Obligations.RegionsApertureAndBuffers : Prop :=
  (∀ (s : State) (p k : Nat) (v : Word), s.ownerUp p → k < 64 → v.toNat &&& 0x80000F03 = v.toNat →
    s.reg (FST_RGN_CFG k) 0 0 &&& 0x80000F03 = s.reg (FST_RGN_CFG k) 0 0 →
    let kind := v.toNat / 256 % 16
    let b := s.reg (FST_RGN_BASE k) 0 0 * 65536
    let e := b + s.reg (FST_RGN_SIZE k) 0 0 * 65536
    let ok := 1 ≤ kind ∧ kind ≤ 9 ∧ b < e ∧ e ≤ s.usable ∧ 65536 ≤ b ∧ (kind = 9 → s.isSafety (v.toNat % 4) = true) ∧
      ∀ j < 64, j = k ∨ s.rgnEn j = false ∨ e ≤ s.rgnBase j ∨ s.rgnEnd j ≤ b
    (v.getLsbD 31 = true → ¬ok → exec (.regionEnableWrite p k v) s = .next (s.setFld FST_FLAGS_rgn_refused 1).goOn) ∧
    (v.getLsbD 31 = false ∨ ok → s.reg (FST_RGN_CFG k) 0 0 ≠ v.toNat →
      exec (.regionEnableWrite p k v) s = .next (s.setReg (FST_RGN_CFG k) 0 0 v.toNat).goOn)) ∧
  (∀ (s : State) (p off : Nat) (d : List Byte), s.hostUp p → 1 ≤ d.length → d.length ≤ 512 → off + d.length ≤ 32768 →
    let a := s.fldP FST_WIN_BASE_LO_addr_lo p * 32768 + s.fldP FST_WIN_BASE_HI_addr_hi p * 2 ^ 32 + off
    (s.mayWrite p a d.length = true → s.storeUp = true →
      exec (.apertureWrite p off d) s = .next ((s.l1Out.bufWrite a d).ringBells a d.length).goOn) ∧
    (s.mayWrite p a d.length = false →
      exec (.apertureWrite p off d) s = .next ((s.addSat FST_DENY_CNT_count 0 p 1).setFld FST_FLAGS_denied 1).goOn)) ∧
  (∀ (s : State) (p off n : Nat), s.hostUp p → 1 ≤ n → n ≤ 512 → off + n ≤ 32768 →
    let a := s.fldP FST_WIN_BASE_LO_addr_lo p * 32768 + s.fldP FST_WIN_BASE_HI_addr_hi p * 2 ^ 32 + off
    (s.mayRead p a n = true → s.fst.asleep = false → s.readable a n = true →
      exec (.apertureRead p off n) s = .next ((s.countRecon a n).emit (.readData p (s.bytes a n) false))) ∧
    (s.mayRead p a n = false ∨ s.storeUp = false →
      exec (.apertureRead p off n) s = .next (s.emit (.readData p (List.replicate n 0) false)))) ∧
  ∀ (s : State) (k : Nat), k < 48 → (s.buf k).used = true →
    ((s.buf k).acks = [] → exec (.stripeFlush k) s = .next ((s.reach ((s.buf k).last + 10000)).bufOut k)) ∧
    ∀ u : Nat, ((s.buf k).acks = [u] → exec (.cxlWriteAck k u) s = .next (s.setBuf k {})) ∧
      (u ∈ (s.buf k).acks → (s.buf k).acks.erase u ≠ [] →
        exec (.cxlWriteAck k u) s = .next (s.setBuf k { s.buf k with acks := (s.buf k).acks.erase u }))

/-- With the XRAM domain ON: a host's read returns the bytes; where a write of the other port met it as the earlier
access, that word of the data is open, BUSY goes back, and MEM_XBUSY and its count record the word. A host's write is
stored where its bit in MEM_XRAM_CFG.wr is 1 and the partition is enabled, and only sets x_denied otherwise. The board
reads and writes 16-bit words likewise; in OFF it reads 0xFFFF with BUSY and its writes are ignored; in RET a falling
chip select requests ON with BCB_BUSY_N low. A conflict counter read through MEM_CONF_LO has grown by an unknown
number (of a partition's port A not at all where it has not accessed the exchange RAM since), and its bits 47:32 are
kept in MEM_CONF_HI; an array or master not listed reads 0. A parity test that ends clean posts PARITY; one that fails
takes the array's action, and then it is posted with the hard bit and the word is remapped. (R367, R369, R370, R371,
R372, R373, R375, R376, R378, R379, R383, spec/16_onchip_memory.md) -/
def Obligations.ExchangeRamAndIntegrity : Prop :=
  (∀ (s : State) (p off n : Nat), s.reachable p = true → (n = 1 ∨ n = 2 ∨ n = 4 ∨ n = 8) → off + n ≤ 65536 →
    (s.dom 81).st = 0 → (s.dom 81).going = none →
    let u := State.xramAsk { s with pwr := { s.pwr with xramIdle := s.now } } p
    let d := Sparse.read 0 s.mem.xram off n
    exec (.xramRead p off n .none) s = .next (u.emit (.readData p d false)) ∧
    ∀ (w : Nat) (v : Half), off / 2 ≤ w → 2 * w < off + n → w < 32768 →
      ∃ x < 65536, exec (.xramRead p off n (.later w true v)) s =
        .next (((({ u with free := s.free + 1 } : State).setReg MEM_XBUSY 0 p (2 ^ 31 + w)).addSat MEM_XBUSY_CNT_count 0 p 1).emit
          (.readData p (spoil d off w x) true))) ∧
  (∀ (s : State) (p off : Nat) (d : List Byte), s.reachable p = true →
    (d.length = 1 ∨ d.length = 2 ∨ d.length = 4 ∨ d.length = 8) → off + d.length ≤ 65536 →
    (s.dom 81).st = 0 → (s.dom 81).going = none →
    let u := State.xramAsk { s with pwr := { s.pwr with xramIdle := s.now } } p
    ((s.fld MEM_XRAM_CFG_wr).testBit p = true → s.partOn p = true →
      exec (.xramWrite p off d .none) s = .next (u.xramStore off d) ∧
      ∀ (w : Nat) (v : Half), off / 2 ≤ w → 2 * w < off + d.length → w < 32768 →
        exec (.xramWrite p off d (.later w false v)) s =
          .next (((u.setReg MEM_XBUSY 0 p (2 ^ 31 + w)).addSat MEM_XBUSY_CNT_count 0 p 1).xramStore off d)) ∧
    ((s.fld MEM_XRAM_CFG_wr).testBit p = false ∨ s.partOn p = false →
      ∀ c : Collision, exec (.xramWrite p off d c) s = .next (s.setFld MEM_FLAGS_x_denied 1))) ∧
  (∀ (s : State) (w : BitVec 15) (v : Half), s.inReset = false →
    let u : State := { s with pwr := { s.pwr with xramIdle := s.now } }
    ((s.dom 81).st = 0 → (s.dom 81).going = none →
      exec (.bcbRead w .none) s = .next (u.emit (.readData 4 (Sparse.read 0 s.mem.xram (2 * w.toNat) 2) false)) ∧
      exec (.bcbWrite w v .none) s = .next (u.xramStore (2 * w.toNat) (leBytes 2 v.toNat))) ∧
    ((s.dom 81).st = 2 → (s.dom 81).going = none → ∀ c : Collision,
      exec (.bcbRead w c) s = .next (s.emit (.readData 4 [0xFF, 0xFF] true)) ∧ exec (.bcbWrite w v c) s = .next s)) ∧
  (∀ s : State, (s.dom 81).st = 1 → exec .bcbCsWake s = .next ((s.needNow 81).emit (.pin "BCB_BUSY_N" 0 false))) ∧
  (∀ (s : State) (p : Nat), s.reachable p = true →
    let a := s.fldP MEM_CONF_SEL_array p
    let m := s.fldP MEM_CONF_SEL_master p
    let listed := (a = 0 ∧ m ≤ 7) ∨ ((a = 1 ∨ a = 2) ∧ m ≤ 4)
    (listed → ∃ (t : State) (n : BitVec 48),
      let x := Sparse.get 0 s.mem.conf (8 * a + m) + n
      exec (.memConfRead p) s = .next (t.emit (.readData p (leBytes 4 (x.toNat % 2 ^ 32)) false)) ∧
        t.mem.conf = Sparse.set 0 s.mem.conf (8 * a + m) x ∧ t.reg MEM_CONF_HI 0 p = x.toNat / 2 ^ 32 ∧
        (a = 2 → m ≤ 3 → m ∉ s.mem.asked → n = 0)) ∧
    (¬listed → exec (.memConfRead p) s = .next ((s.setReg MEM_CONF_HI 0 p 0).emit (.readData p [0, 0, 0, 0] false)))) ∧
  ∀ (s : State) (i w : Nat), w ∈ (s.inst i).tests →
    let u := s.setInst i { s.inst i with tests := (s.inst i).tests.erase w }
    exec (.parityRewriteCheck i w false) s = .next (u.postParity i false) ∧
    exec (.parityRewriteCheck i w true) s =
      .next (let t := if reRead i = true then u.hardFault i w else if i = 576 ∨ i = 577 then u.safeContext i w else u
        (t.postParity i true).remapWord i w)

/-- Dispatched without fence or launch time: a POWER_HINT is DENIED for a domain that its partition may not name,
INVALID for an empty mask or a bit above 81, and else completes OK and gives each domain its time idle or its need; a
deep-sleep request of the OWNER completes OK where R397's conditions hold and the hot save begins, and NOT_READY
otherwise. A planned exit requests ON. A domain change that ends is in force, with its outputs high-impedance in OFF,
loses what OFF loses or starts what ON starts, and its pending request is served; a lane domain does not leave OFF
before its rails are up. An idle exchange RAM goes down as far as allowed. A rail's acknowledgement ends its request;
a timeout is tried again once, and then every lane domain waiting stays OFF with refuser 13. Every used rail's
STATUS_WORD is read on an alert, and an output fault of a held rail, or a fall of its power-good, acts as PFW_N. The
hottest sensor is shown, and crossings of warn, warn - 2 and trip are posted. (goOn: R326.) (R384, R388, R389, R390,
R392, R393, R394, R395, R397, R402, spec/17_power_management.md) -/
def Obligations.HintsDomainsAndRails : Prop :=
  (∀ (s : State) (h : Hdr) (g t : Nat) (m : BitVec 88), s.takes h g → plainHdr h →
    let u := s.counted
    let r := s.reqOf h g
    let named (m : BitVec 88) : List Nat := ((List.range 81).map (· + 1)).filter fun d => m.getLsbD d
    let idle (u : State) (d : Nat) : State := u.setDom d { u.dom d with need := none, idle := some t }
    let need (u : State) (d : Nat) : State :=
      if t ≤ u.now then (u.setDom d { u.dom d with need := none, idle := none }).needNow d
      else u.setDom d { u.dom d with need := some t, idle := none }
    (m.getLsbD 1 = false → exec (.powerHintIdle h t m) s =
      .next (if s.hintRights h.part m = false then u.done r DENIED
        else if named m = [] ∨ m.toNat / 2 ^ 82 ≠ 0 then u.done r INVALID
        else ((named m).foldl idle (u.done r OK)).powerScan).goOn) ∧
    (exec (.powerHintNeeded h t m) s =
      .next (if s.hintRights h.part m = false then u.done r DENIED
        else if named m = [] ∨ m.toNat / 2 ^ 82 ≠ 0 then u.done r INVALID
        else (((named m).filter (· != 1)).foldl need (u.done r OK)).powerScan).goOn) ∧
    (h.part = s.owner → m.toNat / 2 ^ 82 = 0 → s.pwr.deep = 0 →
      let ready := s.mode = 10 ∧ s.fld SCN_CTRL_run = 0 ∧ s.running = false ∧ (s.pwrState = 0 ∨ s.pwrState = 4) ∧
        (∀ p < 8, (s.port p).st = 0 ∨ (s.port p).st = 4) ∧ s.domMax 1 = 2 ∧ s.eng.jobs = [] ∧ s.fld PWR_WAKE_CFG_en ≠ 0
      let v := u.done r OK
      let w : State := { v with pwr := { v.pwr with deep := 2, deepT := t, taken := [] } }
      (ready → exec (.deepSleepRequest h t m) s =
        .next (((named m).filter (· != 1)).foldl idle (if w.nvs.saving = true then w else w.startSave)).goOn) ∧
      (¬ready → exec (.deepSleepRequest h t m) s = .next (u.done r NOT_READY).goOn))) ∧
  (∀ (s : State) (d : Nat), s.pwr.deep = 0 →
    (∀ t : Ns, (s.dom d).exitAt = some t →
      exec (.domainExitStart d) s =
        .next (((s.reach t).setDom d { s.dom d with exitAt := none, need := none, idle := none }).needNow d)) ∧
    (∀ st < 3, (s.dom d).going = some st →
      let v := s.setDom d { s.dom d with st := st, going := none, since := s.now }
      let o := if st = 2 ∨ (s.dom d).st = 2 then v.emit (.outputs d (st != 2)) else v
      let w := if st = 2 then (if laneDom d = true then (o.loseDom d).railsMayFall else o.loseDom d).domDown d
        else if st = 0 then (o.restoreLanes d).domUp d else o.domDown d
      (st = 0 → (s.dom d).st = 2 → laneDom d = true → s.railsUp = false → exec (.domainChangeDone d) s = .next s) ∧
      (st ≠ 0 ∨ (s.dom d).st ≠ 2 ∨ laneDom d = false ∨ s.railsUp = true →
        exec (.domainChangeDone d) s = .next ((w.servePending d).powerScan))) ∧
    ((s.dom 81).st = 0 → (s.dom 81).going = none → s.domMax 81 ≠ 0 →
      let st := min 2 (s.domMax 81)
      exec .xramIdle s =
        .next (((s.reach (s.pwr.xramIdle + 1000 * s.fldI PWR_DOM_CFG_idle 81)).setDom 81
          { s.dom 81 with exitAt := (s.dom 81).idle.map fun t => t - domExit 81 st }).requestDom 81 st))) ∧
  (∀ (s : State) (k : Nat), k < 8 →
    let r := s.rail k
    (r.busy = true → r.volt = false →
      exec (.railAck k) s = .next (s.setRail k { r with busy := false, retried := false, volt := false, pg := true }) ∧
      (r.retried = false → exec (.railTimeout k) s = .next ((s.setRail k { r with retried := true }).pmbus k 0x01 0x80)) ∧
      (r.retried = true → exec (.railTimeout k) s =
        .next ((((s.setFld PWR_VR_STATUS_fault (withBit (s.fld PWR_VR_STATUS_fault) k true)).setFld PWR_FLAGS_vr_fault 1).setRail k
          { r with busy := false, retried := false, on := false, pg := false }).railRefused))) ∧
    (s.railUsed k = true → r.on = true → r.pg = true → s.pwr.deep < 6 →
      exec (.vrPgFall k) s = .next (s.setRail k { r with pg := false }).powerFail)) ∧
  (∀ (s : State) (words : List (BitVec 16)),
    let used := (List.range 8).filter s.railUsed
    let read (u : State) (k : Nat) : State :=
      if words.getD k 0 = 0 then u.pmbus k 0x79 0
      else (((u.pmbus k 0x79 0).setFld PWR_VR_STATUS_fault (withBit ((u.pmbus k 0x79 0).fld PWR_VR_STATUS_fault) k true)).setFld
        PWR_FLAGS_vr_fault 1).pmbus k 0x03 0
    let t := used.foldl read s
    ((∀ k ∈ used, words.getD k 0 = 0) → exec (.pwAlert words) s = .next t) ∧
    (∀ k ∈ used, (s.rail k).on = true → (words.getD k 0).getLsbD 15 = true → exec (.pwAlert words) s = .next t.powerFail)) ∧
  ∀ (s : State) (x : Int) (xs : List Int), s.trimming = false → (∀ y ∈ x :: xs, -32768 ≤ y ∧ y ≤ 32767) →
    let t := xs.foldl max x
    let warn := signed 16 (s.fld PWR_THERM_warn)
    let trip := signed 16 (s.fld PWR_THERM_trip)
    let u := s.setFld PWR_TEMP_temp (unsigned 16 t)
    let v := if s.pwr.hot = false ∧ warn < t then
        ((({ u with pwr := { u.pwr with hot := true } } : State).setFld PWR_FLAGS_thermal 1).raise 0x53 0x10 (unsigned 16 t))
      else if s.pwr.hot = true ∧ t < warn - 32 then
        ({ u with pwr := { u.pwr with hot := false } } : State).raise 0x53 0x10 (unsigned 16 t + 65536)
      else u
    exec (.tempRead (x :: xs)) s =
      .next ((if signed 16 (s.fld PWR_TEMP_temp) < trip ∧ trip ≤ t then
          ((v.setFld PWR_FLAGS_trip 1).raiseLog 0x53 0x10 (unsigned 16 t + 131072)).ownDischarge else v).tempTrigger t)

/-- A source that PWR_WAKE_CFG does not enable does nothing. An enabled one is recorded in PWR_LAST_WAKE; awake, WAKE
is posted if evt is 1; during the entry to deep sleep, POWER_REFUSED is posted with the source and what was taken down
is restored, or while SVC goes OFF the first source is kept for when it is back; asleep, the wake is counted and the
part leaves low-power mode. The sources are 1 the address match, 2 WAKE_N, 3 a SYNC_IN edge of the configured polarity
(each SYNC_IN_WAKE turns the pin's level: log entry 44's choice), 4 to 7 the in-band wakes, 8 the AON timer, which is
then no longer armed. The restore of the SVC gives back the saved registers and TB advanced by the AON ticks, no
earlier than TB stands, and the part is awake. The switch to the crystal is measured within 50 ppm of its nominal
period (a free value). (R53, R391, R398, R399, R400, R478, spec/17_power_management.md) -/
def Obligations.WakeSources : Prop :=
  (∀ (s : State) (k : Nat), 1 ≤ k → k ≤ 8 →
    let on := (s.fld PWR_WAKE_CFG_en).testBit (k - 1)
    let u := s.setFld PWR_LAST_WAKE_source k
    (on = false → s.wakeFires k = s) ∧
    (on = true → s.pwr.deep = 0 → s.wakeFires k = if s.fld PWR_WAKE_CFG_evt = 1 then u.raise 0x61 0x10 k else u) ∧
    (on = true → s.pwr.deep = 5 → s.wakeFires k =
      if s.pwr.abortSrc = 0 then { u with pwr := { u.pwr with abortSrc := k, wakeSrc := k } } else u) ∧
    (on = true → 1 ≤ s.pwr.deep → s.pwr.deep ≤ 4 →
      s.wakeFires k =
        ((({ u with pwr := { u.pwr with deep := 0 } } : State).setFld PWR_FLAGS_refused 1).postRefused 1 k true).restoreDoms) ∧
    (on = true → s.pwr.deep = 6 →
      let v := (u.addSat PWR_LAST_WAKE_count 0 0 1).countLife 4
      s.wakeFires k = { v with pwr := { v.pwr with deep := 7, ldoLp := false, wakeSrc := k } })) ∧
  (∀ (s : State) (a : BitVec 7), exec (.mgAddressMatch a) s =
    .next (if s.fld PWR_WAKE_CFG_mg_addr = a.toNat then s.wakeFires 1 else s)) ∧
  (∀ s : State,
    let u : State := { s with pwr := { s.pwr with syncHigh := !s.pwr.syncHigh } }
    exec .wakeNLow s = .next (s.wakeFires 2) ∧
    (s.pwr.syncHigh = (s.fld PWR_WAKE_CFG_sync_edge == 1) → exec .syncInWake s = .next (u.wakeFires 3)) ∧
    (s.pwr.syncHigh ≠ (s.fld PWR_WAKE_CFG_sync_edge == 1) → exec .syncInWake s = .next u)) ∧
  (∀ (s : State) (n : Nat), n < 4 → 6 ≤ s.pwr.deep → exec (.pcieInbandWake n) s = .next (s.wakeFires (4 + n))) ∧
  (∀ (s : State) (n : Nat), n < 4 → s.pwr.deep = 0 → exec (.pcieInbandWake n) s = .next ((s.wakeFires (4 + n)).needNow (2 + n))) ∧
  (∀ (s : State) (x : Nat), s.pwr.aonTimer = some x →
    exec .aonTimer s = .next (({ s with pwr := { s.pwr with aonTimer := none } } : State).wakeFires 8)) ∧
  (∀ (s : State) (v : Saved) (ticks : Nat), s.pwr.deep = 7 → s.pwr.saved = some v →
    exec (.svcRestoreDone ticks) s = .next (s.wakeUp v ticks) ∧
    (s.restored v ticks).regs = v.regs ∧ (s.restored v ticks).pwr.deep = 0 ∧ (s.restored v ticks).inReset = false ∧
    (s.restored v ticks).tb = BitVec.ofNat 64 (max s.now (v.tb + ticks * s.fld TBS_AON_PERIOD_period / 65536)) ∧
    (s.restored v ticks).tbs.armed = s.tbs.armed) ∧
  ∀ s : State, s.pwr.crystal = false → s.inReset = false → s.pwr.deep < 6 →
    ∃ x : Nat, 1999900005 ≤ x ∧ x ≤ 2000100005 ∧ exec .crystalSwitch s =
      .next (({ s with free := s.free + 1, pwr := { s.pwr with crystal := true } } : State).setFld TBS_AON_PERIOD_period x)

/-- Without fence or launch time from the OWNER while SVC and NVS work: NVM_WRITE is DENIED for a sealed key (tested
before its length, the model's choice, log entry 47), INVALID for an unlisted key, a length of 0 or above the slot
less 64, or a firmware image that fails its check, and DATA_ERROR where the source cannot be read; else, with nothing
else in the NVS and no tie of the key's copies, a body of at most 16,320 bytes is gathered and a larger one begins at
once as a direct write of the copy that is not the newest. With hot set it is INVALID with another field, and else
starts a hot save, or joins the one in progress. NVM_READ is INVALID below 64 bytes or for an unlisted key, DATA_ERROR
without the copy, and else writes header and body up to its length. From anyone else both are DENIED. The gather limit
begins a commit. A commit that ends with no failure writes every item, clears the marker and completes its descriptors
OK. A direct write that ends writes its copy and completes OK, or spoils its first granule, is logged and completes
DATA_ERROR. A hot save that ends posts NVM_COMMIT and, at the entry to deep sleep, goes on with the domains. Each
granule the scrub reads moves its position on; a pass's first waits until scrub_days after the pass before began (the
model's reading, log entry 46); at the end of a pass that rewrote any, NVM_REFRESH. (goOn: R326.) (R407, R411, R413,
R415, R416, R417, R418, R419, R420, R421, R422, spec/18_record_store.md) -/
def Obligations.RecordStoreWork : Prop :=
  (∀ (s : State) (h : Hdr) (g key len addr : Nat) (d : List Byte), s.takes h g → plainHdr h → s.inReset = false →
    let u := s.counted
    let r := s.reqOf h g
    (h.part ≠ s.owner → ∀ x, exec (.nvmWrite h key len x) s = .next (u.done r DENIED).goOn ∧
      exec (.nvmRead h key 0 len addr) s = .next (u.done r DENIED).goOn) ∧
    (h.part = s.owner → s.nvs.stopped = false →
      (sealedKey key = true → ∀ x, exec (.nvmWrite h key len x) s = .next (u.done r DENIED).goOn) ∧
      (sealedKey key = false → nvsSlot key = none → ∀ x, exec (.nvmWrite h key len x) s = .next (u.done r INVALID).goOn) ∧
      (∀ off size : Nat, sealedKey key = false → nvsSlot key = some (off, size) →
        (len = 0 ∨ size - 64 < len → ∀ x, exec (.nvmWrite h key len x) s = .next (u.done r INVALID).goOn) ∧
        (0 < len → len ≤ size - 64 →
          exec (.nvmWrite h key len none) s = .next (u.done r DATA_ERROR).goOn ∧
          (d.length = len → key = 1 → firmwareOk d = false → exec (.nvmWrite h key len (some d)) s = .next (u.done r INVALID).goOn) ∧
          (d.length = len → (key = 1 → firmwareOk d = true) → s.nvsQuiet = true → tieOf s.nvs.mem key = false →
            (len ≤ 16320 → s.fld NVS_CFG_gather_ms ≠ 0 → exec (.nvmWrite h key len (some d)) s =
              .next (({ u with nvs := { u.nvs with
                gather := [{ key := key, off := 0, data := d, req := some r }], gatherAt := s.now } } : State).goOn)) ∧
            (16320 < len →
              let t := nextCopy s.nvs.mem key
              exec (.nvmWrite h key len (some d)) s =
                .next (({ u with nvs := { u.nvs with
                  direct := some { key := key, body := d, req := some r, off := t.1, seq := t.2 },
                  mem := Sparse.write 0 s.nvs.mem (t.1 + 64) ((copyBytes key t.2 d).drop 64) } } : State).goOn))))) ∧
      (key ≠ 0 ∨ len ≠ 0 ∨ addr ≠ 0 → exec (.hotSaveRequest h key len addr) s = .next (u.done r INVALID).goOn) ∧
      (s.nvs.direct = none ∨ s.nvs.saving = true → exec (.hotSaveRequest h 0 0 0) s =
        .next (({ u with nvs := { u.nvs with saving := true, saveReqs := s.nvs.saveReqs ++ [r] } } : State).goOn)) ∧
      (len < 64 ∨ nvsSlot key = none → exec (.nvmRead h key 0 len addr) s = .next (u.done r INVALID).goOn) ∧
      (∀ c ≤ 2, 64 ≤ len → nvsSlot key ≠ none → s.nvs.reads = [] → s.nvmPending = [] →
        let v := if c = 0 then u.noteTie key else u
        exec (.nvmRead h key c len addr) s =
          .next (match v.copyFor key c with
            | none => v.done r DATA_ERROR
            | some x => (v.toHost h.part addr ((nvsBytes v.nvs.mem x.1 64 ++ x.2).take len)).done r OK).goOn))) ∧
  (∀ s : State, nvsIdle s.nvs = true → s.nvs.stopped = false → s.cal.restarting = false → s.nvs.gather ≠ [] →
    let v := s.reach (s.nvs.gatherAt + 1000000 * s.fld NVS_CFG_gather_ms)
    exec .gatherTimeout s = .next v.nvsStart ∧
    v.nvsStart.nvs = nvsBegin v.now (s.fld CAL_LOG_ACK_n) (s.fld CAL_LOG_OVF_count) s.nvs) ∧
  (∀ s : State, s.nvs.commit ≠ [] →
    let v : State := { s with nvs := { s.nvs with mem := nvsApply s.nvs.mem s.nvs.commit, commit := [] } }
    exec (.journalCommit []) s = .next ((v.doneAll (s.nvs.commit.filterMap (·.req)) OK).endCalRuns).nvsNext) ∧
  (∀ (s : State) (d : Direct) (r : Req), s.nvs.direct = some d → d.req = some r →
    let u : State := { s with nvs := { s.nvs with direct := none } }
    exec (.directWriteDone false) s =
      .next ((({ u with nvs := { u.nvs with mem := Sparse.write 0 s.nvs.mem d.off (copyBytes d.key d.seq d.body) } } : State).done r
        OK).nvsNext) ∧
    exec (.directWriteDone true) s = .next ((((u.spoilGranule d.off).writeFailed d.off d.key).done r DATA_ERROR).nvsNext)) ∧
  (∀ s : State, s.nvs.saving = true →
    exec .hotSaveDone s = .next (if s.endSave.pwr.deep = 2 then s.endSave.takeDown.deepStep else s.endSave) ∧
    (s.nvs.commit = [] → s.nvs.gather = [] →
      let v := (({ s with nvs := { s.nvs with gather :=
        [{ key := 0x40, off := 0, data := s.countersBody, req := none }, { key := 0x41, off := 0, data := s.onTimeBody, req := none }]
        } } : State).nvsStart).endCommit []
      let t := nextCopy v.nvs.mem 0x42
      let w : State := { v with nvs := { v.nvs with
        mem := Sparse.write 0 v.nvs.mem t.1 (copyBytes 0x42 t.2 v.summaryBody), saving := false, saveReqs := [] } }
      s.endSave = (((w.raise 0x70 0x11 (v.nvs.commitNo % 65536 + 131072)).doneAll v.nvs.saveReqs OK).nvsNext))) ∧
  ∀ s : State, s.fld NVS_CFG_scrub_en = 1 → s.nvsQuiet = true → s.nvs.stopped = false → s.cal.restarting = false →
    let p := s.fld NVS_SCRUB_pos
    let w := s.scrubPass
    let v : State := { w with nvs := { w.nvs with rewrites := s.nvs.rewrites + 1 } }
    (p ≠ 0 → w = s) ∧
    (p = 0 → s.nvs.scrubAt = none → w = { s with nvs := { s.nvs with scrubAt := some s.now } }) ∧
    (∀ t : Ns, p = 0 → s.nvs.scrubAt = some t →
      let x := s.reach (t + max 1 (s.fld NVS_CFG_scrub_days) * 86400000000000)
      w = { x with nvs := { x.nvs with scrubAt := some x.now } }) ∧
    (p < 131071 → exec (.scrubGranule .clean) s = .next (w.setFld NVS_SCRUB_pos (p + 1)) ∧
      exec (.scrubGranule .marginFail) s =
        .next (((v.addSat NVS_REFRESH_CNT_count 0 0 1).setFld NVS_FLAGS_refresh 1).setFld NVS_SCRUB_pos (p + 1))) ∧
    (p = 131071 → exec (.scrubGranule .clean) s =
      .next (if s.nvs.rewrites = 0 then s.setFld NVS_SCRUB_pos 0
        else (({ s with nvs := { s.nvs with rewrites := 0, repaired := false } } : State).setFld NVS_SCRUB_pos 0).raise 0x72 0x11
          (min s.nvs.rewrites (2 ^ 24 - 1) + (if s.nvs.repaired = true then 2 ^ 24 else 0))))

/-- Where the gathered buffer is not empty and holds only error-log entries of at most a granule and records of listed
keys with bodies of 1 to 16,320 bytes, the begin of a commit takes at least one item, and leaves a journal whose
marker is whole; checking the journal at power-up then leaves the record store's bytes as the undisturbed end of the
commit would have left them (every item at its target, the marker cleared), sets the replay flag, and keeps NVM_COMMIT
with the commit's number for the release. Where the marker's granule is zero, the check changes nothing; where it is
neither zero nor whole, no byte of the store changes and the rollback flag is set. (R408, R412, R413, R414,
spec/18_record_store.md) -/
def Obligations.JournalReplaysWholeCommits : Prop :=
  (∀ (s : State) (now : Ns) (ack ovf : Nat), s.nvs.gather ≠ [] →
    (∀ i ∈ s.nvs.gather, (i.key = 0 ∧ 1 ≤ i.data.length ∧ i.data.length ≤ 64 ∧ i.off < 2 ^ 23) ∨
      (nvsSlot i.key ≠ none ∧ i.key ≠ 0x0051 ∧ 1 ≤ i.data.length ∧ i.data.length ≤ 16320) ∨ (i.key = 0x0051 ∧ i.data = [])) →
    let n := nvsBegin now ack ovf s.nvs
    let t := ({ s with nvs := n } : State).checkJournal
    n.commit ≠ [] ∧ markerWhole n.mem = true ∧ t.nvs.mem = nvsApply n.mem n.commit ∧ t.nvs.bootEvent = some (0, n.commitNo) ∧
    t.flag NVS_FLAGS_replay = true) ∧
  ∀ s : State, markerWhole s.nvs.mem = false →
    ((nvsBytes s.nvs.mem 0x1000 64).all (· == 0) = true → s.checkJournal = s) ∧
    ((nvsBytes s.nvs.mem 0x1000 64).all (· == 0) = false →
      s.checkJournal.nvs.mem = s.nvs.mem ∧ s.checkJournal.flag NVS_FLAGS_rollback = true)

/-- Dispatched without fence or launch time: CAL_RUN is DENIED from another than the OWNER, INVALID for an empty mask
or a bit above 5; with nothing in progress it starts a run of its items, during a run it merges into the pending
request, and with bit 5 alone it makes a re-plan due. A run that ends takes its results, item by item, shows REFIN,
the failed items and whether REFIN was good, posts CAL_DONE with the items, the failed ones, the cause and the
bandgap's use, logs it where any failed, and gathers the results record. A sample of a path monitor whose cluster is
ON is kept with the least so far. A re-read during a re-plan asks for 5 mV more while the least slack is below the
limit, steps remain and 850 mV is not passed, and else ends it. A second of panel power counts, and makes the re-plan
due. The SVC's watchdog begins a restart; its end writes the entries and records left to it meanwhile, is counted and
logged, and what waited goes on. Writing CAL_LOG_SEL fetches the entry, zeros where it is not in the log; writing
CAL_LOG_ACK gathers the log-state record, once the SVC runs. (goOn: R326.) (R423, R425, R427, R428, R429, R430, R432,
R434, R435, R436, R438, spec/19_calibration_ageing_faults.md) -/
def Obligations.CalibrationRePlanAndLog : Prop :=
  (∀ (s : State) (h : Hdr) (g : Nat) (mask : Word), s.takes h g → plainHdr h →
    let u := s.counted
    let r := s.reqOf h g
    let m := mask.toNat
    let ask (q : CalReq) : CalReq := { items := q.items ||| m, causes := q.causes ||| 2, reqs := q.reqs ++ [(r, m)] }
    (h.part ≠ s.owner → exec (.calRun h mask) s = .next (u.done r DENIED).goOn) ∧
    (h.part = s.owner → m = 0 ∨ 64 ≤ m → exec (.calRun h mask) s = .next (u.done r INVALID).goOn) ∧
    (h.part = s.owner → 0 < m → m < 32 →
      (s.cal.run = none → s.cal.replan = none → s.cal.pend = none → exec (.calRun h mask) s =
        .next ((({ u with cal := { u.cal with run := some (ask ⟨0, 0, []⟩) } } : State).setFld CAL_TEMP_LAST_temp
          (s.fld PWR_TEMP_temp)).goOn)) ∧
      (s.cal.run.isSome = true ∨ s.cal.replan.isSome = true → exec (.calRun h mask) s =
        .next (({ u with cal := { u.cal with pend := some (ask (s.cal.pend.getD ⟨0, 0, []⟩)) } } : State).goOn))) ∧
    (h.part = s.owner → m = 32 → s.mode ≠ 10 → s.cal.pend = none → exec (.calRun h mask) s =
      .next (({ u with cal := { u.cal with due := true, dueReqs := s.cal.dueReqs ++ [(r, OK)] } } : State).goOn))) ∧
  (∀ (s : State) (q : CalReq) (c : CalOutcome), s.cal.run = some q → q.reqs = [] → s.cal.pend = none → s.cal.due = false →
    let bad := c.failed % 32 &&& q.items
    let ok := 12250 ≤ c.refin ∧ c.refin ≤ 12750
    let cause := if q.causes = 1 then 0 else if q.causes = 2 then 1 else if q.causes = 4 then 2 else 3
    let arg := q.items + 256 * bad + 65536 * cause + (if ok then 0 else 2 ^ 20)
    let v := mergeCal (s.cal.result.getD factoryCal) c q.items
    let t := ({ s with cal := { s.cal with run := none } } : State).applyCodes c q.items
    let t : State := { t with cal := { t.cal with result := some v, lastEnd := s.now, crackOff := v.cracks.map fun x => x.toInt } }
    let t := ((t.setFld CAL_REFIN_mv10 c.refin).setFld CAL_STATUS_failed bad).setFld CAL_STATUS_refin_ok (if ok then 1 else 0)
    let t := if ok then t else t.setFld CAL_FLAGS_refin_bad 1
    let t := if bad = 0 then t.raise 0xA1 0x12 arg else ((t.setFld CAL_FLAGS_item_failed 1).raise 0xA1 0x12 arg).log 0xA1 0x12 arg 0
    exec (.calibrationRunEnd c) s = .next (t.gatherRecord 0x0010 (calBody v (t.fld CAL_TEMP_LAST_temp)))) ∧
  (∀ (s : State) (m : Nat) (v : Int), -32768 ≤ v → v ≤ 32767 →
    exec (.pathMonitorSample m v) s =
      .next (if m < 64 ∧ s.clOn (m / 2) = true then
        { s with cal := { s.cal with
          slack := Sparse.set 32767 s.cal.slack m v,
          slackMin := Sparse.set 32767 s.cal.slackMin m (min v (Sparse.get 32767 s.cal.slackMin m)) } }
      else s)) ∧
  (∀ (s : State) (p : Replan) (l : List Int), s.cal.replan = some p →
    let v := l.zipIdx.foldl (fun t x => t.sampleMonitor x.2 x.1) s
    let mv := v.fld CAL_CORE_mv + 5
    let more := v.slackLow = true ∧ p.steps < min 8 (v.fld CAL_REPLAN_CFG_steps_max) ∧ mv ≤ 850
    ((s.rail 0).busy = true → exec (.monitorReread l) s = .next s) ∧
    ((s.rail 0).busy = false → more → exec (.monitorReread l) s =
      .next (({ v with cal := { v.cal with replan := some { p with steps := p.steps + 1, asked := some mv } } } : State).askCore mv)) ∧
    ((s.rail 0).busy = false → ¬more → exec (.monitorReread l) s = .next (v.endReplan { p with asked := none }).calNext)) ∧
  (∀ s : State, (s.pwrState ≠ 2 → exec .onTimeSecond s = .next s) ∧
    (s.pwrState = 2 →
      let u : State := { s with nvs := { s.nvs with onTime := (s.nvs.onTime + 1) % 2 ^ 64 } }
      let due := s.fld CAL_REPLAN_CFG_en = 1 ∧ s.cal.replan = none ∧
        s.cal.planTime + 86400 * max 1 (s.fld CAL_REPLAN_CFG_days) ≤ (s.nvs.onTime + 1) % 2 ^ 64
      (¬due → exec .onTimeSecond s = .next u) ∧
      (due → s.mode ≠ 10 → s.cal.pend = none →
        exec .onTimeSecond s = .next { u with cal := { u.cal with due := true } }))) ∧
  (∀ s : State, s.hif.noFw = false → s.inReset = false → s.pwr.deep = 0 →
    exec .svcWatchdog s = .next { s with cal := { s.cal with restarting := true } }) ∧
  (∀ s : State, s.cal.restarting = true →
    let u : State := { s with cal := { s.cal with restarting := false, held := [], notes := [], records := [] } }
    let a := s.cal.notes.foldl (fun t n => t.logAt n.1 n.2.1 n.2.2.1 n.2.2.2.1 n.2.2.2.2.1 n.2.2.2.2.2) u
    let b := (s.cal.records.foldl (fun t r => t.gatherRecord r.1 r.2) a).nvsNext
    let v := (b.addSat CAL_SVC_RST_count 0 0 1).setFld CAL_FLAGS_svc_restart 1
    exec .svcRestartDone s =
      .next ((s.cal.held.foldl (fun t x => t.act x.1 x.2 false)
        (v.log 0x0101 0x12 (v.fld CAL_SVC_RST_count) (v.fld NVS_STATUS_fw))).calNext).goOn) ∧
  ∀ (s : State) (p : Nat) (v : Word), s.hostUp p → p = s.owner →
    let b := nvsBytes s.nvs.mem (0x8000 + v.toNat % 1024 * 32) 32
    let e := if leAt b 24 4 = v.toNat ∧ leAt b 28 4 = crc32c (b.take 28) then b else List.replicate 32 0
    exec (.calLogFetch p v) s =
      .next (((List.range 8).foldl (fun t k => t.setFld (CAL_LOG_DATA_data k) (leAt e (4 * k) 4)) (s.setReg CAL_LOG_SEL 0 0 v.toNat)).goOn) ∧
    let t := s.setReg CAL_LOG_ACK 0 0 v.toNat
    (s.cal.restarting = false → exec (.calLogAckWrite p v) s =
      .next (t.gather { key := 0x0051, off := 0, data := [], req := none }).goOn) ∧
    (s.cal.restarting = true → exec (.calLogAckWrite p v) s =
      .next ({ t with cal := { t.cal with records := t.cal.records ++ [(0x0051, [])] } } : State).goOn)

/-- A responder that is not up (the host interface not released, or deep sleep) answers nothing. GET_VERSION starts
the connection anew; capabilities come after it, algorithms after those and only for the one set offered; every other
request before that gets ERROR 4. Afterwards: digests, portions of slot 0's chain, a signed CHALLENGE, and
measurements, all from the state of one cycle, signed where asked; an index or slot not offered gets ERROR.
KEY_EXCHANGE opens the one session; ENCAPSULATED_REQUEST keeps the digest of the peer's key; FINISH establishes it
and, after mutual authentication on the port of a pending pinned SAFETY partition, makes the binding active where the
digest equals the pin, else sets pin_fail. HEARTBEAT, KEY_UPDATE and END_SESSION need an established session. DOE
Discovery lists Discovery, SPDM and Secured SPDM. Of the part's state only the responder, SEC_ROLE or SEC_FLAGS, the
open bytes' counter and what is sent change. The codes, bit positions and layouts are those of the standards that R441
names, not of this spec (PRESUMED, log entry 11). (R440, R441, R442, R443, R451, spec/20_identity_and_roles.md) -/
def Obligations.SpdmResponders : Prop :=
  ∀ (s : State) (n : Nat), let x := s.spdmOf n
    let error (t : State) (code : Nat) : State := t.answer n 0x7F (leBytes 1 code)
    (∀ (c : Instr), s.spdmUp n = false →
      (c = .getVersion n ∨ (∃ w, c = .getCapabilities n w) ∨ (∃ b, c = .negotiateAlgorithms n b) ∨ c = .getDigests n ∨
        (∃ a b d, c = .getCertificate n a b d) ∨ (∃ a b, c = .challenge n a b) ∨ (∃ a b d, c = .getMeasurements n a b d) ∨
        (∃ a b, c = .keyExchange n a b) ∨ (∃ a, c = .finish n a) ∨ c = .heartbeat n ∨ c = .keyUpdate n ∨ c = .endSession n ∨
        (∃ a b, c = .encapsulatedRequest n a b) ∨ ∃ a, c = .doeDiscovery n a) → exec c s = .next s) ∧
    (∀ (c : Instr), s.spdmUp n = true → x.algs = false →
      (c = .getDigests n ∨ (∃ a b d, c = .getCertificate n a b d) ∨ (∃ a b, c = .challenge n a b) ∨
        (∃ a b d, c = .getMeasurements n a b d) ∨ (∃ a b, c = .keyExchange n a b) ∨ (∃ a, c = .finish n a) ∨ c = .heartbeat n ∨
        c = .keyUpdate n ∨ c = .endSession n ∨ ∃ a b, c = .encapsulatedRequest n a b) → exec c s = .next (error s 4)) ∧
    (s.spdmUp n = true →
      exec (.getVersion n) s = .next ((s.setSpdm n { version := true }).answer n 0x04 [0, 0x12]) ∧
      (∀ w : Word, exec (.getCapabilities n w) s = .next (if x.version = false then error s 4
        else (s.setSpdm n { x with caps := true }).answer n 0x61
          ([14] ++ leBytes 4 0x7336 ++ leBytes 4 4096 ++ leBytes 4 4096))) ∧
      (∀ offered : Bool, exec (.negotiateAlgorithms n offered) s = .next (if x.caps = false then error s 4
        else if offered = true then (s.setSpdm n { x with algs := true }).answer n 0x63 (leBytes 4 0x80 ++ leBytes 4 2)
        else error s 1)) ∧
      ∀ i : Nat, exec (.doeDiscovery n i) s = .next (s.answer n 0
        (if i = 0 then [1, 0, 0, 1] else if i = 1 then [1, 0, 1, 2] else if i = 2 then [1, 0, 2, 0] else [0xFF, 0xFF, 0, 0]))) ∧
    (s.spdmUp n = true → x.algs = true →
      (∀ chain : List Byte, s.certChain = some chain →
        exec (.getDigests n) s = .next (s.answer n 0x01 (Config.sha384 chain)) ∧
        (∀ off len : Nat, off < chain.length → exec (.getCertificate n 0 off len) s =
          .next (let d := (chain.drop off).take (min len 4088)
            s.answer n 0x02 (leBytes 2 d.length ++ leBytes 2 (chain.length - off - d.length) ++ d))) ∧
        (∀ slot off len : Nat, slot ≠ 0 ∨ chain.length ≤ off → exec (.getCertificate n slot off len) s = .next (error s 1)) ∧
        ∀ nonce : List Byte, exec (.challenge n 0 nonce) s = .next (s.signed n 0x03 nonce (Config.sha384 chain)) ∧
          ∀ slot : Nat, slot ≠ 0 → exec (.challenge n slot nonce) s = .next (error s 1)) ∧
      (∀ (idx : List Nat) (nonce : List Byte),
        ((∀ i ∈ idx, (1 ≤ i ∧ i ≤ 5) ∨ (16 ≤ i ∧ i ≤ 47)) →
          let d := idx.flatMap fun i => (s.measBlock i).getD []
          exec (.getMeasurements n idx true nonce) s = .next (s.signed n 0x60 nonce d) ∧
          exec (.getMeasurements n idx false nonce) s = .next (s.answer n 0x60 d)) ∧
        (∀ i ∈ idx, i = 0 ∨ (6 ≤ i ∧ i ≤ 15) ∨ 48 ≤ i →
          ∀ b : Bool, exec (.getMeasurements n idx b nonce) s = .next (error s 1))) ∧
      (∀ ma : Bool, exec (.keyExchange n 0 ma) s = .next (if x.session ≠ 0 then error s 2
        else (s.setSpdm n { x with session := 1, mutAuth := ma, peer := [], keys := 0 }).signed n 0x64 []
          (s.certChain.getD [])) ∧
        ∀ slot : Nat, slot ≠ 0 → exec (.keyExchange n slot ma) s = .next (error s 1)) ∧
      (x.session = 1 → x.mutAuth = true → ∀ key : List Byte,
        exec (.encapsulatedRequest n key true) s = .next ((s.setSpdm n { x with peer := Config.sha384 key }).answer n 0x6B []) ∧
        exec (.encapsulatedRequest n key false) s = .next (error (s.setSpdm n { x with session := 0 }) 6)) ∧
      (x.session = 1 → x.mutAuth = false ∨ x.peer ≠ [] →
        let t := (s.setSpdm n { x with session := 2 }).answer n 0x65 []
        exec (.finish n false) s = .next (error (s.setSpdm n { x with session := 0 }) 6) ∧
        exec (.finish n true) s = .next (if x.mutAuth = true ∧ s.fld SEC_ROLE_safety_state = 1 ∧ s.fld SEC_ROLE_pin_en = 1 ∧
            s.fld SEC_ROLE_safety = n then
            if x.peer = s.pinBytes then t.setFld SEC_ROLE_safety_state 2 else t.setFld SEC_FLAGS_pin_fail 1
          else t)) ∧
      (x.session = 2 →
        exec (.heartbeat n) s = .next (s.answer n 0x68 []) ∧
        exec (.keyUpdate n) s = .next ((s.setSpdm n { x with keys := x.keys + 1 }).answer n 0x69 []) ∧
        exec (.endSession n) s =
          .next ((s.setSpdm n { x with session := 0, mutAuth := false, peer := [], keys := 0 }).answer n 0x6C [])) ∧
      (x.session ≠ 2 → exec (.heartbeat n) s = .next (error s 4) ∧ exec (.keyUpdate n) s = .next (error s 4) ∧
        exec (.endSession n) s = .next (error s 4)) ∧
      ((s.measurement 1 = some (Config.sha384 Config.bootVersion)) ∧ s.measurement 4 = some (Config.sha384 s.sec.bootRec) ∧
        ∀ c < 32, s.measurement (16 + c) = some (if (s.cl c).job.isSome = true then (s.cl c).digest else List.replicate 48 0)))

/-- For a served port and an offset outside the windows of R454: a write of a size other than 4 or 8, or not naturally
aligned, sets GLB_FLAGS.size and changes nothing else; a 4-byte write at an aligned unmapped offset sets
GLB_FLAGS.unmapped and changes nothing else; a read not naturally aligned returns zeros and sets size; a 4-byte read
at an unmapped offset returns 0 and sets unmapped; a 4-byte read of GLB_ID returns the register's word, little-endian.
The queues' waits that have ended go on after a write (goOn, R326). (R454, R455, spec/21_register_space.md) -/
def Obligations.AccessesThatReachNoRegister : Prop :=
  ∀ (s : State) (p off size : Nat) (v : BitVec 64), s.reachable p = true →
    inWin off = false → inMsix off = false → inPba off = false →
      (((size ≠ 4 ∧ size ≠ 8) ∨ off % size ≠ 0) →
        exec (.registerWrite p off size v) s = .next (s.setFld GLB_FLAGS_size 1).goOn) ∧
      (off % 4 = 0 → regAt off = none →
        exec (.registerWrite p off 4 v) s = .next (s.setFld GLB_FLAGS_unmapped 1).goOn) ∧
      (off % size ≠ 0 → exec (.bar0ReadError p off size) s =
        .next ((s.setFld GLB_FLAGS_size 1).emit (.readData p (List.replicate size 0) false))) ∧
      (off % 4 = 0 → regAt off = none → exec (.bar0ReadError p off 4) s =
        .next ((s.setFld GLB_FLAGS_unmapped 1).emit (.readData p [0, 0, 0, 0] false))) ∧
      exec (.bar0ReadError p GLB_ID 4) s = .next (s.emit (.readData p (leBytes 4 (s.reg GLB_ID 0 p)) false))

/-- For a served port and an aligned 4-byte write to a mapped register: if the partition is disabled the write is
denied with cause 4; else, if the register's scope does not grant it, with cause 0; else, if the object selected is
another partition's and reserved to it, with cause 3; else, if set-up is locked and a field of class RWL would change,
with cause 1. The step then writes the deny-log entry at GLB_DENY_HEAD.next (0x80000000 + partition x 2^29 + cause x
2^26 + offset), advances next mod 8, sets wrapped if the entry was valid, adds 1 to the partition's saturating
GLB_DENY_CNT, sets GLB_FLAGS.deny, and changes no other register word and nothing outside the registers (the queues'
waits that have ended go on, goOn, R326). The part's maps hold no field of class RWO (cause 2). (R459, R464,
spec/21_register_space.md) -/
def Obligations.DeniedWrites : Prop :=
  ∀ (s : State) (p off c : Nat) (v : BitVec 64) (d : RegDesc), s.reachable p = true →
    inWin off = false → inMsix off = false → inPba off = false → off % 4 = 0 → off < 2 ^ 21 → regAt off = some d →
    (let ix := (s.selected p d.ix).getD 13
     if s.partOn p = false then some 4
     else if s.granted p (scopeFor d ix) = false then some 0
     else if s.foreign p d ix = true then some 3
     else if s.locked = true ∧ (s.selected p d.ix).isSome = true ∧ changesRwl d (s.reg off ix 0) (v.toNat % 2 ^ 32) = true then some 1
     else none) = some c →
    let n := s.fld GLB_DENY_HEAD_next
    ∃ t : State, exec (.registerWrite p off 4 v) s = .next t.goOn ∧
      t.reg (GLB_DENY_LOG n) 0 0 = 2 ^ 31 + p * 2 ^ 29 + c * 2 ^ 26 + off ∧
      t.fld GLB_DENY_HEAD_next = (n + 1) % 8 ∧
      t.fld GLB_DENY_HEAD_wrapped = (if s.fld (GLB_DENY_LOG_valid n) = 1 then 1 else s.fld GLB_DENY_HEAD_wrapped) ∧
      t.fldP GLB_DENY_CNT_count p = min (s.fldP GLB_DENY_CNT_count p + 1) (2 ^ 32 - 1) ∧
      t.fld GLB_FLAGS_deny = 1 ∧
      { t with regs := s.regs } = s ∧
      ∀ k, k ≠ regKey (GLB_DENY_LOG n) 0 0 → k ≠ regKey GLB_DENY_HEAD 0 0 → k ≠ regKey GLB_DENY_CNT 0 p →
        k ≠ regKey GLB_FLAGS 0 0 → ∀ dflt, Sparse.get dflt t.regs k = Sparse.get dflt s.regs k

/-- For a register of the CMP block other than CMP_CTRL, a 4-byte write of a word without reserved bits by the OWNER
(any partition for a register of PART scope) while set-up is not locked answers the state in which that register's
fields of classes RW and RWL hold the written bits, its W1C bits written 1 are clear, its W1S bits written 1 are set,
in the writing partition's bank for a PART register that is not indexed, and nothing else has changed (the queues'
waits that have ended go on, goOn, R326). (R457, R459, R460, spec/08_compensation_and_dither.md,
spec/21_register_space.md) -/
def Obligations.RegistersTakeWhatTheirClassesAllow : Prop :=
  ∀ (s : State) (p off : Nat) (v : BitVec 64) (d : RegDesc), s.hostUp p → s.locked = false →
    0x70000 ≤ off → off < 0x80000 → off % 4 = 0 → off ≠ CMP_CTRL → regAt off = some d → s.granted p d.scope = true →
    v.toNat % 2 ^ 32 &&& usedMask d = v.toNat % 2 ^ 32 →
      let bank := if d.scope = .part then p else 0
      ∃ t : State, exec (.registerWrite p off 4 v) s = .next t.goOn ∧
        t.reg off 0 bank = written d (s.reg off 0 bank) (v.toNat % 2 ^ 32) ∧
        { t with regs := s.regs } = s ∧
        ∀ k, k ≠ regKey off 0 bank → ∀ dflt, Sparse.get dflt t.regs k = Sparse.get dflt s.regs k

/-- By the OWNER while set-up is not locked: 1 to GLB_LOCK sets the lock; 0x80000000 to GLB_DENY_HEAD clears the eight
entries, next and wrapped; GLB_PART_EN takes a mask that keeps the OWNER, every partition with an enabled queue, and
the SAFETY partition while S is enabled, and any other mask only sets GLB_FLAGS.refused; SEC_ROLE with an unchanged
binding keeps safety_state, a new SAFETY binding while S is disabled gives state 0 without a SAFETY role, 2 without a
pin and 1 with one, and a new binding while S is enabled only sets SEC_FLAGS.refused; SEC_IMG_FLOOR takes a version
not below the floor, and a lower one only sets SEC_FLAGS.refused. In each case nothing else changes (the queues' waits
that have ended go on, goOn, R326). (R450, R451, R462, R463, R464, spec/21_register_space.md,
spec/20_identity_and_roles.md) -/
def Obligations.SetUpAndRoles : Prop :=
  ∀ (s : State) (p : Nat) (v : Word), s.ownerUp p →
    exec (.glbLockSet p 1) s = .next (s.setFld GLB_LOCK_lock 1).goOn ∧
    exec (.denyLogClear p 0x80000000) s =
      .next (((List.range 8).foldl (fun t k => t.setReg (GLB_DENY_LOG k) 0 0 0) s).setReg GLB_DENY_HEAD 0 0 0).goOn ∧
    (v.toNat < 16 →
      (∀ q < 4, s.partOn q = true → v.toNat.testBit q = false →
        q ≠ s.owner ∧ s.hasQueue q = false ∧ ¬((s.layer 12).en = true ∧ q ∈ s.safetyPart)) →
      exec (.glbPartEnWrite p v) s = .next (s.setReg GLB_PART_EN 0 0 v.toNat).goOn) ∧
    (∀ q < 4, v.toNat < 16 → s.partOn q = true → v.toNat.testBit q = false →
      q = s.owner ∨ s.hasQueue q = true ∨ ((s.layer 12).en = true ∧ q ∈ s.safetyPart) →
      exec (.glbPartEnWrite p v) s = .next (s.setFld GLB_FLAGS_refused 1).goOn) ∧
    (v.toNat &&& 0xF3 = v.toNat →
      let same := bits (s.reg SEC_ROLE 0 0) 7 4 = v.toNat / 16
      exec (.secRoleWrite p v) s =
        .next (if ¬same ∧ (s.layer 12).en = true then s.setFld SEC_FLAGS_refused 1
          else s.setReg SEC_ROLE 0 0 (v.toNat % 256 +
            256 * (if same then s.fld SEC_ROLE_safety_state
              else if v.toNat / 64 % 2 = 0 then 0 else if v.toNat / 128 = 0 then 2 else 1))).goOn) ∧
    (exec (.secImgFloorWrite p v) s =
      .next (if v.toNat < s.fld SEC_IMG_FLOOR_svn then s.setFld SEC_FLAGS_refused 1
          else s.setFld SEC_IMG_FLOOR_svn v.toNat).goOn)

/-- RESET_ASSERT leaves every register and context at its reset value, whatever it was, but the record store's bytes,
the brown-out latch, the crystal, SYNC_IN's level and what lies outside the part. COLD_RESET does the same and then
starts up; where neither firmware copy passes, the host interface is released with NVS_STATUS.fw at 3 and only boot
logic runs; else journal, records and counters are read and the cold reset is counted and logged, the calibration's
results taken, the boot configuration's entries applied and the host interface released. BROWN_OUT latches the brown-
out and whether the LDO was in low-power mode, and starts up likewise unless RST_N is low. While the TAP is powered,
BYPASS, CLAMP and HIGHZ shift through the one bypass bit, which captures 0: what leaves is a 0 and then the bits, the
last kept; SAMPLE/PRELOAD and EXTEST shift through the 176 cells, whose captured levels the spec leaves open (free
values): the last 176 bits shifted become the cells; EXTEST, CLAMP and HIGHZ hold the pins (that the pins are held is
DEDUCED, log entry 52). (R396, R419, R461, R470, R472, R488, R489, R491, R492, spec/22_pins_and_electrical.md,
spec/23_bringup_and_example.md) -/
def Obligations.ResetAndScans : Prop :=
  (∀ s : State, ∃ t : State, exec .resetAssert s = .next t ∧ t.inReset = true ∧ t.regs = [] ∧ t.tb = 0 ∧ t.nvs.mem = s.nvs.mem ∧
    t.pwr.bor = s.pwr.bor ∧ t.pwr.borLp = s.pwr.borLp ∧ t.pending = s.pending ∧ t.tap = s.tap ∧
    { t with pending := [], sent := [], free := 0, tap := State.reset.tap, hif := { t.hif with hostMem := [] },
             pwr := { t.pwr with bor := false, borLp := false, crystal := false, syncHigh := false }, nvs := { t.nvs with mem := [] } } =
      { State.reset with free := 0, sent := [], tap := State.reset.tap }) ∧
  (∀ (s : State) (us : Nat) (c : CalOutcome),
    let begin_ (t : State) : State :=
      let u : State := { t with inReset := false }
      let v := ((u.setFld MEM_FILL_done 1).setFld MEM_FILL_time (min 1023 us)).measureAon.emit (.pin "BCB_BUSY_N" 0 true)
      let w := v.setFld NVS_STATUS_fw (bootFirmware s.nvs.mem).1
      { w with sec := { w.sec with fwImage := if (bootFirmware s.nvs.mem).1 = 3 then none else some (bootFirmware s.nvs.mem).2 } }
    let rest (t : State) (brown : Bool) : State :=
      if (bootFirmware s.nvs.mem).1 = 3 then { begin_ t with hif := { (begin_ t).hif with released := true, noFw := true } }
      else
        let e := (((begin_ t).svcStart brown).takeResults 31 1 c).bootEntries
        ({ e with mod := { e.mod with defaultsDue := e.flag MOD_CTRL_nvm_default_load } } : State).release_
    let b : State := { s with pwr := { s.pwr with bor := true, borLp := s.pwr.ldoLp, crystal := false } }
    exec (.coldReset us c) s = .next (rest s.assertReset false) ∧
    exec (.brownOut us c) s = .next (if s.inReset = true then b.assertReset else rest b.assertReset true)) ∧
  (∀ (s : State) (bits : List Bool), s.pwr.deep < 6 →
    let out := (false :: bits).take bits.length
    let t (k : Nat) (h : Bool) : State := { s with tap := { s.tap with inst := k, held := h, bypassBit := bits.getLast?.getD false } }
    exec (.bypass bits) s = .next ((t 0 false).emit (.tap out)) ∧ exec (.clamp bits) s = .next ((t 3 true).emit (.tap out)) ∧
    exec (.highz bits) s = .next ((t 4 true).emit (.tap out))) ∧
  (∀ (s : State) (bits : List Bool), s.pwr.deep < 6 → ∃ seen : List Bool, seen.length = 176 ∧
    let out := (seen.reverse ++ bits).take bits.length
    let cells := (bits.reverse ++ seen).take 176
    let t (k : Nat) (h : Bool) : State :=
      { s with free := s.free + 176, tap := { s.tap with inst := k, held := h, cells := cells } }
    exec (.samplePreload bits) s = .next ((t 1 false).emit (.tap out)) ∧ exec (.extest bits) s = .next ((t 2 true).emit (.tap out))) ∧
  ∀ (s : State) (bits : List Bool), 6 ≤ s.pwr.deep → exec (.bypass bits) s = .next s ∧ exec (.samplePreload bits) s = .next s ∧
    exec (.extest bits) s = .next s ∧ exec (.clamp bits) s = .next s ∧ exec (.highz bits) s = .next s
end

