-- ==== Sys2Proof/Laws/Sparse.lean ====
section
/-! SUPPORT. Read after write, and that every operation keeps the canonical form. -/

namespace Sys2Proof.Laws

open Sys2Proof.Machine

variable {α : Type}

theorem sparse_get_erase_same (d : α) (m : List (Nat × α)) (n : Nat) :
    Sparse.get d (Sparse.erase m n) n = d := by
  induction m with
  | nil => rfl
  | cons e m ih =>
    by_cases h : e.1 = n
    · simpa [Sparse.erase, h] using ih
    · simpa [Sparse.erase, Sparse.get, h] using ih

theorem sparse_get_erase_other (d : α) (m : List (Nat × α)) {n k : Nat} (hk : k ≠ n) :
    Sparse.get d (Sparse.erase m n) k = Sparse.get d m k := by
  induction m with
  | nil => rfl
  | cons e m ih =>
    by_cases h : e.1 = n
    · have hk' : ¬ e.1 = k := fun c => hk (c ▸ h)
      simpa [Sparse.erase, Sparse.get, h, Ne.symm hk] using ih
    · by_cases h2 : e.1 = k
      · simp [Sparse.erase, Sparse.get, h2, hk]
      · simpa [Sparse.erase, Sparse.get, h, h2] using ih

theorem sparse_get_insert_same (d : α) (m : List (Nat × α)) (n : Nat) (x : α) (h : ∀ e ∈ m, e.1 ≠ n) :
    Sparse.get d (Sparse.insert m n x) n = x := by
  induction m with
  | nil => simp [Sparse.insert, Sparse.get]
  | cons e m ih =>
    have he := h e (by simp)
    have hm := ih (fun a ha => h a (by simp [ha]))
    unfold Sparse.insert
    split
    · simp [Sparse.get]
    · simpa [Sparse.get, he] using hm

theorem sparse_get_insert_other (d : α) (m : List (Nat × α)) {n k : Nat} (x : α) (hk : k ≠ n) :
    Sparse.get d (Sparse.insert m n x) k = Sparse.get d m k := by
  induction m with
  | nil => simp [Sparse.insert, Sparse.get, Ne.symm hk]
  | cons e m ih =>
    unfold Sparse.insert
    split
    · simp [Sparse.get, Ne.symm hk]
    · simp [Sparse.get, ih]

theorem mem_erase {m : List (Nat × α)} {n : Nat} {e : Nat × α} (h : e ∈ Sparse.erase m n) : e ∈ m ∧ e.1 ≠ n := by
  simpa [Sparse.erase] using h

/-- A read after a write to the same number gives the value written. -/
@[simp] theorem sparse_get_set_same [DecidableEq α] (d : α) (m : List (Nat × α)) (n : Nat) (x : α) :
    Sparse.get d (Sparse.set d m n x) n = x := by
  unfold Sparse.set
  split
  · rename_i h; rw [sparse_get_erase_same, h]
  · exact sparse_get_insert_same d _ n x (fun e he => (mem_erase he).2)

/-- A write leaves every other number alone. -/
theorem sparse_get_set_other [DecidableEq α] (d d' : α) (m : List (Nat × α)) {n k : Nat} (x : α) (hk : k ≠ n) :
    Sparse.get d' (Sparse.set d m n x) k = Sparse.get d' m k := by
  unfold Sparse.set
  split
  · exact sparse_get_erase_other d' m hk
  · rw [sparse_get_insert_other d' _ x hk, sparse_get_erase_other d' m hk]

theorem mem_insert {m : List (Nat × α)} {n : Nat} {x : α} {e : Nat × α} (h : e ∈ Sparse.insert m n x) :
    e = (n, x) ∨ e ∈ m := by
  induction m with
  | nil => simpa [Sparse.insert] using h
  | cons a m ih =>
    unfold Sparse.insert at h
    split at h
    · simpa using h
    · rcases List.mem_cons.1 h with rfl | h
      · simp
      · rcases ih h with h | h <;> simp [h]

theorem sorted_insert {m : List (Nat × α)} (hs : m.Pairwise (fun a b => a.1 < b.1)) {n : Nat} {x : α}
    (hn : ∀ e ∈ m, e.1 ≠ n) : (Sparse.insert m n x).Pairwise (fun a b => a.1 < b.1) := by
  induction m with
  | nil => simp [Sparse.insert]
  | cons a m ih =>
    obtain ⟨ha, hm⟩ := List.pairwise_cons.1 hs
    unfold Sparse.insert
    split
    · rename_i h
      refine List.pairwise_cons.2 ⟨fun e he => ?_, hs⟩
      rcases List.mem_cons.1 he with rfl | he
      · exact h
      · exact lt_trans h (ha e he)
    · rename_i h
      have hne := hn a (by simp)
      refine List.pairwise_cons.2 ⟨fun e he => ?_, ih hm (fun e he => hn e (by simp [he]))⟩
      rcases mem_insert he with rfl | he
      · exact lt_of_le_of_ne (Nat.le_of_not_lt h) hne
      · exact ha e he

/-- A write keeps the canonical form. -/
theorem sparse_wf_set [DecidableEq α] {d : Nat → α} {m : List (Nat × α)} (h : Sparse.wf d m) (n : Nat) (x : α) :
    Sparse.wf d (Sparse.set (d n) m n x) := by
  have hs : (Sparse.erase m n).Pairwise (fun a b => a.1 < b.1) := h.1.filter _
  unfold Sparse.set
  split
  · exact ⟨hs, fun e he => h.2 e (mem_erase he).1⟩
  · rename_i hx
    refine ⟨sorted_insert hs (fun e he => (mem_erase he).2), fun e he => ?_⟩
    rcases mem_insert he with rfl | he
    · exact hx
    · exact h.2 e (mem_erase he).1

theorem sparse_wf_write [DecidableEq α] {d : α} (xs : List α) : ∀ {m : List (Nat × α)} (a : Nat),
    Sparse.wf (fun _ => d) m → Sparse.wf (fun _ => d) (Sparse.write d m a xs) := by
  induction xs with
  | nil => intro m a h; exact h
  | cons x xs ih => intro m a h; exact ih (a + 1) (sparse_wf_set h a x)

theorem erase_insert (m : List (Nat × α)) (n : Nat) (x : α) :
    Sparse.erase (Sparse.insert (Sparse.erase m n) n x) n = Sparse.erase m n := by
  have key : ∀ l : List (Nat × α), (∀ e ∈ l, e.1 ≠ n) → Sparse.erase (Sparse.insert l n x) n = l := by
    intro l
    induction l with
    | nil => intro _; simp [Sparse.insert, Sparse.erase]
    | cons a l ih =>
      intro h
      have ha := h a (by simp)
      have hl := fun e he => h e (List.mem_cons_of_mem a he)
      have hf : Sparse.erase l n = l := List.filter_eq_self.2 (fun e he => by simpa using hl e he)
      unfold Sparse.insert
      split
      · simpa [Sparse.erase, ha] using hf
      · have := ih hl
        simpa [Sparse.erase, ha] using this
  exact key _ (fun e he => (mem_erase he).2)

theorem erase_erase (m : List (Nat × α)) (n : Nat) : Sparse.erase (Sparse.erase m n) n = Sparse.erase m n := by
  simp [Sparse.erase]

/-- Of two writes to one number the second stands. -/
@[simp] theorem sparse_set_set [DecidableEq α] (d : α) (m : List (Nat × α)) (n : Nat) (x y : α) :
    Sparse.set d (Sparse.set d m n x) n y = Sparse.set d m n y := by
  have h : Sparse.erase (Sparse.set d m n x) n = Sparse.erase m n := by
    unfold Sparse.set
    split
    · exact erase_erase m n
    · exact erase_insert m n x
  show (if y = d then _ else _) = (if y = d then _ else _)
  rw [h]

end Sys2Proof.Laws
end

