-- ==== Sys2Proof/Laws/Bytes.lean ====
section
/-! SUPPORT. Little-endian numbers, CRC-32C, and the bytes of a sparse memory read back after a write. -/

namespace Sys2Proof.Laws

open Sys2Proof Sys2Proof.Machine

@[simp] theorem length_leBytes (n v : Nat) : (leBytes n v).length = n := by
  induction n generalizing v with
  | zero => rfl
  | succ n ih => simp [leBytes, ih]

theorem leNat_lt (l : List Byte) : leNat l < 256 ^ l.length := by
  induction l with
  | nil => simp [leNat]
  | cons b l ih =>
    have := b.isLt
    simp only [leNat, List.length_cons, Nat.pow_succ]
    omega

/-- A number that fits in n bytes is read back from them. -/
theorem leNat_leBytes (n v : Nat) : leNat (leBytes n v) = v % 256 ^ n := by
  induction n generalizing v with
  | zero => simp [leBytes, leNat, Nat.mod_one]
  | succ n ih => simp [leBytes, leNat, ih, Nat.pow_succ', Nat.mod_mul]

theorem leNat_leBytes_of_lt {n v : Nat} (h : v < 256 ^ n) : leNat (leBytes n v) = v := by
  rw [leNat_leBytes, Nat.mod_eq_of_lt h]

/-- A number read inside the first of two joined byte strings. -/
theorem leAt_append_left {l m : List Byte} {a n : Nat} (h : a + n ≤ l.length) : leAt (l ++ m) a n = leAt l a n := by
  have h1 : (l ++ m).drop a = l.drop a ++ m := List.drop_append_of_le_length (by omega)
  simp only [leAt, h1]
  rw [List.take_append_of_le_length (by simp; omega)]

/-- A number read inside the second of two joined byte strings. -/
theorem leAt_append_right {l m : List Byte} {a n : Nat} (h : l.length ≤ a) : leAt (l ++ m) a n = leAt m (a - l.length) n := by
  simp [leAt, List.drop_append, List.drop_eq_nil_of_le h]

/-- The n bytes of a number at the start of a byte string. -/
theorem leAt_leBytes {n v : Nat} (m : List Byte) (h : v < 256 ^ n) : leAt (leBytes n v ++ m) 0 n = v := by
  have : (leBytes n v).length = n := length_leBytes n v
  simp [leAt, this, leNat_leBytes_of_lt h]

theorem crcBit_lt {p c : Nat} (hp : p < 2 ^ 32) (hc : c < 2 ^ 32) : crcBit p c < 2 ^ 32 := by
  unfold crcBit
  split
  · exact Nat.xor_lt_two_pow (by omega) hp
  · omega

theorem crcByte_lt {p c : Nat} (b : Byte) (hp : p < 2 ^ 32) (hc : c < 2 ^ 32) : crcByte p c b < 2 ^ 32 := by
  have hb : c ^^^ b.toNat < 2 ^ 32 := Nat.xor_lt_two_pow hc (by have := b.isLt; omega)
  unfold crcByte
  generalize c ^^^ b.toNat = x at hb
  generalize List.range 8 = l
  induction l generalizing x with
  | nil => exact hb
  | cons _ l ih => exact ih _ (crcBit_lt hp hb)

/-- CRC-32C is a 32-bit number. -/
theorem crc32c_lt (l : List Byte) : crc32c l < 2 ^ 32 := by
  have key : ∀ (l : List Byte) (c : Nat), c < 2 ^ 32 → l.foldl (crcByte 0x82F63B78) c < 2 ^ 32 := by
    intro l
    induction l with
    | nil => intro c h; exact h
    | cons b l ih => intro c h; exact ih _ (crcByte_lt b (by decide) h)
  exact Nat.xor_lt_two_pow (key l _ (by decide)) (by decide)

/-- Bytes closed by their CRC-32C pass the check of a table's bytes. -/
theorem crcGood_append (d : List Byte) : crcGood (d ++ leBytes 4 (crc32c d)) (d.length + 4) = true := by
  have h : crc32c d < 256 ^ 4 := crc32c_lt d
  have e : leAt (d ++ leBytes 4 (crc32c d)) d.length 4 = crc32c d := by
    rw [leAt_append_right (Nat.le_refl _), Nat.sub_self]
    simpa using leAt_leBytes [] h
  simp [crcGood, e]

/-! Sparse memories. -/

/-- A byte written is read back; any other byte is as before. -/
theorem get_write (d : Byte) (m : List (Nat × Byte)) (a : Nat) (l : List Byte) (k : Nat) :
    Sparse.get d (Sparse.write d m a l) k = if a ≤ k ∧ k < a + l.length then l.getD (k - a) d else Sparse.get d m k := by
  induction l generalizing m a with
  | nil => simp [Sparse.write]
  | cons x l ih =>
    rw [Sparse.write, ih]
    by_cases h : k = a
    · subst h
      simp
    · rw [sparse_get_set_other _ _ _ _ h]
      by_cases h1 : a + 1 ≤ k ∧ k < a + 1 + l.length
      · have h2 : a ≤ k ∧ k < a + (l.length + 1) := by omega
        have h3 : k - a = (k - (a + 1)) + 1 := by omega
        simp [h1, h2, h3]
      · have h2 : ¬(a ≤ k ∧ k < a + (l.length + 1)) := by omega
        rw [if_neg h1, List.length_cons, if_neg h2]

/-- Bytes written are read back. -/
theorem read_write_same (d : Byte) (m : List (Nat × Byte)) (a : Nat) (l : List Byte) :
    Sparse.read d (Sparse.write d m a l) a l.length = l := by
  apply List.ext_getElem
  · simp [Sparse.read]
  · intro i h1 h2
    simp [Sparse.read, get_write, h2]

/-- Bytes outside those written are as before. -/
theorem read_write_other (d : Byte) (m : List (Nat × Byte)) (a b n : Nat) (l : List Byte) (h : b + n ≤ a ∨ a + l.length ≤ b) :
    Sparse.read d (Sparse.write d m a l) b n = Sparse.read d m b n := by
  apply List.ext_getElem
  · simp [Sparse.read]
  · intro i h1 h2
    have hi : i < n := by simpa [Sparse.read] using h1
    have : ¬(a ≤ b + i ∧ b + i < a + l.length) := by omega
    simp [Sparse.read, get_write, this]

end Sys2Proof.Laws
end

