-- ==== Sys2Proof/Laws/State.lean ====
section
/-! SUPPORT. State: what each update leaves as it was, one lemma per field, and what each object reads after it is changed. -/

namespace Sys2Proof.Laws

open Sys2Proof Sys2Proof.Machine

variable (s : State)

/-! Register words and fields: an update changes the register file alone. -/

@[simp] theorem setReg_pending (off ix b w : Nat) : (s.setReg off ix b w).pending = s.pending := rfl
@[simp] theorem setReg_tb (off ix b w : Nat) : (s.setReg off ix b w).tb = s.tb := rfl
@[simp] theorem setReg_tbFrac (off ix b w : Nat) : (s.setReg off ix b w).tbFrac = s.tbFrac := rfl
@[simp] theorem setReg_tbs (off ix b w : Nat) : (s.setReg off ix b w).tbs = s.tbs := rfl
@[simp] theorem setReg_lnk (off ix b w : Nat) : (s.setReg off ix b w).lnk = s.lnk := rfl
@[simp] theorem setReg_ports (off ix b w : Nat) : (s.setReg off ix b w).ports = s.ports := rfl
@[simp] theorem setReg_streams (off ix b w : Nat) : (s.setReg off ix b w).streams = s.streams := rfl
@[simp] theorem setReg_lyr (off ix b w : Nat) : (s.setReg off ix b w).lyr = s.lyr := rfl
@[simp] theorem setReg_scn (off ix b w : Nat) : (s.setReg off ix b w).scn = s.scn := rfl
@[simp] theorem setReg_mod (off ix b w : Nat) : (s.setReg off ix b w).mod = s.mod := rfl
@[simp] theorem setReg_cmp (off ix b w : Nat) : (s.setReg off ix b w).cmp = s.cmp := rfl
@[simp] theorem setReg_odv (off ix b w : Nat) : (s.setReg off ix b w).odv = s.odv := rfl
@[simp] theorem setReg_eng (off ix b w : Nat) : (s.setReg off ix b w).eng = s.eng := rfl
@[simp] theorem setReg_kdl (off ix b w : Nat) : (s.setReg off ix b w).kdl = s.kdl := rfl
@[simp] theorem setReg_pnl (off ix b w : Nat) : (s.setReg off ix b w).pnl = s.pnl := rfl
@[simp] theorem setReg_hif (off ix b w : Nat) : (s.setReg off ix b w).hif = s.hif := rfl
@[simp] theorem setReg_fst (off ix b w : Nat) : (s.setReg off ix b w).fst = s.fst := rfl
@[simp] theorem setReg_mem (off ix b w : Nat) : (s.setReg off ix b w).mem = s.mem := rfl
@[simp] theorem setReg_pwr (off ix b w : Nat) : (s.setReg off ix b w).pwr = s.pwr := rfl
@[simp] theorem setReg_nvs (off ix b w : Nat) : (s.setReg off ix b w).nvs = s.nvs := rfl
@[simp] theorem setReg_cal (off ix b w : Nat) : (s.setReg off ix b w).cal = s.cal := rfl
@[simp] theorem setReg_sec (off ix b w : Nat) : (s.setReg off ix b w).sec = s.sec := rfl
@[simp] theorem setReg_tap (off ix b w : Nat) : (s.setReg off ix b w).tap = s.tap := rfl
@[simp] theorem setReg_inReset (off ix b w : Nat) : (s.setReg off ix b w).inReset = s.inReset := rfl
@[simp] theorem setReg_free (off ix b w : Nat) : (s.setReg off ix b w).free = s.free := rfl
@[simp] theorem setReg_sent (off ix b w : Nat) : (s.setReg off ix b w).sent = s.sent := rfl
@[simp] theorem queue_setReg (off ix b w : Nat) (k : Nat) : (s.setReg off ix b w).queue k = s.queue k := rfl
@[simp] theorem lane_setReg (off ix b w : Nat) (k : Nat) : (s.setReg off ix b w).lane k = s.lane k := rfl
@[simp] theorem port_setReg (off ix b w : Nat) (k : Nat) : (s.setReg off ix b w).port k = s.port k := rfl
@[simp] theorem stream_setReg (off ix b w : Nat) (k : Nat) : (s.setReg off ix b w).stream k = s.stream k := rfl
@[simp] theorem layer_setReg (off ix b w : Nat) (k : Nat) : (s.setReg off ix b w).layer k = s.layer k := rfl
@[simp] theorem drv_setReg (off ix b w : Nat) (k : Nat) : (s.setReg off ix b w).drv k = s.drv k := rfl
@[simp] theorem en_setReg (off ix b w : Nat) (k : Nat) : (s.setReg off ix b w).en k = s.en k := rfl
@[simp] theorem cl_setReg (off ix b w : Nat) (k : Nat) : (s.setReg off ix b w).cl k = s.cl k := rfl
@[simp] theorem dom_setReg (off ix b w : Nat) (k : Nat) : (s.setReg off ix b w).dom k = s.dom k := rfl
@[simp] theorem rail_setReg (off ix b w : Nat) (k : Nat) : (s.setReg off ix b w).rail k = s.rail k := rfl
@[simp] theorem cxPort_setReg (off ix b w : Nat) (k : Nat) : (s.setReg off ix b w).cxPort k = s.cxPort k := rfl
@[simp] theorem buf_setReg (off ix b w : Nat) (k : Nat) : (s.setReg off ix b w).buf k = s.buf k := rfl
@[simp] theorem inst_setReg (off ix b w : Nat) (k : Nat) : (s.setReg off ix b w).inst k = s.inst k := rfl
@[simp] theorem spdmOf_setReg (off ix b w : Nat) (k : Nat) : (s.setReg off ix b w).spdmOf k = s.spdmOf k := rfl

@[simp] theorem setFldAt_pending (f : Fld) (ix b v : Nat) : (s.setFldAt f ix b v).pending = s.pending := rfl
@[simp] theorem setFldAt_tb (f : Fld) (ix b v : Nat) : (s.setFldAt f ix b v).tb = s.tb := rfl
@[simp] theorem setFldAt_tbFrac (f : Fld) (ix b v : Nat) : (s.setFldAt f ix b v).tbFrac = s.tbFrac := rfl
@[simp] theorem setFldAt_tbs (f : Fld) (ix b v : Nat) : (s.setFldAt f ix b v).tbs = s.tbs := rfl
@[simp] theorem setFldAt_lnk (f : Fld) (ix b v : Nat) : (s.setFldAt f ix b v).lnk = s.lnk := rfl
@[simp] theorem setFldAt_ports (f : Fld) (ix b v : Nat) : (s.setFldAt f ix b v).ports = s.ports := rfl
@[simp] theorem setFldAt_streams (f : Fld) (ix b v : Nat) : (s.setFldAt f ix b v).streams = s.streams := rfl
@[simp] theorem setFldAt_lyr (f : Fld) (ix b v : Nat) : (s.setFldAt f ix b v).lyr = s.lyr := rfl
@[simp] theorem setFldAt_scn (f : Fld) (ix b v : Nat) : (s.setFldAt f ix b v).scn = s.scn := rfl
@[simp] theorem setFldAt_mod (f : Fld) (ix b v : Nat) : (s.setFldAt f ix b v).mod = s.mod := rfl
@[simp] theorem setFldAt_cmp (f : Fld) (ix b v : Nat) : (s.setFldAt f ix b v).cmp = s.cmp := rfl
@[simp] theorem setFldAt_odv (f : Fld) (ix b v : Nat) : (s.setFldAt f ix b v).odv = s.odv := rfl
@[simp] theorem setFldAt_eng (f : Fld) (ix b v : Nat) : (s.setFldAt f ix b v).eng = s.eng := rfl
@[simp] theorem setFldAt_kdl (f : Fld) (ix b v : Nat) : (s.setFldAt f ix b v).kdl = s.kdl := rfl
@[simp] theorem setFldAt_pnl (f : Fld) (ix b v : Nat) : (s.setFldAt f ix b v).pnl = s.pnl := rfl
@[simp] theorem setFldAt_hif (f : Fld) (ix b v : Nat) : (s.setFldAt f ix b v).hif = s.hif := rfl
@[simp] theorem setFldAt_fst (f : Fld) (ix b v : Nat) : (s.setFldAt f ix b v).fst = s.fst := rfl
@[simp] theorem setFldAt_mem (f : Fld) (ix b v : Nat) : (s.setFldAt f ix b v).mem = s.mem := rfl
@[simp] theorem setFldAt_pwr (f : Fld) (ix b v : Nat) : (s.setFldAt f ix b v).pwr = s.pwr := rfl
@[simp] theorem setFldAt_nvs (f : Fld) (ix b v : Nat) : (s.setFldAt f ix b v).nvs = s.nvs := rfl
@[simp] theorem setFldAt_cal (f : Fld) (ix b v : Nat) : (s.setFldAt f ix b v).cal = s.cal := rfl
@[simp] theorem setFldAt_sec (f : Fld) (ix b v : Nat) : (s.setFldAt f ix b v).sec = s.sec := rfl
@[simp] theorem setFldAt_tap (f : Fld) (ix b v : Nat) : (s.setFldAt f ix b v).tap = s.tap := rfl
@[simp] theorem setFldAt_inReset (f : Fld) (ix b v : Nat) : (s.setFldAt f ix b v).inReset = s.inReset := rfl
@[simp] theorem setFldAt_free (f : Fld) (ix b v : Nat) : (s.setFldAt f ix b v).free = s.free := rfl
@[simp] theorem setFldAt_sent (f : Fld) (ix b v : Nat) : (s.setFldAt f ix b v).sent = s.sent := rfl
@[simp] theorem queue_setFldAt (f : Fld) (ix b v : Nat) (k : Nat) : (s.setFldAt f ix b v).queue k = s.queue k := rfl
@[simp] theorem lane_setFldAt (f : Fld) (ix b v : Nat) (k : Nat) : (s.setFldAt f ix b v).lane k = s.lane k := rfl
@[simp] theorem port_setFldAt (f : Fld) (ix b v : Nat) (k : Nat) : (s.setFldAt f ix b v).port k = s.port k := rfl
@[simp] theorem stream_setFldAt (f : Fld) (ix b v : Nat) (k : Nat) : (s.setFldAt f ix b v).stream k = s.stream k := rfl
@[simp] theorem layer_setFldAt (f : Fld) (ix b v : Nat) (k : Nat) : (s.setFldAt f ix b v).layer k = s.layer k := rfl
@[simp] theorem drv_setFldAt (f : Fld) (ix b v : Nat) (k : Nat) : (s.setFldAt f ix b v).drv k = s.drv k := rfl
@[simp] theorem en_setFldAt (f : Fld) (ix b v : Nat) (k : Nat) : (s.setFldAt f ix b v).en k = s.en k := rfl
@[simp] theorem cl_setFldAt (f : Fld) (ix b v : Nat) (k : Nat) : (s.setFldAt f ix b v).cl k = s.cl k := rfl
@[simp] theorem dom_setFldAt (f : Fld) (ix b v : Nat) (k : Nat) : (s.setFldAt f ix b v).dom k = s.dom k := rfl
@[simp] theorem rail_setFldAt (f : Fld) (ix b v : Nat) (k : Nat) : (s.setFldAt f ix b v).rail k = s.rail k := rfl
@[simp] theorem cxPort_setFldAt (f : Fld) (ix b v : Nat) (k : Nat) : (s.setFldAt f ix b v).cxPort k = s.cxPort k := rfl
@[simp] theorem buf_setFldAt (f : Fld) (ix b v : Nat) (k : Nat) : (s.setFldAt f ix b v).buf k = s.buf k := rfl
@[simp] theorem inst_setFldAt (f : Fld) (ix b v : Nat) (k : Nat) : (s.setFldAt f ix b v).inst k = s.inst k := rfl
@[simp] theorem spdmOf_setFldAt (f : Fld) (ix b v : Nat) (k : Nat) : (s.setFldAt f ix b v).spdmOf k = s.spdmOf k := rfl

@[simp] theorem setFld_pending (f : Fld) (v : Nat) : (s.setFld f v).pending = s.pending := rfl
@[simp] theorem setFld_tb (f : Fld) (v : Nat) : (s.setFld f v).tb = s.tb := rfl
@[simp] theorem setFld_tbFrac (f : Fld) (v : Nat) : (s.setFld f v).tbFrac = s.tbFrac := rfl
@[simp] theorem setFld_tbs (f : Fld) (v : Nat) : (s.setFld f v).tbs = s.tbs := rfl
@[simp] theorem setFld_lnk (f : Fld) (v : Nat) : (s.setFld f v).lnk = s.lnk := rfl
@[simp] theorem setFld_ports (f : Fld) (v : Nat) : (s.setFld f v).ports = s.ports := rfl
@[simp] theorem setFld_streams (f : Fld) (v : Nat) : (s.setFld f v).streams = s.streams := rfl
@[simp] theorem setFld_lyr (f : Fld) (v : Nat) : (s.setFld f v).lyr = s.lyr := rfl
@[simp] theorem setFld_scn (f : Fld) (v : Nat) : (s.setFld f v).scn = s.scn := rfl
@[simp] theorem setFld_mod (f : Fld) (v : Nat) : (s.setFld f v).mod = s.mod := rfl
@[simp] theorem setFld_cmp (f : Fld) (v : Nat) : (s.setFld f v).cmp = s.cmp := rfl
@[simp] theorem setFld_odv (f : Fld) (v : Nat) : (s.setFld f v).odv = s.odv := rfl
@[simp] theorem setFld_eng (f : Fld) (v : Nat) : (s.setFld f v).eng = s.eng := rfl
@[simp] theorem setFld_kdl (f : Fld) (v : Nat) : (s.setFld f v).kdl = s.kdl := rfl
@[simp] theorem setFld_pnl (f : Fld) (v : Nat) : (s.setFld f v).pnl = s.pnl := rfl
@[simp] theorem setFld_hif (f : Fld) (v : Nat) : (s.setFld f v).hif = s.hif := rfl
@[simp] theorem setFld_fst (f : Fld) (v : Nat) : (s.setFld f v).fst = s.fst := rfl
@[simp] theorem setFld_mem (f : Fld) (v : Nat) : (s.setFld f v).mem = s.mem := rfl
@[simp] theorem setFld_pwr (f : Fld) (v : Nat) : (s.setFld f v).pwr = s.pwr := rfl
@[simp] theorem setFld_nvs (f : Fld) (v : Nat) : (s.setFld f v).nvs = s.nvs := rfl
@[simp] theorem setFld_cal (f : Fld) (v : Nat) : (s.setFld f v).cal = s.cal := rfl
@[simp] theorem setFld_sec (f : Fld) (v : Nat) : (s.setFld f v).sec = s.sec := rfl
@[simp] theorem setFld_tap (f : Fld) (v : Nat) : (s.setFld f v).tap = s.tap := rfl
@[simp] theorem setFld_inReset (f : Fld) (v : Nat) : (s.setFld f v).inReset = s.inReset := rfl
@[simp] theorem setFld_free (f : Fld) (v : Nat) : (s.setFld f v).free = s.free := rfl
@[simp] theorem setFld_sent (f : Fld) (v : Nat) : (s.setFld f v).sent = s.sent := rfl
@[simp] theorem queue_setFld (f : Fld) (v : Nat) (k : Nat) : (s.setFld f v).queue k = s.queue k := rfl
@[simp] theorem lane_setFld (f : Fld) (v : Nat) (k : Nat) : (s.setFld f v).lane k = s.lane k := rfl
@[simp] theorem port_setFld (f : Fld) (v : Nat) (k : Nat) : (s.setFld f v).port k = s.port k := rfl
@[simp] theorem stream_setFld (f : Fld) (v : Nat) (k : Nat) : (s.setFld f v).stream k = s.stream k := rfl
@[simp] theorem layer_setFld (f : Fld) (v : Nat) (k : Nat) : (s.setFld f v).layer k = s.layer k := rfl
@[simp] theorem drv_setFld (f : Fld) (v : Nat) (k : Nat) : (s.setFld f v).drv k = s.drv k := rfl
@[simp] theorem en_setFld (f : Fld) (v : Nat) (k : Nat) : (s.setFld f v).en k = s.en k := rfl
@[simp] theorem cl_setFld (f : Fld) (v : Nat) (k : Nat) : (s.setFld f v).cl k = s.cl k := rfl
@[simp] theorem dom_setFld (f : Fld) (v : Nat) (k : Nat) : (s.setFld f v).dom k = s.dom k := rfl
@[simp] theorem rail_setFld (f : Fld) (v : Nat) (k : Nat) : (s.setFld f v).rail k = s.rail k := rfl
@[simp] theorem cxPort_setFld (f : Fld) (v : Nat) (k : Nat) : (s.setFld f v).cxPort k = s.cxPort k := rfl
@[simp] theorem buf_setFld (f : Fld) (v : Nat) (k : Nat) : (s.setFld f v).buf k = s.buf k := rfl
@[simp] theorem inst_setFld (f : Fld) (v : Nat) (k : Nat) : (s.setFld f v).inst k = s.inst k := rfl
@[simp] theorem spdmOf_setFld (f : Fld) (v : Nat) (k : Nat) : (s.setFld f v).spdmOf k = s.spdmOf k := rfl

@[simp] theorem setFldI_pending (f : Fld) (ix v : Nat) : (s.setFldI f ix v).pending = s.pending := rfl
@[simp] theorem setFldI_tb (f : Fld) (ix v : Nat) : (s.setFldI f ix v).tb = s.tb := rfl
@[simp] theorem setFldI_tbFrac (f : Fld) (ix v : Nat) : (s.setFldI f ix v).tbFrac = s.tbFrac := rfl
@[simp] theorem setFldI_tbs (f : Fld) (ix v : Nat) : (s.setFldI f ix v).tbs = s.tbs := rfl
@[simp] theorem setFldI_lnk (f : Fld) (ix v : Nat) : (s.setFldI f ix v).lnk = s.lnk := rfl
@[simp] theorem setFldI_ports (f : Fld) (ix v : Nat) : (s.setFldI f ix v).ports = s.ports := rfl
@[simp] theorem setFldI_streams (f : Fld) (ix v : Nat) : (s.setFldI f ix v).streams = s.streams := rfl
@[simp] theorem setFldI_lyr (f : Fld) (ix v : Nat) : (s.setFldI f ix v).lyr = s.lyr := rfl
@[simp] theorem setFldI_scn (f : Fld) (ix v : Nat) : (s.setFldI f ix v).scn = s.scn := rfl
@[simp] theorem setFldI_mod (f : Fld) (ix v : Nat) : (s.setFldI f ix v).mod = s.mod := rfl
@[simp] theorem setFldI_cmp (f : Fld) (ix v : Nat) : (s.setFldI f ix v).cmp = s.cmp := rfl
@[simp] theorem setFldI_odv (f : Fld) (ix v : Nat) : (s.setFldI f ix v).odv = s.odv := rfl
@[simp] theorem setFldI_eng (f : Fld) (ix v : Nat) : (s.setFldI f ix v).eng = s.eng := rfl
@[simp] theorem setFldI_kdl (f : Fld) (ix v : Nat) : (s.setFldI f ix v).kdl = s.kdl := rfl
@[simp] theorem setFldI_pnl (f : Fld) (ix v : Nat) : (s.setFldI f ix v).pnl = s.pnl := rfl
@[simp] theorem setFldI_hif (f : Fld) (ix v : Nat) : (s.setFldI f ix v).hif = s.hif := rfl
@[simp] theorem setFldI_fst (f : Fld) (ix v : Nat) : (s.setFldI f ix v).fst = s.fst := rfl
@[simp] theorem setFldI_mem (f : Fld) (ix v : Nat) : (s.setFldI f ix v).mem = s.mem := rfl
@[simp] theorem setFldI_pwr (f : Fld) (ix v : Nat) : (s.setFldI f ix v).pwr = s.pwr := rfl
@[simp] theorem setFldI_nvs (f : Fld) (ix v : Nat) : (s.setFldI f ix v).nvs = s.nvs := rfl
@[simp] theorem setFldI_cal (f : Fld) (ix v : Nat) : (s.setFldI f ix v).cal = s.cal := rfl
@[simp] theorem setFldI_sec (f : Fld) (ix v : Nat) : (s.setFldI f ix v).sec = s.sec := rfl
@[simp] theorem setFldI_tap (f : Fld) (ix v : Nat) : (s.setFldI f ix v).tap = s.tap := rfl
@[simp] theorem setFldI_inReset (f : Fld) (ix v : Nat) : (s.setFldI f ix v).inReset = s.inReset := rfl
@[simp] theorem setFldI_free (f : Fld) (ix v : Nat) : (s.setFldI f ix v).free = s.free := rfl
@[simp] theorem setFldI_sent (f : Fld) (ix v : Nat) : (s.setFldI f ix v).sent = s.sent := rfl
@[simp] theorem queue_setFldI (f : Fld) (ix v : Nat) (k : Nat) : (s.setFldI f ix v).queue k = s.queue k := rfl
@[simp] theorem lane_setFldI (f : Fld) (ix v : Nat) (k : Nat) : (s.setFldI f ix v).lane k = s.lane k := rfl
@[simp] theorem port_setFldI (f : Fld) (ix v : Nat) (k : Nat) : (s.setFldI f ix v).port k = s.port k := rfl
@[simp] theorem stream_setFldI (f : Fld) (ix v : Nat) (k : Nat) : (s.setFldI f ix v).stream k = s.stream k := rfl
@[simp] theorem layer_setFldI (f : Fld) (ix v : Nat) (k : Nat) : (s.setFldI f ix v).layer k = s.layer k := rfl
@[simp] theorem drv_setFldI (f : Fld) (ix v : Nat) (k : Nat) : (s.setFldI f ix v).drv k = s.drv k := rfl
@[simp] theorem en_setFldI (f : Fld) (ix v : Nat) (k : Nat) : (s.setFldI f ix v).en k = s.en k := rfl
@[simp] theorem cl_setFldI (f : Fld) (ix v : Nat) (k : Nat) : (s.setFldI f ix v).cl k = s.cl k := rfl
@[simp] theorem dom_setFldI (f : Fld) (ix v : Nat) (k : Nat) : (s.setFldI f ix v).dom k = s.dom k := rfl
@[simp] theorem rail_setFldI (f : Fld) (ix v : Nat) (k : Nat) : (s.setFldI f ix v).rail k = s.rail k := rfl
@[simp] theorem cxPort_setFldI (f : Fld) (ix v : Nat) (k : Nat) : (s.setFldI f ix v).cxPort k = s.cxPort k := rfl
@[simp] theorem buf_setFldI (f : Fld) (ix v : Nat) (k : Nat) : (s.setFldI f ix v).buf k = s.buf k := rfl
@[simp] theorem inst_setFldI (f : Fld) (ix v : Nat) (k : Nat) : (s.setFldI f ix v).inst k = s.inst k := rfl
@[simp] theorem spdmOf_setFldI (f : Fld) (ix v : Nat) (k : Nat) : (s.setFldI f ix v).spdmOf k = s.spdmOf k := rfl

@[simp] theorem setFldP_pending (f : Fld) (p v : Nat) : (s.setFldP f p v).pending = s.pending := rfl
@[simp] theorem setFldP_tb (f : Fld) (p v : Nat) : (s.setFldP f p v).tb = s.tb := rfl
@[simp] theorem setFldP_tbFrac (f : Fld) (p v : Nat) : (s.setFldP f p v).tbFrac = s.tbFrac := rfl
@[simp] theorem setFldP_tbs (f : Fld) (p v : Nat) : (s.setFldP f p v).tbs = s.tbs := rfl
@[simp] theorem setFldP_lnk (f : Fld) (p v : Nat) : (s.setFldP f p v).lnk = s.lnk := rfl
@[simp] theorem setFldP_ports (f : Fld) (p v : Nat) : (s.setFldP f p v).ports = s.ports := rfl
@[simp] theorem setFldP_streams (f : Fld) (p v : Nat) : (s.setFldP f p v).streams = s.streams := rfl
@[simp] theorem setFldP_lyr (f : Fld) (p v : Nat) : (s.setFldP f p v).lyr = s.lyr := rfl
@[simp] theorem setFldP_scn (f : Fld) (p v : Nat) : (s.setFldP f p v).scn = s.scn := rfl
@[simp] theorem setFldP_mod (f : Fld) (p v : Nat) : (s.setFldP f p v).mod = s.mod := rfl
@[simp] theorem setFldP_cmp (f : Fld) (p v : Nat) : (s.setFldP f p v).cmp = s.cmp := rfl
@[simp] theorem setFldP_odv (f : Fld) (p v : Nat) : (s.setFldP f p v).odv = s.odv := rfl
@[simp] theorem setFldP_eng (f : Fld) (p v : Nat) : (s.setFldP f p v).eng = s.eng := rfl
@[simp] theorem setFldP_kdl (f : Fld) (p v : Nat) : (s.setFldP f p v).kdl = s.kdl := rfl
@[simp] theorem setFldP_pnl (f : Fld) (p v : Nat) : (s.setFldP f p v).pnl = s.pnl := rfl
@[simp] theorem setFldP_hif (f : Fld) (p v : Nat) : (s.setFldP f p v).hif = s.hif := rfl
@[simp] theorem setFldP_fst (f : Fld) (p v : Nat) : (s.setFldP f p v).fst = s.fst := rfl
@[simp] theorem setFldP_mem (f : Fld) (p v : Nat) : (s.setFldP f p v).mem = s.mem := rfl
@[simp] theorem setFldP_pwr (f : Fld) (p v : Nat) : (s.setFldP f p v).pwr = s.pwr := rfl
@[simp] theorem setFldP_nvs (f : Fld) (p v : Nat) : (s.setFldP f p v).nvs = s.nvs := rfl
@[simp] theorem setFldP_cal (f : Fld) (p v : Nat) : (s.setFldP f p v).cal = s.cal := rfl
@[simp] theorem setFldP_sec (f : Fld) (p v : Nat) : (s.setFldP f p v).sec = s.sec := rfl
@[simp] theorem setFldP_tap (f : Fld) (p v : Nat) : (s.setFldP f p v).tap = s.tap := rfl
@[simp] theorem setFldP_inReset (f : Fld) (p v : Nat) : (s.setFldP f p v).inReset = s.inReset := rfl
@[simp] theorem setFldP_free (f : Fld) (p v : Nat) : (s.setFldP f p v).free = s.free := rfl
@[simp] theorem setFldP_sent (f : Fld) (p v : Nat) : (s.setFldP f p v).sent = s.sent := rfl
@[simp] theorem queue_setFldP (f : Fld) (p v : Nat) (k : Nat) : (s.setFldP f p v).queue k = s.queue k := rfl
@[simp] theorem lane_setFldP (f : Fld) (p v : Nat) (k : Nat) : (s.setFldP f p v).lane k = s.lane k := rfl
@[simp] theorem port_setFldP (f : Fld) (p v : Nat) (k : Nat) : (s.setFldP f p v).port k = s.port k := rfl
@[simp] theorem stream_setFldP (f : Fld) (p v : Nat) (k : Nat) : (s.setFldP f p v).stream k = s.stream k := rfl
@[simp] theorem layer_setFldP (f : Fld) (p v : Nat) (k : Nat) : (s.setFldP f p v).layer k = s.layer k := rfl
@[simp] theorem drv_setFldP (f : Fld) (p v : Nat) (k : Nat) : (s.setFldP f p v).drv k = s.drv k := rfl
@[simp] theorem en_setFldP (f : Fld) (p v : Nat) (k : Nat) : (s.setFldP f p v).en k = s.en k := rfl
@[simp] theorem cl_setFldP (f : Fld) (p v : Nat) (k : Nat) : (s.setFldP f p v).cl k = s.cl k := rfl
@[simp] theorem dom_setFldP (f : Fld) (p v : Nat) (k : Nat) : (s.setFldP f p v).dom k = s.dom k := rfl
@[simp] theorem rail_setFldP (f : Fld) (p v : Nat) (k : Nat) : (s.setFldP f p v).rail k = s.rail k := rfl
@[simp] theorem cxPort_setFldP (f : Fld) (p v : Nat) (k : Nat) : (s.setFldP f p v).cxPort k = s.cxPort k := rfl
@[simp] theorem buf_setFldP (f : Fld) (p v : Nat) (k : Nat) : (s.setFldP f p v).buf k = s.buf k := rfl
@[simp] theorem inst_setFldP (f : Fld) (p v : Nat) (k : Nat) : (s.setFldP f p v).inst k = s.inst k := rfl
@[simp] theorem spdmOf_setFldP (f : Fld) (p v : Nat) (k : Nat) : (s.setFldP f p v).spdmOf k = s.spdmOf k := rfl

@[simp] theorem setFlag_pending (f : Fld) : (s.setFlag f).pending = s.pending := rfl
@[simp] theorem setFlag_tb (f : Fld) : (s.setFlag f).tb = s.tb := rfl
@[simp] theorem setFlag_tbFrac (f : Fld) : (s.setFlag f).tbFrac = s.tbFrac := rfl
@[simp] theorem setFlag_tbs (f : Fld) : (s.setFlag f).tbs = s.tbs := rfl
@[simp] theorem setFlag_lnk (f : Fld) : (s.setFlag f).lnk = s.lnk := rfl
@[simp] theorem setFlag_ports (f : Fld) : (s.setFlag f).ports = s.ports := rfl
@[simp] theorem setFlag_streams (f : Fld) : (s.setFlag f).streams = s.streams := rfl
@[simp] theorem setFlag_lyr (f : Fld) : (s.setFlag f).lyr = s.lyr := rfl
@[simp] theorem setFlag_scn (f : Fld) : (s.setFlag f).scn = s.scn := rfl
@[simp] theorem setFlag_mod (f : Fld) : (s.setFlag f).mod = s.mod := rfl
@[simp] theorem setFlag_cmp (f : Fld) : (s.setFlag f).cmp = s.cmp := rfl
@[simp] theorem setFlag_odv (f : Fld) : (s.setFlag f).odv = s.odv := rfl
@[simp] theorem setFlag_eng (f : Fld) : (s.setFlag f).eng = s.eng := rfl
@[simp] theorem setFlag_kdl (f : Fld) : (s.setFlag f).kdl = s.kdl := rfl
@[simp] theorem setFlag_pnl (f : Fld) : (s.setFlag f).pnl = s.pnl := rfl
@[simp] theorem setFlag_hif (f : Fld) : (s.setFlag f).hif = s.hif := rfl
@[simp] theorem setFlag_fst (f : Fld) : (s.setFlag f).fst = s.fst := rfl
@[simp] theorem setFlag_mem (f : Fld) : (s.setFlag f).mem = s.mem := rfl
@[simp] theorem setFlag_pwr (f : Fld) : (s.setFlag f).pwr = s.pwr := rfl
@[simp] theorem setFlag_nvs (f : Fld) : (s.setFlag f).nvs = s.nvs := rfl
@[simp] theorem setFlag_cal (f : Fld) : (s.setFlag f).cal = s.cal := rfl
@[simp] theorem setFlag_sec (f : Fld) : (s.setFlag f).sec = s.sec := rfl
@[simp] theorem setFlag_tap (f : Fld) : (s.setFlag f).tap = s.tap := rfl
@[simp] theorem setFlag_inReset (f : Fld) : (s.setFlag f).inReset = s.inReset := rfl
@[simp] theorem setFlag_free (f : Fld) : (s.setFlag f).free = s.free := rfl
@[simp] theorem setFlag_sent (f : Fld) : (s.setFlag f).sent = s.sent := rfl
@[simp] theorem queue_setFlag (f : Fld) (k : Nat) : (s.setFlag f).queue k = s.queue k := rfl
@[simp] theorem lane_setFlag (f : Fld) (k : Nat) : (s.setFlag f).lane k = s.lane k := rfl
@[simp] theorem port_setFlag (f : Fld) (k : Nat) : (s.setFlag f).port k = s.port k := rfl
@[simp] theorem stream_setFlag (f : Fld) (k : Nat) : (s.setFlag f).stream k = s.stream k := rfl
@[simp] theorem layer_setFlag (f : Fld) (k : Nat) : (s.setFlag f).layer k = s.layer k := rfl
@[simp] theorem drv_setFlag (f : Fld) (k : Nat) : (s.setFlag f).drv k = s.drv k := rfl
@[simp] theorem en_setFlag (f : Fld) (k : Nat) : (s.setFlag f).en k = s.en k := rfl
@[simp] theorem cl_setFlag (f : Fld) (k : Nat) : (s.setFlag f).cl k = s.cl k := rfl
@[simp] theorem dom_setFlag (f : Fld) (k : Nat) : (s.setFlag f).dom k = s.dom k := rfl
@[simp] theorem rail_setFlag (f : Fld) (k : Nat) : (s.setFlag f).rail k = s.rail k := rfl
@[simp] theorem cxPort_setFlag (f : Fld) (k : Nat) : (s.setFlag f).cxPort k = s.cxPort k := rfl
@[simp] theorem buf_setFlag (f : Fld) (k : Nat) : (s.setFlag f).buf k = s.buf k := rfl
@[simp] theorem inst_setFlag (f : Fld) (k : Nat) : (s.setFlag f).inst k = s.inst k := rfl
@[simp] theorem spdmOf_setFlag (f : Fld) (k : Nat) : (s.setFlag f).spdmOf k = s.spdmOf k := rfl

@[simp] theorem addSat_pending (f : Fld) (ix b n : Nat) : (s.addSat f ix b n).pending = s.pending := rfl
@[simp] theorem addSat_tb (f : Fld) (ix b n : Nat) : (s.addSat f ix b n).tb = s.tb := rfl
@[simp] theorem addSat_tbFrac (f : Fld) (ix b n : Nat) : (s.addSat f ix b n).tbFrac = s.tbFrac := rfl
@[simp] theorem addSat_tbs (f : Fld) (ix b n : Nat) : (s.addSat f ix b n).tbs = s.tbs := rfl
@[simp] theorem addSat_lnk (f : Fld) (ix b n : Nat) : (s.addSat f ix b n).lnk = s.lnk := rfl
@[simp] theorem addSat_ports (f : Fld) (ix b n : Nat) : (s.addSat f ix b n).ports = s.ports := rfl
@[simp] theorem addSat_streams (f : Fld) (ix b n : Nat) : (s.addSat f ix b n).streams = s.streams := rfl
@[simp] theorem addSat_lyr (f : Fld) (ix b n : Nat) : (s.addSat f ix b n).lyr = s.lyr := rfl
@[simp] theorem addSat_scn (f : Fld) (ix b n : Nat) : (s.addSat f ix b n).scn = s.scn := rfl
@[simp] theorem addSat_mod (f : Fld) (ix b n : Nat) : (s.addSat f ix b n).mod = s.mod := rfl
@[simp] theorem addSat_cmp (f : Fld) (ix b n : Nat) : (s.addSat f ix b n).cmp = s.cmp := rfl
@[simp] theorem addSat_odv (f : Fld) (ix b n : Nat) : (s.addSat f ix b n).odv = s.odv := rfl
@[simp] theorem addSat_eng (f : Fld) (ix b n : Nat) : (s.addSat f ix b n).eng = s.eng := rfl
@[simp] theorem addSat_kdl (f : Fld) (ix b n : Nat) : (s.addSat f ix b n).kdl = s.kdl := rfl
@[simp] theorem addSat_pnl (f : Fld) (ix b n : Nat) : (s.addSat f ix b n).pnl = s.pnl := rfl
@[simp] theorem addSat_hif (f : Fld) (ix b n : Nat) : (s.addSat f ix b n).hif = s.hif := rfl
@[simp] theorem addSat_fst (f : Fld) (ix b n : Nat) : (s.addSat f ix b n).fst = s.fst := rfl
@[simp] theorem addSat_mem (f : Fld) (ix b n : Nat) : (s.addSat f ix b n).mem = s.mem := rfl
@[simp] theorem addSat_pwr (f : Fld) (ix b n : Nat) : (s.addSat f ix b n).pwr = s.pwr := rfl
@[simp] theorem addSat_nvs (f : Fld) (ix b n : Nat) : (s.addSat f ix b n).nvs = s.nvs := rfl
@[simp] theorem addSat_cal (f : Fld) (ix b n : Nat) : (s.addSat f ix b n).cal = s.cal := rfl
@[simp] theorem addSat_sec (f : Fld) (ix b n : Nat) : (s.addSat f ix b n).sec = s.sec := rfl
@[simp] theorem addSat_tap (f : Fld) (ix b n : Nat) : (s.addSat f ix b n).tap = s.tap := rfl
@[simp] theorem addSat_inReset (f : Fld) (ix b n : Nat) : (s.addSat f ix b n).inReset = s.inReset := rfl
@[simp] theorem addSat_free (f : Fld) (ix b n : Nat) : (s.addSat f ix b n).free = s.free := rfl
@[simp] theorem addSat_sent (f : Fld) (ix b n : Nat) : (s.addSat f ix b n).sent = s.sent := rfl
@[simp] theorem queue_addSat (f : Fld) (ix b n : Nat) (k : Nat) : (s.addSat f ix b n).queue k = s.queue k := rfl
@[simp] theorem lane_addSat (f : Fld) (ix b n : Nat) (k : Nat) : (s.addSat f ix b n).lane k = s.lane k := rfl
@[simp] theorem port_addSat (f : Fld) (ix b n : Nat) (k : Nat) : (s.addSat f ix b n).port k = s.port k := rfl
@[simp] theorem stream_addSat (f : Fld) (ix b n : Nat) (k : Nat) : (s.addSat f ix b n).stream k = s.stream k := rfl
@[simp] theorem layer_addSat (f : Fld) (ix b n : Nat) (k : Nat) : (s.addSat f ix b n).layer k = s.layer k := rfl
@[simp] theorem drv_addSat (f : Fld) (ix b n : Nat) (k : Nat) : (s.addSat f ix b n).drv k = s.drv k := rfl
@[simp] theorem en_addSat (f : Fld) (ix b n : Nat) (k : Nat) : (s.addSat f ix b n).en k = s.en k := rfl
@[simp] theorem cl_addSat (f : Fld) (ix b n : Nat) (k : Nat) : (s.addSat f ix b n).cl k = s.cl k := rfl
@[simp] theorem dom_addSat (f : Fld) (ix b n : Nat) (k : Nat) : (s.addSat f ix b n).dom k = s.dom k := rfl
@[simp] theorem rail_addSat (f : Fld) (ix b n : Nat) (k : Nat) : (s.addSat f ix b n).rail k = s.rail k := rfl
@[simp] theorem cxPort_addSat (f : Fld) (ix b n : Nat) (k : Nat) : (s.addSat f ix b n).cxPort k = s.cxPort k := rfl
@[simp] theorem buf_addSat (f : Fld) (ix b n : Nat) (k : Nat) : (s.addSat f ix b n).buf k = s.buf k := rfl
@[simp] theorem inst_addSat (f : Fld) (ix b n : Nat) (k : Nat) : (s.addSat f ix b n).inst k = s.inst k := rfl
@[simp] theorem spdmOf_addSat (f : Fld) (ix b n : Nat) (k : Nat) : (s.addSat f ix b n).spdmOf k = s.spdmOf k := rfl

/-! Something sent changes the output alone. -/

@[simp] theorem emit_pending (o : Out) : (s.emit o).pending = s.pending := rfl
@[simp] theorem emit_tb (o : Out) : (s.emit o).tb = s.tb := rfl
@[simp] theorem emit_tbFrac (o : Out) : (s.emit o).tbFrac = s.tbFrac := rfl
@[simp] theorem emit_regs (o : Out) : (s.emit o).regs = s.regs := rfl
@[simp] theorem emit_tbs (o : Out) : (s.emit o).tbs = s.tbs := rfl
@[simp] theorem emit_lnk (o : Out) : (s.emit o).lnk = s.lnk := rfl
@[simp] theorem emit_ports (o : Out) : (s.emit o).ports = s.ports := rfl
@[simp] theorem emit_streams (o : Out) : (s.emit o).streams = s.streams := rfl
@[simp] theorem emit_lyr (o : Out) : (s.emit o).lyr = s.lyr := rfl
@[simp] theorem emit_scn (o : Out) : (s.emit o).scn = s.scn := rfl
@[simp] theorem emit_mod (o : Out) : (s.emit o).mod = s.mod := rfl
@[simp] theorem emit_cmp (o : Out) : (s.emit o).cmp = s.cmp := rfl
@[simp] theorem emit_odv (o : Out) : (s.emit o).odv = s.odv := rfl
@[simp] theorem emit_eng (o : Out) : (s.emit o).eng = s.eng := rfl
@[simp] theorem emit_kdl (o : Out) : (s.emit o).kdl = s.kdl := rfl
@[simp] theorem emit_pnl (o : Out) : (s.emit o).pnl = s.pnl := rfl
@[simp] theorem emit_hif (o : Out) : (s.emit o).hif = s.hif := rfl
@[simp] theorem emit_fst (o : Out) : (s.emit o).fst = s.fst := rfl
@[simp] theorem emit_mem (o : Out) : (s.emit o).mem = s.mem := rfl
@[simp] theorem emit_pwr (o : Out) : (s.emit o).pwr = s.pwr := rfl
@[simp] theorem emit_nvs (o : Out) : (s.emit o).nvs = s.nvs := rfl
@[simp] theorem emit_cal (o : Out) : (s.emit o).cal = s.cal := rfl
@[simp] theorem emit_sec (o : Out) : (s.emit o).sec = s.sec := rfl
@[simp] theorem emit_tap (o : Out) : (s.emit o).tap = s.tap := rfl
@[simp] theorem emit_inReset (o : Out) : (s.emit o).inReset = s.inReset := rfl
@[simp] theorem emit_free (o : Out) : (s.emit o).free = s.free := rfl
@[simp] theorem reg_emit (o : Out) (off ix b : Nat) : (s.emit o).reg off ix b = s.reg off ix b := rfl
@[simp] theorem fldAt_emit (o : Out) (f : Fld) (ix b : Nat) : (s.emit o).fldAt f ix b = s.fldAt f ix b := rfl
@[simp] theorem fld_emit (o : Out) (f : Fld) : (s.emit o).fld f = s.fld f := rfl
@[simp] theorem fldI_emit (o : Out) (f : Fld) (ix : Nat) : (s.emit o).fldI f ix = s.fldI f ix := rfl
@[simp] theorem fldP_emit (o : Out) (f : Fld) (p : Nat) : (s.emit o).fldP f p = s.fldP f p := rfl
@[simp] theorem queue_emit (o : Out) (k : Nat) : (s.emit o).queue k = s.queue k := rfl
@[simp] theorem lane_emit (o : Out) (k : Nat) : (s.emit o).lane k = s.lane k := rfl
@[simp] theorem port_emit (o : Out) (k : Nat) : (s.emit o).port k = s.port k := rfl
@[simp] theorem stream_emit (o : Out) (k : Nat) : (s.emit o).stream k = s.stream k := rfl
@[simp] theorem layer_emit (o : Out) (k : Nat) : (s.emit o).layer k = s.layer k := rfl
@[simp] theorem drv_emit (o : Out) (k : Nat) : (s.emit o).drv k = s.drv k := rfl
@[simp] theorem en_emit (o : Out) (k : Nat) : (s.emit o).en k = s.en k := rfl
@[simp] theorem cl_emit (o : Out) (k : Nat) : (s.emit o).cl k = s.cl k := rfl
@[simp] theorem dom_emit (o : Out) (k : Nat) : (s.emit o).dom k = s.dom k := rfl
@[simp] theorem rail_emit (o : Out) (k : Nat) : (s.emit o).rail k = s.rail k := rfl
@[simp] theorem cxPort_emit (o : Out) (k : Nat) : (s.emit o).cxPort k = s.cxPort k := rfl
@[simp] theorem buf_emit (o : Out) (k : Nat) : (s.emit o).buf k = s.buf k := rfl
@[simp] theorem inst_emit (o : Out) (k : Nat) : (s.emit o).inst k = s.inst k := rfl
@[simp] theorem spdmOf_emit (o : Out) (k : Nat) : (s.emit o).spdmOf k = s.spdmOf k := rfl

/-! Objects: a change of one leaves every other field of the state, the registers and the other objects as they were. -/

@[simp] theorem setQueue_pending (n : Nat) (x : Queue) : (s.setQueue n x).pending = s.pending := rfl
@[simp] theorem setQueue_tb (n : Nat) (x : Queue) : (s.setQueue n x).tb = s.tb := rfl
@[simp] theorem setQueue_tbFrac (n : Nat) (x : Queue) : (s.setQueue n x).tbFrac = s.tbFrac := rfl
@[simp] theorem setQueue_regs (n : Nat) (x : Queue) : (s.setQueue n x).regs = s.regs := rfl
@[simp] theorem setQueue_tbs (n : Nat) (x : Queue) : (s.setQueue n x).tbs = s.tbs := rfl
@[simp] theorem setQueue_lnk (n : Nat) (x : Queue) : (s.setQueue n x).lnk = s.lnk := rfl
@[simp] theorem setQueue_ports (n : Nat) (x : Queue) : (s.setQueue n x).ports = s.ports := rfl
@[simp] theorem setQueue_streams (n : Nat) (x : Queue) : (s.setQueue n x).streams = s.streams := rfl
@[simp] theorem setQueue_lyr (n : Nat) (x : Queue) : (s.setQueue n x).lyr = s.lyr := rfl
@[simp] theorem setQueue_scn (n : Nat) (x : Queue) : (s.setQueue n x).scn = s.scn := rfl
@[simp] theorem setQueue_mod (n : Nat) (x : Queue) : (s.setQueue n x).mod = s.mod := rfl
@[simp] theorem setQueue_cmp (n : Nat) (x : Queue) : (s.setQueue n x).cmp = s.cmp := rfl
@[simp] theorem setQueue_odv (n : Nat) (x : Queue) : (s.setQueue n x).odv = s.odv := rfl
@[simp] theorem setQueue_eng (n : Nat) (x : Queue) : (s.setQueue n x).eng = s.eng := rfl
@[simp] theorem setQueue_kdl (n : Nat) (x : Queue) : (s.setQueue n x).kdl = s.kdl := rfl
@[simp] theorem setQueue_pnl (n : Nat) (x : Queue) : (s.setQueue n x).pnl = s.pnl := rfl
@[simp] theorem setQueue_fst (n : Nat) (x : Queue) : (s.setQueue n x).fst = s.fst := rfl
@[simp] theorem setQueue_mem (n : Nat) (x : Queue) : (s.setQueue n x).mem = s.mem := rfl
@[simp] theorem setQueue_pwr (n : Nat) (x : Queue) : (s.setQueue n x).pwr = s.pwr := rfl
@[simp] theorem setQueue_nvs (n : Nat) (x : Queue) : (s.setQueue n x).nvs = s.nvs := rfl
@[simp] theorem setQueue_cal (n : Nat) (x : Queue) : (s.setQueue n x).cal = s.cal := rfl
@[simp] theorem setQueue_sec (n : Nat) (x : Queue) : (s.setQueue n x).sec = s.sec := rfl
@[simp] theorem setQueue_tap (n : Nat) (x : Queue) : (s.setQueue n x).tap = s.tap := rfl
@[simp] theorem setQueue_inReset (n : Nat) (x : Queue) : (s.setQueue n x).inReset = s.inReset := rfl
@[simp] theorem setQueue_free (n : Nat) (x : Queue) : (s.setQueue n x).free = s.free := rfl
@[simp] theorem setQueue_sent (n : Nat) (x : Queue) : (s.setQueue n x).sent = s.sent := rfl
@[simp] theorem reg_setQueue (n : Nat) (x : Queue) (off ix b : Nat) : (s.setQueue n x).reg off ix b = s.reg off ix b := rfl
@[simp] theorem fldAt_setQueue (n : Nat) (x : Queue) (f : Fld) (ix b : Nat) : (s.setQueue n x).fldAt f ix b = s.fldAt f ix b := rfl
@[simp] theorem fld_setQueue (n : Nat) (x : Queue) (f : Fld) : (s.setQueue n x).fld f = s.fld f := rfl
@[simp] theorem fldI_setQueue (n : Nat) (x : Queue) (f : Fld) (ix : Nat) : (s.setQueue n x).fldI f ix = s.fldI f ix := rfl
@[simp] theorem fldP_setQueue (n : Nat) (x : Queue) (f : Fld) (p : Nat) : (s.setQueue n x).fldP f p = s.fldP f p := rfl
@[simp] theorem queue_setQueue_same (n : Nat) (x : Queue) : (s.setQueue n x).queue n = x := by simp [State.queue, State.setQueue]
theorem queue_setQueue_other {n k : Nat} (x : Queue) (h : k ≠ n) : (s.setQueue n x).queue k = s.queue k :=
  sparse_get_set_other _ _ _ _ h

@[simp] theorem setLane_pending (n : Nat) (x : Lane) : (s.setLane n x).pending = s.pending := rfl
@[simp] theorem setLane_tb (n : Nat) (x : Lane) : (s.setLane n x).tb = s.tb := rfl
@[simp] theorem setLane_tbFrac (n : Nat) (x : Lane) : (s.setLane n x).tbFrac = s.tbFrac := rfl
@[simp] theorem setLane_regs (n : Nat) (x : Lane) : (s.setLane n x).regs = s.regs := rfl
@[simp] theorem setLane_tbs (n : Nat) (x : Lane) : (s.setLane n x).tbs = s.tbs := rfl
@[simp] theorem setLane_ports (n : Nat) (x : Lane) : (s.setLane n x).ports = s.ports := rfl
@[simp] theorem setLane_streams (n : Nat) (x : Lane) : (s.setLane n x).streams = s.streams := rfl
@[simp] theorem setLane_lyr (n : Nat) (x : Lane) : (s.setLane n x).lyr = s.lyr := rfl
@[simp] theorem setLane_scn (n : Nat) (x : Lane) : (s.setLane n x).scn = s.scn := rfl
@[simp] theorem setLane_mod (n : Nat) (x : Lane) : (s.setLane n x).mod = s.mod := rfl
@[simp] theorem setLane_cmp (n : Nat) (x : Lane) : (s.setLane n x).cmp = s.cmp := rfl
@[simp] theorem setLane_odv (n : Nat) (x : Lane) : (s.setLane n x).odv = s.odv := rfl
@[simp] theorem setLane_eng (n : Nat) (x : Lane) : (s.setLane n x).eng = s.eng := rfl
@[simp] theorem setLane_kdl (n : Nat) (x : Lane) : (s.setLane n x).kdl = s.kdl := rfl
@[simp] theorem setLane_pnl (n : Nat) (x : Lane) : (s.setLane n x).pnl = s.pnl := rfl
@[simp] theorem setLane_hif (n : Nat) (x : Lane) : (s.setLane n x).hif = s.hif := rfl
@[simp] theorem setLane_fst (n : Nat) (x : Lane) : (s.setLane n x).fst = s.fst := rfl
@[simp] theorem setLane_mem (n : Nat) (x : Lane) : (s.setLane n x).mem = s.mem := rfl
@[simp] theorem setLane_pwr (n : Nat) (x : Lane) : (s.setLane n x).pwr = s.pwr := rfl
@[simp] theorem setLane_nvs (n : Nat) (x : Lane) : (s.setLane n x).nvs = s.nvs := rfl
@[simp] theorem setLane_cal (n : Nat) (x : Lane) : (s.setLane n x).cal = s.cal := rfl
@[simp] theorem setLane_sec (n : Nat) (x : Lane) : (s.setLane n x).sec = s.sec := rfl
@[simp] theorem setLane_tap (n : Nat) (x : Lane) : (s.setLane n x).tap = s.tap := rfl
@[simp] theorem setLane_inReset (n : Nat) (x : Lane) : (s.setLane n x).inReset = s.inReset := rfl
@[simp] theorem setLane_free (n : Nat) (x : Lane) : (s.setLane n x).free = s.free := rfl
@[simp] theorem setLane_sent (n : Nat) (x : Lane) : (s.setLane n x).sent = s.sent := rfl
@[simp] theorem reg_setLane (n : Nat) (x : Lane) (off ix b : Nat) : (s.setLane n x).reg off ix b = s.reg off ix b := rfl
@[simp] theorem fldAt_setLane (n : Nat) (x : Lane) (f : Fld) (ix b : Nat) : (s.setLane n x).fldAt f ix b = s.fldAt f ix b := rfl
@[simp] theorem fld_setLane (n : Nat) (x : Lane) (f : Fld) : (s.setLane n x).fld f = s.fld f := rfl
@[simp] theorem fldI_setLane (n : Nat) (x : Lane) (f : Fld) (ix : Nat) : (s.setLane n x).fldI f ix = s.fldI f ix := rfl
@[simp] theorem fldP_setLane (n : Nat) (x : Lane) (f : Fld) (p : Nat) : (s.setLane n x).fldP f p = s.fldP f p := rfl
@[simp] theorem lane_setLane_same (n : Nat) (x : Lane) : (s.setLane n x).lane n = x := by simp [State.lane, State.setLane]
theorem lane_setLane_other {n k : Nat} (x : Lane) (h : k ≠ n) : (s.setLane n x).lane k = s.lane k :=
  sparse_get_set_other _ _ _ _ h

@[simp] theorem setPort_pending (n : Nat) (x : Port) : (s.setPort n x).pending = s.pending := rfl
@[simp] theorem setPort_tb (n : Nat) (x : Port) : (s.setPort n x).tb = s.tb := rfl
@[simp] theorem setPort_tbFrac (n : Nat) (x : Port) : (s.setPort n x).tbFrac = s.tbFrac := rfl
@[simp] theorem setPort_regs (n : Nat) (x : Port) : (s.setPort n x).regs = s.regs := rfl
@[simp] theorem setPort_tbs (n : Nat) (x : Port) : (s.setPort n x).tbs = s.tbs := rfl
@[simp] theorem setPort_lnk (n : Nat) (x : Port) : (s.setPort n x).lnk = s.lnk := rfl
@[simp] theorem setPort_streams (n : Nat) (x : Port) : (s.setPort n x).streams = s.streams := rfl
@[simp] theorem setPort_lyr (n : Nat) (x : Port) : (s.setPort n x).lyr = s.lyr := rfl
@[simp] theorem setPort_scn (n : Nat) (x : Port) : (s.setPort n x).scn = s.scn := rfl
@[simp] theorem setPort_mod (n : Nat) (x : Port) : (s.setPort n x).mod = s.mod := rfl
@[simp] theorem setPort_cmp (n : Nat) (x : Port) : (s.setPort n x).cmp = s.cmp := rfl
@[simp] theorem setPort_odv (n : Nat) (x : Port) : (s.setPort n x).odv = s.odv := rfl
@[simp] theorem setPort_eng (n : Nat) (x : Port) : (s.setPort n x).eng = s.eng := rfl
@[simp] theorem setPort_kdl (n : Nat) (x : Port) : (s.setPort n x).kdl = s.kdl := rfl
@[simp] theorem setPort_pnl (n : Nat) (x : Port) : (s.setPort n x).pnl = s.pnl := rfl
@[simp] theorem setPort_hif (n : Nat) (x : Port) : (s.setPort n x).hif = s.hif := rfl
@[simp] theorem setPort_fst (n : Nat) (x : Port) : (s.setPort n x).fst = s.fst := rfl
@[simp] theorem setPort_mem (n : Nat) (x : Port) : (s.setPort n x).mem = s.mem := rfl
@[simp] theorem setPort_pwr (n : Nat) (x : Port) : (s.setPort n x).pwr = s.pwr := rfl
@[simp] theorem setPort_nvs (n : Nat) (x : Port) : (s.setPort n x).nvs = s.nvs := rfl
@[simp] theorem setPort_cal (n : Nat) (x : Port) : (s.setPort n x).cal = s.cal := rfl
@[simp] theorem setPort_sec (n : Nat) (x : Port) : (s.setPort n x).sec = s.sec := rfl
@[simp] theorem setPort_tap (n : Nat) (x : Port) : (s.setPort n x).tap = s.tap := rfl
@[simp] theorem setPort_inReset (n : Nat) (x : Port) : (s.setPort n x).inReset = s.inReset := rfl
@[simp] theorem setPort_free (n : Nat) (x : Port) : (s.setPort n x).free = s.free := rfl
@[simp] theorem setPort_sent (n : Nat) (x : Port) : (s.setPort n x).sent = s.sent := rfl
@[simp] theorem reg_setPort (n : Nat) (x : Port) (off ix b : Nat) : (s.setPort n x).reg off ix b = s.reg off ix b := rfl
@[simp] theorem fldAt_setPort (n : Nat) (x : Port) (f : Fld) (ix b : Nat) : (s.setPort n x).fldAt f ix b = s.fldAt f ix b := rfl
@[simp] theorem fld_setPort (n : Nat) (x : Port) (f : Fld) : (s.setPort n x).fld f = s.fld f := rfl
@[simp] theorem fldI_setPort (n : Nat) (x : Port) (f : Fld) (ix : Nat) : (s.setPort n x).fldI f ix = s.fldI f ix := rfl
@[simp] theorem fldP_setPort (n : Nat) (x : Port) (f : Fld) (p : Nat) : (s.setPort n x).fldP f p = s.fldP f p := rfl
@[simp] theorem port_setPort_same (n : Nat) (x : Port) : (s.setPort n x).port n = x := by simp [State.port, State.setPort]
theorem port_setPort_other {n k : Nat} (x : Port) (h : k ≠ n) : (s.setPort n x).port k = s.port k :=
  sparse_get_set_other _ _ _ _ h

@[simp] theorem setStream_pending (n : Nat) (x : Stream) : (s.setStream n x).pending = s.pending := rfl
@[simp] theorem setStream_tb (n : Nat) (x : Stream) : (s.setStream n x).tb = s.tb := rfl
@[simp] theorem setStream_tbFrac (n : Nat) (x : Stream) : (s.setStream n x).tbFrac = s.tbFrac := rfl
@[simp] theorem setStream_regs (n : Nat) (x : Stream) : (s.setStream n x).regs = s.regs := rfl
@[simp] theorem setStream_tbs (n : Nat) (x : Stream) : (s.setStream n x).tbs = s.tbs := rfl
@[simp] theorem setStream_lnk (n : Nat) (x : Stream) : (s.setStream n x).lnk = s.lnk := rfl
@[simp] theorem setStream_ports (n : Nat) (x : Stream) : (s.setStream n x).ports = s.ports := rfl
@[simp] theorem setStream_lyr (n : Nat) (x : Stream) : (s.setStream n x).lyr = s.lyr := rfl
@[simp] theorem setStream_scn (n : Nat) (x : Stream) : (s.setStream n x).scn = s.scn := rfl
@[simp] theorem setStream_mod (n : Nat) (x : Stream) : (s.setStream n x).mod = s.mod := rfl
@[simp] theorem setStream_cmp (n : Nat) (x : Stream) : (s.setStream n x).cmp = s.cmp := rfl
@[simp] theorem setStream_odv (n : Nat) (x : Stream) : (s.setStream n x).odv = s.odv := rfl
@[simp] theorem setStream_eng (n : Nat) (x : Stream) : (s.setStream n x).eng = s.eng := rfl
@[simp] theorem setStream_kdl (n : Nat) (x : Stream) : (s.setStream n x).kdl = s.kdl := rfl
@[simp] theorem setStream_pnl (n : Nat) (x : Stream) : (s.setStream n x).pnl = s.pnl := rfl
@[simp] theorem setStream_hif (n : Nat) (x : Stream) : (s.setStream n x).hif = s.hif := rfl
@[simp] theorem setStream_fst (n : Nat) (x : Stream) : (s.setStream n x).fst = s.fst := rfl
@[simp] theorem setStream_mem (n : Nat) (x : Stream) : (s.setStream n x).mem = s.mem := rfl
@[simp] theorem setStream_pwr (n : Nat) (x : Stream) : (s.setStream n x).pwr = s.pwr := rfl
@[simp] theorem setStream_nvs (n : Nat) (x : Stream) : (s.setStream n x).nvs = s.nvs := rfl
@[simp] theorem setStream_cal (n : Nat) (x : Stream) : (s.setStream n x).cal = s.cal := rfl
@[simp] theorem setStream_sec (n : Nat) (x : Stream) : (s.setStream n x).sec = s.sec := rfl
@[simp] theorem setStream_tap (n : Nat) (x : Stream) : (s.setStream n x).tap = s.tap := rfl
@[simp] theorem setStream_inReset (n : Nat) (x : Stream) : (s.setStream n x).inReset = s.inReset := rfl
@[simp] theorem setStream_free (n : Nat) (x : Stream) : (s.setStream n x).free = s.free := rfl
@[simp] theorem setStream_sent (n : Nat) (x : Stream) : (s.setStream n x).sent = s.sent := rfl
@[simp] theorem reg_setStream (n : Nat) (x : Stream) (off ix b : Nat) : (s.setStream n x).reg off ix b = s.reg off ix b := rfl
@[simp] theorem fldAt_setStream (n : Nat) (x : Stream) (f : Fld) (ix b : Nat) : (s.setStream n x).fldAt f ix b = s.fldAt f ix b := rfl
@[simp] theorem fld_setStream (n : Nat) (x : Stream) (f : Fld) : (s.setStream n x).fld f = s.fld f := rfl
@[simp] theorem fldI_setStream (n : Nat) (x : Stream) (f : Fld) (ix : Nat) : (s.setStream n x).fldI f ix = s.fldI f ix := rfl
@[simp] theorem fldP_setStream (n : Nat) (x : Stream) (f : Fld) (p : Nat) : (s.setStream n x).fldP f p = s.fldP f p := rfl
@[simp] theorem stream_setStream_same (n : Nat) (x : Stream) : (s.setStream n x).stream n = x := by simp [State.stream, State.setStream]
theorem stream_setStream_other {n k : Nat} (x : Stream) (h : k ≠ n) : (s.setStream n x).stream k = s.stream k :=
  sparse_get_set_other _ _ _ _ h

@[simp] theorem setLayer_pending (n : Nat) (x : Layer) : (s.setLayer n x).pending = s.pending := rfl
@[simp] theorem setLayer_tb (n : Nat) (x : Layer) : (s.setLayer n x).tb = s.tb := rfl
@[simp] theorem setLayer_tbFrac (n : Nat) (x : Layer) : (s.setLayer n x).tbFrac = s.tbFrac := rfl
@[simp] theorem setLayer_regs (n : Nat) (x : Layer) : (s.setLayer n x).regs = s.regs := rfl
@[simp] theorem setLayer_tbs (n : Nat) (x : Layer) : (s.setLayer n x).tbs = s.tbs := rfl
@[simp] theorem setLayer_lnk (n : Nat) (x : Layer) : (s.setLayer n x).lnk = s.lnk := rfl
@[simp] theorem setLayer_ports (n : Nat) (x : Layer) : (s.setLayer n x).ports = s.ports := rfl
@[simp] theorem setLayer_streams (n : Nat) (x : Layer) : (s.setLayer n x).streams = s.streams := rfl
@[simp] theorem setLayer_scn (n : Nat) (x : Layer) : (s.setLayer n x).scn = s.scn := rfl
@[simp] theorem setLayer_mod (n : Nat) (x : Layer) : (s.setLayer n x).mod = s.mod := rfl
@[simp] theorem setLayer_cmp (n : Nat) (x : Layer) : (s.setLayer n x).cmp = s.cmp := rfl
@[simp] theorem setLayer_odv (n : Nat) (x : Layer) : (s.setLayer n x).odv = s.odv := rfl
@[simp] theorem setLayer_eng (n : Nat) (x : Layer) : (s.setLayer n x).eng = s.eng := rfl
@[simp] theorem setLayer_kdl (n : Nat) (x : Layer) : (s.setLayer n x).kdl = s.kdl := rfl
@[simp] theorem setLayer_pnl (n : Nat) (x : Layer) : (s.setLayer n x).pnl = s.pnl := rfl
@[simp] theorem setLayer_hif (n : Nat) (x : Layer) : (s.setLayer n x).hif = s.hif := rfl
@[simp] theorem setLayer_fst (n : Nat) (x : Layer) : (s.setLayer n x).fst = s.fst := rfl
@[simp] theorem setLayer_mem (n : Nat) (x : Layer) : (s.setLayer n x).mem = s.mem := rfl
@[simp] theorem setLayer_pwr (n : Nat) (x : Layer) : (s.setLayer n x).pwr = s.pwr := rfl
@[simp] theorem setLayer_nvs (n : Nat) (x : Layer) : (s.setLayer n x).nvs = s.nvs := rfl
@[simp] theorem setLayer_cal (n : Nat) (x : Layer) : (s.setLayer n x).cal = s.cal := rfl
@[simp] theorem setLayer_sec (n : Nat) (x : Layer) : (s.setLayer n x).sec = s.sec := rfl
@[simp] theorem setLayer_tap (n : Nat) (x : Layer) : (s.setLayer n x).tap = s.tap := rfl
@[simp] theorem setLayer_inReset (n : Nat) (x : Layer) : (s.setLayer n x).inReset = s.inReset := rfl
@[simp] theorem setLayer_free (n : Nat) (x : Layer) : (s.setLayer n x).free = s.free := rfl
@[simp] theorem setLayer_sent (n : Nat) (x : Layer) : (s.setLayer n x).sent = s.sent := rfl
@[simp] theorem reg_setLayer (n : Nat) (x : Layer) (off ix b : Nat) : (s.setLayer n x).reg off ix b = s.reg off ix b := rfl
@[simp] theorem fldAt_setLayer (n : Nat) (x : Layer) (f : Fld) (ix b : Nat) : (s.setLayer n x).fldAt f ix b = s.fldAt f ix b := rfl
@[simp] theorem fld_setLayer (n : Nat) (x : Layer) (f : Fld) : (s.setLayer n x).fld f = s.fld f := rfl
@[simp] theorem fldI_setLayer (n : Nat) (x : Layer) (f : Fld) (ix : Nat) : (s.setLayer n x).fldI f ix = s.fldI f ix := rfl
@[simp] theorem fldP_setLayer (n : Nat) (x : Layer) (f : Fld) (p : Nat) : (s.setLayer n x).fldP f p = s.fldP f p := rfl
@[simp] theorem layer_setLayer_same (n : Nat) (x : Layer) : (s.setLayer n x).layer n = x := by simp [State.layer, State.setLayer]
theorem layer_setLayer_other {n k : Nat} (x : Layer) (h : k ≠ n) : (s.setLayer n x).layer k = s.layer k :=
  sparse_get_set_other _ _ _ _ h

@[simp] theorem setDrv_pending (n : Nat) (x : Driver) : (s.setDrv n x).pending = s.pending := rfl
@[simp] theorem setDrv_tb (n : Nat) (x : Driver) : (s.setDrv n x).tb = s.tb := rfl
@[simp] theorem setDrv_tbFrac (n : Nat) (x : Driver) : (s.setDrv n x).tbFrac = s.tbFrac := rfl
@[simp] theorem setDrv_regs (n : Nat) (x : Driver) : (s.setDrv n x).regs = s.regs := rfl
@[simp] theorem setDrv_tbs (n : Nat) (x : Driver) : (s.setDrv n x).tbs = s.tbs := rfl
@[simp] theorem setDrv_lnk (n : Nat) (x : Driver) : (s.setDrv n x).lnk = s.lnk := rfl
@[simp] theorem setDrv_ports (n : Nat) (x : Driver) : (s.setDrv n x).ports = s.ports := rfl
@[simp] theorem setDrv_streams (n : Nat) (x : Driver) : (s.setDrv n x).streams = s.streams := rfl
@[simp] theorem setDrv_lyr (n : Nat) (x : Driver) : (s.setDrv n x).lyr = s.lyr := rfl
@[simp] theorem setDrv_scn (n : Nat) (x : Driver) : (s.setDrv n x).scn = s.scn := rfl
@[simp] theorem setDrv_mod (n : Nat) (x : Driver) : (s.setDrv n x).mod = s.mod := rfl
@[simp] theorem setDrv_cmp (n : Nat) (x : Driver) : (s.setDrv n x).cmp = s.cmp := rfl
@[simp] theorem setDrv_odv (n : Nat) (x : Driver) : (s.setDrv n x).odv = s.odv := rfl
@[simp] theorem setDrv_eng (n : Nat) (x : Driver) : (s.setDrv n x).eng = s.eng := rfl
@[simp] theorem setDrv_pnl (n : Nat) (x : Driver) : (s.setDrv n x).pnl = s.pnl := rfl
@[simp] theorem setDrv_hif (n : Nat) (x : Driver) : (s.setDrv n x).hif = s.hif := rfl
@[simp] theorem setDrv_fst (n : Nat) (x : Driver) : (s.setDrv n x).fst = s.fst := rfl
@[simp] theorem setDrv_mem (n : Nat) (x : Driver) : (s.setDrv n x).mem = s.mem := rfl
@[simp] theorem setDrv_pwr (n : Nat) (x : Driver) : (s.setDrv n x).pwr = s.pwr := rfl
@[simp] theorem setDrv_nvs (n : Nat) (x : Driver) : (s.setDrv n x).nvs = s.nvs := rfl
@[simp] theorem setDrv_cal (n : Nat) (x : Driver) : (s.setDrv n x).cal = s.cal := rfl
@[simp] theorem setDrv_sec (n : Nat) (x : Driver) : (s.setDrv n x).sec = s.sec := rfl
@[simp] theorem setDrv_tap (n : Nat) (x : Driver) : (s.setDrv n x).tap = s.tap := rfl
@[simp] theorem setDrv_inReset (n : Nat) (x : Driver) : (s.setDrv n x).inReset = s.inReset := rfl
@[simp] theorem setDrv_free (n : Nat) (x : Driver) : (s.setDrv n x).free = s.free := rfl
@[simp] theorem setDrv_sent (n : Nat) (x : Driver) : (s.setDrv n x).sent = s.sent := rfl
@[simp] theorem reg_setDrv (n : Nat) (x : Driver) (off ix b : Nat) : (s.setDrv n x).reg off ix b = s.reg off ix b := rfl
@[simp] theorem fldAt_setDrv (n : Nat) (x : Driver) (f : Fld) (ix b : Nat) : (s.setDrv n x).fldAt f ix b = s.fldAt f ix b := rfl
@[simp] theorem fld_setDrv (n : Nat) (x : Driver) (f : Fld) : (s.setDrv n x).fld f = s.fld f := rfl
@[simp] theorem fldI_setDrv (n : Nat) (x : Driver) (f : Fld) (ix : Nat) : (s.setDrv n x).fldI f ix = s.fldI f ix := rfl
@[simp] theorem fldP_setDrv (n : Nat) (x : Driver) (f : Fld) (p : Nat) : (s.setDrv n x).fldP f p = s.fldP f p := rfl
@[simp] theorem drv_setDrv_same (n : Nat) (x : Driver) : (s.setDrv n x).drv n = x := by simp [State.drv, State.setDrv]
theorem drv_setDrv_other {n k : Nat} (x : Driver) (h : k ≠ n) : (s.setDrv n x).drv k = s.drv k :=
  sparse_get_set_other _ _ _ _ h

@[simp] theorem setEn_pending (n : Nat) (x : Eng) : (s.setEn n x).pending = s.pending := rfl
@[simp] theorem setEn_tb (n : Nat) (x : Eng) : (s.setEn n x).tb = s.tb := rfl
@[simp] theorem setEn_tbFrac (n : Nat) (x : Eng) : (s.setEn n x).tbFrac = s.tbFrac := rfl
@[simp] theorem setEn_regs (n : Nat) (x : Eng) : (s.setEn n x).regs = s.regs := rfl
@[simp] theorem setEn_tbs (n : Nat) (x : Eng) : (s.setEn n x).tbs = s.tbs := rfl
@[simp] theorem setEn_lnk (n : Nat) (x : Eng) : (s.setEn n x).lnk = s.lnk := rfl
@[simp] theorem setEn_ports (n : Nat) (x : Eng) : (s.setEn n x).ports = s.ports := rfl
@[simp] theorem setEn_streams (n : Nat) (x : Eng) : (s.setEn n x).streams = s.streams := rfl
@[simp] theorem setEn_lyr (n : Nat) (x : Eng) : (s.setEn n x).lyr = s.lyr := rfl
@[simp] theorem setEn_scn (n : Nat) (x : Eng) : (s.setEn n x).scn = s.scn := rfl
@[simp] theorem setEn_mod (n : Nat) (x : Eng) : (s.setEn n x).mod = s.mod := rfl
@[simp] theorem setEn_cmp (n : Nat) (x : Eng) : (s.setEn n x).cmp = s.cmp := rfl
@[simp] theorem setEn_odv (n : Nat) (x : Eng) : (s.setEn n x).odv = s.odv := rfl
@[simp] theorem setEn_kdl (n : Nat) (x : Eng) : (s.setEn n x).kdl = s.kdl := rfl
@[simp] theorem setEn_pnl (n : Nat) (x : Eng) : (s.setEn n x).pnl = s.pnl := rfl
@[simp] theorem setEn_hif (n : Nat) (x : Eng) : (s.setEn n x).hif = s.hif := rfl
@[simp] theorem setEn_fst (n : Nat) (x : Eng) : (s.setEn n x).fst = s.fst := rfl
@[simp] theorem setEn_mem (n : Nat) (x : Eng) : (s.setEn n x).mem = s.mem := rfl
@[simp] theorem setEn_pwr (n : Nat) (x : Eng) : (s.setEn n x).pwr = s.pwr := rfl
@[simp] theorem setEn_nvs (n : Nat) (x : Eng) : (s.setEn n x).nvs = s.nvs := rfl
@[simp] theorem setEn_cal (n : Nat) (x : Eng) : (s.setEn n x).cal = s.cal := rfl
@[simp] theorem setEn_sec (n : Nat) (x : Eng) : (s.setEn n x).sec = s.sec := rfl
@[simp] theorem setEn_tap (n : Nat) (x : Eng) : (s.setEn n x).tap = s.tap := rfl
@[simp] theorem setEn_inReset (n : Nat) (x : Eng) : (s.setEn n x).inReset = s.inReset := rfl
@[simp] theorem setEn_free (n : Nat) (x : Eng) : (s.setEn n x).free = s.free := rfl
@[simp] theorem setEn_sent (n : Nat) (x : Eng) : (s.setEn n x).sent = s.sent := rfl
@[simp] theorem reg_setEn (n : Nat) (x : Eng) (off ix b : Nat) : (s.setEn n x).reg off ix b = s.reg off ix b := rfl
@[simp] theorem fldAt_setEn (n : Nat) (x : Eng) (f : Fld) (ix b : Nat) : (s.setEn n x).fldAt f ix b = s.fldAt f ix b := rfl
@[simp] theorem fld_setEn (n : Nat) (x : Eng) (f : Fld) : (s.setEn n x).fld f = s.fld f := rfl
@[simp] theorem fldI_setEn (n : Nat) (x : Eng) (f : Fld) (ix : Nat) : (s.setEn n x).fldI f ix = s.fldI f ix := rfl
@[simp] theorem fldP_setEn (n : Nat) (x : Eng) (f : Fld) (p : Nat) : (s.setEn n x).fldP f p = s.fldP f p := rfl
@[simp] theorem cl_setEn (n : Nat) (x : Eng) (k : Nat) : (s.setEn n x).cl k = s.cl k := rfl
@[simp] theorem en_setEn_same (n : Nat) (x : Eng) : (s.setEn n x).en n = x := by simp [State.en, State.setEn]
theorem en_setEn_other {n k : Nat} (x : Eng) (h : k ≠ n) : (s.setEn n x).en k = s.en k :=
  sparse_get_set_other _ _ _ _ h

@[simp] theorem setCl_pending (n : Nat) (x : Cluster) : (s.setCl n x).pending = s.pending := rfl
@[simp] theorem setCl_tb (n : Nat) (x : Cluster) : (s.setCl n x).tb = s.tb := rfl
@[simp] theorem setCl_tbFrac (n : Nat) (x : Cluster) : (s.setCl n x).tbFrac = s.tbFrac := rfl
@[simp] theorem setCl_regs (n : Nat) (x : Cluster) : (s.setCl n x).regs = s.regs := rfl
@[simp] theorem setCl_tbs (n : Nat) (x : Cluster) : (s.setCl n x).tbs = s.tbs := rfl
@[simp] theorem setCl_lnk (n : Nat) (x : Cluster) : (s.setCl n x).lnk = s.lnk := rfl
@[simp] theorem setCl_ports (n : Nat) (x : Cluster) : (s.setCl n x).ports = s.ports := rfl
@[simp] theorem setCl_streams (n : Nat) (x : Cluster) : (s.setCl n x).streams = s.streams := rfl
@[simp] theorem setCl_lyr (n : Nat) (x : Cluster) : (s.setCl n x).lyr = s.lyr := rfl
@[simp] theorem setCl_scn (n : Nat) (x : Cluster) : (s.setCl n x).scn = s.scn := rfl
@[simp] theorem setCl_mod (n : Nat) (x : Cluster) : (s.setCl n x).mod = s.mod := rfl
@[simp] theorem setCl_cmp (n : Nat) (x : Cluster) : (s.setCl n x).cmp = s.cmp := rfl
@[simp] theorem setCl_odv (n : Nat) (x : Cluster) : (s.setCl n x).odv = s.odv := rfl
@[simp] theorem setCl_kdl (n : Nat) (x : Cluster) : (s.setCl n x).kdl = s.kdl := rfl
@[simp] theorem setCl_pnl (n : Nat) (x : Cluster) : (s.setCl n x).pnl = s.pnl := rfl
@[simp] theorem setCl_hif (n : Nat) (x : Cluster) : (s.setCl n x).hif = s.hif := rfl
@[simp] theorem setCl_fst (n : Nat) (x : Cluster) : (s.setCl n x).fst = s.fst := rfl
@[simp] theorem setCl_mem (n : Nat) (x : Cluster) : (s.setCl n x).mem = s.mem := rfl
@[simp] theorem setCl_pwr (n : Nat) (x : Cluster) : (s.setCl n x).pwr = s.pwr := rfl
@[simp] theorem setCl_nvs (n : Nat) (x : Cluster) : (s.setCl n x).nvs = s.nvs := rfl
@[simp] theorem setCl_cal (n : Nat) (x : Cluster) : (s.setCl n x).cal = s.cal := rfl
@[simp] theorem setCl_sec (n : Nat) (x : Cluster) : (s.setCl n x).sec = s.sec := rfl
@[simp] theorem setCl_tap (n : Nat) (x : Cluster) : (s.setCl n x).tap = s.tap := rfl
@[simp] theorem setCl_inReset (n : Nat) (x : Cluster) : (s.setCl n x).inReset = s.inReset := rfl
@[simp] theorem setCl_free (n : Nat) (x : Cluster) : (s.setCl n x).free = s.free := rfl
@[simp] theorem setCl_sent (n : Nat) (x : Cluster) : (s.setCl n x).sent = s.sent := rfl
@[simp] theorem reg_setCl (n : Nat) (x : Cluster) (off ix b : Nat) : (s.setCl n x).reg off ix b = s.reg off ix b := rfl
@[simp] theorem fldAt_setCl (n : Nat) (x : Cluster) (f : Fld) (ix b : Nat) : (s.setCl n x).fldAt f ix b = s.fldAt f ix b := rfl
@[simp] theorem fld_setCl (n : Nat) (x : Cluster) (f : Fld) : (s.setCl n x).fld f = s.fld f := rfl
@[simp] theorem fldI_setCl (n : Nat) (x : Cluster) (f : Fld) (ix : Nat) : (s.setCl n x).fldI f ix = s.fldI f ix := rfl
@[simp] theorem fldP_setCl (n : Nat) (x : Cluster) (f : Fld) (p : Nat) : (s.setCl n x).fldP f p = s.fldP f p := rfl
@[simp] theorem en_setCl (n : Nat) (x : Cluster) (k : Nat) : (s.setCl n x).en k = s.en k := rfl
@[simp] theorem cl_setCl_same (n : Nat) (x : Cluster) : (s.setCl n x).cl n = x := by simp [State.cl, State.setCl]
theorem cl_setCl_other {n k : Nat} (x : Cluster) (h : k ≠ n) : (s.setCl n x).cl k = s.cl k :=
  sparse_get_set_other _ _ _ _ h

@[simp] theorem setDom_pending (n : Nat) (x : Dom) : (s.setDom n x).pending = s.pending := rfl
@[simp] theorem setDom_tb (n : Nat) (x : Dom) : (s.setDom n x).tb = s.tb := rfl
@[simp] theorem setDom_tbFrac (n : Nat) (x : Dom) : (s.setDom n x).tbFrac = s.tbFrac := rfl
@[simp] theorem setDom_regs (n : Nat) (x : Dom) : (s.setDom n x).regs = s.regs := rfl
@[simp] theorem setDom_tbs (n : Nat) (x : Dom) : (s.setDom n x).tbs = s.tbs := rfl
@[simp] theorem setDom_lnk (n : Nat) (x : Dom) : (s.setDom n x).lnk = s.lnk := rfl
@[simp] theorem setDom_ports (n : Nat) (x : Dom) : (s.setDom n x).ports = s.ports := rfl
@[simp] theorem setDom_streams (n : Nat) (x : Dom) : (s.setDom n x).streams = s.streams := rfl
@[simp] theorem setDom_lyr (n : Nat) (x : Dom) : (s.setDom n x).lyr = s.lyr := rfl
@[simp] theorem setDom_scn (n : Nat) (x : Dom) : (s.setDom n x).scn = s.scn := rfl
@[simp] theorem setDom_mod (n : Nat) (x : Dom) : (s.setDom n x).mod = s.mod := rfl
@[simp] theorem setDom_cmp (n : Nat) (x : Dom) : (s.setDom n x).cmp = s.cmp := rfl
@[simp] theorem setDom_odv (n : Nat) (x : Dom) : (s.setDom n x).odv = s.odv := rfl
@[simp] theorem setDom_eng (n : Nat) (x : Dom) : (s.setDom n x).eng = s.eng := rfl
@[simp] theorem setDom_kdl (n : Nat) (x : Dom) : (s.setDom n x).kdl = s.kdl := rfl
@[simp] theorem setDom_pnl (n : Nat) (x : Dom) : (s.setDom n x).pnl = s.pnl := rfl
@[simp] theorem setDom_hif (n : Nat) (x : Dom) : (s.setDom n x).hif = s.hif := rfl
@[simp] theorem setDom_fst (n : Nat) (x : Dom) : (s.setDom n x).fst = s.fst := rfl
@[simp] theorem setDom_mem (n : Nat) (x : Dom) : (s.setDom n x).mem = s.mem := rfl
@[simp] theorem setDom_nvs (n : Nat) (x : Dom) : (s.setDom n x).nvs = s.nvs := rfl
@[simp] theorem setDom_cal (n : Nat) (x : Dom) : (s.setDom n x).cal = s.cal := rfl
@[simp] theorem setDom_sec (n : Nat) (x : Dom) : (s.setDom n x).sec = s.sec := rfl
@[simp] theorem setDom_tap (n : Nat) (x : Dom) : (s.setDom n x).tap = s.tap := rfl
@[simp] theorem setDom_inReset (n : Nat) (x : Dom) : (s.setDom n x).inReset = s.inReset := rfl
@[simp] theorem setDom_free (n : Nat) (x : Dom) : (s.setDom n x).free = s.free := rfl
@[simp] theorem setDom_sent (n : Nat) (x : Dom) : (s.setDom n x).sent = s.sent := rfl
@[simp] theorem reg_setDom (n : Nat) (x : Dom) (off ix b : Nat) : (s.setDom n x).reg off ix b = s.reg off ix b := rfl
@[simp] theorem fldAt_setDom (n : Nat) (x : Dom) (f : Fld) (ix b : Nat) : (s.setDom n x).fldAt f ix b = s.fldAt f ix b := rfl
@[simp] theorem fld_setDom (n : Nat) (x : Dom) (f : Fld) : (s.setDom n x).fld f = s.fld f := rfl
@[simp] theorem fldI_setDom (n : Nat) (x : Dom) (f : Fld) (ix : Nat) : (s.setDom n x).fldI f ix = s.fldI f ix := rfl
@[simp] theorem fldP_setDom (n : Nat) (x : Dom) (f : Fld) (p : Nat) : (s.setDom n x).fldP f p = s.fldP f p := rfl
@[simp] theorem rail_setDom (n : Nat) (x : Dom) (k : Nat) : (s.setDom n x).rail k = s.rail k := rfl
@[simp] theorem dom_setDom_same (n : Nat) (x : Dom) : (s.setDom n x).dom n = x := by simp [State.dom, State.setDom]
theorem dom_setDom_other {n k : Nat} (x : Dom) (h : k ≠ n) : (s.setDom n x).dom k = s.dom k :=
  sparse_get_set_other _ _ _ _ h

@[simp] theorem setRail_pending (n : Nat) (x : Rail) : (s.setRail n x).pending = s.pending := rfl
@[simp] theorem setRail_tb (n : Nat) (x : Rail) : (s.setRail n x).tb = s.tb := rfl
@[simp] theorem setRail_tbFrac (n : Nat) (x : Rail) : (s.setRail n x).tbFrac = s.tbFrac := rfl
@[simp] theorem setRail_regs (n : Nat) (x : Rail) : (s.setRail n x).regs = s.regs := rfl
@[simp] theorem setRail_tbs (n : Nat) (x : Rail) : (s.setRail n x).tbs = s.tbs := rfl
@[simp] theorem setRail_lnk (n : Nat) (x : Rail) : (s.setRail n x).lnk = s.lnk := rfl
@[simp] theorem setRail_ports (n : Nat) (x : Rail) : (s.setRail n x).ports = s.ports := rfl
@[simp] theorem setRail_streams (n : Nat) (x : Rail) : (s.setRail n x).streams = s.streams := rfl
@[simp] theorem setRail_lyr (n : Nat) (x : Rail) : (s.setRail n x).lyr = s.lyr := rfl
@[simp] theorem setRail_scn (n : Nat) (x : Rail) : (s.setRail n x).scn = s.scn := rfl
@[simp] theorem setRail_mod (n : Nat) (x : Rail) : (s.setRail n x).mod = s.mod := rfl
@[simp] theorem setRail_cmp (n : Nat) (x : Rail) : (s.setRail n x).cmp = s.cmp := rfl
@[simp] theorem setRail_odv (n : Nat) (x : Rail) : (s.setRail n x).odv = s.odv := rfl
@[simp] theorem setRail_eng (n : Nat) (x : Rail) : (s.setRail n x).eng = s.eng := rfl
@[simp] theorem setRail_kdl (n : Nat) (x : Rail) : (s.setRail n x).kdl = s.kdl := rfl
@[simp] theorem setRail_pnl (n : Nat) (x : Rail) : (s.setRail n x).pnl = s.pnl := rfl
@[simp] theorem setRail_hif (n : Nat) (x : Rail) : (s.setRail n x).hif = s.hif := rfl
@[simp] theorem setRail_fst (n : Nat) (x : Rail) : (s.setRail n x).fst = s.fst := rfl
@[simp] theorem setRail_mem (n : Nat) (x : Rail) : (s.setRail n x).mem = s.mem := rfl
@[simp] theorem setRail_nvs (n : Nat) (x : Rail) : (s.setRail n x).nvs = s.nvs := rfl
@[simp] theorem setRail_cal (n : Nat) (x : Rail) : (s.setRail n x).cal = s.cal := rfl
@[simp] theorem setRail_sec (n : Nat) (x : Rail) : (s.setRail n x).sec = s.sec := rfl
@[simp] theorem setRail_tap (n : Nat) (x : Rail) : (s.setRail n x).tap = s.tap := rfl
@[simp] theorem setRail_inReset (n : Nat) (x : Rail) : (s.setRail n x).inReset = s.inReset := rfl
@[simp] theorem setRail_free (n : Nat) (x : Rail) : (s.setRail n x).free = s.free := rfl
@[simp] theorem setRail_sent (n : Nat) (x : Rail) : (s.setRail n x).sent = s.sent := rfl
@[simp] theorem reg_setRail (n : Nat) (x : Rail) (off ix b : Nat) : (s.setRail n x).reg off ix b = s.reg off ix b := rfl
@[simp] theorem fldAt_setRail (n : Nat) (x : Rail) (f : Fld) (ix b : Nat) : (s.setRail n x).fldAt f ix b = s.fldAt f ix b := rfl
@[simp] theorem fld_setRail (n : Nat) (x : Rail) (f : Fld) : (s.setRail n x).fld f = s.fld f := rfl
@[simp] theorem fldI_setRail (n : Nat) (x : Rail) (f : Fld) (ix : Nat) : (s.setRail n x).fldI f ix = s.fldI f ix := rfl
@[simp] theorem fldP_setRail (n : Nat) (x : Rail) (f : Fld) (p : Nat) : (s.setRail n x).fldP f p = s.fldP f p := rfl
@[simp] theorem dom_setRail (n : Nat) (x : Rail) (k : Nat) : (s.setRail n x).dom k = s.dom k := rfl
@[simp] theorem rail_setRail_same (n : Nat) (x : Rail) : (s.setRail n x).rail n = x := by simp [State.rail, State.setRail]
theorem rail_setRail_other {n k : Nat} (x : Rail) (h : k ≠ n) : (s.setRail n x).rail k = s.rail k :=
  sparse_get_set_other _ _ _ _ h

@[simp] theorem setCxPort_pending (n : Nat) (x : CxPort) : (s.setCxPort n x).pending = s.pending := rfl
@[simp] theorem setCxPort_tb (n : Nat) (x : CxPort) : (s.setCxPort n x).tb = s.tb := rfl
@[simp] theorem setCxPort_tbFrac (n : Nat) (x : CxPort) : (s.setCxPort n x).tbFrac = s.tbFrac := rfl
@[simp] theorem setCxPort_regs (n : Nat) (x : CxPort) : (s.setCxPort n x).regs = s.regs := rfl
@[simp] theorem setCxPort_tbs (n : Nat) (x : CxPort) : (s.setCxPort n x).tbs = s.tbs := rfl
@[simp] theorem setCxPort_lnk (n : Nat) (x : CxPort) : (s.setCxPort n x).lnk = s.lnk := rfl
@[simp] theorem setCxPort_ports (n : Nat) (x : CxPort) : (s.setCxPort n x).ports = s.ports := rfl
@[simp] theorem setCxPort_streams (n : Nat) (x : CxPort) : (s.setCxPort n x).streams = s.streams := rfl
@[simp] theorem setCxPort_lyr (n : Nat) (x : CxPort) : (s.setCxPort n x).lyr = s.lyr := rfl
@[simp] theorem setCxPort_scn (n : Nat) (x : CxPort) : (s.setCxPort n x).scn = s.scn := rfl
@[simp] theorem setCxPort_mod (n : Nat) (x : CxPort) : (s.setCxPort n x).mod = s.mod := rfl
@[simp] theorem setCxPort_cmp (n : Nat) (x : CxPort) : (s.setCxPort n x).cmp = s.cmp := rfl
@[simp] theorem setCxPort_odv (n : Nat) (x : CxPort) : (s.setCxPort n x).odv = s.odv := rfl
@[simp] theorem setCxPort_eng (n : Nat) (x : CxPort) : (s.setCxPort n x).eng = s.eng := rfl
@[simp] theorem setCxPort_kdl (n : Nat) (x : CxPort) : (s.setCxPort n x).kdl = s.kdl := rfl
@[simp] theorem setCxPort_pnl (n : Nat) (x : CxPort) : (s.setCxPort n x).pnl = s.pnl := rfl
@[simp] theorem setCxPort_hif (n : Nat) (x : CxPort) : (s.setCxPort n x).hif = s.hif := rfl
@[simp] theorem setCxPort_mem (n : Nat) (x : CxPort) : (s.setCxPort n x).mem = s.mem := rfl
@[simp] theorem setCxPort_pwr (n : Nat) (x : CxPort) : (s.setCxPort n x).pwr = s.pwr := rfl
@[simp] theorem setCxPort_nvs (n : Nat) (x : CxPort) : (s.setCxPort n x).nvs = s.nvs := rfl
@[simp] theorem setCxPort_cal (n : Nat) (x : CxPort) : (s.setCxPort n x).cal = s.cal := rfl
@[simp] theorem setCxPort_sec (n : Nat) (x : CxPort) : (s.setCxPort n x).sec = s.sec := rfl
@[simp] theorem setCxPort_tap (n : Nat) (x : CxPort) : (s.setCxPort n x).tap = s.tap := rfl
@[simp] theorem setCxPort_inReset (n : Nat) (x : CxPort) : (s.setCxPort n x).inReset = s.inReset := rfl
@[simp] theorem setCxPort_free (n : Nat) (x : CxPort) : (s.setCxPort n x).free = s.free := rfl
@[simp] theorem setCxPort_sent (n : Nat) (x : CxPort) : (s.setCxPort n x).sent = s.sent := rfl
@[simp] theorem reg_setCxPort (n : Nat) (x : CxPort) (off ix b : Nat) : (s.setCxPort n x).reg off ix b = s.reg off ix b := rfl
@[simp] theorem fldAt_setCxPort (n : Nat) (x : CxPort) (f : Fld) (ix b : Nat) : (s.setCxPort n x).fldAt f ix b = s.fldAt f ix b := rfl
@[simp] theorem fld_setCxPort (n : Nat) (x : CxPort) (f : Fld) : (s.setCxPort n x).fld f = s.fld f := rfl
@[simp] theorem fldI_setCxPort (n : Nat) (x : CxPort) (f : Fld) (ix : Nat) : (s.setCxPort n x).fldI f ix = s.fldI f ix := rfl
@[simp] theorem fldP_setCxPort (n : Nat) (x : CxPort) (f : Fld) (p : Nat) : (s.setCxPort n x).fldP f p = s.fldP f p := rfl
@[simp] theorem buf_setCxPort (n : Nat) (x : CxPort) (k : Nat) : (s.setCxPort n x).buf k = s.buf k := rfl
@[simp] theorem cxPort_setCxPort_same (n : Nat) (x : CxPort) : (s.setCxPort n x).cxPort n = x := by simp [State.cxPort, State.setCxPort]
theorem cxPort_setCxPort_other {n k : Nat} (x : CxPort) (h : k ≠ n) : (s.setCxPort n x).cxPort k = s.cxPort k :=
  sparse_get_set_other _ _ _ _ h

@[simp] theorem setBuf_pending (n : Nat) (x : Buf) : (s.setBuf n x).pending = s.pending := rfl
@[simp] theorem setBuf_tb (n : Nat) (x : Buf) : (s.setBuf n x).tb = s.tb := rfl
@[simp] theorem setBuf_tbFrac (n : Nat) (x : Buf) : (s.setBuf n x).tbFrac = s.tbFrac := rfl
@[simp] theorem setBuf_regs (n : Nat) (x : Buf) : (s.setBuf n x).regs = s.regs := rfl
@[simp] theorem setBuf_tbs (n : Nat) (x : Buf) : (s.setBuf n x).tbs = s.tbs := rfl
@[simp] theorem setBuf_lnk (n : Nat) (x : Buf) : (s.setBuf n x).lnk = s.lnk := rfl
@[simp] theorem setBuf_ports (n : Nat) (x : Buf) : (s.setBuf n x).ports = s.ports := rfl
@[simp] theorem setBuf_streams (n : Nat) (x : Buf) : (s.setBuf n x).streams = s.streams := rfl
@[simp] theorem setBuf_lyr (n : Nat) (x : Buf) : (s.setBuf n x).lyr = s.lyr := rfl
@[simp] theorem setBuf_scn (n : Nat) (x : Buf) : (s.setBuf n x).scn = s.scn := rfl
@[simp] theorem setBuf_mod (n : Nat) (x : Buf) : (s.setBuf n x).mod = s.mod := rfl
@[simp] theorem setBuf_cmp (n : Nat) (x : Buf) : (s.setBuf n x).cmp = s.cmp := rfl
@[simp] theorem setBuf_odv (n : Nat) (x : Buf) : (s.setBuf n x).odv = s.odv := rfl
@[simp] theorem setBuf_eng (n : Nat) (x : Buf) : (s.setBuf n x).eng = s.eng := rfl
@[simp] theorem setBuf_kdl (n : Nat) (x : Buf) : (s.setBuf n x).kdl = s.kdl := rfl
@[simp] theorem setBuf_pnl (n : Nat) (x : Buf) : (s.setBuf n x).pnl = s.pnl := rfl
@[simp] theorem setBuf_hif (n : Nat) (x : Buf) : (s.setBuf n x).hif = s.hif := rfl
@[simp] theorem setBuf_mem (n : Nat) (x : Buf) : (s.setBuf n x).mem = s.mem := rfl
@[simp] theorem setBuf_pwr (n : Nat) (x : Buf) : (s.setBuf n x).pwr = s.pwr := rfl
@[simp] theorem setBuf_nvs (n : Nat) (x : Buf) : (s.setBuf n x).nvs = s.nvs := rfl
@[simp] theorem setBuf_cal (n : Nat) (x : Buf) : (s.setBuf n x).cal = s.cal := rfl
@[simp] theorem setBuf_sec (n : Nat) (x : Buf) : (s.setBuf n x).sec = s.sec := rfl
@[simp] theorem setBuf_tap (n : Nat) (x : Buf) : (s.setBuf n x).tap = s.tap := rfl
@[simp] theorem setBuf_inReset (n : Nat) (x : Buf) : (s.setBuf n x).inReset = s.inReset := rfl
@[simp] theorem setBuf_free (n : Nat) (x : Buf) : (s.setBuf n x).free = s.free := rfl
@[simp] theorem setBuf_sent (n : Nat) (x : Buf) : (s.setBuf n x).sent = s.sent := rfl
@[simp] theorem reg_setBuf (n : Nat) (x : Buf) (off ix b : Nat) : (s.setBuf n x).reg off ix b = s.reg off ix b := rfl
@[simp] theorem fldAt_setBuf (n : Nat) (x : Buf) (f : Fld) (ix b : Nat) : (s.setBuf n x).fldAt f ix b = s.fldAt f ix b := rfl
@[simp] theorem fld_setBuf (n : Nat) (x : Buf) (f : Fld) : (s.setBuf n x).fld f = s.fld f := rfl
@[simp] theorem fldI_setBuf (n : Nat) (x : Buf) (f : Fld) (ix : Nat) : (s.setBuf n x).fldI f ix = s.fldI f ix := rfl
@[simp] theorem fldP_setBuf (n : Nat) (x : Buf) (f : Fld) (p : Nat) : (s.setBuf n x).fldP f p = s.fldP f p := rfl
@[simp] theorem cxPort_setBuf (n : Nat) (x : Buf) (k : Nat) : (s.setBuf n x).cxPort k = s.cxPort k := rfl
@[simp] theorem buf_setBuf_same (n : Nat) (x : Buf) : (s.setBuf n x).buf n = x := by simp [State.buf, State.setBuf]
theorem buf_setBuf_other {n k : Nat} (x : Buf) (h : k ≠ n) : (s.setBuf n x).buf k = s.buf k :=
  sparse_get_set_other _ _ _ _ h

@[simp] theorem setInst_pending (n : Nat) (x : Inst) : (s.setInst n x).pending = s.pending := rfl
@[simp] theorem setInst_tb (n : Nat) (x : Inst) : (s.setInst n x).tb = s.tb := rfl
@[simp] theorem setInst_tbFrac (n : Nat) (x : Inst) : (s.setInst n x).tbFrac = s.tbFrac := rfl
@[simp] theorem setInst_regs (n : Nat) (x : Inst) : (s.setInst n x).regs = s.regs := rfl
@[simp] theorem setInst_tbs (n : Nat) (x : Inst) : (s.setInst n x).tbs = s.tbs := rfl
@[simp] theorem setInst_lnk (n : Nat) (x : Inst) : (s.setInst n x).lnk = s.lnk := rfl
@[simp] theorem setInst_ports (n : Nat) (x : Inst) : (s.setInst n x).ports = s.ports := rfl
@[simp] theorem setInst_streams (n : Nat) (x : Inst) : (s.setInst n x).streams = s.streams := rfl
@[simp] theorem setInst_lyr (n : Nat) (x : Inst) : (s.setInst n x).lyr = s.lyr := rfl
@[simp] theorem setInst_scn (n : Nat) (x : Inst) : (s.setInst n x).scn = s.scn := rfl
@[simp] theorem setInst_mod (n : Nat) (x : Inst) : (s.setInst n x).mod = s.mod := rfl
@[simp] theorem setInst_cmp (n : Nat) (x : Inst) : (s.setInst n x).cmp = s.cmp := rfl
@[simp] theorem setInst_odv (n : Nat) (x : Inst) : (s.setInst n x).odv = s.odv := rfl
@[simp] theorem setInst_eng (n : Nat) (x : Inst) : (s.setInst n x).eng = s.eng := rfl
@[simp] theorem setInst_kdl (n : Nat) (x : Inst) : (s.setInst n x).kdl = s.kdl := rfl
@[simp] theorem setInst_pnl (n : Nat) (x : Inst) : (s.setInst n x).pnl = s.pnl := rfl
@[simp] theorem setInst_hif (n : Nat) (x : Inst) : (s.setInst n x).hif = s.hif := rfl
@[simp] theorem setInst_fst (n : Nat) (x : Inst) : (s.setInst n x).fst = s.fst := rfl
@[simp] theorem setInst_pwr (n : Nat) (x : Inst) : (s.setInst n x).pwr = s.pwr := rfl
@[simp] theorem setInst_nvs (n : Nat) (x : Inst) : (s.setInst n x).nvs = s.nvs := rfl
@[simp] theorem setInst_cal (n : Nat) (x : Inst) : (s.setInst n x).cal = s.cal := rfl
@[simp] theorem setInst_sec (n : Nat) (x : Inst) : (s.setInst n x).sec = s.sec := rfl
@[simp] theorem setInst_tap (n : Nat) (x : Inst) : (s.setInst n x).tap = s.tap := rfl
@[simp] theorem setInst_inReset (n : Nat) (x : Inst) : (s.setInst n x).inReset = s.inReset := rfl
@[simp] theorem setInst_free (n : Nat) (x : Inst) : (s.setInst n x).free = s.free := rfl
@[simp] theorem setInst_sent (n : Nat) (x : Inst) : (s.setInst n x).sent = s.sent := rfl
@[simp] theorem reg_setInst (n : Nat) (x : Inst) (off ix b : Nat) : (s.setInst n x).reg off ix b = s.reg off ix b := rfl
@[simp] theorem fldAt_setInst (n : Nat) (x : Inst) (f : Fld) (ix b : Nat) : (s.setInst n x).fldAt f ix b = s.fldAt f ix b := rfl
@[simp] theorem fld_setInst (n : Nat) (x : Inst) (f : Fld) : (s.setInst n x).fld f = s.fld f := rfl
@[simp] theorem fldI_setInst (n : Nat) (x : Inst) (f : Fld) (ix : Nat) : (s.setInst n x).fldI f ix = s.fldI f ix := rfl
@[simp] theorem fldP_setInst (n : Nat) (x : Inst) (f : Fld) (p : Nat) : (s.setInst n x).fldP f p = s.fldP f p := rfl
@[simp] theorem inst_setInst_same (n : Nat) (x : Inst) : (s.setInst n x).inst n = x := by simp [State.inst, State.setInst]
theorem inst_setInst_other {n k : Nat} (x : Inst) (h : k ≠ n) : (s.setInst n x).inst k = s.inst k :=
  sparse_get_set_other _ _ _ _ h

@[simp] theorem setSpdm_pending (n : Nat) (x : Spdm) : (s.setSpdm n x).pending = s.pending := rfl
@[simp] theorem setSpdm_tb (n : Nat) (x : Spdm) : (s.setSpdm n x).tb = s.tb := rfl
@[simp] theorem setSpdm_tbFrac (n : Nat) (x : Spdm) : (s.setSpdm n x).tbFrac = s.tbFrac := rfl
@[simp] theorem setSpdm_regs (n : Nat) (x : Spdm) : (s.setSpdm n x).regs = s.regs := rfl
@[simp] theorem setSpdm_tbs (n : Nat) (x : Spdm) : (s.setSpdm n x).tbs = s.tbs := rfl
@[simp] theorem setSpdm_lnk (n : Nat) (x : Spdm) : (s.setSpdm n x).lnk = s.lnk := rfl
@[simp] theorem setSpdm_ports (n : Nat) (x : Spdm) : (s.setSpdm n x).ports = s.ports := rfl
@[simp] theorem setSpdm_streams (n : Nat) (x : Spdm) : (s.setSpdm n x).streams = s.streams := rfl
@[simp] theorem setSpdm_lyr (n : Nat) (x : Spdm) : (s.setSpdm n x).lyr = s.lyr := rfl
@[simp] theorem setSpdm_scn (n : Nat) (x : Spdm) : (s.setSpdm n x).scn = s.scn := rfl
@[simp] theorem setSpdm_mod (n : Nat) (x : Spdm) : (s.setSpdm n x).mod = s.mod := rfl
@[simp] theorem setSpdm_cmp (n : Nat) (x : Spdm) : (s.setSpdm n x).cmp = s.cmp := rfl
@[simp] theorem setSpdm_odv (n : Nat) (x : Spdm) : (s.setSpdm n x).odv = s.odv := rfl
@[simp] theorem setSpdm_eng (n : Nat) (x : Spdm) : (s.setSpdm n x).eng = s.eng := rfl
@[simp] theorem setSpdm_kdl (n : Nat) (x : Spdm) : (s.setSpdm n x).kdl = s.kdl := rfl
@[simp] theorem setSpdm_pnl (n : Nat) (x : Spdm) : (s.setSpdm n x).pnl = s.pnl := rfl
@[simp] theorem setSpdm_hif (n : Nat) (x : Spdm) : (s.setSpdm n x).hif = s.hif := rfl
@[simp] theorem setSpdm_fst (n : Nat) (x : Spdm) : (s.setSpdm n x).fst = s.fst := rfl
@[simp] theorem setSpdm_mem (n : Nat) (x : Spdm) : (s.setSpdm n x).mem = s.mem := rfl
@[simp] theorem setSpdm_pwr (n : Nat) (x : Spdm) : (s.setSpdm n x).pwr = s.pwr := rfl
@[simp] theorem setSpdm_nvs (n : Nat) (x : Spdm) : (s.setSpdm n x).nvs = s.nvs := rfl
@[simp] theorem setSpdm_cal (n : Nat) (x : Spdm) : (s.setSpdm n x).cal = s.cal := rfl
@[simp] theorem setSpdm_tap (n : Nat) (x : Spdm) : (s.setSpdm n x).tap = s.tap := rfl
@[simp] theorem setSpdm_inReset (n : Nat) (x : Spdm) : (s.setSpdm n x).inReset = s.inReset := rfl
@[simp] theorem setSpdm_free (n : Nat) (x : Spdm) : (s.setSpdm n x).free = s.free := rfl
@[simp] theorem setSpdm_sent (n : Nat) (x : Spdm) : (s.setSpdm n x).sent = s.sent := rfl
@[simp] theorem reg_setSpdm (n : Nat) (x : Spdm) (off ix b : Nat) : (s.setSpdm n x).reg off ix b = s.reg off ix b := rfl
@[simp] theorem fldAt_setSpdm (n : Nat) (x : Spdm) (f : Fld) (ix b : Nat) : (s.setSpdm n x).fldAt f ix b = s.fldAt f ix b := rfl
@[simp] theorem fld_setSpdm (n : Nat) (x : Spdm) (f : Fld) : (s.setSpdm n x).fld f = s.fld f := rfl
@[simp] theorem fldI_setSpdm (n : Nat) (x : Spdm) (f : Fld) (ix : Nat) : (s.setSpdm n x).fldI f ix = s.fldI f ix := rfl
@[simp] theorem fldP_setSpdm (n : Nat) (x : Spdm) (f : Fld) (p : Nat) : (s.setSpdm n x).fldP f p = s.fldP f p := rfl
@[simp] theorem spdmOf_setSpdm_same (n : Nat) (x : Spdm) : (s.setSpdm n x).spdmOf n = x := by simp [State.spdmOf, State.setSpdm]
theorem spdmOf_setSpdm_other {n k : Nat} (x : Spdm) (h : k ≠ n) : (s.setSpdm n x).spdmOf k = s.spdmOf k :=
  sparse_get_set_other _ _ _ _ h

end Sys2Proof.Laws
end

