-- ==== Sys2Proof/Laws/Engine.lean ====
section
/-! SUPPORT. Engines and clusters: reads after writes, and what the shared forms of engine instructions do. -/

namespace Sys2Proof.Laws

open Sys2Proof Sys2Proof.Machine

@[simp] theorem setEn_setEn (s : State) (g : Nat) (x y : Eng) : (s.setEn g x).setEn g y = s.setEn g y := by
  simp [State.setEn]

@[simp] theorem clOn_setEn (s : State) (g c : Nat) (x : Eng) : (s.setEn g x).clOn c = s.clOn c := rfl

/-- s0 reads 0 and ignores writes; every other s-register reads as written (R244). -/
@[simp] theorem sreg_zero (e : Eng) : e.sreg 0 = 0 := rfl
@[simp] theorem setS_zero (e : Eng) (x : Word) : e.setS 0 x = e := rfl
theorem sreg_setS_same (e : Eng) {n : Nat} (x : Word) (h : n ≠ 0) : (e.setS n x).sreg n = x := by
  simp [Eng.sreg, Eng.setS, h]
theorem sreg_setS_other (e : Eng) {n k : Nat} (x : Word) (h : k ≠ n) : (e.setS n x).sreg k = e.sreg k := by
  by_cases hn : n = 0
  · subst hn; rfl
  · by_cases hk : k = 0
    · subst hk; rfl
    · simp [Eng.sreg, Eng.setS, hn, hk, sparse_get_set_other _ _ _ x h]

@[simp] theorem setS_pc (e : Eng) (n : Nat) (x : Word) : (e.setS n x).pc = e.pc := by unfold Eng.setS; split <;> rfl
@[simp] theorem setS_loops (e : Eng) (n : Nat) (x : Word) : (e.setS n x).loops = e.loops := by unfold Eng.setS; split <;> rfl
@[simp] theorem setP_pc (e : Eng) (n : Nat) (x : Half) : (e.setP n x).pc = e.pc := by unfold Eng.setP; split <;> rfl
@[simp] theorem setP_loops (e : Eng) (n : Nat) (x : Half) : (e.setP n x).loops = e.loops := by unfold Eng.setP; split <;> rfl
@[simp] theorem setV_pc (e : Eng) (n : Nat) (x : List Half) : (e.setV n x).pc = e.pc := rfl
@[simp] theorem setV_loops (e : Eng) (n : Nat) (x : List Half) : (e.setV n x).loops = e.loops := rfl
@[simp] theorem setA_pc (e : Eng) (n : Nat) (x : List (BitVec 40)) : (e.setA n x).pc = e.pc := rfl
@[simp] theorem setA_loops (e : Eng) (n : Nat) (x : List (BitVec 40)) : (e.setA n x).loops = e.loops := rfl
@[simp] theorem putV_pc (e : Eng) (vd : BitVec 5) (pg : BitVec 3) (f : Nat → Half) : (e.putV vd pg f).pc = e.pc := rfl
@[simp] theorem putV_loops (e : Eng) (vd : BitVec 5) (pg : BitVec 3) (f : Nat → Half) : (e.putV vd pg f).loops = e.loops := rfl

/-- With no body ending at `pc`, the next index is the next instruction's and every level stays open. -/
theorem loopBack_straight {pc : Nat} {ls : List LoopLv} (h : ∀ l ∈ ls, l.stop ≠ pc) : loopBack pc ls = (pc + 1, ls) := by
  cases ls with
  | nil => rfl
  | cons l ls => simp [loopBack, h l (by simp)]

/-- What a register effect that leaves pc and the loop levels alone does on an engine that runs straight on. -/
theorem engDo_straight {s : State} {g : Nat} {f : Eng → Eng} (h : s.straight g) (hp : (f (s.en g)).pc = (s.en g).pc)
    (hl : (f (s.en g)).loops = (s.en g).loops) : s.engDo g f = s.stepped g (f (s.en g)) := by
  obtain ⟨_, hb, hs⟩ := h
  have e1 : loopBack (s.en g).pc.toNat (s.en g).loops = ((s.en g).pc.toNat + 1, (s.en g).loops) := loopBack_straight hs
  have e2 : BitVec.ofNat 12 ((s.en g).pc.toNat + 1) = (s.en g).pc + 1 := by
    apply BitVec.eq_of_toNat_eq; simp [BitVec.toNat_add]
  have e3 : (s.en g).pc.toNat + 1 < 4096 := by omega
  simp only [State.engDo, State.retire, State.goTo, en_setEn_same, hp, hl, e1, e3, if_true, setEn_setEn, e2, State.stepped]

theorem onEngine_runs {s : State} {g : Nat} (h : s.runs g) (f : State → State) : s.onEngine g f = f s := by
  simp only [State.onEngine]; exact if_pos h

theorem onEngine_stopped {s : State} {g : Nat} (h : ¬ s.runs g) (f : State → State) : s.onEngine g f = s := by
  simp only [State.onEngine]; exact if_neg h

/-- A scalar operation of two s-registers on an engine that runs straight on. -/
theorem salu_straight {s : State} {g : Nat} (h : s.straight g) (rd ra rb : BitVec 4) (f : Word → Word → Word) :
    s.salu g rd ra rb f =
      s.stepped g ((s.en g).setS rd.toNat (f ((s.en g).sreg ra.toNat) ((s.en g).sreg rb.toNat))) := by
  rw [State.salu, onEngine_runs h.1, engDo_straight h (by simp) (by simp)]

theorem saluImm_straight {s : State} {g : Nat} (h : s.straight g) (rd ra : BitVec 4) (b : Word) (f : Word → Word → Word) :
    s.saluImm g rd ra b f = s.stepped g ((s.en g).setS rd.toNat (f ((s.en g).sreg ra.toNat) b)) := by
  rw [State.saluImm, onEngine_runs h.1, engDo_straight h (by simp) (by simp)]

/-- A lane operation on an engine that runs straight on. -/
theorem valu_straight {s : State} {g : Nat} (h : s.straight g) (vd va vb : BitVec 5) (pg : BitVec 3) {src : BitVec 2}
    {b : List Half} (hb : (s.en g).vsrc src vb = some b) (f : Half → Half → Half) :
    s.valu g vd va vb pg src f =
      s.stepped g ((s.en g).putV vd pg fun l => f (laneAt ((s.en g).vreg va.toNat) l) (laneAt b l)) := by
  simp only [State.valu, onEngine_runs h.1, hb]
  exact engDo_straight h (by simp) (by simp)

end Sys2Proof.Laws
end

