-- ==== Sys2Proof/Laws/Memory.lean ====
section
/-! SUPPORT. Every operation on a memory keeps its canonical form, and what it leaves as it was. -/

namespace Sys2Proof.Laws

open Sys2Proof Sys2Proof.Machine Sys2Proof.Machine.Reg

variable {s : State}

/-- A write of bytes keeps a memory's form. -/
theorem memory_wf_write {m : List (Nat × Byte)} (h : Memory.wf m) (a : Nat) (d : List Byte) : Memory.wf (Sparse.write 0 m a d) :=
  sparse_wf_write d a h

theorem memory_wf_nil : Memory.wf [] := ⟨List.Pairwise.nil, nofun⟩

/-! Registers. -/

theorem regsWf_setReg (h : s.regsWf) {off ix b : Nat} (w : Nat) (h4 : off % 4 = 0) (ho : off < 2 ^ 22) (hi : ix < 2 ^ 20) :
    (s.setReg off ix b w).regsWf := by
  have e : resetWord (regKey off ix b % 2 ^ 20 * 4) (regKey off ix b / 2 ^ 20 % 2 ^ 20) = resetWord off ix := by
    have h1 : regKey off ix b % 2 ^ 20 * 4 = off := by unfold regKey; omega
    have h2 : regKey off ix b / 2 ^ 20 % 2 ^ 20 = ix := by unfold regKey; omega
    rw [h1, h2]
  have := sparse_wf_set h (regKey off ix b) (BitVec.ofNat 32 w)
  rw [e] at this
  exact this

theorem memWf_setReg (off ix b w : Nat) : (s.setReg off ix b w).memWf ↔ s.memWf := Iff.rfl
theorem engWf_setReg (off ix b w : Nat) : (s.setReg off ix b w).engWf ↔ s.engWf := Iff.rfl
theorem memWf_emit (o : Out) : (s.emit o).memWf ↔ s.memWf := Iff.rfl

/-! The frame store. -/

theorem memWf_ppaStore (h : s.memWf) (a : Nat) (d : List Byte) : (s.ppaStore a d).memWf := by
  unfold State.ppaStore
  split
  · exact ⟨memory_wf_write h.1 a d, h.2⟩
  · exact h

/-- Counting units read by reconstruction changes the registers alone. -/
theorem countRecon_regs (s : State) (a n : Nat) : ∃ r, s.countRecon a n = { s with regs := r } := by
  unfold State.countRecon
  extract_lets whole k
  by_cases h : k = 0
  · exact ⟨s.regs, if_pos h⟩
  · exact ⟨(s.addSat FST_CNT_RECON_count 0 0 k).regs, if_neg h⟩

/-- What a fold of such steps changes is the registers alone. -/
theorem foldl_regs {α : Type} (f : State → α → State) (hf : ∀ s x, ∃ r, f s x = { s with regs := r }) (l : List α) :
    ∀ s : State, ∃ r, l.foldl f s = { s with regs := r } := by
  induction l with
  | nil => exact fun s => ⟨s.regs, rfl⟩
  | cons x l ih =>
    intro s
    obtain ⟨r, e⟩ := hf s x
    obtain ⟨q, k⟩ := ih (f s x)
    exact ⟨q, k.trans (by rw [e])⟩

/-- Counting a partial write changes the registers alone (R351, R361). -/
theorem countPart_regs (s : State) (k : Nat) (c : List (Nat × Nat)) : ∃ r, s.countPart k c = { s with regs := r } := by
  obtain ⟨r, e⟩ := foldl_regs (fun (s : State) j =>
    if c.any fun r => decide (r.1 ≤ j * 4096) && decide ((j + 1) * 4096 ≤ r.2) then s
    else s.countRecon (k * 20480 + j * 4096) 4096) (fun s j => by
      split
      · exact ⟨s.regs, rfl⟩
      · exact countRecon_regs s _ _) (List.range 5) (s.addSat FST_CNT_RMW_count 0 0 1)
  exact ⟨r, e⟩

/-- A write is its store, with the counts of its partial stripes (R351). -/
theorem ppaWrite_regs (s : State) (a : Nat) (d : List Byte) : ∃ r, s.ppaWrite a d = { s.ppaStore a d with regs := r } :=
  foldl_regs _ (fun s _ => countPart_regs s _ _) _ _

theorem memWf_ppaWrite (h : s.memWf) (a : Nat) (d : List Byte) : (s.ppaWrite a d).memWf := by
  obtain ⟨r, e⟩ := ppaWrite_regs s a d
  rw [e]
  exact memWf_ppaStore h a d

/-- A store changes the frame store alone, and there only the bytes it stores. -/
theorem ppaStore_frame (s : State) (a : Nat) (d : List Byte) : { s.ppaStore a d with fst := s.fst } = s := by
  unfold State.ppaStore
  split <;> rfl

theorem bytes_ppaStore_other (s : State) {a b n : Nat} {d : List Byte} (h : b + n ≤ a ∨ a + d.length ≤ b) :
    (s.ppaStore a d).bytes b n = s.bytes b n := by
  unfold State.ppaStore
  split
  · exact read_write_other 0 s.fst.mem a b n d h
  · rfl

theorem bytes_ppaStore_same {a : Nat} {d : List Byte} (h : s.storeUp = true) (hu : a + d.length ≤ s.usable) :
    (s.ppaStore a d).bytes a d.length = d := by
  unfold State.ppaStore
  rw [if_pos ⟨h, hu⟩]
  exact read_write_same 0 s.fst.mem a d

/-! Exchange RAM, host memory, record store. -/

/-- A store drives BCB_INT_N or leaves it, and puts its bytes. -/
theorem xramStore_cases (s : State) (a : Nat) (d : List Byte) :
    ∃ o : List Out, s.xramStore a d = { s with mem := { s.mem with xram := Sparse.write 0 s.mem.xram a d }, sent := o ++ s.sent } := by
  simp only [State.xramStore]
  split
  · exact ⟨[], rfl⟩
  · exact ⟨[_], rfl⟩

theorem memWf_xramStore (h : s.memWf) (a : Nat) (d : List Byte) : (s.xramStore a d).memWf := by
  obtain ⟨o, e⟩ := xramStore_cases s a d
  rw [e]
  exact ⟨h.1, memory_wf_write h.2.1 a d, h.2.2⟩

theorem memWf_toHost (h : s.memWf) (p a : Nat) (d : List Byte) : (s.toHost p a d).memWf :=
  ⟨h.1, h.2.1, h.2.2.1, h.2.2.2.1, memory_wf_write h.2.2.2.2 _ d⟩

theorem nvs_wf_begin {n : Nvs} (h : Memory.wf n.mem) (now : Ns) (ack ovf : Nat) : Memory.wf (nvsBegin now ack ovf n).mem :=
  memory_wf_write (memory_wf_write (memory_wf_write h _ _) _ _) _ _

theorem foldl_wf {α : Type} (f : List (Nat × Byte) → α → List (Nat × Byte)) (hf : ∀ m x, Memory.wf m → Memory.wf (f m x)) (l : List α) :
    ∀ m, Memory.wf m → Memory.wf (l.foldl f m) := by
  induction l with
  | nil => exact fun _ h => h
  | cons x l ih => exact fun m h => ih _ (hf m x h)

theorem nvs_wf_apply {m : List (Nat × Byte)} (h : Memory.wf m) (l : List GItem) : Memory.wf (nvsApply m l) :=
  memory_wf_write (foldl_wf _ (fun _ i hm => memory_wf_write hm i.off i.data) l m h) _ _

theorem nvs_wf_replayed {m : List (Nat × Byte)} (h : Memory.wf m) : Memory.wf (replayed m) :=
  memory_wf_write (foldl_wf _ (fun _ _ hm => memory_wf_write hm _ _) _ m h) _ _

theorem openBytes_keeps (n : Nat) : ∀ s : State, (State.openBytes n s).2 = { s with free := (State.openBytes n s).2.free } := by
  induction n with
  | zero => exact fun _ => rfl
  | succ n ih => exact fun s => (ih (s.draw 256).2).trans rfl

theorem memWf_spoilGranule (h : s.memWf) (off : Nat) : (s.spoilGranule off).memWf := by
  have e := openBytes_keeps 64 s
  unfold State.spoilGranule
  revert e
  generalize State.openBytes 64 s = x
  obtain ⟨d, t⟩ := x
  intro e
  have k : t.memWf := by
    rw [show t = _ from e]
    exact h
  exact ⟨k.1, k.2.1, memory_wf_write k.2.2.1 _ _, k.2.2.2⟩

/-! Engines. -/

theorem engWf_default : Eng.wf {} := ⟨memory_sorted_nil, nofun, memory_sorted_nil, nofun, memory_wf_nil⟩
where
  memory_sorted_nil {α : Type} {d : Nat → α} : Sparse.wf d [] := ⟨List.Pairwise.nil, nofun⟩

theorem en_wf (h : s.engWf) (g : Nat) : Eng.wf (s.en g) := by
  have key : ∀ l : List (Nat × Eng), (∀ x ∈ l, Eng.wf x.2) → Eng.wf (Sparse.get {} l g) := by
    intro l
    induction l with
    | nil => exact fun _ => engWf_default
    | cons e l ih =>
      intro hl
      unfold Sparse.get
      split
      · exact hl e (by simp)
      · exact ih fun x hx => hl x (by simp [hx])
  exact key _ h

theorem engWf_setEn (h : s.engWf) {e : Eng} (g : Nat) (he : Eng.wf e) : (s.setEn g e).engWf := by
  intro x hx
  unfold State.setEn at hx
  simp only [Sparse.set] at hx
  split at hx
  · exact h x (mem_erase hx).1
  · rcases mem_insert hx with rfl | hx
    · exact he
    · exact h x (mem_erase hx).1

theorem engWf_setCl (c : Nat) (x : Cluster) : (s.setCl c x).engWf ↔ s.engWf := Iff.rfl

theorem eng_wf_setS {e : Eng} (h : Eng.wf e) (n : Nat) (x : Word) : Eng.wf (e.setS n x) := by
  unfold Eng.setS
  split
  · exact h
  · rename_i hn
    refine ⟨sparse_wf_set h.1 n x, fun y hy => ?_, h.2.2⟩
    simp only [Sparse.set] at hy
    split at hy
    · exact h.2.1 y (mem_erase hy).1
    · rcases mem_insert hy with rfl | hy
      · exact hn
      · exact h.2.1 y (mem_erase hy).1

theorem eng_wf_setP {e : Eng} (h : Eng.wf e) (n : Nat) (x : Half) : Eng.wf (e.setP n x) := by
  unfold Eng.setP
  split
  · exact h
  · rename_i hn
    refine ⟨h.1, h.2.1, sparse_wf_set h.2.2.1 n x, fun y hy => ?_, h.2.2.2.2⟩
    simp only [Sparse.set] at hy
    split at hy
    · exact h.2.2.2.1 y (mem_erase hy).1
    · rcases mem_insert hy with rfl | hy
      · exact hn
      · exact h.2.2.2.1 y (mem_erase hy).1

theorem eng_wf_setV {e : Eng} (h : Eng.wf e) (n : Nat) (x : List Half) : Eng.wf (e.setV n x) := h
theorem eng_wf_setA {e : Eng} (h : Eng.wf e) (n : Nat) (x : List (BitVec 40)) : Eng.wf (e.setA n x) := h

theorem engWf_engWriteByte (h : s.engWf) (g a : Nat) (b : Byte) : (s.engWriteByte g a b).engWf := by
  have k := en_wf h g
  unfold State.engWriteByte
  split
  · exact engWf_setEn h g ⟨k.1, k.2.1, k.2.2.1, k.2.2.2.1, sparse_wf_set k.2.2.2.2 a b⟩
  · exact h

theorem engWf_engWrite (g : Nat) (d : List Byte) : ∀ {s : State} (a : Nat), s.engWf → (s.engWrite g a d).engWf := by
  induction d with
  | nil => exact fun _ h => h
  | cons b d ih => exact fun a h => ih (a + 1) (engWf_engWriteByte h g a b)

/-- A store by an engine changes its local memory or its cluster's memory, and nothing else. -/
theorem engWriteByte_frame (s : State) (g a : Nat) (b : Byte) :
    { s.engWriteByte g a b with eng := { (s.engWriteByte g a b).eng with engines := s.eng.engines, clusters := s.eng.clusters } } = s := by
  unfold State.engWriteByte
  split <;> rfl

theorem memWf_engWrite (g : Nat) (d : List Byte) : ∀ {s : State} (a : Nat), s.memWf → (s.engWrite g a d).memWf := by
  induction d with
  | nil => exact fun _ h => h
  | cons b d ih =>
    intro s a h
    refine ih (a + 1) ?_
    unfold State.engWriteByte
    split <;> exact h

/-! Waits. -/

/-- With no SQ stopped, nothing goes on. -/
theorem goOn_idle (h : s.hif.queues = []) : s.goOn = s := by
  simp [State.goOn, h, State.goOnN]

end Sys2Proof.Laws
end

