-- ==== Sys2Proof/Laws/Queues.lean ====
section
/-! SUPPORT. What a completion, an event and a record can change, each said once: the registers, the queues, the frame store of
a local ring, and what the part sends. -/

namespace Sys2Proof.Laws

open Sys2Proof Sys2Proof.Machine Sys2Proof.Machine.Reg

/-- `t` differs from `s` in the registers, the host interface, the frame store and the output alone. -/
def recordsOnly (s t : State) : Prop := { t with regs := s.regs, hif := s.hif, fst := s.fst, sent := s.sent } = s

namespace recordsOnly

theorem refl (s : State) : recordsOnly s s := rfl

theorem trans {s t u : State} (h : recordsOnly s t) (k : recordsOnly t u) : recordsOnly s u := by
  have e : ({ u with regs := s.regs, hif := s.hif, fst := s.fst, sent := s.sent } : State) =
      { ({ u with regs := t.regs, hif := t.hif, fst := t.fst, sent := t.sent } : State) with
        regs := s.regs, hif := s.hif, fst := s.fst, sent := s.sent } := rfl
  exact e.trans ((congrArg (fun x : State =>
    ({ x with regs := s.regs, hif := s.hif, fst := s.fst, sent := s.sent } : State)) k).trans h)

theorem foldl {α : Type} (f : State → α → State) (hf : ∀ s x, recordsOnly s (f s x)) (l : List α) : ∀ s, recordsOnly s (l.foldl f s) := by
  induction l with
  | nil => exact refl
  | cons x l ih => exact fun s => (hf s x).trans (ih _)

end recordsOnly

theorem regs_recordsOnly (s : State) (r : List (Nat × Word)) : recordsOnly s { s with regs := r } := rfl
theorem hif_recordsOnly (s : State) (h : Hif) : recordsOnly s { s with hif := h } := rfl
theorem fst_recordsOnly (s : State) (f : Fst) : recordsOnly s { s with fst := f } := rfl
theorem emit_recordsOnly (s : State) (o : Out) : recordsOnly s (s.emit o) := rfl
theorem setReg_recordsOnly (s : State) (off ix b w : Nat) : recordsOnly s (s.setReg off ix b w) := regs_recordsOnly s _
theorem setFldAt_recordsOnly (s : State) (f : Fld) (ix b v : Nat) : recordsOnly s (s.setFldAt f ix b v) := setReg_recordsOnly s _ _ _ _
theorem setFldP_recordsOnly (s : State) (f : Fld) (p v : Nat) : recordsOnly s (s.setFldP f p v) := setFldAt_recordsOnly s f 0 p v
theorem addSat_recordsOnly (s : State) (f : Fld) (ix b n : Nat) : recordsOnly s (s.addSat f ix b n) := setFldAt_recordsOnly s f ix b _
theorem setQueue_recordsOnly (s : State) (g : Nat) (q : Queue) : recordsOnly s (s.setQueue g q) := hif_recordsOnly s _
theorem qDrop_recordsOnly (s : State) (g n : Nat) : recordsOnly s (s.qDrop g n) := setQueue_recordsOnly s g _
theorem qError_recordsOnly (s : State) (p g c : Nat) : recordsOnly s (s.qError p g c) :=
  (setQueue_recordsOnly s g _).trans (setFldP_recordsOnly _ _ p 1)

theorem ppaStore_recordsOnly (s : State) (a : Nat) (d : List Byte) : recordsOnly s (s.ppaStore a d) := by
  unfold State.ppaStore
  split
  · exact fst_recordsOnly s _
  · exact .refl s

theorem ppaWrite_recordsOnly (s : State) (a : Nat) (d : List Byte) : recordsOnly s (s.ppaWrite a d) := by
  obtain ⟨r, e⟩ := ppaWrite_regs s a d
  rw [e]
  exact (ppaStore_recordsOnly s a d).trans (regs_recordsOnly _ r)

theorem msixDue_recordsOnly (s : State) (p g : Nat) : recordsOnly s (s.msixDue p g) := by
  unfold State.msixDue
  extract_lets vec q t
  have h : recordsOnly s t := setQueue_recordsOnly s g _
  split
  · exact h.trans (hif_recordsOnly t _)
  · exact h.trans (emit_recordsOnly t _)

theorem announce_recordsOnly (s : State) (p g : Nat) : recordsOnly s (s.announce p g) := by
  have k (q : Queue) : recordsOnly s ((s.setQueue g q).msixDue p g) :=
    (setQueue_recordsOnly s g q).trans (msixDue_recordsOnly _ p g)
  unfold State.announce
  split
  · extract_lets q q' t
    split
    · exact setQueue_recordsOnly s g q'
    · split
      · exact k q'
      · exact setQueue_recordsOnly s g q'
  · exact .refl s

theorem writeRecord_recordsOnly (s : State) (p g a b c d : Nat) : recordsOnly s (s.writeRecord p g a b c d) := by
  unfold State.writeRecord
  extract_lets q phase at_ next bytes t u h v w x
  split
  · split
    · exact ((ppaWrite_recordsOnly s at_ bytes).trans (setQueue_recordsOnly t g _)).trans (ppaWrite_recordsOnly u _ _)
    · exact qError_recordsOnly s p g 3
  · exact ((((hif_recordsOnly s _).trans (emit_recordsOnly v _)).trans (emit_recordsOnly w _)).trans
      (setQueue_recordsOnly x g _)).trans (announce_recordsOnly _ p g)

theorem postCpl_recordsOnly (s : State) (c : Cpl) : recordsOnly s (s.postCpl c) := by
  unfold State.postCpl
  split
  · exact .refl s
  · split
    · exact qDrop_recordsOnly s _ 1
    · split
      · exact hif_recordsOnly s _
      · exact writeRecord_recordsOnly ..

/-- A completion (R332 to R336). -/
theorem done_recordsOnly (s : State) (r : Req) (st : Nat) : recordsOnly s (s.done r st) := by
  unfold State.done State.complete
  split
  · exact .refl s
  · exact postCpl_recordsOnly s _

theorem doneAll_recordsOnly (s : State) (rs : List Req) (st : Nat) : recordsOnly s (s.doneAll rs st) :=
  recordsOnly.foldl _ (fun s r => done_recordsOnly s r st) rs s

theorem offer_recordsOnly (s : State) (code cls arg tb p : Nat) : recordsOnly s (s.offer code cls arg tb p) := by
  unfold State.offer
  extract_lets k
  split
  · exact .refl s
  · split
    · exact .refl s
    · split
      · exact .refl s
      · split
        · exact ((qDrop_recordsOnly s _ 1).trans (setFldP_recordsOnly _ _ p 1)).trans (setQueue_recordsOnly _ _ _)
        · exact writeRecord_recordsOnly ..

/-- An event (R337 to R341). -/
theorem postAt_recordsOnly (s : State) (code cls arg tb : Nat) (ps : List Nat) : recordsOnly s (s.postAt code cls arg tb ps) :=
  recordsOnly.foldl _ (fun s p => offer_recordsOnly s code cls _ tb p) _ s

theorem raise_recordsOnly (s : State) (code cls arg : Nat) : recordsOnly s (s.raise code cls arg) := postAt_recordsOnly ..

/-- A completion with status OK of a descriptor that asks for none changes nothing (R334). -/
theorem done_silent (s : State) {r : Req} (h : r.h.flags.getLsbD 2 = false) : s.done r OK = s := by
  unfold State.done State.complete
  exact if_pos ⟨rfl, h⟩

end Sys2Proof.Laws
end

