-- ==== Sys2Proof/Laws/Registers.lean ====
section
/-! SUPPORT. Registers: reads after writes of words and fields, and what a BAR0 write that nothing denies does. -/

namespace Sys2Proof.Laws

open Sys2Proof Sys2Proof.Machine Sys2Proof.Machine.Reg

/-- Keys of registers differ where offset, object or bank differ. -/
theorem regKey_inj {a b i j m n : Nat} (ha : a % 4 = 0) (hb : b % 4 = 0) (ha' : a < 2 ^ 22) (hb' : b < 2 ^ 22)
    (hi : i < 2 ^ 20) (hj : j < 2 ^ 20) (h : regKey a i m = regKey b j n) : a = b ∧ i = j ∧ m = n := by
  unfold regKey at h
  omega

@[simp] theorem reg_setReg_same (s : State) (off ix b w : Nat) : (s.setReg off ix b w).reg off ix b = w % 2 ^ 32 := by
  simp [State.reg, State.setReg, BitVec.toNat_ofNat]

theorem reg_setReg_other (s : State) {off ix b off' ix' b' : Nat} (w : Nat) (h : regKey off' ix' b' ≠ regKey off ix b) :
    (s.setReg off ix b w).reg off' ix' b' = s.reg off' ix' b' := by
  simp [State.reg, State.setReg, sparse_get_set_other _ _ _ _ h]

@[simp] theorem setReg_setReg (s : State) (off ix b w v : Nat) :
    (s.setReg off ix b w).setReg off ix b v = s.setReg off ix b v := by
  simp [State.setReg]

theorem reg_lt (s : State) (off ix b : Nat) : s.reg off ix b < 2 ^ 32 := BitVec.isLt _

/-- A write changes the register file alone. -/
theorem setReg_frame (s : State) (off ix b w : Nat) : { s.setReg off ix b w with regs := s.regs } = s := rfl

theorem get_setReg_other (s : State) {off ix b k : Nat} (w : Nat) (d : Word) (h : k ≠ regKey off ix b) :
    Sparse.get d (s.setReg off ix b w).regs k = Sparse.get d s.regs k := by
  simp [State.setReg, sparse_get_set_other _ _ _ _ h]

/-- A 4-byte write outside the windows reaches one register. -/
theorem bar0Write_word {s : State} {p off : Nat} (v : Nat) (hr : s.reachable p = true) (h1 : inWin off = false)
    (h2 : inMsix off = false) (h3 : inPba off = false) (h4 : off % 4 = 0) :
    s.bar0Write p off 4 v = (s.barWord p off (v % 2 ^ 32)).goOn := by
  simp [State.bar0Write, State.bar0, hr, h1, h2, h3, h4]

/-- A write that no cause denies reaches the register of the object selected. -/
theorem barWord_accept {s : State} {p off ix : Nat} {d : RegDesc} (w : Nat) (hd : regAt off = some d)
    (hs : s.selected p d.ix = some ix) (hp : s.partOn p = true) (hg : s.granted p (scopeFor d ix) = true)
    (hf : s.foreign p d ix = false) (hl : s.locked = false) : s.barWord p off w = s.acceptWrite p d off ix w := by
  simp [State.barWord, hd, State.denyCause, hs, hp, hg, hf, hl]

/-- The OWNER's 4-byte write to a register that is not indexed. -/
theorem owner_write {s : State} {p off : Nat} {d : RegDesc} (v : Nat) (h : s.ownerUp p) (h1 : inWin off = false)
    (h2 : inMsix off = false) (h3 : inPba off = false) (h4 : off % 4 = 0) (hd : regAt off = some d) (hi : d.ix = .none)
    (ho : d.scope ≠ .safety) : s.bar0Write p off 4 v = (s.acceptWrite p d off 0 (v % 2 ^ 32)).goOn := by
  obtain ⟨⟨hr, hp⟩, rfl, hl⟩ := h
  rw [bar0Write_word v hr h1 h2 h3 h4]
  refine congrArg State.goOn (barWord_accept _ hd (by rw [hi]; rfl) hp ?_ ?_ hl)
  · have : scopeFor d 0 = d.scope := by simp [scopeFor]
    rw [this]
    cases hs : d.scope <;> simp_all [State.granted]
  · simp [State.foreign, hi]

end Sys2Proof.Laws
end

