-- ==== Sys2Proof/Tests/Slice0.lean ====
section
/-! SUPPORT. The model's own tests: ill-formed commands that the checks refuse, words and values written out from the spec, and
for every statement with hypotheses a state and operands that meet them (witness_<statement>), clause by clause. -/

namespace Sys2Proof.Tests

set_option Elab.async false

open Sys2Proof Sys2Proof.Machine Sys2Proof.Machine.Reg

/-! States to start from. -/

/-- The part after a start-up without a boot configuration: released, P0 the OWNER, every partition on. -/
def up : State := { State.reset with inReset := false, hif := { State.reset.hif with released := true } }

/-- P0's and P1's local queue 0 an enabled SQ, 1 an enabled CQ and 2 an enabled EQ. -/
def queued : State :=
  [0, 4096].foldl (fun s g => (((((s.setFldI HIF_Q_CFG_en g 1).setFldI HIF_Q_CFG_en (g + 1) 1).setFldI HIF_Q_CFG_kind (g + 1) 1).setFldI
    HIF_Q_CFG_en (g + 2) 1).setFldI HIF_Q_CFG_kind (g + 2) 2)) up

/-- A header of partition p's SQ 0 that names its CQ 1. -/
def hdr (p : Nat) : Hdr := ⟨p, 0, 0, 7, 1, 0, 0, 0, true⟩

/-- In a mode. -/
def inMode (m : Nat) (s : State) : State := s.setFld MOD_STATUS_cur_mode m

/-- A request of P0. -/
def req0 : Req := ⟨hdr 0, 0, 0⟩

/-- An engine that runs. -/
def running (g : Nat) (s : State) : State := s.setEn g { s.en g with st := 1 }

theorem witness_takes : queued.takes (hdr 0) 0 ∧ queued.takes (hdr 1) 4096 ∧ plainHdr (hdr 0) ∧ up.ownerUp 0 ∧ up.hostUp 3 ∧
    (hdr 0).part = queued.owner ∧ (hdr 1).part ≠ queued.owner := by decide +kernel

/-! The checks of WellFormed, each with a command that it refuses. -/

theorem test_wf_partition : (Instr.configRequest 4).wf = false ∧ (Instr.configRequest 3).wf = true := by decide
theorem test_wf_access : (Instr.registerWrite 0 0 3 0).wf = false ∧ (Instr.registerWrite 0 0 4 0).wf = true := by decide
theorem test_wf_header : (Instr.nop { hdr 0 with sq := 16384 }).wf = false ∧ (Instr.nop (hdr 4)).wf = false ∧
    (Instr.nop (hdr 3)).wf = true := by decide
theorem test_wf_numbers : (Instr.portEnable 0 8 0).wf = false ∧ (Instr.portRebuild 0 6 0).wf = false ∧
    (Instr.regionEnableWrite 0 64 0).wf = false ∧ (Instr.hifQallocWrite 0 4 0).wf = false ∧ (Instr.msixUnmask 0 2048).wf = false ∧
    (Instr.shutterInEdge 4 ⟨true, 0⟩ 0).wf = false ∧ (Instr.deskewRetry 8).wf = false ∧ (Instr.lineSlot 32).wf = false := by decide
theorem test_wf_lane : (Instr.rxSymbol 264 ⟨0, 0⟩ [0, 0, 0, 0, 0, 0]).wf = false ∧
    (Instr.rxSymbol 0 ⟨0, 0⟩ []).wf = false ∧ (Instr.rxSymbol 263 ⟨0, 0⟩ [0, 0, 0, 0, 0, 0]).wf = true ∧
    (Instr.block ⟨8, 0, List.replicate 64 .bad, 0⟩).wf = false ∧ (Instr.block ⟨7, 7, List.replicate 63 .bad, 0⟩).wf = false ∧
    (Instr.block ⟨7, 7, List.replicate 64 .bad, 0⟩).wf = true := by decide
theorem test_wf_entry : (Instr.sqFetch 0 0 (some (List.replicate 63 0)) none).wf = false ∧
    (Instr.sqFetch 0 0 (some (List.replicate 64 0)) none).wf = true := by decide
theorem test_wf_packet : (Instr.pixel ⟨0, [], [], [], false, false, false, false⟩).wf = false ∧
    (Instr.pixel ⟨8, List.replicate 8 0, [], List.replicate 4 0, false, false, false, false⟩).wf = false ∧
    (Instr.pixel ⟨7, List.replicate 8 0, [], List.replicate 4 0, false, false, false, false⟩).wf = true := by decide
theorem test_wf_engine : (Instr.saluAdd 544 1 2 3).wf = false ∧ (Instr.br 0 1 2 6 0).wf = false ∧
    (Instr.vcmp 0 1 2 3 0 0 10).wf = false ∧ (Instr.valuAdd 0 1 2 16 0 1).wf = false ∧ (Instr.vredAdd 0 16 0 0 0).wf = false ∧
    (Instr.vld 0 1 2 3 4 (some ⟨594, 0, 0, false⟩)).wf = false ∧ (Instr.saluAdd 543 1 2 3).wf = true := by decide
theorem test_wf_context : (Instr.streamUnbind (hdr 0) 1024).wf = false ∧ (Instr.streamUnbind (hdr 0) 1023).wf = true := by decide

/-! Timebase. -/

/-- TB 0xD55 ns below a second, and SYNC_IN chosen with the DPLL in ACQUIRE after an edge at 1,000 ns, every 1,000,000 ns. -/
def locking : State :=
  let s := (((up.setFld TBS_CTRL_src 1).setFld TBS_CTRL_dpll_en 1).setFld TBS_DPLL_STATUS_state 1).setFld TBS_SYNC_PERIOD_period 1000000
  { s with tbs := { s.tbs with fresh := false, lastEdge := some 1000 } }

/-- SHUTTER with every input's view in slot 0 and input 1 enabled. -/
def shuttering : State := inMode 4 ((up.setFld TBS_SHUT_CFG_en 2).setFld TBS_SHUT_TOL_tol 65535)

theorem witness_TimebaseTickLoadAndSnapshot :
    (up.ownerUp 0 ∧ up.mode = 10 ∧ up.tbs.armed = []) ∧ ((inMode 0 up).ownerUp 0 ∧ (inMode 0 up).mode ≠ 10) ∧ up.hostUp 3 ∧
    (up.pending = [] ∧ up.inReset = false ∧ up.pwr.deep < 6) ∧ (State.reset.pending = [] ∧ State.reset.inReset = true) ∧
    (let s : State := { up with pwr := { up.pwr with deep := 6 } }; s.pending = [] ∧ 6 ≤ s.pwr.deep) ∧
    (up.fld TBS_DPLL_STATUS_state = 0 ∧ up.fld TBS_CTRL_src ≠ 2 ∧ up.tbs.slewLeft = 0) := by decide +kernel

/-- R46: without corrections INC is 0xD5555555 units of 2^-32 ns, one ECLK cycle of 1.2 GHz. -/
theorem test_inc : up.inc = 0xD5555555 := by decide +kernel

theorem witness_SyncAndShutterEdges :
    ((true = (up.fld TBS_CTRL_sync_edge == 1)) ∨ (false = (up.fld TBS_CTRL_sync_edge == 1))) ∧
    (let s := locking
     50 ≤ 50 ∧ ((true = !(s.fld TBS_CTRL_sync_edge == 1)) ∨ (false = !(s.fld TBS_CTRL_sync_edge == 1))) ∧ s.dpllInput = 0 ∧ s.fld TBS_CTRL_src = 1 ∧ s.fld TBS_CTRL_dpll_en = 1 ∧ s.fld TBS_DPLL_STATUS_state = 1 ∧
       s.tbs.fresh = false ∧ s.tbs.lastEdge = some 1000 ∧ s.tbs.slewLeft = 0 ∧ s.fld TBS_OUT_CFG_sel ≠ 2 ∧ 0 < s.period16 ∧
       s.tbs.lockRun < 15 ∧
       (let d : Int := ((1001000 : Int) - 1000) * 65536
        let k := (2 * d + s.period16) / (2 * s.period16)
        let e := d - k * s.period16
        1 ≤ k ∧ e.natAbs ≤ s.fld TBS_DPLL_CFG_window * 1000 * 65536)) ∧
    (locking.fld TBS_CTRL_src = 1 ∧ locking.tbs.fresh = false ∧ locking.tbs.slewLeft = 0 ∧ locking.fld TBS_DPLL_STATUS_state ≠ 2) ∧
    (let s := shuttering
     s.mode = 4 ∧ s.shutEn 1 = true ∧ s.dpllInput ≠ 1 + 1 ∧ (s.shutErr 1 0).natAbs ≤ s.fld TBS_SHUT_TOL_tol * 10 ∧
       true = (!(s.fld TBS_SHUT_CFG_edge).testBit 1) ∧ false = (s.fld TBS_SHUT_CFG_edge).testBit 1 ∧
       (s.shutter 1).inRun < 15 ∧ s.shutJudged 1 ((0 : Int) - s.shutErr 1 0) = false ∧
       (s.fld TBS_SHUT_STATUS_locked).testBit 1 = false) := by
  decide +kernel

theorem witness_SyncOutAndSlew :
    (up.setFld TBS_OUT_CFG_sel 3).fld TBS_OUT_CFG_sel = 3 ∧
    (let s : State := { up.setFld TBS_OUT_CFG_sel 2 with tbs := { up.tbs with outDue := [5] } }
     s.fld TBS_OUT_CFG_sel = 2 ∧ s.tbs.outDue = 5 :: []) ∧
    (let s : State := { up with tbs := { up.tbs with slewLeft := -1 } }; s.tbs.slewLeft ≠ 0) := by decide +kernel

/-- A MARK of P0 armed for TB 100. -/
def armed : State := queued.setArmed [⟨req0, .milestone 6 0 0, 100⟩]

theorem witness_MilestoneActions :
    (1023 / 1024 = (hdr 0).part ∧ 1024 / 1024 = (hdr 1).part) ∧ (armed.takes (hdr 0) 0 ∧ plainHdr (hdr 0)) ∧
    (∀ c < 32, (1 : Word).getLsbD c = true → armed.clOwner c = (hdr 0).part) ∧ armed.portOwner (1023 / 128) = (hdr 0).part ∧
    (armed.tbs.armed.find? fun x => x.req.h.part == 0 && x.req.h.cq == 1 && x.req.h.tag == 7 && decide (armed.now < x.launch)) =
      some ⟨req0, .milestone 6 0 0, 100⟩ ∧
    (∀ x ∈ armed.tbs.armed, x.req.h.part = 0 → x.req.h.cq = 1 → x.req.h.tag = 8 → x.launch ≤ armed.now) := by decide +kernel

theorem witness_MilestonesArmAndFireInOrder :
    (let h : Hdr := { hdr 0 with launch := 200 }
     armed.takes h 0 ∧ plainHdr { h with launch := 0 } ∧ h.launch ≠ 0 ∧ ¬h.launch.toNat ≤ armed.now ∧
       ¬8 * (armed.reg TBS_MS_QUOTA 0 0 / 256 ^ h.part % 256) ≤ 1) ∧
    armed.tbs.armed ≠ [] ∧ armed.pwr.deep < 5 := by decide +kernel

/-! Lanes and streams. -/

theorem witness_LaneSymbolsAndIdle :
    (up.rxOn 0 = true ∧ up.fldI LNK_RX_CFG_rx_inv 0 = 0 ∧ (up.lane 0).st = 0) ∧
    (let s := up.setLane 0 { up.lane 0 with st := 1, raw := some 0 }
     s.rxOn 0 = true ∧ (s.lane 0).st = 1 ∧ findComma (s.lane 0).raw 0x17C = some 10 ∧ findComma (s.lane 0).raw 0 = none) ∧
    (let s := up.setLane 0 { up.lane 0 with st := 2, commas := 2, raw := some 0 }
     (s.lane 0).st = 2 ∧ groupAt ((s.lane 0).raw.getD 0) 0x17C (s.lane 0).align = 0x17C ∧ classify (s.lane 0).rdPos 0 ≠ 0 ∧
       classify (s.lane 0).rdPos 0x17C = 0 ∧ isComma 0x17C = true ∧ (s.lane 0).commas = 2) ∧
    (let s := up.setLane 0 { up.lane 0 with st := 3, bc := 2, good := 15 }
     (s.lane 0).st = 3 ∧ (s.lane 0).bc < 3 ∧ (s.lane 0).bc < 4 ∧ ¬(isK283 0 = true ∧ (s.lane 0).k283 = 1) ∧
       classify (s.lane 0).rdPos 0 ≠ 0) ∧
    (let s := up.setLane 0 { up.lane 0 with st := 3, bc := 3 }; (s.lane 0).bc = 3 ∧ (s.lane 0).bc < 4) ∧
    (let s := up.setLane 0 { up.lane 0 with st := 3, k283 := 1 }
     (s.lane 0).k283 = 1 ∧ isK283 0x33C = true ∧ classify (s.lane 0).rdPos 0x33C = 0) ∧
    (¬(0 < 64 ∧ 0 % 8 = 0 ∧ (up.port (0 / 8)).st = 4) ∧ up.rxOn 263 = true ∧ (up.lane 263).st = 0) ∧
    (let s := up.setLane 63 { up.lane 63 with st := 1, sdAt := some 5 }
     s.rxOn 63 = true ∧ (s.lane 63).sdAt = some 5 ∧ (s.lane 63).st = 1 ∧ 63 < 64) ∧ (up.lane 0).sdAt = none ∧
    (let s := up.setDom 6 { up.dom 6 with st := 1 }; s.domOn (laneDomain 0) = false ∧ s.pwr.deep = 0) ∧
    (let s := up.setLane 64 { up.lane 64 with txHeldExit := some 256 }
     isTx 64 = true ∧ (s.lane 64).txIdle = true ∧ (s.lane 64).txHeldExit = some 256) ∧
    (isRx 0 = true ∧ (up.lane 0).eq = [] ∧ (up.lane 0).winErr ≤ up.fld LNK_DEG_CFG_thr) ∧
    (let s := (up.setFld LNK_DEG_CFG_en 1).setLane 0 { up.lane 0 with winErr := 70000 }
     s.fld LNK_DEG_CFG_thr < (s.lane 0).winErr ∧ s.fld LNK_DEG_CFG_en = 1 ∧ (s.lane 0).degPost.getD 0 none = none) := by
  decide +kernel

theorem witness_LaneAndStreamCounterClears :
    up.ownerUp 0 ∧ up.fldP LNK_SEL_lane 0 < 264 ∧ up.hostUp 0 ∧ up.portOwner (up.fldP MSP_STREAM_SEL_ctx 0 / 128) = 0 := by
  decide +kernel

/-- Port 0 in a state, with the lanes 0 and 1 (or 0 alone) active, of which lane 0 is at `b`. -/
def porting (st w : Nat) (b : BlkLane) : State :=
  (up.setLane 0 { up.lane 0 with st := 3 }).setPort 0 (({ ({} : Port) with st := st, width := w, actW := w }).setLane 0 b)

/-- A block of lane 0 with a number. -/
def block0 (q : Byte) : Block := ⟨0, 0, .ctl k281 :: .data q :: List.replicate 62 (.data 0), 9⟩

/-- What the block's clauses ask of a state, the block's lane at `st` with `y.expect` 5. -/
abbrev blockable (s : State) : Prop :=
  (block0 5).port < 8 ∧ s.domOn (6 + (block0 5).port) = true ∧ (s.lane 0).st = 3 ∧
    (block0 5).syms = .ctl k281 :: .data 5 :: List.replicate 62 (.data 0) ∧ (List.replicate 62 (Sym.data 0)).length = 62 ∧
    Sym.ctl k280 ∉ List.replicate 62 (Sym.data 0) ∧ Sym.ctl k281 ∉ List.replicate 62 (Sym.data 0)

theorem witness_PortStates :
    (up.ownerUp 0 ∧ (0x000A00F1 : Word).toNat &&& 0x00FF8CF1 = (0x000A00F1 : Word).toNat ∧ up.fld (MSP_PORT_CFG_en 7) = 0 ∧
       (0x000A00F1 : Word).getLsbD 0 = true ∧ up.reg (MSP_PORT_CFG 7) 0 0 &&& 0x00FF8CF1 = up.reg (MSP_PORT_CFG 7) 0 0) ∧
    (let s := up.setFld (MSP_PORT_CFG_en 0) 1
     s.ownerUp 0 ∧ s.fld (MSP_PORT_CFG_en 0) = 1 ∧ (0xF0 : Word).getLsbD 0 = false ∧ (0xF0 : Word).toNat &&& 0x00FF8CF1 = (0xF0 : Word).toNat ∧
       s.reg (MSP_PORT_CFG 0) 0 0 &&& 0x00FF8CF1 = s.reg (MSP_PORT_CFG 0) 0 0) := by decide +kernel

theorem witness_PortStates_blocks :
    (∀ b ∈ ([{}, { st := 1, expect := 5, run := 31 }, { st := 1, expect := 6 }, { st := 2, expect := 6, hist := List.replicate 7 false },
         { st := 2, expect := 6, hist := List.replicate 6 false }] : List BlkLane),
       (blockable (porting 1 1 b) ∧ ((porting 1 1 b).port 0).st = 1 ∧
         ((porting 1 1 b).port 0).active.any (fun j => j != 0 && !((porting 1 1 b).port 0).locked j) = true ∧
         (b.st = 0 ∨ b.pos = 0) ∧ b.expect < 256 ∧ b.st ≤ 2)) ∧
    (let s := (porting 3 0 { st := 2, expect := 5 }).setPort 0 { (porting 3 0 { st := 2, expect := 5 }).port 0 with statusArg := some 8193 }
     blockable s ∧ (s.port 0).st = 3 ∧ (s.port 0).active = [0] ∧ (s.port 0).idleLanes = [] ∧ (s.port 0).statusArg = some (s.port 0).arg ∧
       ((s.port 0).lane 0).st = 2 ∧ ((s.port 0).lane 0).pos = 0 ∧ ((s.port 0).lane 0).rows = [] ∧ ((s.port 0).lane 0).expect = 5 ∧
       (((true :: ((s.port 0).lane 0).hist).take 64).filter (!·)).length < 8) := by decide +kernel

theorem witness_PortStates_timers :
    (∀ t ∈ [48, 49], let s := up.setPort 0 { ({} : Port) with
       st := 2, actW := 1, waiting := true,
       blk := [(0, { ({} : BlkLane) with st := 2, arrival := 0 }), (1, { ({} : BlkLane) with st := 2, arrival := t })] }
     (s.port 0).st = 2 ∧ (s.port 0).waiting = true ∧ (s.port 0).skewNow = t) ∧
    (let s := up.setPort 0 { ({} : Port) with st := 1, wokeAt := some 5 }; (s.port 0).wokeAt = some 5 ∧ (s.port 0).st = 1) ∧
    (let s := (up.setLane 64 { up.lane 64 with txIdle := false }).setPort 0 { ({} : Port) with st := 3 }
     1 ≤ (s.port 0).st ∧ (s.port 0).st ≤ 3 ∧ s.revOn 0 = true) := by decide +kernel

/-- Port 0 of two lanes in TRAIN with fallback, lane 1 alone in LOCK. -/
def narrowing : State := (up.setFld (MSP_PORT_CFG_fallback 0) 1).setPort 0 { ({} : Port) with
  st := 1, width := 1, actW := 1, blk := [(1, { ({} : BlkLane) with st := 2 })] }

theorem witness_PortStates_fallback : let s := narrowing
    let x := s.port 0
    let ok (w f : Nat) : Prop := w < x.actW ∧ f % 2 ^ w = 0 ∧ f + 2 ^ w ≤ 2 ^ x.width ∧ ∀ i < 2 ^ w, x.locked (f + i) = true
    x.st = 1 ∧ s.fld (MSP_PORT_CFG_fallback 0) = 1 ∧ x.width ≤ 3 ∧ ok 0 1 ∧ ∀ w f, ok w f → w < 0 ∨ (w = 0 ∧ 1 ≤ f) := by
  refine ⟨by decide +kernel, by decide +kernel, by decide +kernel, by decide +kernel, ?_⟩
  intro w f h
  have hw : w < 1 := h.1
  obtain rfl : w = 0 := by omega
  refine Or.inr ⟨rfl, ?_⟩
  match f with
  | 0 => exact absurd (h.2.2.2 0 (by decide)) (by decide +kernel)
  | n + 1 => omega

/-- A packet of stream 0 with type `t`, argument `a` and body: the header's CRC is that of its first 7 bytes. -/
def packet (t a : Nat) (body : List Byte) : Packet :=
  let h := leBytes 1 t ++ [0] ++ leBytes 2 body.length ++ leBytes 3 a
  ⟨0, h ++ leBytes 1 (crc8 h), body, leBytes 4 (crc32c body), false, false, false, false⟩

/-- Stream 0 of a port that is UP, bound to a layer's plane (target 1) or elsewhere, with `n` credits. -/
def streaming (target n : Nat) (open_ : Bool) (line : Nat) : State :=
  (up.setPort 0 { ({} : Port) with st := 3 }).setStream 0 { ({} : Stream) with
    bound := true, b := ⟨0, target, 0, 0, 1, 0, 16, 1, 1, false⟩, cl := BitVec.ofNat 24 n, inFrame := open_, line := line, seq := 15 }

theorem witness_StreamPackets :
    (let s := streaming 1 1 true 0
     let k := packet 1 0 (List.replicate 48 0)
     let x := s.stream 0
     k.port < 8 ∧ (s.port k.port).st = 3 ∧ pktHdrOk k = true ∧ pktWhole k = true ∧ pktCtx k = 0 ∧ x.bound = true ∧ x.queue = [] ∧
       (pktLen k + 511) / 512 ≤ x.avail ∧ pktType k = 1 ∧ x.inFrame = true ∧ pktArg k % 16384 = x.line ∧ x.line < x.ph ∧ 0 < x.pw ∧
       segSamples x.fmt.sample x.pw 0 (pktLen k) = some 16 ∧ k.symBad = false ∧ crc32c k.body = leNat k.crc) ∧
    (let s := streaming 2 1 false 0
     let k := packet 2 5 []
     pktHdrOk k = true ∧ pktWhole k = true ∧ pktType k = 2 ∧ (s.stream 0).inFrame = false ∧ (s.stream 0).rebind = none ∧
       (s.stream 0).b.target = 2 ∧ (pktLen k + 511) / 512 ≤ (s.stream 0).avail) ∧
    (let s := (streaming 1 1 false 0).setSlot 0 2 { ({} : Slot) with st := 1, frame := 5 }
     let k := packet 2 5 []
     (s.stream 0).b.target = 1 ∧ s.slotIn 0 1 = some 2 ∧ (s.slot 0 2).frame = pktArg k ∧ 0 ∉ (s.slot 0 2).doneBy) ∧
    (let s := streaming 2 1 true 1
     let k := packet 3 0 []
     pktHdrOk k = true ∧ pktWhole k = true ∧ pktType k = 3 ∧ (s.stream 0).inFrame = true ∧ (s.stream 0).bad = false ∧
       pktSeq k = ((s.stream 0).seq + 1) % 16 ∧ pktArg k = (s.stream 0).frameNo ∧ (s.stream 0).ph ≤ (s.stream 0).line) ∧
    (let s := streaming 2 1 true 0
     let k := packet 4 0 [1, 2, 3, 4]
     pktHdrOk k = true ∧ pktWhole k = true ∧ pktType k = 4 ∧ (s.stream 0).inFrame = true ∧ crc32c k.body = leNat k.crc ∧
       (pktLen k + 511) / 512 ≤ (s.stream 0).avail) ∧
    (let s := (streaming 1 0 true 0).setStream 0 { (streaming 1 0 true 0).stream 0 with violFrame := some 0 }
     (s.stream 0).avail < 1 ∧ (s.stream 0).violFrame = some s.frame) := by decide +kernel

theorem witness_CreditsAndBinds :
    (let s := up.setStream 0 { ({} : Stream) with bound := true, buffered := 1 }
     (s.stream 0).bound = true ∧ 1 + s.waitingCredits 0 ≤ (s.stream 0).buffered) ∧
    (let s := ((up.setLane 64 { up.lane 64 with txIdle := false }).setPort 0 { ({} : Port) with st := 3 }).setStream 0 { ({} : Stream) with bound := true, accrued := 1 }
     (s.stream 0).bound = true ∧ (s.stream 0).accrued ≠ 0 ∧ (s.stream 0).gated = false ∧ (s.stream 0).held = false ∧
       (s.stream 0).slotHeld = false ∧ (s.stream 0).grantDue = false ∧ (s.port (0 / 128)).st = 3 ∧ s.revOn (0 / 128) = true) ∧
    (queued.portOwner (1023 / 128) = (hdr 0).part ∧ queued.portOwner (1023 / 128) ≠ (hdr 1).part) := by decide +kernel

/-! The picture's tables, layers, commits, modes, raster and overdrive. -/

/-- The frame store optimal in layout 0 with six devices of 8 GiB. -/
def stored (s : State) : State :=
  { s.setFld FST_STATUS_state 2 with fst := { s.fst with ports := (List.range 6).map fun n => (n, { st := 2, capMiB := 8192 }) } }

/-- Region k enabled with a kind, owner, base and size in 64 KiB. -/
def region (k kind owner base size : Nat) (s : State) : State :=
  ((((s.setReg (FST_RGN_BASE k) 0 0 base).setReg (FST_RGN_SIZE k) 0 0 size).setFld (FST_RGN_CFG_kind k) kind).setFld
    (FST_RGN_CFG_owner k) owner).setFld (FST_RGN_CFG_en k) 1

/-- P2 holds SAFETY, its queues as P0's. -/
def safe2 : State :=
  let s := ((queued.setFld SEC_ROLE_safety 2).setFld SEC_ROLE_safety_en 1).setFld SEC_ROLE_safety_state 2
  (((s.setFldI HIF_Q_CFG_en 8192 1).setFldI HIF_Q_CFG_en 8193 1).setFldI HIF_Q_CFG_kind 8193 1)

/-- `n` bytes that end with the CRC-32C of the zeros before. -/
def crcBytes (n : Nat) : List Byte :=
  let d : List Byte := List.replicate (n - 4) 0
  d ++ leBytes 4 (crc32c d)

theorem crcBytes_good (n : Nat) : crcGood (crcBytes (n + 4)) (n + 4) = true := by
  simpa [crcBytes] using Laws.crcGood_append (List.replicate n 0)

/-- CRC-32C's check value (R102's polynomial): of the nine characters 1 to 9. -/
theorem test_crc32c : crc32c [0x31, 0x32, 0x33, 0x34, 0x35, 0x36, 0x37, 0x38, 0x39] = 0xE3069283 := by decide +kernel

theorem witness_TableLoads :
    (12 ≤ 1032 ∧ 1032 ≤ 1032 ∧ 1032 % 4 = 0 ∧ 12 ≤ 12 ∧ 3 ≤ 3) ∧ (queued.ownsLayer 0 11 = true ∧ queued.ownsLayer 0 3 = true) ∧
    (safe2.takes (hdr 2) 8192 ∧ plainHdr (hdr 2) ∧ safe2.isSafety (hdr 2).part = true ∧ safe2.ownsLayer 2 12 = true) ∧
    (let t : Table := { id := 3, req := req0, code := 0x120, data := [] }
     let s : State := { up with scn := { up.scn with tables := [t] } }
     (s.scn.tables.find? fun t => t.id == 3 && t.readyAt.isNone) = some t ∧ t.code = 0x120 ∧ crcGood t.data 24580 = false) ∧
    (let t : Table := { id := 3, req := req0, code := 0x120, data := crcBytes (24576 + 4) }
     let s : State := { up with scn := { up.scn with tables := [t] } }
     (s.scn.tables.find? fun t => t.id == 3 && t.readyAt.isNone) = some t ∧ crcGood t.data 24580 = true) := by
  have good := crcBytes_good 24576
  refine ⟨by decide, by decide +kernel, by decide +kernel, by decide +kernel, ?_⟩
  generalize crcBytes (24576 + 4) = d at good ⊢
  exact ⟨rfl, good⟩

theorem witness_CompensationLoads :
    (queued.takes (hdr 0) 0 ∧ (hdr 0).part = queued.owner ∧ queued.cmpAreas 0x200 = false) ∧
    (let s := region 0 4 0 0 65536 (stored queued)
     s.takes (hdr 0) 0 ∧ (hdr 0).part = s.owner ∧ s.cmpAreas 0x204 = true ∧ s.cmpAreas 0x203 = true) ∧
    (crcGood (crcBytes 1412) 1412 = true ∧ leAt (crcBytes 1412) 1402 6 = 0) := by
  refine ⟨by decide +kernel, by decide +kernel, crcBytes_good 1408, ?_⟩
  rw [crcBytes, Laws.leAt_append_left (by rw [List.length_replicate])]
  decide +kernel

theorem witness_FlipsAndHeartbeat :
    (let f : FlipArgs := ⟨12, 1, 0xFFFFFF, 0, 0, 255, 255, 9⟩
     safe2.takes (hdr 2) 8192 ∧ safe2.ownsLayer 2 f.layer = true ∧ safe2.safetyPart ≠ [] ∧ f.layer ≤ 12 ∧ f.enable ≤ 2 ∧
       f.select < 2 ^ 24 ∧ f.galpha < 256 ∧ f.fenceTo < 256) ∧
    (let f : FlipArgs := ⟨11, 2, 0, 0, 0, 0, 0, 0⟩
     queued.takes { hdr 0 with flags := 0x10 } 0 ∧ queued.ownsLayer 0 f.layer = true ∧ f.layer ≠ 12 ∧ f.crc = 0 ∧
       plainHdr { hdr 0 with flags := 0 }) ∧
    (let s := ({ up with lyr := { up.lyr with hbAt := some 5 } } : State).setLayer 12 { up.layer 12 with en := true }
     let s := s.setFld LYR_S_CTRL_hb_en 1
     s.lyr.hbAt = some 5 ∧ s.fld LYR_S_CTRL_hb_en = 1 ∧ (s.layer 12).en = true) := by decide +kernel

theorem witness_CommitsAndSwitches :
    (queued.takes (hdr 1) 4096 ∧ plainHdr (hdr 1)) ∧
    (let s := inMode 0 queued
     s.takes (hdr 0) 0 ∧ (hdr 0).part = s.owner ∧ 10 ≤ 10 ∧ s.mod.pend = none ∧ s.mod.comm = none ∧ s.mod.autoExit = false ∧ s.mode ≤ 10 ∧
       s.switchNotReady s.mode 1 = true) ∧
    (let s : State := { queued with mod := { queued.mod with book := some { base := [], overlays := [(1, (1, []))] } } }
     s.takes (hdr 0) 0 ∧ s.switchNotReady s.mode 1 = false) := by decide +kernel

theorem witness_RasterRunsAndStops :
    (up.ownerUp 0 ∧ up.reg SCN_CTRL 0 0 = 0 ∧ up.running = false) ∧
    (let s := (inMode 0 up).setFld SCN_CTRL_run 1; s.ownerUp 0 ∧ s.fld SCN_CTRL_run = 1 ∧ s.mode ≠ 10) ∧
    (let s := (up.setFld SCN_CTRL_run 1).setFld SCN_STATUS_running 1
     s.ownerUp 0 ∧ s.fld SCN_CTRL_run = 1 ∧ s.mode = 10 ∧ s.running = true ∧ s.scn.starting = none ∧ s.scn.last = false) ∧
    (let s : State := { (up.setFld SCN_STATUS_running 1) with scn := { up.scn with starting := some 7 } }
     s.running = true ∧ s.scn.starting = some 7) ∧
    (up.running = false ∧ up.tbs.stepped = false) := by decide +kernel

theorem witness_OverdriveAndUpdates :
    (queued.takes (hdr 1) 4096 ∧ ¬9 ≤ (inMode 8 queued).mode ∧ 9 ≤ queued.mode) ∧ up.ownerUp 0 ∧
    (7 < 8 ∧ up.trimming = false ∧ up.odv.ntcTab = none) := by decide +kernel


/-! Engine jobs, slots, checkpoints, streams, write-backs, and the watchdog. -/

/-- P0 in mode 0 with the store optimal, an image region of its own, and a layer region for arguments. -/
def jobbing : State := region 1 3 0 0x10000 16 (region 0 7 0 0 65536 (stored (inMode 0 queued)))

/-- A job that holds cluster 0. -/
def job5 : Job := { id := 5, req := req0, a := ⟨0x1000, 1, 0, 0, 0⟩, image := noImage, argData := [] }

/-- Cluster 0 as given, held by the job. -/
def held (cl : Cluster) (s : State) : State :=
  let s := s.setCl 0 { cl with job := some 5 }
  { s with eng := { s.eng with jobs := [job5] } }

/-- An image header with one code word and its CRC as R231 has it. -/
def tinyImage : List Byte :=
  let h : List Byte := leBytes 4 0x4A58454E ++ leBytes 2 1 ++ leBytes 2 1 ++ List.replicate 52 0
  h ++ leBytes 4 (crc32c (h ++ leBytes 4 0x38000003)) ++ leBytes 4 0x38000003

theorem witness_EngineJobs :
    (let s := queued
     let j : JobArgs := ⟨2 ^ 48 - 1, 0, 0, 2 ^ 48 - 1, 0⟩
     s.takes (hdr 0) 0 ∧ plainHdr (hdr 0) ∧ j.image ≠ 0 ∧ j.image < 2 ^ 48 ∧ j.arg < 2 ^ 48 ∧ s.storeUp = false ∧
       s.clOwner 31 = (hdr 0).part) ∧
    (let s := jobbing
     s.takes (hdr 0) 0 ∧ s.mode ≠ 11 ∧ s.storeUp = true ∧ s.inOwn 7 0 0x100000000 64 = false ∧ s.inOwn 7 0 0 64 = true ∧
       s.inOwned 0 0x1000FFFC0 4096 = false) ∧
    (let s : State := { jobbing with fst := { jobbing.fst with mem := Sparse.write 0 [] 0x1000 tinyImage } }
     s.jobStatus 0 ⟨0x1000, 1, 0, 0, 0⟩ = OK) ∧
    (let s : State := { up with sec := { up.sec with verify := [5] }, eng := { up.eng with jobs := [job5] } }
     s.sec.verify = [5] ∧ s.eng.jobs.find? (·.id == 5) = some job5) := by decide +kernel

theorem witness_SlotsOfClusters :
    (let s : State := { up with eng := { up.eng with next := { active := true, line := 3 }, carry := 0x80000000 } }
     31 < 32 ∧ (s.cl 31).slot ≠ { s.eng.next with active := s.eng.next.active && s.eng.carry.getLsbD 31 } ∧ (s.cl 31).jobSt ≠ 2 ∧ (s.cl 31).job = none ∧ (s.cl 31).resumeDue = false ∧ s.eng.jobs = []) ∧
    (let s := held { jobSt := 3 } up
     s.jobOf 0 = some job5 ∧ (s.cl 0).jobSt = 3 ∧ (s.cl 0).spare = 0 ∧ (s.cl 0).bypass = 0) ∧
    (let s := up.setCl 31 { drain := [(15, [1, 2])], whole := [(15, 1)] }
     Sparse.get [] (s.cl (511 / 16)).drain (511 % 16) ≠ []) ∧
    (let j : Job := { job5 with image := { noImage with streams := [[0x2000, 64, 0, 64, 0x8000, 1, 4, 0]] } }
     let s := jobbing.setCl 0 { jobSt := 2, job := some 5 }
     let s : State := { s with eng := { s.eng with jobs := [j] } }
     s.jobOf 0 = some j ∧ 2 ≤ (s.cl 0).jobSt ∧ j.image.streams[0]? = some [0x2000, 64, 0, 64, 0x8000, 1, 4, 0] ∧
       s.unitDue [0x2000, 64, 0, 64, 0x8000, 1, 4, 0] 65535 = false ∧
       (let u : State := { s with eng := { s.eng with next := { active := true, prog := s.timing.firstActive } } }
        u.unitDue [0x2000, 64, 0, 64, 0x8000, 1, 4, 0] 0 = true ∧ (u.ppaRead (0x2000 + 0 * 64 + 0 * 0) 64).isSome = true)) ∧
    (let ent := leBytes 4 0x8000 ++ leBytes 4 64 ++ leBytes 8 0x1000
     let s := up.setCl 0 { wbPost := [(0, 1)], mem := Sparse.write 0 [] 0x1C000 ent }
     let e := s.wbEntry 0 0 0
     Sparse.get 0 (s.cl 0).wbCnt 0 ≠ Sparse.get 0 (s.cl 0).wbPost 0 ∧ e.1 % 64 = 0 ∧ e.2.1 % 64 = 0 ∧ 64 ≤ e.2.1 ∧ e.2.1 ≤ 65536 ∧
       e.1 + e.2.1 ≤ 2 ^ 20 ∧ e.2.2 % 64 = 0) ∧
    (up.reachable 3 = true ∧ up.clOwner (up.fldP ENG_SEL_cluster 3) ≠ 3) ∧
    (let s := up.setFldP ENG_SEL_master 0 19
     s.reachable 0 = true ∧ s.clOwner (s.fldP ENG_SEL_cluster 0) = 0 ∧ s.fldP ENG_SEL_master 0 ≤ 19 ∧
       (s.cl (s.fldP ENG_SEL_cluster 0)).asked.contains 19 = false) ∧
    19 < (up.setFldP ENG_SEL_master 0 20).fldP ENG_SEL_master 0 := by decide +kernel

theorem witness_WatchdogAndTakeover :
    (let s := running 511 (up.setFld ENG_CTRL_wd_en 1)
     let s1 := (s.setFld ENG_CTRL_spare_en 1).setCl 31 { job := some 5 }
     let s0 := (s.setFld ENG_CTRL_spare_en 0).setCl 31 { job := some 5 }
     s1.runs 511 ∧ s1.fld ENG_CTRL_wd_en = 1 ∧ (s1.cl (511 / 16)).job.isSome = true ∧ (s1.cl 31).spare = 0 ∧
       s1.fld ENG_CTRL_spare_en = 1 ∧ s0.runs 511 ∧ s0.fld ENG_CTRL_spare_en = 0) ∧
    (let s := up.setCl 0 { spare := 1 }
     (s.cl 0).spare = 1 ∧ (s.cl 0).resumeDue = false ∧ s.jobOf 0 = none) ∧
    (let s := held { spare := 1, jobSt := 2, spareFor := 15, whole := [(15, 2)] } up
     (s.cl 0).spare = 1 ∧ (s.cl 0).resumeDue = false ∧ s.jobOf 0 = some job5 ∧ (s.cl 0).jobSt = 2) := by decide +kernel

/-! The engines' instruction set. -/

/-- Engine 0 running at an index, with some registers set. -/
def engine (e : Eng) : State := running 0 (up.setEn 0 e)

/-- An outcome is a next state. -/
def isNext : Host.Outcome State Fault Refusal → Bool
  | .next _ => true
  | _ => false
theorem exists_next {o : Host.Outcome State Fault Refusal} (h : isNext o = true) : ∃ t, o = .next t := by
  cases o with
  | next t => exact ⟨t, rfl⟩
  | fault _ => cases h
  | refused _ => cases h

theorem witness_Straight :
    (engine {}).straight 0 ∧ (engine { pc := 4094 }).straight 0 ∧ (running 529 up).straight 529 ∧
    (engine { loops := [{ start := 0, stop := 1, left := 2 }] }).straight 0 := by decide +kernel

theorem witness_EngineStepsKeepTheForm :
    let s := engine {}
    (Instr.addi 0 1 2 3).engine? = some 0 ∧ s.engWf ∧ s.memWf := by decide +kernel

theorem witness_EngineStepsAreIsolated :
    (∃ t, exec (.halt 0) (engine {}) = .next t) ∧ (Instr.halt 0).engine? = some 0 ∧
      ∀ vd ra pg off p, Instr.halt 0 ≠ .vld 0 vd ra pg off (some p) :=
  ⟨exists_next (by decide +kernel), rfl, nofun⟩

/-- The operands of the scalar corner cases: the most negative number times itself, and a shift by 32. -/
theorem witness_ScalarResults :
    let s := engine { s := [(1, 0x80000000), (2, 0xFFFFFFFF), (3, 32)] }
    s.straight 0 ∧ (s.en 0).sreg 1 = 0x80000000 ∧ (s.en 0).sreg 3 = 32 := by decide +kernel

theorem test_saluMulh : (do
    let .next t := exec (.saluMulh 0 4 1 2) (engine { s := [(1, 0x80000000), (2, 0xFFFFFFFF)] }) | none
    some ((t.en 0).sreg 4)) = some 0 := by decide +kernel

theorem test_sraSigned : (do
    let .next t := exec (.saluSra 0 4 1 2) (engine { s := [(1, 0x80000000), (2, 33)] }) | none
    some ((t.en 0).sreg 4, (t.en 0).pc)) = some (0xC0000000, 1) := by decide +kernel

theorem witness_BranchesAndJumps :
    (let s := engine { s := [(1, 5)] }
     s.runs 0 ∧ s.straight 0 ∧ (s.en 0).sreg 1 ≠ (s.en 0).sreg 2 ∧ (s.en 0).sreg 2 = (s.en 0).sreg 3) ∧
    (let e := (engine { pc := 4095 }).en 0
     (engine { pc := 4095 }).runs 0 ∧ e.pc.toNat = 4095 ∧ e.loops = [] ∧ 4095 < e.pc.toNat + 1) := by decide +kernel

/-- A two-level loop, a count of 0, a body that ends past 4,094, and a third level. -/
theorem witness_LoopLevels :
    (let e := (engine {}).en 0
     (engine {}).runs 0 ∧ e.loops.length = 0 ∧ (e.code.getD 3 0).toNat / 2 ^ 26 = 0 ∧ e.pc.toNat + 3 < 4095) ∧
    (let e := (engine { code := List.replicate 3 0 ++ [0x28000000] }).en 0
     0x0A ≤ (e.code.getD 3 0).toNat / 2 ^ 26 ∧ (e.code.getD 3 0).toNat / 2 ^ 26 ≤ 0x0D) ∧
    (let s := engine { loops := [⟨1, 3, 1⟩, ⟨0, 9, 1⟩] }
     s.runs 0 ∧ 2 ≤ (s.en 0).loops.length) ∧
    (let s := engine { pc := 3, loops := [⟨1, 3, 2⟩, ⟨0, 9, 1⟩] }
     s.runs 0 ∧ (s.en 0).loops = [⟨1, 3, 2⟩, ⟨0, 9, 1⟩] ∧ 3 = (s.en 0).pc.toNat ∧ 1 < 4096) ∧
    (let s := engine { pc := 3, loops := [⟨1, 3, 1⟩, ⟨0, 9, 1⟩] }
     s.runs 0 ∧ (s.en 0).loops = [⟨1, 3, 1⟩, ⟨0, 9, 1⟩] ∧ (∀ k ∈ [LoopLv.mk 0 9 1], k.stop ≠ (s.en 0).pc.toNat) ∧
       (s.en 0).pc.toNat < 4095) := by decide +kernel

/-- A load and a store at the last bytes of local memory, across its end, at the window's two ends, at the write-back ring and
at the kernel area; `a` is the effective address of offset −1 from s1. -/
theorem witness_ScalarMemory :
    ([(0x10000 : Word), 0x100001, 0x200000, 0x11C001, 0x180001].all fun b => decide ((engine { s := [(1, b)] }).straight 0)) = true ∧
      ([0x10000, 0x100001, 0x200000, 0x11C001, 0x180001].map fun b => ((engine { s := [(1, b)] }).en 0).ea 1 0x3FFF) =
        [0xFFFF, 0x100000, 0x1FFFFF, 0x11C000, 0x180000] ∧
      (engine {}).localOf 0 = 0 ∧
      [(0x11C000, 4), (0x11BFFF, 4), (0x11C07F, 2), (0x180000, 4), (0x1FFFFF, 1), (0x1FFFFF, 2), (0xFFFF, 2), (0xFFFF, 1)].map
          (fun x => addrOk x.1 x.2 && (engine {}).storeOk 0 x.1 x.2) =
        [true, false, false, true, true, false, false, true] := by
  refine ⟨by decide +kernel, by decide +kernel, by decide +kernel, by decide +kernel⟩

theorem witness_StoresTouchOnlyTheirBytes :
    let s := engine { s := [(1, 0xFFFC), (2, 0x01020304)] }
    s.straight 0 ∧ s.localOf 0 < 16 ∧ addrOk ((s.en 0).ea 1 0) 4 = true ∧ s.storeOk 0 ((s.en 0).ea 1 0) 4 = true ∧
      ∃ t, exec (.sw 0 2 1 0) s = .next t := by
  exact ⟨by decide +kernel, by decide +kernel, by decide +kernel, by decide +kernel, exists_next (by decide +kernel)⟩

theorem test_lbExtends : (do
    let .next t := exec (.lb 0 4 1 0) (engine { s := [(1, 7)], mem := [(7, 0x80)] }) | none
    some ((t.en 0).sreg 4)) = some 0xFFFFFF80 := by decide +kernel

theorem test_swLittleEndian : (do
    let .next t := exec (.sw 0 2 1 0) (engine { s := [(1, 0xFFFC), (2, 0x01020304)] }) | none
    some (t.en 0).mem) = some [(0xFFFC, 4), (0xFFFD, 3), (0xFFFE, 2), (0xFFFF, 1)] := by decide +kernel

theorem test_vaddMasked : (do
    let e : Eng := { v := [(1, List.replicate 16 0xFFFF), (2, List.replicate 16 2)], p := [(1, 1)] }
    let .next t := exec (.valuAdd 0 3 1 2 1 0) (engine e) | none
    some ((t.en 0).vreg 3)) = some (1 :: List.replicate 15 0) := by decide +kernel

theorem witness_PredicateResults :
    let s := engine { s := [(1, 17)] }
    s.straight 0 ∧ ((s.en 0).vsrc 1 1).isSome = true ∧ (s.en 0).vsrc 1 16 = none ∧ (s.en 0).vsrc 3 0 = none ∧
      ((s.en 0).vsrc 2 31).isSome = true ∧ (9 : BitVec 4) < 10 ∧ (10 : BitVec 4) ≤ 10 := by decide +kernel

theorem witness_AccumulatorResults :
    (engine {}).straight 0 ∧ ((engine {}).en 0).vsrc 0 1 = some zeroVec ∧ (39 : BitVec 6).toNat ≤ 39 ∧ 39 < (40 : BitVec 6).toNat := by
  decide +kernel

theorem witness_VectorLoadsAndStores :
    let s := engine { s := [(1, 0xFFE0), (2, 0xFFE1), (3, 0x1FFFE0)] }
    s.straight 0 ∧ ((s.en 0).ea 1 0) + 32 ≤ 0x10000 ∧ ¬ ((s.en 0).ea 2 0 + 32 ≤ 0x10000) ∧ (s.en 0).ea 3 0 + 32 ≤ 0x200000 ∧
      ¬ (addrOk ((s.en 0).ea 2 0) 32 = true) := by decide +kernel

theorem witness_PixelAndSampleStreams :
    (let s := (engine { gets := 5, puts := List.replicate 5 zeroVec }).setCl 0 { slot := { active := true } }
     s.straight 0 ∧ (s.cl 0).slot.active = true ∧ (s.en 0).gets < 6 ∧ (s.en 0).puts.length < 6) ∧
    (let s := (engine { gets := 6 }).setCl 0 { slot := { active := true } }
     s.straight 0 ∧ ¬ (s.en 0).gets < 6) ∧
    (let s := engine {}
     s.straight 0 ∧ (s.cl 0).slot.active = false ∧ (s.cl 0).hvBase + (s.cl 0).harvest.length ≤ max (s.en 0).hv (6 * (s.cl 0).hvBase) / 6) ∧
    (let s := (engine { hv := 5 }).setCl 0 { harvest := [[1, 2, 3]] }
     s.straight 0 ∧ max (s.en 0).hv (6 * (s.cl 0).hvBase) / 6 < (s.cl 0).hvBase + (s.cl 0).harvest.length) := by decide +kernel

theorem witness_EngineControl :
    (engine {}).straight 0 ∧ ((engine {}).en 0).overrun = false ∧
    ((engine { overrun := true }).straight 0 ∧ ((engine { overrun := true }).en 0).overrun = true) ∧
    (let j : Job := { id := 5, req := req0, a := ⟨0x1000, 1, 0, 0, 0⟩, image := noImage, argData := [] }
     let s := (engine {}).setCl 0 { job := some 5, slot := { active := true, line := 2159, prog := 2171 } }
     let s : State := { s with eng := { s.eng with jobs := [j] } }
     s.runs 0 ∧ s.jobOf 0 = some j ∧ (s.cl 0).slot.line < 2 ^ 14 ∧ (s.cl 0).slot.prog < 2 ^ 16) ∧
    (let s := (engine {}).setCl 0 { wbPost := [(0, 7)] }
     s.straight 0 ∧ Sparse.get 0 (s.cl 0).wbPost 0 - Sparse.get 0 (s.cl 0).wbCnt 0 ≠ 8) ∧
    (let s := (engine {}).setCl 0 { wbPost := [(0, 3)], wbCnt := [(0, 0xFFFB)] }
     s.runs 0 ∧ Sparse.get 0 (s.cl 0).wbPost 0 - Sparse.get 0 (s.cl 0).wbCnt 0 = 8) := by decide +kernel

/-- Listed and unlisted CSRs at the ends of their ranges. -/
theorem witness_CsrResults :
    (engine {}).straight 0 ∧ (0x011 : BitVec 12).toNat = 0x11 ∧ (0x019 : BitVec 12).toNat = 0x19 ∧
      ¬ ((0x01A : BitVec 12).toNat ≤ 7 ∨ (0x11 ≤ (0x01A : BitVec 12).toNat ∧ (0x01A : BitVec 12).toNat ≤ 0x19)) := by decide +kernel

theorem witness_IllegalWordsFault :
    (let s := engine {}
     s.runs 0 ∧ s.wdRuns (clusterOf 0) = false ∧ decodeEngine 0 0 = none) ∧
    (let s := up.setEn 0 { st := 5 }
     (s.en 0).st = 5 ∧ (Instr.ctrlNop 0).engine? = some 0) := by decide +kernel

theorem witness_EngineWordsRoundTrip :
    (Instr.addi 7 1 2 (-1)).wf = true ∧ encodeEngine (.addi 7 1 2 (-1)) = some 0x084BFFFF ∧
      ∀ g vd ra pg off p, Instr.addi 7 1 2 (-1) ≠ .vld g vd ra pg off (some p) :=
  ⟨by decide, by decide +kernel, nofun⟩

theorem witness_DecodedWordsAreWellFormed : decodeEngine 543 0x084BFFFF = some (.addi 543 1 2 (-1)) := by decide +kernel

/-- The words of the worked example of R257. -/
theorem test_exampleWords :
    [0x78000000, 0x48240000, 0x48440020, 0x50002091, 0x60004000, 0x60114281, 0x64604B00, 0x78600001].map (fun w => decodeEngine 5 w) =
      [some (.pget 5 0 0), some (.vld 5 1 2 0 0 none), some (.vld 5 2 2 0 32 none), some (.valuSll 5 0 0 4 0 2), some (.vmul 5 0 0 1 0 0 0), some (.vmac 5 0 2 5 0 1 1), some (.aext 5 3 0 0 18 true 2), some (.pput 5 3 0)] := by decide +kernel

/-- Words put together from the fields of R246, each beside the instruction that it stands for. -/
theorem test_words0 :
    [0x0504800B, 0x084BFFFF, 0x1C495555, 0x20D2001F, 0x27C0BEEF, 0x2849FFFE].map (fun w => decodeEngine 5 w) =
      [some (.saluMulh 5 4 1 2), some (.addi 5 1 2 (-1)), some (.xori 5 1 2 0x15555), some (.srai 5 3 4 31), some (.lui 5 15 0xBEEF), some (.br 5 1 2 3 (-2))] := by decide +kernel
theorem test_words1 :
    [0x2FFFFFFD, 0x307C0000, 0x34016807, 0x38800001, 0x38180002, 0x38000004].map (fun w => decodeEngine 5 w) =
      [some (.jal 5 (-3)), some (.jalr 5 1 15), some (.loop 5 0 90 7), some (.waitl 5 2), some (.sig 5 6), some (.fence 5)] := by decide +kernel
theorem test_words2 :
    [0x3CD20010, 0x40493FF8, 0x44484006, 0x4D274020, 0x5752AE09, 0x58A68007].map (fun w => decodeEngine 5 w) =
      [some (.csrSet 5 3 4 0x010), some (.lw 5 1 2 (-8)), some (.sh 5 1 2 6), some (.vst 5 9 3 5 32), some (.vcmp 5 6 20 21 3 2 9), some (.cnt 5 1 2 3 4)] := by decide +kernel
theorem test_words3 :
    [0x5E329C01, 0x63F74902, 0x68223A90, 0x70221A2E, 0x75000007, 0x78680002].map (fun w => decodeEngine 5 w) =
      [some (.vperm 5 17 18 19 4), some (.vmsu 5 3 30 29 1 0 2), some (.vlut 5 1 2 3 10 4 true), some (.vlut2s 5 1 2 3 4 5 6), some (.vrnd 5 8 7), some (.sget 5 3 2)] := by decide +kernel

/-- Reserved: opcode 0x00, a zero field set, SHI kind 3, src 3, BR cond 6, CTRL fn 5, and VRED with vd bit 4 set faults. -/
theorem test_reservedWords : [0x00000000, 0x04000040, 0x20030000, 0x500000C0, 0x28030000, 0x38000005, 0x7C000000].map
    (fun w => (decodeEngine 5 w).isNone) = [true, true, true, true, true, true, true] := by decide +kernel

/-- The numbers of R257's example: 542,916,608 extracted with sh 18, rounded, at d = 12, is 2,071. -/
theorem test_exampleValues :
    (do
      let e : Eng := { v := [(0, List.replicate 16 32768), (1, List.replicate 16 16624)] }
      let .next t := exec (.vmul 0 0 0 1 0 0 0) (engine e) | none
      some ((t.en 0).acc 0 == List.replicate 16 544735232)) = some true ∧
    (do
      let e : Eng := { s := [(5, 16384)], v := [(2, List.replicate 16 (-111))], a := [(0, List.replicate 16 544735232)] }
      let .next t := exec (.vmac 0 0 2 5 0 1 1) (engine e) | none
      some ((t.en 0).acc 0 == List.replicate 16 542916608)) = some true ∧
    (do
      let .next t := exec (.aext 0 3 0 0 18 true 2) (inMode 0 (engine { a := [(0, List.replicate 16 542916608)] })) | none
      some ((t.en 0).vreg 3)) = some (List.replicate 16 2071) := by decide +kernel

theorem witness_ImmediateResults : (engine { s := [(2, 0x80000000)] }).straight 0 := by decide +kernel

theorem witness_LaneResults :
    (engine {}).straight 0 ∧ (15 : BitVec 5).toNat < 16 ∧ 16 ≤ (16 : BitVec 5).toNat ∧
      (0x500000DF : Word).toNat / 2 ^ 26 = 0x14 ∧ 0x18 ≤ (0x500000DF : Word).toNat % 64 := by decide +kernel

theorem witness_LaneMoves : (engine { p := [(1, 0)] }).straight 0 ∧ 16 ≤ (16 : BitVec 5).toNat := by decide +kernel

/-- A table that ends at the last byte of local memory, and one that ends past it. -/
theorem witness_TableAndRandomResults :
    let base (w : Word) : Nat := w.toNat % 65536
    let m (w : Word) : Nat := w.toNat / 2 ^ 16 % 4096
    (engine {}).straight 0 ∧ base 0x0001FFFC + 2 * m 0x0001FFFC + 1 = 0xFFFF ∧
      0xFFFF < base 0x0001FFFD + 2 * m 0x0001FFFD + 1 ∧ (0x01000000 : Word).toNat / 2 ^ 16 % 256 = 0 := by decide +kernel

/-! The drive link, sweeps and the panel. -/

/-- A driver in a state, its back-channel lane in service. -/
def driver (d : Nat) (x : Driver) (s : State) : State := ((s.setLane (200 + d) { s.lane (200 + d) with st := 3 }).setDrv d x)

/-- A good back-channel packet of driver d: its type, its number, its length, and the CRC over all. -/
def bcPacket (d t : Nat) (b : List Byte) : BcPacket :=
  let h : List Byte := leBytes 1 t ++ leBytes 1 d ++ leBytes 2 b.length
  ⟨d, h, b, leBytes 4 (crc32c (h ++ b))⟩

theorem bcPacket_good (d t : Nat) (b : List Byte) (hd : d < 256) (hb : b.length < 65536) : bcGood (bcPacket d t b) = true := by
  have h2 : leAt (leBytes 1 t ++ leBytes 1 d ++ leBytes 2 b.length) 2 2 = b.length := by
    rw [Laws.leAt_append_right (by simp)]
    simpa using Laws.leAt_leBytes [] (show b.length < 256 ^ 2 by omega)
  have h1 : leAt (leBytes 1 t ++ leBytes 1 d ++ leBytes 2 b.length) 1 1 = d := by
    rw [List.append_assoc, Laws.leAt_append_right (by simp)]
    simpa using Laws.leAt_leBytes _ (show d < 256 ^ 1 by omega)
  have hc : leNat (leBytes 4 (crc32c (leBytes 1 t ++ leBytes 1 d ++ leBytes 2 b.length ++ b))) = _ :=
    Laws.leNat_leBytes_of_lt (Laws.crc32c_lt _)
  simp only [bcGood, bcPacket, bcByte, h2, h1, hc]
  simp

theorem witness_DriverTraining :
    up.ownerUp 0 ∧
    (let s := driver 63 {} up
     let k : BcPacket := ⟨63, [1, 63, 0, 0], [], [0, 0, 0, 0]⟩
     k.drv < 64 ∧ (s.lane (200 + k.drv)).st = 3 ∧ bcGood k = false) ∧
    (let k := bcPacket 63 1 (List.replicate 16 0)
     bcGood k = true ∧ bcByte k 0 = 1 ∧ k.body.length = 16) ∧
    (let k := bcPacket 0 3 (leBytes 2 100 ++ List.replicate 14 0)
     bcGood k = true ∧ bcByte k 0 = 3 ∧ k.body.length = 16 ∧ 100 ≤ leAt k.body 0 2) ∧
    ([({ st := 1, since := 5 } : Driver), { st := 2 }, { st := 3, check := true }, { st := 3, bcDown := some 4 }, { st := 4, attempt := 1 }].map
      fun x => ((driver 0 x up).drv 0).st) = [1, 2, 3, 3, 4] ∧
    ([({ st := 1 } : Driver), { st := 2 }, { st := 3, check := true }, { st := 3, phi := 99999 }, { st := 4 }].map
      fun x => (((driver 63 x up).drvFollow 63).drv 63).st) = [1, 2, 3, 3, 4] ∧
    (let s := driver 0 { st := 5 } (up.setReg KDL_DRV_EN_LO 0 0 1)
     (s.drv 0).st = 5 ∧ s.drvOn 0 = true ∧ s.inBlank = true ∧ s.kdl.echoDue = false ∧
       (s.setFld SCN_STATUS_running 1).inBlank = false) := by decide +kernel

theorem witness_DriverTraining_waits :
    (let s := driver 0 { st := 5 } (up.setReg KDL_DRV_EN_LO 0 0 1)
     ∀ e, e ≠ 0 → (s.drv e).retryDue = false) ∧ (∀ d, (up.drv d).retryDue = false) := by
  refine ⟨?_, fun d => rfl⟩
  intro s e he
  have h : s.kdl.drivers = [(0, { st := 5 })] := by decide +kernel
  match e with
  | 0 => exact absurd rfl he
  | n + 1 =>
    simp only [State.drv, h]
    rfl

/-- A sweep of line 0 of driver 0, outstanding since 0. -/
def sweeping (retrying : Bool) : Sweep := { req := req0, kind := 0, a := ⟨0, 1, 1, 0, 7, 0, 1, 0⟩, out := [(0, 0, 0)], retrying := retrying }

theorem witness_HarvestSweeps :
    (queued.takes (hdr 0) 0 ∧ plainHdr (hdr 0) ∧ (hdr 0).part = queued.owner) ∧
    (let s : State := { driver 0 { st := 3 } up with kdl := { (driver 0 { st := 3 } up).kdl with sweep := some (sweeping false) } }
     (s.lane (200 + 0)).st = 3 ∧ s.kdl.sweep = some (sweeping false) ∧
       ((sweeping false).out.find? fun o => o.2.1 == 0 && (sweeping false).a.line0 + o.1 * (sweeping false).a.step == 0) = some (0, 0, 0)) ∧
    (let k := bcPacket 0 2 (List.replicate 1084 0)
     bcGood k = true ∧ bcByte k 0 = 2 ∧ k.body.length = 1084 ∧ leAt k.body 0 2 = 0) ∧
    ((sweeping true).retrying = true ∧ (sweeping false).retrying = false) :=
  ⟨by decide +kernel, by decide +kernel,
    ⟨bcPacket_good _ _ _ (by decide) (by rw [List.length_replicate]; decide), rfl, List.length_replicate .., rfl⟩, rfl, rfl⟩

theorem witness_PanelPowerAndDischarge :
    up.ownerUp 0 ∧
    (let s := (((up.setFld PNL_PWR_STATUS_state 1).setFld PNL_PWR_STATUS_step 7)).setPnl { up.pnl with waitPg := true }
     s.pwrState = 1 ∧ s.pnl.waitPg = true ∧ s.fld PNL_PWR_STATUS_step = 7) ∧
    (let s := (((up.setFld PNL_PWR_STATUS_state 2).setFld (PNL_SEQ_en 7) 1).setFld (PNL_SEQ_pg_used 7) 1)
     s.pwrState = 2 ∧ s.fld (PNL_SEQ_en 7) = 1 ∧ s.fld (PNL_SEQ_pg_used 7) = 1) ∧
    (let s := ((up.setFld PNL_PWR_STATUS_state 1).setFld PNL_PWR_STATUS_step 7).setPnl { up.pnl with checks := 2 }
     s.pwrState = 1 ∧ s.pnl.waitPg = false ∧ s.pnl.checks = 2 ∧ s.pnl.stage = .none ∧ (∀ j < 8, s.fld PNL_PWR_STATUS_step < j → s.fld (PNL_SEQ_en j) = 0)) ∧
    ([DisStage.copies 1, .ago, .rails].map fun x => (up.setPnl { up.pnl with stage := x }).pnl.stage) = [.copies 1, .ago, .rails] ∧
    up.running = false ∧
    (let s := up.setFld PNL_PWR_STATUS_en 0x81
     (s.fld PNL_PWR_STATUS_en).testBit 7 = true ∧ ∀ i < 8, 7 < i → (s.fld PNL_PWR_STATUS_en).testBit i = false) ∧
    (let s := up.setPnl { up.pnl with ago := true, lsEn := true }
     s.fld PNL_PWR_STATUS_en = 0 ∧ s.pnl.ago = true ∧ s.pnl.lsEn = true) ∧
    ((up.setPnl { up.pnl with pfw := true }).pnl.pfw = true ∧ up.pwr.deep = 0 ∧ up.pnl.pfw = false ∧ up.inReset = false ∧
      (inMode 11 up).mode = 11 ∧ up.pwrState = 0) ∧
    (let s := up.setFld PNL_CRK_STATUS_busy 1
     let t (s : State) := (List.range 4).foldl (fun t k => t.measureLoop ([4095, 0, 0, 0].getD k 0) k) s
     s.trimming = false ∧ s.fld PNL_CRK_STATUS_busy = 1 ∧ (t s).pnl.capturing = 0 ∧ (t s).pwrState ≠ 1 ∧
       (t (s.setPnl { s.pnl with capturing := 1 })).pnl.capturing = 1 ∧
       (let p := t (s.setFld PNL_PWR_STATUS_state 1)
        p.pnl.capturing = 0 ∧ p.pwrState = 1 ∧ p.pnl.checks = 0)) := by decide +kernel

/-! Queues, descriptors, the frame store, exchange RAM and integrity. -/

theorem witness_QueuesDoorbellsAndMessages :
    (up.ownerUp 0 ∧ up.hasQueue 3 = false ∧ (0x0001003F : Word).toNat &&& 0x7F003F = (0x0001003F : Word).toNat ∧
      (let b := (0x0001003F : Word).toNat % 64
       let c := (0x0001003F : Word).toNat / 65536
       b + c ≤ 64 ∧ ∀ j < 4, ¬ (j ≠ 3 ∧ c ≠ 0 ∧ up.fld (HIF_QALLOC_count j) ≠ 0 ∧
         b < up.fld (HIF_QALLOC_base j) + up.fld (HIF_QALLOC_count j) ∧ up.fld (HIF_QALLOC_base j) < b + c)) ∧
      queued.hasQueue 0 = true) ∧
    (queued.hostUp 0 ∧ (queued.setFldP HIF_Q_SEL_q 0 9).gq 0 9 = some 9 ∧ queued.qEn 9 = false ∧
      (0x80000000 : Word).getLsbD 31 = true ∧ (0x80000000 : Word).toNat &&& 0xFFF00FFF = (0x80000000 : Word).toNat ∧
      queued.reg HIF_Q_CFG 9 0 &&& 0xFFF00FFF = queued.reg HIF_Q_CFG 9 0 ∧ queued.qEn 0 = true ∧ (0 : Word).getLsbD 31 = false) ∧
    (queued.hif.released = true ∧ queued.pwr.deep < 5 ∧ queued.partOn 0 = true ∧ queued.gq 0 0 = some 0 ∧ queued.qEn 0 = true ∧
      (queued.queue 0).err = 0 ∧ queued.qKind 0 = 0 ∧ queued.qKind 1 ≠ 0 ∧ queued.gq 0 4096 = none) ∧
    (let s := (queued.setFldI HIF_Q_CFG_msix_en 1 1).setQueue 1 { recs := 1, recAt := 5 }
     s.gq 0 1 = some 1 ∧ s.qEn 1 = true ∧ s.qKind 1 ≠ 0 ∧ s.qLoc 1 = false ∧ (s.queue 1).recs ≠ 0 ∧ (s.queue 1).await = false ∧
       s.fldI HIF_Q_CFG_msix_en 1 = 1) ∧
    queued.hostUp 3 ∧ (queued.gqPart 16383 = some 3 ∧ queued.gqPart 0 = some 0) ∧
    (Sparse.get false queued.pwr.hostWake 3 = false ∧ queued.pwr.wakeDue = false ∧ queued.pwr.deep = 0) := by decide +kernel

theorem witness_DispatchFencesAndReadback :
    (queued.takes (hdr 0) 0 ∧ plainHdr (hdr 0) ∧ 1023 / 1024 = (hdr 0).part) ∧
    (let h : Hdr := { hdr 0 with fenceId := 4095, fenceVal := 0x80000000 }
     queued.takes h 0 ∧ plainHdr { h with fenceId := 0, fenceVal := 0 } ∧ h.fenceId.toNat < 4096) ∧
    (let r : Req := ⟨{ hdr 0 with fenceId := 9, fenceVal := 1 }, 0, 0⟩
     let s := queued.setQueue 0 { stop := some (r, .fenceWait 50), stopAt := some 50 }
     s.gq 0 0 = some 0 ∧ (s.queue 0).stop = some (r, .fenceWait 50) ∧ (s.queue 0).stopAt = some 50 ∧ s.headerFence r.h = false ∧
       s.pwr.deep < 5) ∧
    (let s := queued.setQueue 0 { tail := 1 }
     s.sqOf 0 0 = some 0 ∧ s.qCount 0 ≠ 0 ∧ s.qLoc 0 = false) ∧
    (let s := (((stored queued).setQueue 0 { tail := 1 }).setFldI HIF_Q_CFG_loc 0 1).setReg HIF_Q_BASE_LO 0 0 0x100040
     s.sqOf 0 0 = some 0 ∧ s.qCount 0 ≠ 0 ∧ s.qLoc 0 = true ∧ s.localOk 0 0 = false) ∧
    (let s := region 0 8 0 0 65536 ((((stored queued).setQueue 0 { tail := 1 }).setFldI HIF_Q_CFG_loc 0 1).setReg HIF_Q_BASE_LO 0 0 0x100040)
     s.sqOf 0 0 = some 0 ∧ s.qCount 0 ≠ 0 ∧ s.qLoc 0 = true ∧ s.localOk 0 0 = true ∧
       (s.ppaRead (s.qBase 0 + 64 * ringPos (s.queue 0).head.toNat) 64).isSome = true) := by decide +kernel

/-- Port n in a state. -/
def cxl (n : Nat) (x : CxPort) (s : State) : State := s.setCxPort n x

theorem witness_FrameStoreLife :
    (up.ownerUp 0 ∧ (0x8D : Word).toNat &&& 0xBD = (0x8D : Word).toNat ∧ (0x19 : Word).toNat / 4 % 4 ≠ 3 ∧
      (0x19 : Word).toNat / 16 % 4 ≤ 1 ∧ up.reg FST_CFG 0 0 &&& 0xBD = up.reg FST_CFG 0 0 ∧ up.fld FST_CFG_en = 0 ∧
      (0x19 : Word).getLsbD 0 = true ∧ (up.setFld FST_CFG_en 1).fld FST_CFG_en = 1 ∧
      (up.setFld FST_CFG_en 1).reg FST_CFG 0 0 &&& 0xBD = (up.setFld FST_CFG_en 1).reg FST_CFG 0 0) ∧
    (let s := cxl 5 { st := 1 } (up.setFld FST_CFG_en 1)
     (s.cxPort 5).st = 1 ∧ 5 < layoutPorts s.layout ∧ s.fld FST_CFG_en = 1 ∧ s.deviceOk ⟨8191, 0, true⟩ = false ∧
       s.deviceOk ⟨8192, 0, true⟩ = true) ∧
    (let s : State := { (up.setFld FST_STATUS_state 1).setFld CMP_CTRL_vint_en 0 with fst := { up.fst with filling := true } }
     s.fst.filling = true ∧ s.fld FST_STATUS_state = 1 ∧ s.mod.defaultsDue = false ∧ s.fld CMP_CTRL_vint_en = 0) ∧
    (let s := stored up
     5 < layoutPorts s.layout ∧ (s.cxPort 5).st = 2 ∧ s.layout = 0 ∧ ∀ j < 6, j = 5 ∨ s.unitHere 3 j = true) ∧
    (let s := cxl 5 { st := 2, bad := List.replicate 16 0 } (stored up)
     (s.cxPort 5).st = 2 ∧ 17 ≤ (s.now :: (s.cxPort 5).bad.filter fun t => decide (s.now < t + 1000000)).length) ∧
    (let s := cxl 0 { st := 4 } (stored up)
     (s.cxPort 5).st = 2 ∧ ¬ (∀ j < 6, j = 5 ∨ s.unitHere 3 j = true)) ∧
    ((cxl 5 { st := 2, corrLog := some 0 } up).cxPort 5).corrLog = some 0 ∧
    (let s := cxl 5 { st := 3, exitAt := some 7 } up
     (s.cxPort 5).st = 3 ∧ (s.cxPort 5).exitAt = some 7) ∧
    (let s := cxl 5 { st := 4, linkUp := true } (stored up)
     up.ownerUp 0 ∧ s.layout = 0 ∧ (s.cxPort 5).st = 4 ∧ (s.cxPort 5).linkUp = true ∧ ∀ j < 6, j ≠ 5 → (s.cxPort j).st ≠ 4) ∧
    (let s := cxl 5 { st := 5, linkUp := true } (stored up)
     s.layout = 0 ∧ (s.cxPort 5).st = 5 ∧ ∀ k < 6, k ≠ 5 → (s.cxPort k).st = 2) ∧
    (let s := ((stored up).setFld FST_CFG_l1_en 1).setFld SCN_LAT_TOL_lt 0xFFFFFF
     s.fld FST_CFG_l1_en = 1 ∧ s.storeUp = true ∧ s.fst.asleep = false ∧
       (∀ n < layoutPorts s.layout, (s.cxPort n).st = 2 ∨ (s.cxPort n).st = 4) ∧ s.fst.bufs = [] ∧ s.cellarFull = true ∧ s.wakeSum ≤ s.fld SCN_LAT_TOL_lt) ∧
    (({ up with fst := { up.fst with asleep := true } } : State).fst.asleep = true) := by
  refine ⟨?_, ?_, ?_, ?_, ?_, ?_, ?_, ?_, ?_, ?_, ?_, ?_⟩
  all_goals decide +kernel

theorem witness_RegionsApertureAndBuffers :
    (let s := ((stored up).setReg (FST_RGN_BASE 63) 0 0 1).setReg (FST_RGN_SIZE 63) 0 0 1
     s.ownerUp 0 ∧ (0x80000500 : Word).toNat &&& 0x80000F03 = (0x80000500 : Word).toNat ∧
       s.reg (FST_RGN_CFG 63) 0 0 &&& 0x80000F03 = s.reg (FST_RGN_CFG 63) 0 0 ∧ (0x80000500 : Word).getLsbD 31 = true ∧
       s.reg (FST_RGN_CFG 63) 0 0 ≠ (0x80000500 : Word).toNat ∧ 2 * 65536 ≤ s.usable ∧ ∀ j < 64, j = 63 ∨ s.rgnEn j = false) ∧
    (let s := region 0 5 3 0 65536 (stored up)
     s.hostUp 3 ∧ s.fldP FST_WIN_BASE_LO_addr_lo 3 * 32768 + s.fldP FST_WIN_BASE_HI_addr_hi 3 * 2 ^ 32 + 32256 = 32256 ∧
       s.mayWrite 3 32256 512 = true ∧ s.storeUp = true ∧ s.mayRead 3 32256 512 = true ∧ s.fst.asleep = false ∧
       s.readable 32256 512 = true ∧ s.mayWrite 1 32256 512 = false ∧ s.mayRead 1 32256 512 = false) ∧
    (let s := up.setBuf 47 { used := true, stripe := 9, acks := [3, 4] }
     (s.buf 47).used = true ∧ 4 ∈ (s.buf 47).acks ∧ (s.buf 47).acks.erase 4 ≠ [] ∧
       (up.setBuf 47 { used := true, acks := [3] }).buf 47 = { used := true, acks := [3] } ∧
       ((up.setBuf 0 { used := true }).buf 0).acks = []) := by decide +kernel

theorem witness_ExchangeRamAndIntegrity :
    (up.reachable 3 = true ∧ 65528 + 8 ≤ 65536 ∧ (up.dom 81).st = 0 ∧ (up.dom 81).going = none ∧ 65528 / 2 ≤ 32767 ∧
      2 * 32767 < 65528 + 8) ∧
    (let s := up.setFld MEM_XRAM_CFG_wr 8
     (s.fld MEM_XRAM_CFG_wr).testBit 3 = true ∧ s.partOn 3 = true ∧ (s.fld MEM_XRAM_CFG_wr).testBit 2 = false ∧ s.inReset = false) ∧
    (let s := up.setDom 81 { st := 2 }
     (s.dom 81).st = 2 ∧ (s.dom 81).going = none ∧ ((up.setDom 81 { st := 1 }).dom 81).st = 1) ∧
    (let s := (up.setFldP MEM_CONF_SEL_array 3 2).setFldP MEM_CONF_SEL_master 3 4
     s.reachable 3 = true ∧ s.fldP MEM_CONF_SEL_array 3 = 2 ∧ s.fldP MEM_CONF_SEL_master 3 ≤ 4 ∧ 3 ∉ s.mem.asked ∧
       ((s.setFldP MEM_CONF_SEL_master 3 5).fldP MEM_CONF_SEL_master 3) = 5) ∧
    (let s := up.setInst 576 { tests := [3] }
     3 ∈ (s.inst 576).tests) := by decide +kernel

/-! Power, wake, the record store, calibration, identity and reset. -/

theorem witness_HintsDomainsAndRails :
    (queued.takes (hdr 0) 0 ∧ plainHdr (hdr 0) ∧ (4 : BitVec 88).getLsbD 1 = false ∧ (6 : BitVec 88).toNat / 2 ^ 82 = 0) ∧
    (let s := inMode 10 (queued.setFld PWR_WAKE_CFG_en 1)
     (hdr 0).part = s.owner ∧ s.pwr.deep = 0 ∧ s.mode = 10 ∧ s.fld SCN_CTRL_run = 0 ∧ s.running = false ∧ s.pwrState = 0 ∧
       (∀ p < 8, (s.port p).st = 0 ∨ (s.port p).st = 4) ∧ s.domMax 1 = 2 ∧ s.eng.jobs = [] ∧ s.fld PWR_WAKE_CFG_en ≠ 0) ∧
    ((queued.setFld PWR_WAKE_CFG_en 0).fld PWR_WAKE_CFG_en = 0 ∧ (up.setDom 5 { exitAt := some 9 }).dom 5 = { exitAt := some 9 }) ∧
    (let s := (((up.setFld (PWR_VR_ADDR_used 3) 1).setRail 3 { on := false, pg := false }).setDom 2 { st := 2, going := some 0 }).setDom
       22 { st := 1, going := some 0 }
     (s.dom 2).st = 2 ∧ (s.dom 2).going = some 0 ∧ laneDom 2 = true ∧ s.railsUp = false ∧ (s.dom 22).going = some 0 ∧
       (s.dom 22).st ≠ 2) ∧
    ((up.dom 81).st = 0 ∧ (up.dom 81).going = none ∧ up.domMax 81 ≠ 0) ∧
    (let s := (up.setRail 7 { busy := true }).setRail 6 { busy := true, retried := true }
     (s.rail 7).busy = true ∧ (s.rail 7).volt = false ∧ (s.rail 7).retried = false ∧ (s.rail 6).retried = true) ∧
    (let s := up.setFld (PWR_VR_ADDR_used 7) 1
     s.railUsed 7 = true ∧ (s.rail 7).on = true ∧ (s.rail 7).pg = true ∧ s.pwr.deep < 6 ∧
       (List.replicate 7 (0 : BitVec 16) ++ [0x8000]).getD 7 0 = 0x8000 ∧ (0x8000 : BitVec 16).getLsbD 15 = true) ∧
    (up.trimming = false ∧ ∀ y ∈ [(-32768 : Int), 32767], -32768 ≤ y ∧ y ≤ 32767) := by
  refine ⟨?_, ?_, ?_, ?_, ?_, ?_, ?_, ?_⟩
  all_goals decide +kernel

theorem witness_WakeSources :
    (let s := up.setFld PWR_WAKE_CFG_en 0x180
     (s.fld PWR_WAKE_CFG_en).testBit (8 - 1) = true ∧ (s.fld PWR_WAKE_CFG_en).testBit (1 - 1) = false ∧ s.pwr.deep = 0) ∧
    ([1, 4, 5, 6].map fun d => ({ up with pwr := { up.pwr with deep := d } } : State).pwr.deep) = [1, 4, 5, 6] ∧
    ([0, 1].map fun b => decide (up.pwr.syncHigh = ((up.setFld PWR_WAKE_CFG_sync_edge b).fld PWR_WAKE_CFG_sync_edge == 1))) = [true, false] ∧
    (({ up with pwr := { up.pwr with aonTimer := some 4 } } : State).pwr.aonTimer = some 4) ∧
    (let v : Saved := ⟨5, []⟩
     let s : State := { up with pwr := { up.pwr with deep := 7, saved := some v } }
     s.pwr.deep = 7 ∧ s.pwr.saved = some v) ∧
    (up.pwr.crystal = false ∧ up.inReset = false ∧ up.pwr.deep < 6) := by decide +kernel

/-- The record store with something gathered, or a commit in progress. -/
def nvs (f : Nvs → Nvs) : State := { up with nvs := f up.nvs }

theorem witness_RecordStoreWork :
    (queued.takes (hdr 0) 0 ∧ plainHdr (hdr 0) ∧ queued.inReset = false ∧ (hdr 0).part = queued.owner ∧ queued.nvs.stopped = false ∧
      queued.takes (hdr 1) 4096 ∧ (hdr 1).part ≠ queued.owner) ∧
    (sealedKey 2 = true ∧ sealedKey 0x51 = true ∧ sealedKey 0x52 = false ∧ nvsSlot 0x52 = none ∧ sealedKey 0x30 = false ∧
      nvsSlot 0x30 = some (0x40000, 0x10000) ∧ queued.nvsQuiet = true ∧ tieOf queued.nvs.mem 0x30 = false ∧
      queued.fld NVS_CFG_gather_ms ≠ 0 ∧ 16321 ≤ 0x10000 - 64 ∧ queued.nvs.reads = [] ∧ queued.nvmPending = [] ∧ nvsSlot 1 ≠ none) ∧
    (queued.nvs.direct = none ∧ (nvs fun n => { n with saving := true }).nvs.saving = true) ∧
    (let s := nvs fun n => { n with gather := [⟨0, 0x200000, [1], none⟩] }
     nvsIdle s.nvs = true ∧ s.nvs.stopped = false ∧ s.cal.restarting = false ∧ s.nvs.gather ≠ []) ∧
    (let s := nvs fun n => { n with commit := [⟨0x30, 0x40000, [1], some req0⟩], saving := true }
     s.nvs.commit ≠ [] ∧ s.nvs.saving = true) ∧
    (let s := nvs fun n => { n with direct := some ⟨0x30, [1], some req0, 0x40000, 1⟩, saving := true }
     s.nvs.direct = some ⟨0x30, [1], some req0, 0x40000, 1⟩ ∧ s.nvs.commit = [] ∧ s.nvs.gather = []) ∧
    (let s := up.setFld NVS_CFG_scrub_en 1
     s.fld NVS_CFG_scrub_en = 1 ∧ s.nvsQuiet = true ∧ s.nvs.stopped = false ∧ s.cal.restarting = false ∧ s.fld NVS_SCRUB_pos = 0 ∧
       s.nvs.scrubAt = none ∧ ({ s with nvs := { s.nvs with scrubAt := some 5 } } : State).nvs.scrubAt = some 5 ∧
       (s.setFld NVS_SCRUB_pos 131070).fld NVS_SCRUB_pos = 131070 ∧
       (s.setFld NVS_SCRUB_pos 131071).fld NVS_SCRUB_pos = 131071) := by
  refine ⟨?_, ?_, ?_, ?_, ?_, ?_, ?_⟩
  all_goals decide +kernel

theorem witness_JournalReplaysWholeCommits :
    (let l : List GItem := [⟨0, 0x200000, [1], none⟩, ⟨0x30, 0, [2], none⟩, ⟨0x51, 0, [], none⟩]
     l ≠ [] ∧ ∀ i ∈ l, (i.key = 0 ∧ 1 ≤ i.data.length ∧ i.data.length ≤ 64 ∧ i.off < 2 ^ 23) ∨
      (nvsSlot i.key ≠ none ∧ i.key ≠ 0x0051 ∧ 1 ≤ i.data.length ∧ i.data.length ≤ 16320) ∨ (i.key = 0x0051 ∧ i.data = [])) ∧
    (markerWhole up.nvs.mem = false ∧ (nvsBytes up.nvs.mem 0x1000 64).all (· == 0) = true) ∧
    (let m := Sparse.write 0 [] 0x1000 [1]
     markerWhole m = false ∧ (nvsBytes m 0x1000 64).all (· == 0) = false) := by decide +kernel

/-- The calibration unit as given. -/
def calib (f : Cal → Cal) (s : State) : State := { s with cal := f s.cal }

theorem witness_CalibrationRePlanAndLog :
    (queued.takes (hdr 0) 0 ∧ plainHdr (hdr 0) ∧ (hdr 0).part = queued.owner ∧ queued.takes (hdr 1) 4096 ∧
      (hdr 1).part ≠ queued.owner ∧ queued.cal.run = none ∧ queued.cal.replan = none ∧ queued.cal.pend = none ∧
      (calib (fun c => { c with run := some ⟨1, 1, []⟩ }) queued).cal.run.isSome = true ∧ (inMode 9 queued).mode ≠ 10) ∧
    (let s := calib (fun c => { c with run := some ⟨31, 1, []⟩ }) up
     s.cal.run = some ⟨31, 1, []⟩ ∧ s.cal.pend = none ∧ s.cal.due = false ∧ 12250 ≤ 12250 ∧ 12750 ≤ 12750) ∧
    (63 < 64 ∧ up.clOn (63 / 2) = true) ∧
    (let s := calib (fun c => { c with replan := some ⟨0, none, []⟩ }) up
     s.cal.replan = some ⟨0, none, []⟩ ∧ (s.rail 0).busy = false ∧ ((s.setRail 0 { busy := true }).rail 0).busy = true ∧
       ¬ (s.slackLow = true)) ∧
    (let s := calib (fun c => { c with replan := some ⟨0, none, []⟩, slack := [(0, -5)] })
       (((up.setFld CAL_REPLAN_CFG_steps_max 8).setFld CAL_CORE_mv 845).setFld CAL_REPLAN_CFG_slack_min 100)
     s.slackLow = true ∧ 0 < min 8 (s.fld CAL_REPLAN_CFG_steps_max) ∧ s.fld CAL_CORE_mv + 5 ≤ 850) ∧
    (let s := (up.setFld PNL_PWR_STATUS_state 2).setFld CAL_REPLAN_CFG_en 0
     up.pwrState ≠ 2 ∧ s.pwrState = 2 ∧ s.fld CAL_REPLAN_CFG_en = 0) ∧
    (let s := inMode 0 (((up.setFld PNL_PWR_STATUS_state 2).setFld CAL_REPLAN_CFG_en 1).setFld CAL_REPLAN_CFG_days 1)
     let s : State := { s with nvs := { s.nvs with onTime := 86399 } }
     s.pwrState = 2 ∧ s.fld CAL_REPLAN_CFG_en = 1 ∧ s.cal.replan = none ∧
       s.cal.planTime + 86400 * max 1 (s.fld CAL_REPLAN_CFG_days) ≤ (s.nvs.onTime + 1) % 2 ^ 64 ∧ s.mode ≠ 10 ∧ s.cal.pend = none) ∧
    (up.hif.noFw = false ∧ up.inReset = false ∧ up.pwr.deep = 0 ∧
      (calib (fun c => { c with restarting := true }) up).cal.restarting = true) ∧
    (up.hostUp 0 ∧ 0 = up.owner ∧ up.cal.restarting = false ∧ (calib (fun c => { c with restarting := true }) up).hostUp 0) := by
  refine ⟨?_, ?_, ?_, ?_, ?_, ?_, ?_, ?_, ?_⟩
  all_goals decide +kernel

/-- Partition 3's responder with its connection as given. -/
def talking (x : Spdm) : State := up.setSpdm 3 x

theorem witness_SpdmResponders :
    (up.spdmUp 4 = false ∧ State.reset.spdmUp 0 = false ∧ up.spdmUp 3 = true ∧ (up.spdmOf 3).algs = false) ∧
    (let m := Sparse.write 0 [] 0x10000 (copyBytes 2 1 ([0, 0] ++ leBytes 4 1 ++ [9] ++ leBytes 4 1 ++ [8]))
     let s : State := { talking { version := true, caps := true, algs := true } with nvs := { up.nvs with mem := m } }
     s.spdmUp 3 = true ∧ (s.spdmOf 3).algs = true ∧ s.certChain.isSome = true) ∧
    ([(⟨true, true, true, 1, true, [], 0⟩ : Spdm), ⟨true, true, true, 1, false, [], 0⟩, ⟨true, true, true, 1, true, [7], 0⟩,
      ⟨true, true, true, 2, false, [], 0⟩].map fun x => ((talking x).spdmOf 3).session) = [1, 1, 1, 2] := by decide +kernel

theorem witness_ResetAndScans :
    up.pwr.deep < 6 ∧ (let s : State := { up with pwr := { up.pwr with deep := 6 } }; 6 ≤ s.pwr.deep) := by decide +kernel

theorem witness_AccessesThatReachNoRegister :
    (up.reachable 3 = true ∧ inWin 0x1FFFFC = false ∧ inMsix 0x1FFFFC = false ∧ inPba 0x1FFFFC = false ∧ regAt 0x1FFFFC = none ∧
      0x1FFFFC % 4 = 0) ∧
    (inWin 2 = false ∧ inMsix 2 = false ∧ inPba 2 = false ∧ 2 % 4 ≠ 0) := by decide +kernel

theorem witness_DeniedWrites :
    (up.reachable 1 = true ∧ inWin GLB_LOCK = false ∧ inMsix GLB_LOCK = false ∧ inPba GLB_LOCK = false ∧ GLB_LOCK % 4 = 0 ∧
      GLB_LOCK < 2 ^ 21 ∧ (regAt GLB_LOCK).isSome = true ∧ up.partOn 1 = true ∧
      (regAt GLB_LOCK).all (fun d => up.granted 1 (scopeFor d ((up.selected 1 d.ix).getD 13)) == false) = true) := by
  decide +kernel

theorem witness_RegistersTakeWhatTheirClassesAllow :
    up.hostUp 0 ∧ up.locked = false ∧ 0x70000 ≤ CMP_FLAGS ∧ CMP_FLAGS < 0x80000 ∧ CMP_FLAGS % 4 = 0 ∧ CMP_FLAGS ≠ CMP_CTRL ∧
      (regAt CMP_FLAGS).any (fun d => up.granted 0 d.scope && usedMask d == usedMask d &&& 0xFFFFFFFF) = true := by decide +kernel

theorem witness_SetUpAndRoles :
    up.ownerUp 0 ∧
    ((List.range 4).filter (fun q => up.partOn q && !Nat.testBit 7 q) = [3] ∧ 3 ≠ up.owner ∧ up.hasQueue 3 = false ∧
      (up.layer 12).en = false) ∧
    (queued.ownerUp 0 ∧ queued.partOn 1 = true ∧ Nat.testBit 13 1 = false ∧ queued.hasQueue 1 = true) ∧
    (let s := (up.setLayer 12 { up.layer 12 with en := true }).setFld SEC_ROLE_safety_en 1
     (0xC0 : Word).toNat &&& 0xF3 = (0xC0 : Word).toNat ∧ (s.layer 12).en = true ∧ bits (s.reg SEC_ROLE 0 0) 7 4 ≠ (0xC0 : Word).toNat / 16) := by
  refine ⟨?_, ?_, ?_, ?_⟩
  all_goals decide +kernel

/-- The worked example of the register space: P2 is denied by scope, P0 served; then, with the lock set, P0 is denied a RWL field. -/
theorem test_denyLog :
    (do
      let .next t := exec (.registerWrite 2 0x5000C 4 0x3FF) up | none
      some (t.reg (GLB_DENY_LOG 0) 0 0, t.fldP GLB_DENY_CNT_count 2, t.fld GLB_DENY_HEAD_next)) = some (0xC005000C, 1, 1) ∧
    (do
      let .next t := exec (.registerWrite 0 0x5000C 4 0x3FF) up | none
      some (t.reg 0x5000C 0 0)) = some 0x3FF ∧
    (do
      let .next t := exec (.registerWrite 0 0x60008 4 0x3BC88) (up.setFld GLB_LOCK_lock 1) | none
      some (t.reg (GLB_DENY_LOG 0) 0 0, t.fldP GLB_DENY_CNT_count 0)) = some (0x84060008, 1) := by decide +kernel
end Sys2Proof.Tests
end

/-! PROOFS. The statements of the operating modes: the state at reset, and what a descriptor that nothing stops does at its dispatch,
for TABLE_LOADs, COMMITs and MODE_SWITCHes. -/

namespace Sys2Proof.Proofs

open Sys2Proof Sys2Proof.Machine Sys2Proof.Machine.Reg Sys2Proof.Laws

/-! The state at reset. -/

/-- Every register word reads as its reset value: no register has a value of its own. -/
theorem reg_reset (off ix b : Nat) : State.reset.reg off ix b = resetWord off ix % 2 ^ 32 := by
  simp [State.reg, State.reset, Sparse.get, BitVec.toNat_ofNat]

theorem fldI_reset (f : Fld) (ix : Nat) : State.reset.fldI f ix = bits (resetWord f.off ix % 2 ^ 32) f.hi f.lo := by
  rw [State.fldI, State.fldAt, reg_reset]

/-- A reset value hangs on the object's number in PWR_DOM_CFG alone. -/
theorem resetWord_object {off : Nat} (h : off ≠ PWR_DOM_CFG) (ix : Nat) : resetWord off ix = resetWord off 0 := by
  simp [resetWord, h]

theorem domMaxReset_le (d : Nat) : domMaxReset d ≤ 2 := by
  unfold domMaxReset
  split
  · omega
  · split <;> omega

theorem domMax_reset (d : Nat) : State.reset.domMax d = domMaxReset d := by
  have hd : domMaxReset d ≤ 2 := domMaxReset_le d
  have hw : resetWord PWR_DOM_CFG d = 1000 * 65536 + domMaxReset d := by simp [resetWord]
  rw [State.domMax, fldI_reset, show PWR_DOM_CFG_max.off = PWR_DOM_CFG from rfl, hw]
  simp only [bits]
  omega

theorem rxTapLimits_reset (l : Nat) :
    State.reset.fldI LNK_RX_CFG_tap1_lim l = 31 ∧ State.reset.fldI LNK_RX_CFG_tapn_lim l = 15 := by
  rw [fldI_reset, fldI_reset, resetWord_object (off := LNK_RX_CFG) (by decide) l]
  decide +kernel

theorem en_reset (g : Nat) : State.reset.en g = {} := rfl

theorem memWf_reset : State.reset.memWf :=
  ⟨memory_wf_nil, memory_wf_nil, memory_wf_nil, memory_wf_nil, memory_wf_nil⟩

theorem regsWf_reset : State.reset.regsWf := ⟨List.Pairwise.nil, nofun⟩

theorem engWf_reset : State.reset.engWf := nofun

theorem mode_reset : State.reset.mode = 10 := by decide +kernel

theorem safe_reset : State.reset.safe := ⟨memWf_reset, regsWf_reset, engWf_reset, by rw [State.modeWf, mode_reset]; decide⟩

/-- No engine has a register of its own value, and none runs (R244). -/
theorem engines_reset (g n : Nat) : (State.reset.en g).sreg n = 0 ∧ (State.reset.en g).preg 0 = 0xFFFF ∧
    (State.reset.en g).pc = 0 ∧ ¬State.reset.runs g := by
  refine ⟨?_, rfl, rfl, fun h => absurd h.1 (by rw [en_reset]; decide)⟩
  rw [en_reset, Eng.sreg]
  split <;> rfl

/-- Settles O1, field by field: the reset state lists no register, memory byte or engine, so each reads as its default. -/
theorem resetState : Obligations.ResetState :=
  ⟨safe_reset, rfl, rfl, rfl, mode_reset, by decide +kernel, by decide +kernel, reg_reset, fun _ => rfl, engines_reset,
    domMax_reset, rxTapLimits_reset⟩

/-! The dispatch of a descriptor that names no fence and no launch time, from an SQ that dispatches it (R324 to R326). Counting it
changes the serial number of the host interface alone. -/

/-- The bodies that act at their dispatch: not a FLIP (R147), nor a NOP (R152), nor a FENCE_WAIT (R326). -/
def actsAtOnce : Body → Bool
  | .flip _ | .nop | .fenceWait _ => false
  | _ => true

/-- A plain header keeps R323 whatever the body: what R323 asks of some bodies alone is 0 in it. -/
theorem headerGood_plain {h : Hdr} (hp : plainHdr h) (b : Body) : headerGood h b = true := by
  obtain ⟨hc, hf, hi, hv, hl⟩ := hp
  simp [headerGood, timed, fenced, chained, hc, hf, hi, hv, hl]

theorem fenced_plain {h : Hdr} (hp : plainHdr h) : fenced h = false := by
  obtain ⟨_, hf, _⟩ := hp
  simp [fenced, hf]

/-- With the firmware up, rights and a body that keeps its layout, nothing refuses a plain descriptor (R325). -/
theorem refusal_plain {s : State} {h : Hdr} {b : Body} (hw : s.hif.noFw = false) (hp : plainHdr h) (ha : actsAtOnce b = true)
    (hr : s.rights h.part b = true) (hg : bodyGood b = true) : s.refusal h b = none := by
  have hb : s.bootOnly b = false := by simp [State.bootOnly, hw]
  cases b
  case flip => simp [actsAtOnce] at ha
  all_goals simp [State.refusal, hb, hr, headerGood_plain hp, hg]

theorem letIn_plain {s : State} {r : Req} {b : Body} (ha : actsAtOnce b = true) (hp : plainHdr r.h)
    (hr : s.refusal r.h b = none) : s.letIn r b = s.act r b false := by
  have ⟨_, _, _, _, hl⟩ := hp
  cases b
  case flip => simp [actsAtOnce] at ha
  case nop => simp [actsAtOnce] at ha
  case fenceWait => simp [actsAtOnce] at ha
  all_goals simp [State.letIn, hr, fenced_plain hp, State.arm, hl]

/-- With no chain open and its CQ enabled, a descriptor that acts at once is let in under the next serial number. -/
theorem dispatch_takes {s : State} {h : Hdr} {g : Nat} {b : Body} (ht : s.takes h g) (ha : actsAtOnce b = true) :
    s.dispatch g h b = s.counted.letIn (s.reqOf h g) b := by
  obtain ⟨-, hcq, hch, -⟩ := ht
  have hcq' : (s.counted.ringOf h.part 1 h.cq.toNat).isSome = true := hcq
  have hch' : s.counted.openChain h.part h.sq = [] := hch
  cases b
  case flip => simp [actsAtOnce] at ha
  all_goals
    simp only [State.counted] at hcq' hch'
    simp [State.dispatch, State.counted, State.reqOf, hcq', hch']

/-- A descriptor that nothing refuses or holds acts, and waits that it ends go on. -/
theorem take_acts {s : State} {h : Hdr} {g : Nat} {b : Body} (ht : s.takes h g) (hp : plainHdr h) (ha : actsAtOnce b = true)
    (hr : s.counted.rights h.part b = true) (hg : bodyGood b = true) :
    s.take h b = (s.counted.act (s.reqOf h g) b false).goOn := by
  have ⟨hsq, _, _, hfw, _⟩ := ht
  have hw : s.counted.hif.noFw = false := hfw
  rw [State.take, hsq]
  show (s.dispatch g h b).goOn = _
  have href : s.counted.refusal h b = none := refusal_plain hw hp ha hr hg
  rw [dispatch_takes ht ha, letIn_plain (r := s.reqOf h g) ha hp href]

/-! TABLE_LOAD from dispatch to TABLE_READY (R328, R493). -/

/-- The load of a table waits for TABLE_READY under the next serial number. -/
def waitsForTable (s : State) (r : Req) (code : Nat) (d : List Byte) : State :=
  { s with scn := { s.scn with
    serial := s.scn.serial + 1
    tables := s.scn.tables ++ [{ id := s.scn.serial, req := r, code := code, data := d }] } }

/-- A recognised code with its table's length, outside compensation's loads, the data read where it comes from a host buffer. -/
def loadOk (code len : Nat) (data : Option (List Byte)) : Prop :=
  tableCode code = true ∧ tableLenOk code len = true ∧ ¬(0x200 ≤ code ∧ code ≤ 0x204) ∧ (inPlace code = true ∨ data.isSome = true)

theorem takeTable_waits {s : State} {r : Req} {code len : Nat} {data : Option (List Byte)} (h : loadOk code len data) :
    s.takeTable r code len data = waitsForTable (if isRate code then s.dropRates else s) r code (data.getD []) := by
  obtain ⟨hc, hl, hk, hd⟩ := h
  have hbad : ¬(tableCode code = false ∨ tableLenOk code len = false) := by simp [hc, hl]
  have hread : ¬(inPlace code = false ∧ data.isNone = true) := by
    rcases hd with hd | hd
    · simp [hd]
    · simp [Option.isSome_iff_ne_none.1 hd]
  rw [State.takeTable, if_neg hbad, if_neg hk, if_neg hread]
  rfl

theorem act_tableLoad (s : State) (r : Req) (code len : Nat) (data : Option (List Byte)) (late : Bool) :
    s.act r (.tableLoad code len data) late = s.takeTable r code len data := by
  simp [State.act, onSvc]

/-- A TABLE_LOAD of its owner with its table's length and data waits for its table; a rate set takes the place of one that waits. -/
theorem take_tableLoad {s : State} {h : Hdr} {g code len : Nat} {data : Option (List Byte)} (ht : s.takes h g) (hp : plainHdr h)
    (hr : s.tableRights h.part code = true) (hl : loadOk code len data) :
    s.take h (.tableLoad code len data) =
      (waitsForTable (if isRate code then s.counted.dropRates else s.counted) (s.reqOf h g) code (data.getD [])).goOn := by
  have hr' : s.counted.rights h.part (.tableLoad code len data) = true := by
    have : s.counted.tableRights h.part code = true := hr
    simp [State.rights, this]
  have hg : bodyGood (.tableLoad code len data) = true := by
    obtain ⟨hc, hn, -⟩ := hl
    simp [bodyGood, hc, hn]
  rw [take_acts ht hp rfl hr' hg, act_tableLoad, takeTable_waits hl]

/-- One of the tables that R328 gives the OWNER. -/
theorem tableRights_owner {s : State} {p c : Nat} (h : p = s.owner) (h1 : isColour c = false) (h2 : isScaler c = false)
    (h3 : c ≠ 0x121) : s.tableRights p c = true := by
  simp [State.tableRights, h1, h2, h3, h]

theorem isColour_code {l : Nat} (h : l ≤ 12) : isColour (0x100 + l) = true := by
  simp [isColour]; omega

theorem isScaler_code {v : Nat} (h : v ≤ 3) : isColour (0x110 + v) = false ∧ isScaler (0x110 + v) = true := by
  simp [isColour, isScaler]; omega

theorem isRate_code {k : Nat} (h : k ≤ 3) :
    isColour (0x300 + k) = false ∧ isScaler (0x300 + k) = false ∧ isRate (0x300 + k) = true := by
  simp [isColour, isScaler, isRate]; omega

/-- The codes of a family are not those read in place. -/
theorem inPlace_family {c : Nat} (h : isColour c = true ∨ isScaler c = true ∨ isRate c = true) : inPlace c = false := by
  simp [isColour, isScaler, isRate, inPlace] at h ⊢; omega

theorem loadOk_colour {l : Nat} (h : l ≤ 12) (d : List Byte) : loadOk (0x100 + l) 6212 (some d) := by
  have hc := isColour_code h
  have hi := inPlace_family (.inl hc)
  exact ⟨by simp [tableCode, hc], by simp [tableLenOk, hi, hc], by omega, .inr rfl⟩

theorem loadOk_scaler {v : Nat} (h : v ≤ 3) (d : List Byte) : loadOk (0x110 + v) 1796 (some d) := by
  obtain ⟨hc, hs⟩ := isScaler_code h
  have hi := inPlace_family (.inr (.inl hs))
  exact ⟨by simp [tableCode, hs], by simp [tableLenOk, hi, hc, hs], by omega, .inr rfl⟩

theorem loadOk_rate {k : Nat} (h : k ≤ 3) (d : List Byte) : loadOk (0x300 + k) 156836 (some d) := by
  obtain ⟨hc, hs, hr⟩ := isRate_code h
  have hi := inPlace_family (.inr (.inr hr))
  have h1 : 0x300 + k ≠ 0x120 := by omega
  have h2 : 0x300 + k ≠ 0x203 := by omega
  exact ⟨by simp [tableCode, hr], by simp [tableLenOk, hi, hc, hs, hr, h1, h2], by omega, .inr rfl⟩

theorem loadOk_setupList {n : Nat} (h1 : 12 ≤ n) (h2 : n ≤ 1032) (h3 : n % 4 = 0) (d : List Byte) : loadOk 0x400 n (some d) :=
  ⟨rfl, by simp [tableLenOk, inPlace, isColour, isScaler, isRate, h1, h2, h3], by omega, .inr rfl⟩

/-- Completing the rate sets that waited takes no serial number of the raster's. -/
theorem dropRates_serial (s : State) : s.dropRates.scn.serial = s.scn.serial := by
  have h := doneAll_recordsOnly (s.setTables (s.scn.tables.filter fun t => !isRate t.code))
    ((s.scn.tables.filter fun t => isRate t.code).map (·.req)) SUPERSEDED
  unfold recordsOnly at h
  have k := congrArg (fun t : State => t.scn.serial) h
  exact k

/-- An area of no bytes has no unit to count. -/
theorem countRecon_empty (s : State) : s.countRecon 0 0 = s := by
  simp [State.countRecon]

theorem tableCheck_postBlend (s : State) {t : Table} (h : t.code = 0x120) :
    s.tableCheck t = if crcGood t.data 24580 = true then (OK, t.data) else (INVALID, []) := by
  simp [State.tableCheck, h, isColour, isScaler]

theorem tableArea_postBlend (s : State) : s.tableArea 0x120 = (0, 0) := by
  simp [State.tableArea]

theorem tableReady_postBlend_good {s : State} {t : Table} (h : t.code = 0x120) (hc : crcGood t.data 24580 = true) :
    s.tableReady t = s.setTables (s.scn.tables.map fun x =>
      if x.id = t.id then { x with data := t.data, readyAt := some s.now } else x) := by
  simp [State.tableReady, tableCheck_postBlend s h, hc, h, tableArea_postBlend, countRecon_empty, isRate]

theorem tableReady_postBlend_bad {s : State} {t : Table} (h : t.code = 0x120) (hc : crcGood t.data 24580 = false) :
    s.tableReady t = (s.setTables (s.scn.tables.filter (·.id != t.id))).done t.req INVALID := by
  simp [State.tableReady, tableCheck_postBlend s h, hc, h, tableArea_postBlend, countRecon_empty, OK, INVALID, NOT_READY]

/-! The commands whose code carries a layer, a view or a rate (R328). -/

theorem exec_colourTableLoad {l : Nat} (hl : l ≤ 12) (h : Hdr) (len : Nat) (d : Option (List Byte)) (s : State) :
    exec (.colourTableLoad h l len d) s = .next (s.take h (.tableLoad (0x100 + l) len d)) := by
  show Host.Outcome.next (s.take h (.tableLoad (if l ≤ 12 then 0x100 + l else 0) len d)) = _
  rw [if_pos hl]

theorem exec_scalerCoeffLoad {v : Nat} (hv : v ≤ 3) (h : Hdr) (len : Nat) (d : Option (List Byte)) (s : State) :
    exec (.scalerCoeffLoad h v len d) s = .next (s.take h (.tableLoad (0x110 + v) len d)) := by
  show Host.Outcome.next (s.take h (.tableLoad (if v ≤ 3 then 0x110 + v else 0) len d)) = _
  rw [if_pos hv]

theorem exec_rateSetLoad {k : Nat} (hk : k ≤ 3) (h : Hdr) (len : Nat) (d : Option (List Byte)) (s : State) :
    exec (.rateSetLoad h k len d) s = .next (s.take h (.tableLoad (0x300 + k) len d)) := by
  show Host.Outcome.next (s.take h (.tableLoad (if k ≤ 3 then 0x300 + k else 0) len d)) = _
  rw [if_pos hk]

/-- The table that TABLE_READY's number finds is checked. -/
theorem execTableReady_found {s : State} {id : Nat} {t : Table}
    (h : (s.scn.tables.find? fun t => t.id == id && t.readyAt.isNone) = some t) :
    exec (.tableReady id) s = .next (s.tableReady t) ∧ t.id = id := by
  have hid := List.find?_some h
  simp only [Bool.and_eq_true, beq_iff_eq] at hid
  refine ⟨?_, hid.1⟩
  show Host.Outcome.next _ = _
  rw [h]

/-- Settles O15: each load is `take_tableLoad` of its code, and TABLE_READY of the post-blend LUT is judged by its CRC. -/
theorem tableLoads : Obligations.TableLoads := by
  refine ⟨fun s h g ht hp => ⟨fun ho => ?owner, ?colour, ?scaler, fun ho => ?safe⟩, fun s id t hf hc => ?ready⟩
  case owner =>
    have hr {c : Nat} (h1 : isColour c = false) (h2 : isScaler c = false) (h3 : c ≠ 0x121) : s.tableRights h.part c = true :=
      tableRights_owner ho h1 h2 h3
    refine ⟨?book, fun d => ?lut, fun d => ?ntc, fun n d h1 h2 h3 => ?setup, fun k d hk => ?rate⟩
    case book => exact congrArg _ (take_tableLoad ht hp (hr rfl rfl (by decide)) ⟨rfl, rfl, by decide, .inl rfl⟩)
    case lut => exact congrArg _ (take_tableLoad ht hp (hr rfl rfl (by decide)) ⟨rfl, rfl, by decide, .inr rfl⟩)
    case ntc => exact congrArg _ (take_tableLoad ht hp (hr rfl rfl (by decide)) ⟨rfl, rfl, by decide, .inr rfl⟩)
    case setup => exact congrArg _ (take_tableLoad ht hp (hr rfl rfl (by decide)) (loadOk_setupList h1 h2 h3 d))
    case rate =>
      obtain ⟨hc, hs, hk'⟩ := isRate_code hk
      rw [exec_rateSetLoad hk, take_tableLoad ht hp (hr hc hs (by omega)) (loadOk_rate hk d), if_pos hk', waitsForTable,
        dropRates_serial]
      rfl
  case colour =>
    intro l d hl ho
    have hr : s.tableRights h.part (0x100 + l) = true := by simp [State.tableRights, isColour_code hl, ho]
    have hk : isRate (0x100 + l) = false := by simp [isRate]; omega
    rw [exec_colourTableLoad hl, take_tableLoad ht hp hr (loadOk_colour hl d), hk]
    rfl
  case scaler =>
    intro v d hv ho
    obtain ⟨hc, hs⟩ := isScaler_code hv
    have hr : s.tableRights h.part (0x110 + v) = true := by simp [State.tableRights, hc, hs, ho]
    have hk : isRate (0x110 + v) = false := by simp [isRate]; omega
    rw [exec_scalerCoeffLoad hv, take_tableLoad ht hp hr (loadOk_scaler hv d), hk]
    rfl
  case safe =>
    have hr : s.tableRights h.part 0x121 = true := ho
    exact congrArg _ (take_tableLoad ht hp hr ⟨rfl, rfl, by decide, .inl rfl⟩)
  case ready =>
    obtain ⟨e, rfl⟩ := execTableReady_found hf
    refine ⟨fun hg => ?_, fun hb => ?_⟩
    · rw [e, tableReady_postBlend_good hc hg]; rfl
    · rw [e, tableReady_postBlend_bad hc hb]; rfl

/-! MODE_SWITCH into a baked mode (R34, R354). -/

/-- Mode 0, P0's SQ 0 and CQ 1 enabled, a book with CELLAR's overlay, the frame store up, and no BAKED region. -/
def noBakedRegion : State :=
  let s := ((((State.reset.setFldI HIF_Q_CFG_en 0 1).setFldI HIF_Q_CFG_en 1 1).setFldI HIF_Q_CFG_kind 1 1).setFld
    MOD_STATUS_cur_mode 0).setFld FST_STATUS_state 2
  { s with mod := { s.mod with book := some { base := [], overlays := [(7, (2, []))] } } }

/-- A plain descriptor of P0's SQ 0 that names its CQ 1. -/
def plainDescriptor : Hdr := ⟨0, 0, 0, 0, 1, 0, 0, 0, true⟩

/-- FST_FLAGS.region_miss after a command. -/
def regionMissAfter : Host.Outcome State Fault Refusal → Option Nat
  | .next t => some (t.fld FST_FLAGS_region_miss)
  | _ => none

theorem noBakedRegion_takes : noBakedRegion.takes plainDescriptor 0 ∧ plainHdr plainDescriptor ∧
    plainDescriptor.part = noBakedRegion.owner ∧ noBakedRegion.mode = 0 := by
  decide +kernel

/-- Refutes O18: a MODE_SWITCH into CELLAR with the store up and no region for the baked frame also sets FST_FLAGS.region_miss
(R354), where the statement has it complete NOT_READY and change nothing else. -/
theorem not_commitsAndSwitches : ¬ Obligations.CommitsAndSwitches := by
  intro h
  obtain ⟨-, -, hs⟩ := h
  obtain ⟨ht, hp, ho, hm⟩ := noBakedRegion_takes
  have e := congrArg regionMissAfter (hs noBakedRegion plainDescriptor 0 7 ht hp ho (by decide) rfl rfl rfl (by omega))
  have missed : regionMissAfter (exec (.modeSwitch plainDescriptor 7) noBakedRegion) = some 1 := by decide +kernel
  exact absurd (missed.symm.trans e) (by decide +kernel)

end Sys2Proof.Proofs

/-! PROOFS. The statements of the timebase and the milestones (R45 to R66): the tick, a load and a snapshot of TB, edges of SYNC_IN and
SHUTTER_IN, SYNC_OUT and slews, milestones from dispatch to firing, and the wake sources (R398 to R400). -/

namespace Sys2Proof.Proofs

open Sys2Proof Sys2Proof.Machine Sys2Proof.Machine.Reg Sys2Proof.Laws

/-! Fields of one register: a write of a field changes it alone. -/

/-- A word with a field replaced, as its three parts: above the field, the field, below it. -/
theorem setBits_eq (w hi lo v : Nat) : setBits w hi lo v =
    2 ^ lo * (2 ^ (hi - lo + 1) * (w / 2 ^ lo / 2 ^ (hi - lo + 1)) + v % 2 ^ (hi - lo + 1)) + w % 2 ^ lo := by
  unfold setBits bits
  generalize 2 ^ (hi - lo + 1) = b
  generalize 2 ^ lo = a
  have hw : a * (b * (w / a / b)) + w / a % b * a + w % a = w := by
    calc a * (b * (w / a / b)) + w / a % b * a + w % a = a * (b * (w / a / b) + w / a % b) + w % a := by ring
      _ = w := by rw [Nat.div_add_mod, Nat.div_add_mod]
  have hv : a * (b * (w / a / b) + v % b) = a * (b * (w / a / b)) + v % b * a := by ring
  omega

theorem testBit_setBits (w hi lo v i : Nat) (h : lo ≤ hi) :
    (setBits w hi lo v).testBit i = if lo ≤ i ∧ i ≤ hi then v.testBit (i - lo) else w.testBit i := by
  rw [setBits_eq, Nat.testBit_two_pow_mul_add _ (Nat.mod_lt _ (Nat.two_pow_pos lo))]
  by_cases hl : i < lo
  · simp [hl, Nat.not_le.2 hl]
  · rw [if_neg hl, Nat.testBit_two_pow_mul_add _ (Nat.mod_lt _ (Nat.two_pow_pos _))]
    have hlo : lo ≤ i := Nat.le_of_not_lt hl
    by_cases hh : i ≤ hi
    · have hin : i - lo < hi - lo + 1 := by omega
      simp [hlo, hh, hin]
    · have hout : ¬ i - lo < hi - lo + 1 := by omega
      rw [if_neg hout, if_neg (by omega), Nat.testBit_div_two_pow, Nat.testBit_div_two_pow]
      congr 1
      omega

theorem testBit_bits (w hi lo i : Nat) : (bits w hi lo).testBit i = (decide (i < hi - lo + 1) && w.testBit (lo + i)) := by
  simp [bits, Nat.testBit_mod_two_pow, Nat.testBit_div_two_pow, Nat.add_comm]

/-- A field of a register reads as written, cut to its width. -/
theorem fld_setFld_same (s : State) {f : Fld} (v : Nat) (h : f.lo ≤ f.hi) (hw : f.hi < 32) :
    (s.setFld f v).fld f = v % 2 ^ (f.hi - f.lo + 1) := by
  refine Nat.eq_of_testBit_eq fun i => ?_
  rw [State.fld, State.fldAt, State.setFld, State.setFldAt, reg_setReg_same, testBit_bits, Nat.testBit_mod_two_pow,
    testBit_setBits _ _ _ _ _ h, Nat.testBit_mod_two_pow]
  by_cases hi : i < f.hi - f.lo + 1
  · have h1 : f.lo + i < 32 := by omega
    have h2 : f.lo + i ≤ f.hi := by omega
    simp [hi, h1, h2]
  · simp [hi]

/-- A field of a register outlasts a write of another field of it. -/
theorem fld_setFld_disjoint (s : State) {f k : Fld} (v : Nat) (ho : k.off = f.off) (h : f.lo ≤ f.hi) (hk : k.lo ≤ k.hi)
    (hw : k.hi < 32) (hd : k.hi < f.lo ∨ f.hi < k.lo) : (s.setFld f v).fld k = s.fld k := by
  refine Nat.eq_of_testBit_eq fun i => ?_
  rw [State.fld, State.fldAt, State.setFld, State.setFldAt, ho, reg_setReg_same, testBit_bits, Nat.testBit_mod_two_pow,
    testBit_setBits _ _ _ _ _ h, State.fld, State.fldAt, ho, testBit_bits]
  by_cases hi : i < k.hi - k.lo + 1
  · have h1 : k.lo + i < 32 := by omega
    have h2 : ¬(f.lo ≤ k.lo + i ∧ k.lo + i ≤ f.hi) := by omega
    simp only [hi, h1, h2, decide_true, Bool.true_and, if_false]
  · simp [hi]

/-- A field of another register outlasts a write. -/
theorem fld_setFld_other (s : State) {f k : Fld} (v : Nat) (h : k.off / 4 ≠ f.off / 4) : (s.setFld f v).fld k = s.fld k := by
  have hr : (s.setFld f v).reg k.off 0 0 = s.reg k.off 0 0 := reg_setReg_other s _ (by simpa [regKey] using h)
  rw [State.fld, State.fldAt, hr]
  rfl

/-! A MILESTONE from its dispatch to its action (R55 to R60). Beside a launch time its header is plain. -/

theorem headerGood_milestone {h : Hdr} (hp : plainHdr { h with launch := 0 }) (act b21 : Nat) (a : BitVec 64) :
    headerGood h (.milestone act b21 a) = true := by
  obtain ⟨hc, hf, hi, hv, -⟩ := hp
  simp only at hc hf hi hv
  simp [headerGood, timed, fenced, chained, hc, hf, hi, hv]

theorem refusal_milestone {s : State} {h : Hdr} {act b21 : Nat} {a : BitVec 64} (hw : s.hif.noFw = false)
    (hp : plainHdr { h with launch := 0 }) (hr : s.rights h.part (.milestone act b21 a) = true)
    (hg : milestoneGood act b21 a = true) : s.refusal h (.milestone act b21 a) = none := by
  have hg' : bodyGood (.milestone act b21 a) = true := hg
  simp [State.refusal, State.bootOnly, hw, hr, headerGood_milestone hp, hg']

/-- A MILESTONE that nothing refuses goes to the scheduler under the next serial number. -/
theorem take_milestone {s : State} {h : Hdr} {g act b21 : Nat} {a : BitVec 64} (ht : s.takes h g)
    (hp : plainHdr { h with launch := 0 }) (hr : s.counted.rights h.part (.milestone act b21 a) = true)
    (hg : milestoneGood act b21 a = true) :
    s.take h (.milestone act b21 a) = (s.counted.arm (s.reqOf h g) (.milestone act b21 a)).goOn := by
  have ⟨hsq, _, _, hfw, _⟩ := ht
  have hf : fenced h = false := fenced_plain (h := { h with launch := 0 }) hp
  have href : s.counted.refusal (s.reqOf h g).h (.milestone act b21 a) = none := refusal_milestone hfw hp hr hg
  have hlet : s.counted.letIn (s.reqOf h g) (.milestone act b21 a) = s.counted.arm (s.reqOf h g) (.milestone act b21 a) := by
    have hf' : fenced (s.reqOf h g).h = false := hf
    simp [State.letIn, href, hf']
  rw [State.take, hsq]
  show (s.dispatch g h _).goOn = _
  rw [dispatch_takes ht rfl, hlet]

/-- The scheduler acts on a MILESTONE itself, whether or not the SVC restarts. -/
theorem act_milestone (s : State) (r : Req) (act b21 : Nat) (a : BitVec 64) (late : Bool) :
    s.act r (.milestone act b21 a) late = s.actMilestone r act b21 a late := by
  simp [State.act, onSvc]

theorem act_mark (s : State) (r : Req) (late : Bool) : s.act r (.milestone 6 0 0) late = s.done r (if late then LATE else OK) := by
  rw [act_milestone]
  rfl

/-- What the scheduler does with a MARK that names a launch time (R55, R56, R58). -/
theorem arm_mark (s : State) {r : Req} (h : r.h.launch ≠ 0) : s.arm r (.milestone 6 0 0) =
    if r.h.launch.toNat ≤ s.now then s.done r LATE
    else if s.msQuota r.h.part ≤ (s.tbs.armed.filter fun x => x.req.h.part == r.h.part).length then s.done r NO_RESOURCE
    else if s.now + 2 ^ 47 < r.h.launch.toNat then s.done r INVALID
    else s.setArmed (s.tbs.armed ++ [⟨r, .milestone 6 0 0, r.h.launch.toNat⟩]) := by
  have h0 : r.h.launch.toNat ≠ 0 := fun k => h (BitVec.eq_of_toNat_eq k)
  rw [State.arm, if_neg h0, act_mark]
  rfl

/-! The armed descriptor that fires next (R57). -/

/-- R57's order of armed descriptors: launch time, then queue context, then submission. -/
def firingKey (a : Armed) : Nat ×ₗ Nat ×ₗ Nat := toLex (a.launch, toLex (a.req.g, a.req.ord))

theorem firingKey_le {a b : Armed} : firingKey a ≤ firingKey b ↔
    a.launch < b.launch ∨ (a.launch = b.launch ∧ (a.req.g < b.req.g ∨ (a.req.g = b.req.g ∧ a.req.ord ≤ b.req.ord))) := by
  simp only [firingKey, Prod.Lex.toLex_le_toLex]

theorem firesFirst_eq (a b : Armed) : firesFirst a b = if firingKey b < firingKey a then b else a := by
  refine if_congr ?_ rfl rfl
  have hb : before a.req b.req = false ↔ b.req.g < a.req.g ∨ (b.req.g = a.req.g ∧ b.req.ord < a.req.ord) := by
    simp only [before, Bool.or_eq_false_iff, Bool.and_eq_false_iff, decide_eq_false_iff_not, beq_eq_false_iff_ne]
    omega
  rw [hb, firingKey, firingKey, Prod.Lex.toLex_lt_toLex, Prod.Lex.toLex_lt_toLex]

/-- The fold that chooses the next firing is the library's least element by `firingKey`. -/
theorem nextArmed_eq (s : State) : s.nextArmed = s.tbs.armed.argmin firingKey := by
  have hfold (l : List Armed) : ∀ a, some (l.foldl firesFirst a) =
      l.foldl (List.argAux fun b c => firingKey b < firingKey c) (some a) := by
    induction l with
    | nil => exact fun _ => rfl
    | cons x l ih =>
      intro a
      rw [List.foldl_cons, List.foldl_cons, ih, firesFirst_eq]
      exact congrArg (List.foldl _ · l) (apply_ite some _ _ _)
  unfold State.nextArmed
  cases s.tbs.armed with
  | nil => rfl
  | cons a l => exact hfold l a

theorem nextArmed_first {s : State} (h : s.tbs.armed ≠ []) :
    ∃ a ∈ s.tbs.armed, s.nextArmed = some a ∧ ∀ b ∈ s.tbs.armed, firingKey a ≤ firingKey b := by
  rw [nextArmed_eq]
  obtain ⟨a, ha⟩ := Option.ne_none_iff_exists'.1 fun k => h ((List.argmin_eq_none (f := firingKey)).1 k)
  exact ⟨a, List.argmin_mem ha, ha, fun b hb => List.le_of_mem_argmin hb ha⟩

/-- Settles O9: a MARK by the scheduler's tests in their order, the firing by the least `firingKey`. -/
theorem milestonesArmAndFireInOrder : Obligations.MilestonesArmAndFireInOrder := by
  refine ⟨fun s h g ht hp hl => ?_, fun s ha hd => ?_⟩
  · have hl' : (s.reqOf h g).h.launch ≠ 0 := hl
    refine congrArg Host.Outcome.next ((take_milestone ht hp rfl rfl).trans ?_)
    rw [arm_mark _ hl']
    rfl
  · obtain ⟨a, hm, hn, hb⟩ := nextArmed_first ha
    refine ⟨a, hm, fun b h => firingKey_le.1 (hb b h), ?_⟩
    show Host.Outcome.next _ = _
    rw [hn]
    exact congrArg _ (if_pos hd)

/-! The actions of MILESTONEs (R58 to R60). -/

/-- A MILESTONE without a launch time acts at its dispatch. -/
theorem take_milestone_now {s : State} {h : Hdr} {g act b21 : Nat} {a : BitVec 64} (ht : s.takes h g) (hp : plainHdr h)
    (hr : s.counted.rights h.part (.milestone act b21 a) = true) (hg : milestoneGood act b21 a = true) :
    s.take h (.milestone act b21 a) = (s.counted.actMilestone (s.reqOf h g) act b21 a false).goOn := by
  rw [take_acts ht hp rfl hr hg, act_milestone]

theorem msArgs_toNat {lo hi : Nat} (hl : lo < 2 ^ 32) (hh : hi < 2 ^ 32) : (msArgs lo hi).toNat = lo + 2 ^ 32 * hi := by
  unfold msArgs
  rw [BitVec.toNat_ofNat]
  omega

theorem argLo_msArgs {lo hi : Nat} (hl : lo < 2 ^ 32) (hh : hi < 2 ^ 32) : argLo (msArgs lo hi) = lo := by
  rw [argLo, msArgs_toNat hl hh]
  omega

theorem argHi_msArgs {lo hi : Nat} (hl : lo < 2 ^ 32) (hh : hi < 2 ^ 32) : argHi (msArgs lo hi) = hi := by
  rw [argHi, msArgs_toNat hl hh]
  omega

/-- The number by which a CANCEL names a completion queue and a tag is one word (R59). -/
theorem cancelWord_lt (cq tag : BitVec 16) : cq.toNat + 65536 * tag.toNat < 2 ^ 32 := by
  have := cq.isLt
  have := tag.isLt
  omega

/-- SIGNAL_FENCE on a fence of the partition. -/
theorem take_signalFence {s : State} {h : Hdr} {g f : Nat} (v : Word) (ht : s.takes h g) (hp : plainHdr h) (hf : f < 4096)
    (ho : f / 1024 = h.part) : s.take h (.milestone 1 0 (msArgs f v.toNat)) =
      ((s.counted.setFence f v).done (s.reqOf h g) OK).goOn := by
  have hl : argLo (msArgs f v.toNat) = f := argLo_msArgs (by omega) v.isLt
  have hh : argHi (msArgs f v.toNat) = v.toNat := argHi_msArgs (by omega) v.isLt
  have hr : s.counted.rights h.part (.milestone 1 0 (msArgs f v.toNat)) = true := by
    simp [State.rights, hl, fenceOwner]
    omega
  have hg : milestoneGood 1 0 (msArgs f v.toNat) = true := by simp [milestoneGood, hl, hf]
  rw [take_milestone_now ht hp hr hg]
  simp [State.actMilestone, hl, hh]

/-- ENGINE_FLAG on clusters of the partition. -/
theorem take_engineFlag {s : State} {h : Hdr} {g bit : Nat} {m : Word} (ht : s.takes h g) (hp : plainHdr h) (hb : bit < 16)
    (hm : m ≠ 0) (ho : ∀ c < 32, m.getLsbD c = true → s.clOwner c = h.part) :
    s.take h (.milestone 3 0 (msArgs bit m.toNat)) =
      ((((List.range 32).filter m.getLsbD).foldl (fun t c => t.flagCluster bit c) s.counted).done (s.reqOf h g) OK).goOn := by
  have hl : argLo (msArgs bit m.toNat) = bit := argLo_msArgs (by omega) m.isLt
  have hh : argHi (msArgs bit m.toNat) = m.toNat := argHi_msArgs (by omega) m.isLt
  have hmask : BitVec.ofNat 32 (argHi (msArgs bit m.toNat)) = m := by simp [hh]
  have hown : s.counted.ownsClusters h.part m = true := by
    refine List.all_eq_true.2 fun c hc => ?_
    obtain ⟨hc, hbit⟩ := List.mem_filter.1 hc
    exact beq_iff_eq.2 (ho c (List.mem_range.1 hc) hbit)
  have hr : s.counted.rights h.part (.milestone 3 0 (msArgs bit m.toNat)) = true := by
    simp [State.rights, hmask, hown]
  have hm' : m.toNat ≠ 0 := fun k => hm (BitVec.eq_of_toNat_eq k)
  have hg : milestoneGood 3 0 (msArgs bit m.toNat) = true := by simp [milestoneGood, hl, hh, hb, hm']
  rw [take_milestone_now ht hp hr hg, State.actMilestone, hl, hmask]
  rfl

/-- STREAM_GATE on a context of a port of the partition. -/
theorem take_streamGate {s : State} {h : Hdr} {g c : Nat} (close : Bool) (ht : s.takes h g) (hp : plainHdr h) (hc : c < 1024)
    (ho : s.portOwner (c / 128) = h.part) : s.take h (.milestone 4 (if close then 1 else 0) (msArgs c 0)) =
      ((s.counted.gate c close).done (s.reqOf h g) OK).goOn := by
  have hl : argLo (msArgs c 0) = c := argLo_msArgs (by omega) (by omega)
  have hn : (msArgs c 0).toNat = c := by rw [msArgs_toNat (by omega) (by omega)]; omega
  have ho' : s.counted.portOwner (c / 128) = h.part := ho
  have hr (b21 : Nat) : s.counted.rights h.part (.milestone 4 b21 (msArgs c 0)) = true := by simp [State.rights, hl, ho']
  have hg : milestoneGood 4 (if close then 1 else 0) (msArgs c 0) = true := by cases close <;> simp [milestoneGood, hn, hc]
  rw [take_milestone_now ht hp (hr _) hg, State.actMilestone, hl]
  cases close <;> rfl

/-- The armed descriptor of partition `p` with a completion queue and a tag that is not due yet (R59, R60). -/
theorem cancelled_msArgs (s : State) (p : Nat) (cq tag : BitVec 16) :
    s.cancelled p (msArgs (cq.toNat + 65536 * tag.toNat) 0) = s.tbs.armed.find? fun x =>
      x.req.h.part == p && x.req.h.cq == cq && x.req.h.tag == tag && decide (s.now < x.launch) := by
  have hl : argLo (msArgs (cq.toNat + 65536 * tag.toNat) 0) = cq.toNat + 65536 * tag.toNat :=
    argLo_msArgs (cancelWord_lt cq tag) (by omega)
  have hcq : (cq.toNat + 65536 * tag.toNat) % 65536 = cq.toNat := by have := cq.isLt; omega
  have htag : (cq.toNat + 65536 * tag.toNat) / 65536 = tag.toNat := by have := cq.isLt; omega
  have toNat_beq (a b : BitVec 16) : (a.toNat == b.toNat) = (a == b) := by
    rw [Bool.eq_iff_iff, beq_iff_eq, beq_iff_eq, BitVec.toNat_inj]
  simp only [State.cancelled, hl, hcq, htag, toNat_beq]

/-- CANCEL by whether it finds a descriptor. -/
theorem take_cancel {s : State} {h : Hdr} {g : Nat} (cq tag : BitVec 16) (ht : s.takes h g) (hp : plainHdr h) :
    s.take h (.milestone 5 0 (msArgs (cq.toNat + 65536 * tag.toNat) 0)) =
      (match s.cancelled h.part (msArgs (cq.toNat + 65536 * tag.toNat) 0) with
        | some x => (s.counted.abortArmed x).done (s.reqOf h g) OK
        | none => s.counted.done (s.reqOf h g) INVALID).goOn := by
  have hh : argHi (msArgs (cq.toNat + 65536 * tag.toNat) 0) = 0 := argHi_msArgs (cancelWord_lt cq tag) (by omega)
  have hg : milestoneGood 5 0 (msArgs (cq.toNat + 65536 * tag.toNat) 0) = true := by simp [milestoneGood, hh]
  rw [take_milestone_now ht hp rfl hg]
  rfl

/-- Settles O8: each action is `take_milestone_now` of its arguments. -/
theorem milestoneActions : Obligations.MilestoneActions := by
  intro s h g ht hp
  refine ⟨fun f v hf ho => ?fence, ?pulse, fun bit m hb hm ho => ?flag, fun c close hc ho => ?gate, fun cq tag x hx => ?found,
    fun cq tag hnone => ?none, ?mark⟩
  case fence => exact congrArg _ (take_signalFence v ht hp hf ho)
  case pulse => exact congrArg _ (take_milestone_now ht hp rfl rfl)
  case flag => exact congrArg _ (take_engineFlag ht hp hb hm ho)
  case gate => exact congrArg _ (take_streamGate close ht hp hc ho)
  case found =>
    refine congrArg Host.Outcome.next ((take_cancel cq tag ht hp).trans ?_)
    rw [cancelled_msArgs, hx]
  case none =>
    have hfind : s.cancelled h.part (msArgs (cq.toNat + 65536 * tag.toNat) 0) = none := by
      rw [cancelled_msArgs]
      refine List.find?_eq_none.2 fun x hx => ?_
      simpa [and_assoc] using hnone x hx
    refine congrArg Host.Outcome.next ((take_cancel cq tag ht hp).trans ?_)
    rw [hfind]
  case mark => exact congrArg _ (take_milestone_now ht hp rfl rfl)

/-! TB: the tick, a load and a snapshot (R46, R52, R66). -/

/-- Without the DPLL's term, the host's and a slew, nothing corrects the frequency (R46). -/
theorem freqTerm_zero {s : State} (hd : s.fld TBS_DPLL_STATUS_state = 0) (hh : s.fld TBS_CTRL_src ≠ 2) (hl : s.tbs.slewLeft = 0) :
    s.freqTerm = 0 := by
  have hslew : s.slewTerm = 0 := by simp [State.slewTerm, hl]
  simp only [State.freqTerm, hd, hh, hslew, if_true, if_false]
  decide

theorem inc_nominal {s : State} (h : s.freqTerm = 0) : s.inc = 0xD5555555 := by
  rw [State.inc, h]
  decide

theorem step_idle {s : State} (h : s.pending = []) : step s = .next (tick s) := by
  rw [step, h]

/-- A word without fields that keep what is written stays as it is (R7). -/
theorem written_none {d : RegDesc} (hw : paramMask d = 0) (hc : accMask d (· == .w1c) = 0) (ht : accMask d (· == .w1s) = 0)
    (cur w : Nat) : written d cur w = cur := by
  simp [written, mergeBits, hw, hc, ht]

theorem plainWrite_none {s : State} {d : RegDesc} {off ix bank w : Nat} (h : ∀ cur, written d cur w = cur) :
    s.plainWrite d off ix bank w = s := if_pos (h _)

/-- TBS_SNAP and TBS_TB_LOAD_GO as the register table has them. -/
def snapDesc : RegDesc := ⟨"TBS_SNAP", 0x10050, 4, 1, .part, .none, [⟨0, 0, .wo, 0⟩]⟩
def tbLoadGoDesc : RegDesc := ⟨"TBS_TB_LOAD_GO", 0x1006c, 4, 1, .owner, .none, [⟨0, 0, .wo, 0⟩]⟩

theorem regAt_snap : regAt TBS_SNAP = some snapDesc := by decide +kernel
theorem regAt_tbLoadGo : regAt TBS_TB_LOAD_GO = some tbLoadGoDesc := by decide +kernel

/-- A served write of 1 to TBS_SNAP does its action alone. -/
theorem acceptWrite_snap (s : State) (p : Nat) : s.acceptWrite p snapDesc TBS_SNAP 0 1 = s.takeSnap p := by
  have h := plainWrite_none (s := s) (off := TBS_SNAP) (ix := 0) (bank := p) (written_none (d := snapDesc) rfl rfl rfl · 1)
  show (if (s.running = true ∧ false = true ∧ _) then _ else (s.plainWrite snapDesc TBS_SNAP 0 p 1).takeSnap p) = _
  rw [h]
  simp

/-- A write of 1 to TBS_TB_LOAD_GO that nothing denies loads TB or is refused. -/
theorem acceptWrite_tbLoadGo (s : State) (p : Nat) : s.acceptWrite p tbLoadGoDesc TBS_TB_LOAD_GO 0 1 = s.loadTb := by
  have h := plainWrite_none (s := s) (off := TBS_TB_LOAD_GO) (ix := 0) (bank := 0) (written_none (d := tbLoadGoDesc) rfl rfl rfl · 1)
  show (if (s.running = true ∧ false = true ∧ _) then _ else (s.plainWrite tbLoadGoDesc TBS_TB_LOAD_GO 0 0 1).loadTb) = _
  rw [h]
  simp

/-- No field of TBS_SNAP is locked, and every partition may write it (R66, R457). -/
theorem denyCause_snap {s : State} {p : Nat} (h : s.partOn p = true) (w : Nat) : s.denyCause p snapDesc TBS_SNAP w = none := by
  have hl : changesRwl snapDesc (s.reg TBS_SNAP 0 0) w = false := by
    simp [changesRwl, show accMask snapDesc (· == .rwl) = 0 from rfl]
  have hix : snapDesc.ix = .none := rfl
  have hscope : snapDesc.scope = .part := rfl
  simp [State.denyCause, h, hl, hix, hscope, State.selected, scopeFor, State.granted, State.foreign]

theorem exec_snapshot {s : State} {p : Nat} (h : s.hostUp p) : exec (.snapshot p 1) s = .next (s.takeSnap p).goOn := by
  obtain ⟨hr, hp⟩ := h
  have hword : s.barWord p TBS_SNAP 1 = s.takeSnap p := by
    rw [State.barWord, regAt_snap]
    show (match s.denyCause p snapDesc TBS_SNAP 1 with
      | some c => s.deny p c TBS_SNAP
      | none => s.acceptWrite p snapDesc TBS_SNAP 0 1) = _
    rw [denyCause_snap hp, ← acceptWrite_snap]
  refine congrArg Host.Outcome.next ((bar0Write_word _ hr rfl rfl rfl rfl).trans ?_)
  exact congrArg State.goOn hword

theorem exec_tbLoad {s : State} {p : Nat} (h : s.ownerUp p) : exec (.tbLoad p 1) s = .next s.loadTb.goOn := by
  refine congrArg Host.Outcome.next ((owner_write _ h rfl rfl rfl rfl regAt_tbLoadGo rfl (by decide)).trans ?_)
  exact congrArg State.goOn (acceptWrite_tbLoadGo s p)

/-- A tick adds INC to TB:TB_FRAC where the SVC domain works, and else changes nothing (R46, R385). -/
theorem tick_runs {s : State} (hr : s.inReset = false) (hd : s.pwr.deep < 6) : tick s =
    let v := s.tb.toNat * 2 ^ 32 + s.tbFrac.toNat + s.inc
    { s with tb := BitVec.ofNat 64 (v / 2 ^ 32), tbFrac := BitVec.ofNat 32 v } :=
  if_neg (by simp [hr, hd])

theorem tick_stands {s : State} (h : s.inReset = true ∨ 6 ≤ s.pwr.deep) : tick s = s := if_pos h

/-- Settles O4: the two writes reach `loadTb` and `takeSnap`, and an empty queue's step is `tick`. -/
theorem timebaseTickLoadAndSnapshot : Obligations.TimebaseTickLoadAndSnapshot := by
  refine ⟨fun s p h => ?load, fun s p h => exec_snapshot h,
    fun s hq => ⟨fun hr hd => ?tick, fun h => ?stands, fun hd hh hl => ?inc⟩⟩
  case load =>
    have ⟨_, _, hl⟩ := h
    rw [exec_tbLoad h, State.loadTb]
    simp only [hl, and_true]
    rfl
  case tick => rw [step_idle hq, tick_runs hr hd]
  case stands => rw [step_idle hq, tick_stands h]
  case inc => exact inc_nominal (freqTerm_zero hd hh hl)

/-! SYNC_OUT and the end of a slew (R51, R54). -/

/-- By the end of a slew TB has absorbed all of it (R51). -/
theorem absorbed_slewEnd (s : State) : s.absorbed s.tbs.slewEnd = s.tbs.slewLeft := if_pos le_rfl

theorem absorb_slewEnd {s : State} (h : s.tbs.slewLeft ≠ 0) : s.absorb s.tbs.slewEnd =
    let t := s.moveRef s.tbs.slewLeft
    ({ t with tbs := { t.tbs with slewLeft := 0, slewAt := max s.tbs.slewAt s.tbs.slewEnd } } : State).setFld
      TBS_DPLL_STATUS_slewing 0 := by
  simp [State.absorb, h, absorbed_slewEnd, State.moveRef]

theorem syncPulse_on {s : State} {sel : Nat} (h : s.fld TBS_OUT_CFG_sel = sel) (t : Ns) : s.syncPulse sel t =
    s.emit (.syncOut t (100 * s.fld TBS_OUT_CFG_width) (s.fld TBS_OUT_CFG_pol == 0)) := if_pos h

/-- Settles O7: each pulse is `syncPulse` of its selection, and the slew's end is `absorb` of all that is left. -/
theorem syncOutAndSlew : Obligations.SyncOutAndSlew := by
  refine ⟨fun s hs => ?second, fun s t ts hs hd => ?edge, fun s hl => ?slew⟩
  case second =>
    refine (if_pos hs).trans (congrArg Host.Outcome.next ((syncPulse_on ?_ _).trans ?_))
    · exact hs
    · rfl
  case edge =>
    refine (if_neg (by rw [hs]; decide)).trans ?_
    rw [hd]
    refine congrArg Host.Outcome.next ((syncPulse_on ?_ _).trans ?_)
    · exact hs
    · rfl
  case slew =>
    refine (if_neg hl).trans (congrArg _ ?_)
    exact absorb_slewEnd (s := s.reach s.tbs.slewEnd) hl

/-! Edges of SYNC_IN (R48, R49). -/

theorem absorb_none {s : State} (h : s.tbs.slewLeft = 0) (t : Ns) : s.absorb t = s := if_pos h

theorem execSyncInEdge_accepted {s : State} {x : Edge} {width : Ns} (hw : 50 ≤ width)
    (hp : x.rising = !(s.fld TBS_CTRL_sync_edge == 1)) (hi : s.dpllInput = 0) :
    exec (.syncInEdge x width) s =
      .next ((({ s with pwr := { s.pwr with syncHigh := x.rising } } : State).reach (x.stamp + 50)).dpllEdge x.stamp) := by
  have hpol : ¬ x.rising = (s.fld TBS_CTRL_sync_edge == 1) := by rw [hp]; cases s.fld TBS_CTRL_sync_edge == 1 <;> decide
  exact (if_neg (Nat.not_lt.2 hw)).trans ((if_neg hpol).trans (congrArg Host.Outcome.next (if_pos hi)))

theorem execSyncInEdge_wrongWay {s : State} {x : Edge} {width : Ns} (hw : 50 ≤ width)
    (hp : x.rising = (s.fld TBS_CTRL_sync_edge == 1)) :
    exec (.syncInEdge x width) s = .next { s with pwr := { s.pwr with syncHigh := x.rising } } :=
  (if_neg (Nat.not_lt.2 hw)).trans (if_pos hp)

/-- The DPLL's term after a valid edge is some value within 100 ppm, and nothing else of the DPLL changes (R49). -/
theorem pullFreq_eq (s : State) : ∃ f l, -10000000 ≤ f ∧ f ≤ 10000000 ∧
    s.pullFreq = { s with free := s.free + 1, tbs := { s.tbs with freq := f, freqHist := l } } := by
  refine ⟨((Config.freeWord s.free).toNat % 20000001 : Nat) - (10000000 : Int), _, ?_, ?_, rfl⟩ <;> omega

/-- Only the pulses due at SYNC_OUT changed. -/
def withOutDue (s : State) (l : List Ns) : State := { s with tbs := { s.tbs with outDue := l } }

@[simp] theorem fld_withOutDue (s : State) (l : List Ns) (f : Fld) : (withOutDue s l).fld f = s.fld f := rfl

section
variable {s : State} {t t0 : Ns}

/-- Whole periods from the last valid edge, and the distance from that instant. -/
theorem edgeErr_eq (hl : s.tbs.lastEdge = some t0) (hp : 0 < s.period16) : s.edgeErr t =
    let d : Int := ((t : Int) - t0) * 65536
    let k := (2 * d + s.period16) / (2 * s.period16)
    (k, d - k * s.period16) := by
  have hmax : max (1 : Int) s.period16 = s.period16 := max_eq_right (by omega)
  simp only [State.edgeErr, hl, hmax, roundDiv, Option.getD_some]

theorem edgeValid_of (hk : 1 ≤ (s.edgeErr t).1) (he : (s.edgeErr t).2.natAbs ≤ s.window16) : s.edgeValid t = true := by
  simp [State.edgeValid, hk, he]

/-- An edge's phase error lies in TBS_DPLL_STATUS beside the DPLL's state. -/
theorem noteEdge_state : (s.noteEdge t).fld TBS_DPLL_STATUS_state = s.fld TBS_DPLL_STATUS_state :=
  fld_setFld_disjoint s (f := TBS_DPLL_STATUS_phase_err) _ rfl (by decide) (by decide) (by decide) (by decide)

theorem noteEdge_refAt (h : s.fld TBS_DPLL_STATUS_state ≠ 3) : (s.noteEdge t).tbs.refAt = some t :=
  if_neg (noteEdge_state (s := s) (t := t) ▸ h)

variable (hf : s.tbs.fresh = false) (hl : s.tbs.lastEdge = some t0)
include hf hl

theorem noteEdge_phaseErr : (s.noteEdge t).fld TBS_DPLL_STATUS_phase_err =
    unsigned 16 (clampInt (-32768) 32767 ((s.edgeErr t).2 / 65536)) := by
  have h : (s.noteEdge t).fld TBS_DPLL_STATUS_phase_err =
      unsigned 16 (clampInt (-32768) 32767
        (if (s.tbs.fresh || s.tbs.lastEdge.isNone) = true then 0 else (s.edgeErr t).2 / 65536)) % 2 ^ 16 :=
    fld_setFld_same s (f := TBS_DPLL_STATUS_phase_err) _ (by decide) (by decide)
  rw [h, hf, hl, if_neg (by simp)]
  refine Nat.mod_eq_of_lt ?_
  unfold unsigned
  omega

/-- An edge that follows a valid one counts toward lock where it lies within lock_thr of its instant (R49). -/
theorem noteEdge_lockRun : (s.noteEdge t).tbs.lockRun =
    if ((s.edgeErr t).2 / 65536).natAbs ≤ s.fld TBS_DPLL_CFG_lock_thr * 10 then s.tbs.lockRun + 1 else 0 := by
  simp [State.noteEdge, hf, hl]

/-- In ACQUIRE, short of lock, a valid edge is noted and pulls the frequency; a pulse of SYNC_OUT may become due. -/
theorem dpllEdge_acquiring (hen : s.dpllEn = true) (hs : s.fld TBS_DPLL_STATUS_state = 1) (hslew : s.tbs.slewLeft = 0)
    (hrun : s.tbs.lockRun < 15) (hv : s.edgeValid t = true) :
    ∃ l, s.dpllEdge t = (withOutDue (s.noteEdge t) l).pullFreq := by
  have hlock : (s.noteEdge t).tbs.lockRun < 16 := by
    rw [noteEdge_lockRun hf hl]
    split <;> omega
  have hstate (l : List Ns) : (withOutDue (s.noteEdge t) l).fld TBS_DPLL_STATUS_state = 1 :=
    (fld_withOutDue ..).trans (noteEdge_state.trans hs)
  by_cases hsel : (s.noteEdge t).fld TBS_OUT_CFG_sel = 2 ∧ (s.noteEdge t).dpllInput = 0
  · refine ⟨(s.noteEdge t).tbs.outDue ++ [t + 1000], ?_⟩
    unfold withOutDue at hstate ⊢
    simp only [State.dpllEdge, hen, absorb_none hslew, hv, if_pos hsel, hstate, if_pos hlock, Bool.not_true, Bool.false_eq_true,
      if_false, if_true]
  · refine ⟨(s.noteEdge t).tbs.outDue, ?_⟩
    have hstate' : (s.noteEdge t).fld TBS_DPLL_STATUS_state = 1 := noteEdge_state.trans hs
    have hsame : withOutDue (s.noteEdge t) (s.noteEdge t).tbs.outDue = s.noteEdge t := rfl
    simp only [State.dpllEdge, hen, absorb_none hslew, hv, if_neg hsel, hstate', if_pos hlock, Bool.not_true, Bool.false_eq_true,
      if_false, if_true, hsame]

end

theorem dpllEn_of {s : State} (hs : s.fld TBS_CTRL_src = 1) (he : s.fld TBS_CTRL_dpll_en = 1) : s.dpllEn = true := by
  simp [State.dpllEn, hs, he]

/-- What a valid edge short of lock leaves in ACQUIRE (R48, R49). -/
theorem dpllEdge_acquires {s : State} {t t0 : Ns} (hf : s.tbs.fresh = false) (hl : s.tbs.lastEdge = some t0) (hen : s.dpllEn = true)
    (hs : s.fld TBS_DPLL_STATUS_state = 1) (hslew : s.tbs.slewLeft = 0) (hrun : s.tbs.lockRun < 15) (hv : s.edgeValid t = true) :
    let u := s.dpllEdge t
    u.tbs.lastEdge = some t ∧ u.tbs.refAt = some t ∧ u.tbs.validRun = s.tbs.validRun + 1 ∧ u.tbs.missRun = 0 ∧
      u.tbs.lockRun = (if ((s.edgeErr t).2 / 65536).natAbs ≤ s.fld TBS_DPLL_CFG_lock_thr * 10 then s.tbs.lockRun + 1 else 0) ∧
      u.fld TBS_DPLL_STATUS_state = 1 ∧
      u.fld TBS_DPLL_STATUS_phase_err = unsigned 16 (clampInt (-32768) 32767 ((s.edgeErr t).2 / 65536)) ∧
      -10000000 ≤ u.tbs.freq ∧ u.tbs.freq ≤ 10000000 ∧ u.free = s.free + 1 ∧ u.tb = s.tb := by
  intro u
  obtain ⟨l, e⟩ := dpllEdge_acquiring hf hl hen hs hslew hrun hv
  obtain ⟨f, fs, hlo, hhi, hp⟩ := pullFreq_eq (withOutDue (s.noteEdge t) l)
  have hu : u = _ := e.trans hp
  have hfld (k : Fld) : u.fld k = (s.noteEdge t).fld k := by rw [hu]; rfl
  have hlock : u.tbs.lockRun = (s.noteEdge t).tbs.lockRun := by rw [hu]; rfl
  have href : u.tbs.refAt = (s.noteEdge t).tbs.refAt := by rw [hu]; rfl
  rw [hfld, hfld, hlock, href, noteEdge_state, noteEdge_phaseErr hf hl, noteEdge_lockRun hf hl, noteEdge_refAt (by rw [hs]; decide), hu]
  exact ⟨rfl, rfl, rfl, rfl, rfl, hs, rfl, hlo, hhi, rfl, rfl⟩

/-- A period that ends outside LOCKED without a valid edge counts as missed (R48). -/
theorem periodMissed_unlocked {s : State} {t0 : Ns} (hen : s.dpllEn = true) (hf : s.tbs.fresh = false) (hl : s.tbs.lastEdge = some t0)
    (hs : s.fld TBS_DPLL_STATUS_state ≠ 2) : s.periodMissed =
      { s.reach (t0 + ((s.tbs.periods + 1) * s.period16 + s.window16) / 65536) with
        tbs := { s.tbs with periods := s.tbs.periods + 1, missRun := s.tbs.missRun + 1, validRun := 0, lockRun := 0 } } := by
  rw [State.periodMissed, hl]
  refine (if_pos (by simp [hen, hf])).trans ?_
  exact if_neg fun h => hs h.1

/-! Edges of SHUTTER_IN (R62 to R64). -/

/-- The watch is not in lock while an enabled input lacks its 16 periods. -/
theorem shutLock_none {s : State} {k : Nat} (hk : k < 4) (hen : s.shutEn k = true) (hr : (s.shutter k).inRun < 16) : s.shutLock = s := by
  have hall : ((List.range 4).all fun k => !s.shutEn k || decide (16 ≤ (s.shutter k).inRun)) = false := by
    refine List.all_eq_false.2 ⟨k, List.mem_range.2 hk, ?_⟩
    simp [hen, hr]
  simp [State.shutLock, hall]

theorem shutter_setShutter (s : State) (k : Nat) (x : Shutter) : (s.setShutter k x).shutter k = x := by
  simp [State.shutter, State.setShutter]

theorem viewOf_reach (s : State) (t : Ns) (q : Nat) : (s.reach t).viewOf q = s.viewOf q := by
  induction q with
  | zero => rfl
  | succ q ih =>
    rw [State.viewOf, State.viewOf, ih]
    rfl

theorem slotOf_reach (s : State) (t : Ns) (k : Nat) : (s.reach t).slotOf k = s.slotOf k := by
  simp only [State.slotOf, viewOf_reach]
  rfl

/-- Where an edge is expected hangs on the raster and the inputs, not on TB. -/
theorem shutErr_reach (s : State) (t : Ns) (k : Nat) (x : Ns) : (s.reach t).shutErr k x = s.shutErr k x := by
  rw [State.shutErr, State.shutErr, slotOf_reach]
  rfl

theorem shutJudged_reach (s : State) (t : Ns) (k : Nat) (x : Int) : (s.reach t).shutJudged k x = s.shutJudged k x := rfl

/-- The first edge within tolerance of an enabled input counts its period (R64). -/
theorem shutTest_counts {s : State} {k : Nat} {t : Ns} (hk : k < 4) (hen : s.shutEn k = true) (hr : (s.shutter k).inRun < 15)
    (ht : (s.shutErr k t).natAbs ≤ s.fld TBS_SHUT_TOL_tol * 10) (hj : s.shutJudged k (t - s.shutErr k t) = false) :
    s.shutTest k t = s.setShutter k { s.shutter k with
      lastEdge := some t, judged := some ((t : Int) - s.shutErr k t), inRun := (s.shutter k).inRun + 1, outRun := 0 } := by
  have hlock (x : Shutter) (hx : x.inRun < 16) : (s.setShutter k x).shutLock = s.setShutter k x :=
    shutLock_none (s := s.setShutter k x) hk hen (by rw [shutter_setShutter]; exact hx)
  rw [State.shutTest, if_neg (by simp [hen]), if_neg (Nat.not_lt.2 ht), if_neg (by simp [hj]), hlock _ (Nat.succ_lt_succ hr)]

/-- A window that ends without an edge counts one miss of an input that is not in lock (R64). -/
theorem shutWindowEnd_unlocked {s : State} {k : Nat} (h : (s.fld TBS_SHUT_STATUS_locked).testBit k = false) :
    s.shutWindowEnd k = s.setShutter k { s.shutter k with
      judged := (s.shutter k).judged.map (· + max 1 ((s.period16 / 65536 : Nat) : Int)), inRun := 0
      outRun := (s.shutter k).outRun + 1 } :=
  if_neg fun c => absurd c.2 (by
    show ¬(s.fld TBS_SHUT_STATUS_locked).testBit k = true
    simp [h])

/-- Settles O6, edge by edge: the DPLL's by `dpllEdge_acquires` and `periodMissed_unlocked`, the watch's by `shutTest_counts`. -/
theorem syncAndShutterEdges : Obligations.SyncAndShutterEdges := by
  refine ⟨fun s e width => ⟨fun hw => if_pos hw, fun hw hp => execSyncInEdge_wrongWay hw hp⟩, ?valid, ?missed,
    fun s k e width h => if_pos h, ?counts, ?windowEnd⟩
  case valid =>
    intro s x width t0 hw hp hi hsrc hen hs hf hl hslew hper hrun stamp d k e hk he
    let u : State := ({ s with pwr := { s.pwr with syncHigh := x.rising } } : State).reach (x.stamp + 50)
    have herr : u.edgeErr stamp = (k, e) := edgeErr_eq (s := u) hl hper
    have hv : u.edgeValid stamp = true := edgeValid_of (by rw [herr]; exact hk) (by rw [herr]; exact he)
    obtain ⟨hlast, href, hvalid, hmiss, hlock, hstate, hphase, hlo, hhi, hfree, htb⟩ :=
      dpllEdge_acquires (s := u) (t := stamp) hf hl (dpllEn_of hsrc hen) hs hslew hrun hv
    rw [herr] at hlock hphase
    refine ⟨_, execSyncInEdge_accepted hw hp hi, hlast, href, hvalid, hmiss, hlock, hstate, hphase, hlo, hhi, hfree, ?_⟩
    exact (congrArg BitVec.toNat htb).trans (BitVec.toNat_ofNat _ _)
  case missed =>
    intro s t0 hsrc hen hf hl hslew hs
    have h : exec .syncPeriodEnd s = .next (s.absorb s.now).periodMissed := rfl
    rw [h, absorb_none hslew, periodMissed_unlocked (dpllEn_of hsrc hen) hf hl hs]
    rw [State.window16, Nat.mul_assoc]
  case counts =>
    intro s k e width hw hm hp hen hi hk hr d ht hj
    have hnot : ¬(width < 50 ∨ s.mode ≠ 4 ∨ e.rising = (s.fld TBS_SHUT_CFG_edge).testBit k) := by
      rw [hp]
      cases (s.fld TBS_SHUT_CFG_edge).testBit k <;> simp [hm, hw]
    have htest := shutTest_counts (s := s.reach (e.stamp + 50)) (t := e.stamp) hk hen hr
      (by rw [shutErr_reach]; exact ht) (by rw [shutErr_reach, shutJudged_reach]; exact hj)
    refine (if_neg hnot).trans (congrArg Host.Outcome.next ?_)
    rw [State.shutEdge, htest, shutErr_reach]
    exact if_neg hi
  case windowEnd =>
    intro s k hm hen hl
    refine (if_neg ?_).trans (congrArg _ (shutWindowEnd_unlocked hl))
    simp [hm, hen]

/-! Wake sources (R398 to R400) and the AON clock's crystal (R478). -/

/-- Completions, events and records leave the power manager as it is. -/
theorem recordsOnly_pwr {s t : State} (h : recordsOnly s t) : t.pwr = s.pwr := by
  unfold recordsOnly at h
  have e := congrArg (fun x : State => x.pwr) h
  exact e

section
variable {s : State} {k : Nat}

theorem wakeOn_source (hk : k ≤ 8) : s.wakeOn k = (s.fld PWR_WAKE_CFG_en).testBit (k - 1) := by
  have h9 : (k == 9) = false := by simp; omega
  rw [State.wakeOn, h9, Bool.false_or]

theorem wakeFires_off (h : s.wakeOn k = false) : s.wakeFires k = s := if_pos h

/-- An enabled source, by how far the part is asleep. -/
theorem wakeFires_on (h : s.wakeOn k = true) : s.wakeFires k =
    let u := s.setFld PWR_LAST_WAKE_source k
    if s.pwr.deep = 0 then (if s.fld PWR_WAKE_CFG_evt = 1 then u.raise 0x61 0x10 k else u)
    else if s.pwr.deep = 5 then (if s.pwr.abortSrc = 0 then { u with pwr := { u.pwr with abortSrc := k, wakeSrc := k } } else u)
    else if s.pwr.deep < 5 then
      ((({ u with pwr := { u.pwr with deep := 0 } } : State).setFld PWR_FLAGS_refused 1).postRefused 1 k true).restoreDoms
    else if s.pwr.deep = 6 ∧ k ≠ 9 then
      let v := (u.addSat PWR_LAST_WAKE_count 0 0 1).countLife 4
      { v with pwr := { v.pwr with deep := 7, ldoLp := false, wakeSrc := k } }
    else u := by
  have hevt : (s.setFld PWR_LAST_WAKE_source k).fld PWR_WAKE_CFG_evt = s.fld PWR_WAKE_CFG_evt :=
    fld_setFld_other s k (by decide)
  rw [← hevt]
  exact if_neg (by simp [h])

/-- Awake, a source leaves the part awake. -/
theorem wakeFires_awake (h : s.pwr.deep = 0) : (s.wakeFires k).pwr.deep = 0 := by
  cases hon : s.wakeOn k with
  | false => rw [wakeFires_off hon, h]
  | true =>
    rw [wakeFires_on hon, if_pos h]
    split
    · rw [recordsOnly_pwr (raise_recordsOnly _ _ _ _), setFld_pwr, h]
    · rw [setFld_pwr, h]

/-- Asleep, no source makes the part awake at once. -/
theorem wakeFires_asleep (h : 6 ≤ s.pwr.deep) : (s.wakeFires k).pwr.deep ≠ 0 := by
  cases hon : s.wakeOn k with
  | false => rw [wakeFires_off hon]; omega
  | true =>
    rw [wakeFires_on hon, if_neg (by omega), if_neg (by omega), if_neg (by omega)]
    split
    · exact (by decide : 7 ≠ 0)
    · rw [setFld_pwr]; omega

end

/-- AON_PERIOD on the crystal is within 50 ppm of its nominal period. -/
theorem measureAon_crystal {s : State} (h : s.pwr.crystal = true) : ∃ x, 1999900005 ≤ x ∧ x ≤ 2000100005 ∧
    s.measureAon = ({ s with free := s.free + 1 } : State).setFld TBS_AON_PERIOD_period x := by
  refine ⟨1999900005 + (Config.freeWord s.free).toNat % 200001, by omega, by omega, ?_⟩
  rw [State.measureAon, h]
  rfl

/-- Settles O51: each source is `wakeFires` of its number, which `wakeFires_on` splits by the depth of sleep. -/
theorem wakeSources : Obligations.WakeSources := by
  refine ⟨fun s k h1 h8 => ?fires, fun _ _ => rfl, fun s => ⟨rfl, fun h => ?syncIn, fun h => ?syncOther⟩, fun s n hn hd => ?asleep,
    fun s n hn hd => ?awake, fun s x hx => ?timer, fun s v ticks hd hv => ⟨?restore, rfl, rfl, rfl, rfl, rfl⟩,
    fun s hc hr hd => ?crystal⟩
  case fires =>
    rw [← wakeOn_source h8]
    refine ⟨wakeFires_off, fun on hd => ?_, fun on hd => ?_, fun on hlo hhi => ?_, fun on hd => ?_⟩
    · rw [wakeFires_on on, if_pos hd]
    · rw [wakeFires_on on, if_neg (by omega), if_pos hd]
    · rw [wakeFires_on on, if_neg (by omega), if_neg (by omega), if_pos (by omega)]
    · rw [wakeFires_on on, if_neg (by omega), if_neg (by omega), if_neg (by omega), if_pos (by omega)]
  case syncIn => exact congrArg _ (if_pos h)
  case syncOther => exact congrArg _ (if_neg h)
  case asleep => exact congrArg _ ((if_neg (by omega)).trans (if_neg (wakeFires_asleep hd)))
  case awake => exact congrArg _ ((if_neg (by omega)).trans (if_pos (wakeFires_awake hd)))
  case timer =>
    show Host.Outcome.next _ = _
    rw [hx]
  case restore =>
    show Host.Outcome.next _ = _
    rw [hv]
    exact congrArg _ (if_pos hd)
  case crystal =>
    obtain ⟨x, hlo, hhi, e⟩ := measureAon_crystal (s := { s with pwr := { s.pwr with crystal := true } }) rfl
    refine ⟨x, hlo, hhi, congrArg Host.Outcome.next ?_⟩
    refine (if_neg (by simp [hc])).trans ((if_neg ?_).trans e)
    simp [hr, hd]

end Sys2Proof.Proofs

/-! PROOFS. The statements of the serial lanes (R67 to R85) and of the stream contexts' counters (R121): the writes that clear
counters, and what ten bits leave in a receive lane. -/

namespace Sys2Proof.Proofs

open Sys2Proof Sys2Proof.Machine Sys2Proof.Machine.Reg Sys2Proof.Laws

/-! The writes that clear a lane's and a stream context's counters (R84, R121). -/

/-- A register without a field of class RWL takes writes under the lock too (R462). -/
theorem barWord_noRwl {s : State} {p off ix : Nat} {d : RegDesc} (w : Nat) (hd : regAt off = some d) (hs : s.selected p d.ix = some ix)
    (hp : s.partOn p = true) (hg : s.granted p (scopeFor d ix) = true) (hf : s.foreign p d ix = false)
    (hl : accMask d (· == .rwl) = 0) : s.barWord p off w = s.acceptWrite p d off ix w := by
  simp [State.barWord, hd, State.denyCause, hs, hp, hg, hf, changesRwl, hl]

/-- LNK_CNT_CLR and MSP_STREAM_CNT_CLR as the register table has them. -/
def lnkCntClrDesc : RegDesc := ⟨"LNK_CNT_CLR", 0x30028, 4, 1, .owner, .lane, [⟨0, 0, .wo, 0⟩]⟩
def streamCntClrDesc : RegDesc := ⟨"MSP_STREAM_CNT_CLR", 0x400a8, 4, 1, .part, .stream, [⟨0, 0, .wo, 0⟩]⟩

theorem regAt_lnkCntClr : regAt LNK_CNT_CLR = some lnkCntClrDesc := by decide +kernel
theorem regAt_streamCntClr : regAt MSP_STREAM_CNT_CLR = some streamCntClrDesc := by decide +kernel

/-- A served write of 1 to LNK_CNT_CLR does its action alone. -/
theorem acceptWrite_lnkCntClr (s : State) (p l : Nat) : s.acceptWrite p lnkCntClrDesc LNK_CNT_CLR l 1 = s.clearLane l := by
  have h := plainWrite_none (s := s) (off := LNK_CNT_CLR) (ix := l) (bank := 0) (written_none (d := lnkCntClrDesc) rfl rfl rfl · 1)
  show (if (s.running = true ∧ false = true ∧ _) then _ else (s.plainWrite lnkCntClrDesc LNK_CNT_CLR l 0 1).clearLane l) = _
  rw [h]
  simp

/-- A served write of 1 to MSP_STREAM_CNT_CLR does its action alone. -/
theorem acceptWrite_streamCntClr (s : State) (p c : Nat) :
    s.acceptWrite p streamCntClrDesc MSP_STREAM_CNT_CLR c 1 = s.clearStream c := by
  have h := plainWrite_none (s := s) (off := MSP_STREAM_CNT_CLR) (ix := c) (bank := 0)
    (written_none (d := streamCntClrDesc) rfl rfl rfl · 1)
  show (if (s.running = true ∧ false = true ∧ _) then _ else (s.plainWrite streamCntClrDesc MSP_STREAM_CNT_CLR c 0 1).clearStream c) = _
  rw [h]
  simp

theorem barWord_lnkCntClr {s : State} {p : Nat} (h : s.ownerUp p) (hl : s.fldP LNK_SEL_lane p < 264) :
    s.barWord p LNK_CNT_CLR 1 = s.clearLane (s.fldP LNK_SEL_lane p) := by
  obtain ⟨⟨-, hp⟩, ho, -⟩ := h
  have hg : s.granted p .owner = true := beq_iff_eq.2 ho
  rw [barWord_noRwl 1 regAt_lnkCntClr (if_pos hl) hp hg rfl rfl, acceptWrite_lnkCntClr]

theorem barWord_streamCntClr {s : State} {p : Nat} (h : s.hostUp p) (ho : s.portOwner (s.fldP MSP_STREAM_SEL_ctx p / 128) = p) :
    s.barWord p MSP_STREAM_CNT_CLR 1 = s.clearStream (s.fldP MSP_STREAM_SEL_ctx p) := by
  have hown : s.foreign p streamCntClrDesc (s.fldP MSP_STREAM_SEL_ctx p) = false := by
    have hix : streamCntClrDesc.ix = .stream := rfl
    simp [State.foreign, ho, hix]
  rw [barWord_noRwl 1 regAt_streamCntClr rfl h.2 rfl hown rfl, acceptWrite_streamCntClr]

/-- Settles O11: neither register keeps a word, and each reaches its action for the object selected (`barWord_lnkCntClr`,
`barWord_streamCntClr`). -/
theorem laneAndStreamCounterClears : Obligations.LaneAndStreamCounterClears := by
  refine ⟨fun s p h hl => ?lane, fun s p h ho => ?stream⟩
  case lane =>
    refine congrArg Host.Outcome.next ((bar0Write_word _ h.1.1 rfl rfl rfl rfl).trans ?_)
    exact congrArg State.goOn (barWord_lnkCntClr h hl)
  case stream =>
    refine congrArg Host.Outcome.next ((bar0Write_word _ h.1 rfl rfl rfl rfl).trans ?_)
    exact congrArg State.goOn (barWord_streamCntClr h ho)

/-! A receive lane that recognises electrical idle (R79): in IDLE it holds no bits to go with the next ten (R70). -/

/-- The second K28.3 in a row in SYNC puts the lane to IDLE. -/
theorem rxGroup_secondK283 {s : State} {l g : Nat} (lms : List Int) (hst : (s.lane l).st = 3) (hk : classify (s.lane l).rdPos g = 0)
    (hg : isK283 g = true) (hc : (s.lane l).k283 = 1) :
    s.rxGroup l g lms = ⟨s.setLane l ({ s.lane l with rdPos := rdGroup (s.lane l).rdPos g } : Lane).toIdle, .idle, none⟩ := by
  simp [State.rxGroup, hst, hk, hg, hc]

/-- The CDR's estimates are all that tracking changes of a lane. -/
theorem lane_cdrTrack (s : State) (l : Nat) : ∃ f p, (s.cdrTrack l).lane l = { s.lane l with cdrFreq := f, cdrPhase := p } :=
  ⟨_, _, lane_setLane_same _ _ _⟩

/-- In SYNC the ten bits are noted and the group at the alignment in force is judged; beside them only the CDR's estimates change. -/
theorem rxSym_sync {s : State} {l : Nat} {c : BitVec 10} (lms : List Int) (hinv : s.fldI LNK_RX_CFG_rx_inv l = 0)
    (hst : (s.lane l).st = 3) : ∃ (v : State) (f : Int) (p : Nat),
      v.lane l = { s.lane l with cdrFreq := f, cdrPhase := p, raw := some c.toNat } ∧
      s.rxSym l c lms = v.rxGroup l (groupAt ((s.lane l).raw.getD 0) c.toNat (s.lane l).align) lms := by
  obtain ⟨f, p, ht⟩ := lane_cdrTrack s l
  refine ⟨(s.cdrTrack l).setLane l { (s.cdrTrack l).lane l with raw := some c.toNat }, f, p, ?_, ?_⟩
  · rw [lane_setLane_same, ht]
  · simp [State.rxSym, hinv, hst, ht]

/-- The ten bits that complete the second K28.3 go with the rest: an idle lane holds none. -/
theorem rxSym_secondK283 {s : State} {l : Nat} {c : BitVec 10} (lms : List Int) (hinv : s.fldI LNK_RX_CFG_rx_inv l = 0)
    (hst : (s.lane l).st = 3) (hc : (s.lane l).k283 = 1)
    (hk : classify (s.lane l).rdPos (groupAt ((s.lane l).raw.getD 0) c.toNat (s.lane l).align) = 0)
    (hg : isK283 (groupAt ((s.lane l).raw.getD 0) c.toNat (s.lane l).align) = true) :
    ∃ u, s.rxSym l c lms = ⟨u, .idle, none⟩ ∧ (u.lane l).raw = none := by
  obtain ⟨v, f, p, hlane, e⟩ := rxSym_sync lms hinv hst
  have hidle := rxGroup_secondK283 (s := v) lms (by rw [hlane]; exact hst) (by rw [hlane]; exact hk) hg (by rw [hlane]; exact hc)
  exact ⟨_, e.trans hidle, by rw [lane_setLane_same]; rfl⟩

/-- A back channel's link notes that its lane is idle and leaves every lane as it is. -/
theorem lane_linkReport_idle (s : State) {l : Nat} (h : 64 ≤ l) (t k : Nat) : (s.linkReport l .idle t).lane k = s.lane k := by
  rw [State.linkReport, if_neg (by omega)]
  rfl

/-- Back channel 0 in SYNC, the last ten bits a K28.3 that ended at positive running disparity. -/
def afterK283 : State :=
  ({ State.reset with inReset := false } : State).setLane 200 { st := 3, rdPos := true, k283 := 1, raw := some 0x33C }

/-- K28.3 at positive running disparity. -/
def nextK283 : RxGroup := ⟨0x0C3, 0⟩

theorem afterK283_receives : afterK283.rxOn 200 = true ∧ afterK283.fldI LNK_RX_CFG_rx_inv 200 = 0 ∧
    let x := afterK283.lane 200
    let g := groupAt (x.raw.getD 0) nextK283.code.toNat x.align
    x.st = 3 ∧ x.k283 = 1 ∧ classify x.rdPos g = 0 ∧ isK283 g = true := by
  decide +kernel

/-- Refutes O10: a lane in SYNC that goes to IDLE at its second K28.3 holds no bits (`rxSym_secondK283`), where the statement has
every lane that was not in IDLE keep the ten bits that it received. -/
theorem not_laneSymbolsAndIdle : ¬ Obligations.LaneSymbolsAndIdle := by
  intro h
  obtain ⟨hon, hinv, hst, hc, hk, hg⟩ := afterK283_receives
  obtain ⟨-, hact⟩ := h.1 afterK283 200 nextK283 [] hon hinv
  obtain ⟨u, r, y, e, hkept, -, -, -, -, hidle, -⟩ := hact (by rw [hst]; decide)
  obtain ⟨rfl, rfl, -⟩ := hidle hst hk hg hc
  obtain ⟨v, hv, hnone⟩ := rxSym_secondK283 [] hinv hst hc hk hg
  have left : exec (.rxSymbol 200 nextK283 []) afterK283 = .next (v.linkReport 200 .idle nextK283.arrival) := by
    show execRxSymbol 200 nextK283 [] afterK283 = _
    rw [execRxSymbol, if_pos hon, hv]
  have reported : v.linkReport 200 .idle nextK283.arrival = u.linkReport 200 .idle nextK283.arrival :=
    Host.Outcome.next.inj (left.symm.trans e)
  have same : v.lane 200 = u.lane 200 := by
    rw [← lane_linkReport_idle v (by decide : 64 ≤ 200), reported, lane_linkReport_idle u (by decide)]
  rw [same, hkept] at hnone
  exact Option.some_ne_none _ hnone

end Sys2Proof.Proofs

/-! PROOFS. The statements of the stream ports (R90 to R125): the packets of a bound stream, credits, binds and unbinds at their
dispatch, and a restore of a port. -/

namespace Sys2Proof.Proofs

open Sys2Proof Sys2Proof.Machine Sys2Proof.Machine.Reg Sys2Proof.Laws

/-! What a reverse lane sends changes no register. -/

theorem txSend_regs (s : State) (l : Nat) (ys : List Sym) : (s.txSend l ys).regs = s.regs := by
  unfold State.txSend
  extract_lets x r g
  split
  · rfl
  · rfl

theorem revPut_regs (s : State) (p : Nat) (ys : List Sym) : (s.revPut p ys).regs = s.regs := txSend_regs ..

theorem revIdleTo_regs (s : State) (p q : Nat) : (s.revIdleTo p q).regs = s.regs := by
  unfold State.revIdleTo
  extract_lets x n t y first u
  split
  · rfl
  · split
    · exact revPut_regs ..
    · exact (revPut_regs ..).trans (revPut_regs s ..)

theorem revPacket_regs (s : State) (p type stream arg : Nat) (init : Bool) (body : List Byte) :
    (s.revPacket p type stream arg init body).regs = s.regs := (revPut_regs ..).trans (revIdleTo_regs ..)

theorem sendCredit_regs (s : State) (c : Nat) : (s.sendCredit c).regs = s.regs := by
  unfold State.sendCredit
  extract_lets x
  split
  · rfl
  · exact revPacket_regs ..

theorem accrue_regs (s : State) (c n : Nat) : (s.accrue c n).regs = s.regs := by
  unfold State.accrue
  extract_lets x t
  split
  · rfl
  · split
    · exact sendCredit_regs ..
    · rfl

/-- Registers as they were leave the frame number as it was. -/
theorem frame_of_regs {s t : State} (h : t.regs = s.regs) : t.frame = s.frame := by
  unfold State.frame State.fld State.fldAt State.reg
  rw [h]

/-- No stream's flags lie in the frame number's register. -/
theorem frame_setStreamFlag (s : State) (c v : Nat) : (s.setFldI MSP_STREAM_FLAGS_viol c v).frame = s.frame := by
  have h : (s.setFldI MSP_STREAM_FLAGS_viol c v).reg SCN_FRAME_frame.off 0 0 = s.reg SCN_FRAME_frame.off 0 0 := by
    refine reg_setReg_other s _ ?_
    simp only [regKey]
    omega
  rw [State.frame, State.fld, State.fldAt, h]
  rfl

theorem setStream_setStream (s : State) (c : Nat) (x y : Stream) : (s.setStream c x).setStream c y = s.setStream c y := by
  simp [State.setStream]

/-! A forward packet of a bound stream on a port in UP (R100 to R112). -/

theorem creditNeed_eq (n : Nat) : creditNeed n = (n + 511) / 512 := by
  simp [creditNeed, ceilDiv]

/-- A stream `x` whose packet's sequence number, a gap before it and its credits are noted (R108, R111). -/
def noted (k : Packet) (x : Stream) : Stream := { x with
  seq := pktSeq k, bad := x.bad || (pktType k != 2 && pktSeq k != (x.seq + 1) % 16 && x.inFrame)
  cc := x.cc + BitVec.ofNat 24 (creditNeed (pktLen k)) }

/-- The state in which a packet's stream has noted it. -/
def arrived (s : State) (k : Packet) : State := s.setStream (pktCtx k) (noted k (s.stream (pktCtx k)))

theorem stream_arrived (s : State) (k : Packet) : (arrived s k).stream (pktCtx k) = noted k (s.stream (pktCtx k)) :=
  stream_setStream_same ..

theorem setStream_arrived (s : State) (k : Packet) (x : Stream) :
    (arrived s k).setStream (pktCtx k) x = s.setStream (pktCtx k) x := setStream_setStream ..

/-- A whole packet with a readable header arrives for a bound stream, on a port in UP (R104). -/
structure Heard (s : State) (k : Packet) : Prop where
  port : k.port < 8
  up : (s.port k.port).st = 3
  hdr : pktHdrOk k = true
  whole : pktWhole k = true
  bound : (s.stream (pktCtx k)).bound = true

section
variable {s : State} {k : Packet} {t : Nat} (hk : Heard s k) (ht : pktType k = t)
include hk ht

/-- A packet within the stream's credits that waits behind none acts at once. -/
theorem receive_fits {u : State} (hq : (s.stream (pktCtx k)).queue = [])
    (hn : creditNeed (pktLen k) ≤ (s.stream (pktCtx k)).avail) (hu : (arrived s k).takePacket k = (true, u)) :
    s.receive t k = u := by
  obtain ⟨hp, hup, hh, hw, hb⟩ := hk
  subst ht
  refine (if_neg (by simp [hup, hh, hp])).trans ((if_neg (by simp)).trans ((if_neg (by simp [hb])).trans ?_))
  refine (if_neg (Nat.not_lt.2 hn)).trans ((if_neg (by simp [hw])).trans ((if_neg (not_not.2 hq)).trans ?_))
  exact (if_pos (congrArg Prod.fst hu)).trans (congrArg Prod.snd hu)

/-- A packet whose need exceeds avail is a credit violation and no more (R112). -/
theorem receive_overruns (hn : (s.stream (pktCtx k)).avail < creditNeed (pktLen k)) :
    s.receive t k = (arrived s k).violation k.port (pktCtx k) (creditNeed (pktLen k)) := by
  obtain ⟨hp, hup, hh, hw, hb⟩ := hk
  subst ht
  refine (if_neg (by simp [hup, hh, hp])).trans ((if_neg (by simp)).trans ((if_neg (by simp [hb])).trans ?_))
  exact (if_pos hn).trans (if_pos hw)

end

/-- A whole FRAME_START or FRAME_END has no body (R103). -/
theorem pktLen_frame {k : Packet} (hw : pktWhole k = true) (ht : pktType k = 2 ∨ pktType k = 3) : pktLen k = 0 := by
  have hl : lenOk (pktType k) (pktLen k) = true := by
    simp only [pktWhole, Bool.and_eq_true] at hw
    obtain ⟨⟨⟨⟨-, hl⟩, -⟩, -⟩, -⟩ := hw
    exact hl
  rcases ht with ht | ht <;> simpa [lenOk, ht] using hl

/-- A gap of seq within a frame spoils it, except before a FRAME_START (R108). -/
theorem noted_eq {k : Packet} (ht : pktType k ≠ 2) (x : Stream) : noted k x = { x with
    seq := pktSeq k, cc := x.cc + BitVec.ofNat 24 (creditNeed (pktLen k))
    bad := x.bad || (x.inFrame && pktSeq k != (x.seq + 1) % 16) } := by
  simp [noted, bne_iff_ne.2 ht, Bool.and_comm]

/-- A packet without a body, and without a gap in a frame before it, leaves its sequence number and no more. -/
theorem noted_seq {k : Packet} {x : Stream} (hl : pktLen k = 0) (hg : (x.inFrame && pktSeq k != (x.seq + 1) % 16) = false) :
    noted k x = { x with seq := pktSeq k } := by
  have hg' : (pktSeq k != (x.seq + 1) % 16 && x.inFrame) = false := (Bool.and_comm _ _).trans hg
  simp [noted, hl, creditNeed_eq, Bool.and_assoc, hg']

@[simp] theorem slotIn_setStream (s : State) (c : Nat) (x : Stream) (l st : Nat) :
    (s.setStream c x).slotIn l st = s.slotIn l st := rfl
@[simp] theorem slot_setStream (s : State) (c : Nat) (x : Stream) (l j : Nat) : (s.setStream c x).slot l j = s.slot l j := rfl

/-- Between frames there is no frame to end. -/
theorem endFrame_closed {s : State} {c : Nat} (hf : (s.stream c).inFrame = false) (ok : Bool) : s.endFrame c ok = s := if_pos hf

/-! What a packet does, by its type and its stream `x` (R108 to R110). -/

section
variable {k : Packet}

theorem takePacket_pixel (ht : pktType k = 1) (s : State) : s.takePacket k = (true, s.takePixel k) := if_pos ht

theorem takePacket_start (ht : pktType k = 2) (s : State) : s.takePacket k = s.takeStart k := by simp [State.takePacket, ht]

theorem takePacket_end (ht : pktType k = 3) (s : State) : s.takePacket k = (true, s.takeEnd k) := by simp [State.takePacket, ht]

theorem takePacket_meta (ht : pktType k = 4) (s : State) : s.takePacket k = (true, s.takeMeta k) := by simp [State.takePacket, ht]

end

section
variable {s : State} {k : Packet} {x : Stream} (hx : s.stream (pktCtx k) = x)
include hx

/-- A PIXEL in a frame, at the expected position and with a good CRC, goes to its place (R108). -/
theorem takePixel_inPlace {n line x0 : Nat} (hline : pktArg k % 16384 = line) (hx0 : pktArg k / 16384 * 16 = x0)
    (hf : x.inFrame = true) (hl : line = x.line) (hc : x0 = x.x) (hph : line < x.ph) (hpw : x0 < x.pw)
    (hn : segSamples x.fmt.sample x.pw x0 (pktLen k) = some n) (hs : k.symBad = false) (hcrc : crc32c k.body = leNat k.crc) :
    s.takePixel k = (s.setStream (pktCtx k) { x with
      buffered := x.buffered + creditNeed (pktLen k), line := if x0 + n = x.pw then line + 1 else line
      x := if x0 + n = x.pw then 0 else x0 + n }).writeSegment (pktCtx k) line x0 n k.body := by
  subst hline hx0 hx
  refine (if_neg (by simp [hf])).trans ((if_neg (by omega)).trans ?_)
  rw [hn]
  simp [State.buffer, setStream_setStream, hs, hcrc, hl, hc]

/-- FRAME_START opens a frame of the line-store stream at line 0 (R108). -/
theorem takeStart_lineStore (hf : x.inFrame = false) (hr : x.rebind = none) (hb : x.b.target = 2) :
    s.takeStart k = (true, s.setStream (pktCtx k) { x with
      inFrame := true, frameNo := pktArg k, bad := false, line := 0, x := 0 }) := by
  subst hx
  simp [State.takeStart, endFrame_closed hf, hr, hb]

/-- FRAME_START of the frame that its layer's slot is being written with joins that slot (R108, R125). -/
theorem takeStart_layer {j : Nat} (hf : x.inFrame = false) (hr : x.rebind = none) (hb : x.b.target = 1)
    (hj : s.slotIn x.b.layer 1 = some j) (hn : (s.slot x.b.layer j).frame = pktArg k) (hc : pktCtx k ∉ (s.slot x.b.layer j).doneBy) :
    s.takeStart k = (true, s.setStream (pktCtx k) { x with
      inFrame := true, frameNo := pktArg k, bad := false, lost := false, line := 0, x := 0 }) := by
  subst hx
  simp [State.takeStart, endFrame_closed hf, hr, hb, State.layerStart, hj, hn, hc, setStream_setStream]

/-- FRAME_END of the frame begun, with nothing spoiled and the last line reached, ends a line-store frame complete (R109). -/
theorem takeEnd_complete (hf : x.inFrame = true) (hb : x.bad = false) (hn : pktArg k = x.frameNo) (hl : x.ph ≤ x.line)
    (ht : x.b.target = 2) : s.takeEnd k = s.setStream (pktCtx k) { x with
      inFrame := false, lost := false, lastFrame := x.frameNo, lastDone := true, cDone := satInc x.cDone } := by
  subst hx
  simp [State.takeEnd, State.endFrame, hf, hb, hn, hl, ht]

/-- META of the line-store stream returns its credits (R110). -/
theorem takeMeta_lineStore (hb : x.b.target = 2) : s.takeMeta k = s.accrue (pktCtx k) (creditNeed (pktLen k)) :=
  if_pos (hx ▸ hb)

end

/-- A violation in a frame in which the stream has had its event is counted and flagged, and its need goes to CL (R112). -/
theorem violation_posted {s : State} {c : Nat} {x : Stream} (hx : s.stream c = x) (hv : x.violFrame = some s.frame) (p need : Nat) :
    s.violation p c need = ((s.setStream c { x with
      cViol := satInc x.cViol, violFrame := some s.frame }).setFldI MSP_STREAM_FLAGS_viol c 1).accrue c need := by
  subst hx
  refine if_pos (hv.trans (congrArg some ?_))
  rw [frame_of_regs (accrue_regs ..), frame_setStreamFlag]
  rfl

/-- Settles O13: a packet that fits acts at once (`receive_fits`), each type by its own lemma; one that does not is `violation_posted`. -/
theorem streamPackets : Obligations.StreamPackets := by
  intro s k hp hup hh hw hb hq c x need gap line x0
  have hk : Heard s k := ⟨hp, hup, hh, hw, hb⟩
  refine ⟨fun hn => ⟨fun n ht hf hl hx hph hpw hseg hs hcrc => ?pixel, fun ht hf hr hbt => ?startLine,
    fun j ht hf hr hbt hj hfr hc => ?startLayer, fun ht hf hbad hgap harg hlast hbt => ?frameEnd, fun ht hbt => ?metadata⟩,
    fun hn ht hv => ?overrun⟩
  case pixel =>
    refine congrArg Host.Outcome.next ((receive_fits hk ht hq hn (takePacket_pixel ht _)).trans ?_)
    rw [takePixel_inPlace (stream_arrived s k) rfl rfl hf hl hx hph hpw hseg hs hcrc, setStream_arrived, noted_eq (by omega)]
    rfl
  case startLine =>
    have e : noted k x = { x with seq := pktSeq k } := noted_seq (pktLen_frame hw (.inl ht)) (by rw [hf]; rfl)
    have hopen := takeStart_lineStore (stream_arrived s k) hf hr hbt
    rw [setStream_arrived, e] at hopen
    exact congrArg Host.Outcome.next (receive_fits hk ht hq hn ((takePacket_start ht _).trans hopen))
  case startLayer =>
    have e : noted k x = { x with seq := pktSeq k } := noted_seq (pktLen_frame hw (.inl ht)) (by rw [hf]; rfl)
    have hopen := takeStart_layer (stream_arrived s k) hf hr hbt hj hfr hc
    rw [setStream_arrived, e] at hopen
    exact congrArg Host.Outcome.next (receive_fits hk ht hq hn ((takePacket_start ht _).trans hopen))
  case frameEnd =>
    have e : noted k x = { x with seq := pktSeq k } := noted_seq (pktLen_frame hw (.inr ht)) hgap
    refine congrArg Host.Outcome.next ((receive_fits hk ht hq hn (takePacket_end ht _)).trans ?_)
    rw [takeEnd_complete ((stream_arrived s k).trans e) hf hbad harg hlast hbt, setStream_arrived]
    rfl
  case metadata =>
    refine congrArg Host.Outcome.next ((receive_fits hk ht hq hn (takePacket_meta ht _)).trans ?_)
    rw [takeMeta_lineStore (stream_arrived s k) hbt, arrived, noted_eq (by omega)]
    rfl
  case overrun =>
    refine congrArg Host.Outcome.next ((receive_overruns hk ht hn).trans ?_)
    rw [violation_posted (stream_arrived s k) hv, setStream_arrived, noted_eq (by omega)]
    rfl

/-! Credits sent at a batch's end (R113). -/

/-- A CREDIT with the whole count goes out where nothing withholds it (R113). -/
theorem sendCredit_sends {s : State} {c : Nat} (hw : (s.stream c).withheld = false) (hst : (s.port (c / 128)).st = 3)
    (hon : s.revOn (c / 128) = true) (hd : (s.stream c).grantDue = false) :
    s.sendCredit c = ((s.setStream c { s.stream c with accrued := 0 }).emit
      (.credit (c / 128) (c % 128) false (s.stream c).cl)).revPacket (c / 128) 8 (c % 128) (s.stream c).cl.toNat false [] :=
  if_neg (by simp [hw, hst, hon, hd])

/-! STREAM_BIND and STREAM_UNBIND at their dispatch (R107). -/

/-- A descriptor that is refused completes with its status. -/
theorem letIn_refused {s : State} {r : Req} {b : Body} {st : Nat} (ha : actsAtOnce b = true) (hr : s.refusal r.h b = some st) :
    s.letIn r b = s.done r st := by
  cases b
  case flip => simp [actsAtOnce] at ha
  case nop => simp [actsAtOnce] at ha
  all_goals simp [State.letIn, hr]

/-- Without the rights that R325 asks of its issuer, a body that acts at once is DENIED. -/
theorem refusal_denied {s : State} {h : Hdr} {b : Body} (hw : s.hif.noFw = false) (ha : actsAtOnce b = true)
    (hr : s.rights h.part b = false) : s.refusal h b = some DENIED := by
  have hb : s.bootOnly b = false := by simp [State.bootOnly, hw]
  cases b
  case flip => simp [actsAtOnce] at ha
  all_goals simp [State.refusal, hb, hr]

theorem take_denied {s : State} {h : Hdr} {g : Nat} {b : Body} (ht : s.takes h g) (ha : actsAtOnce b = true)
    (hr : s.counted.rights h.part b = false) : s.take h b = (s.counted.done (s.reqOf h g) DENIED).goOn := by
  have ⟨hsq, _, _, hfw, _⟩ := ht
  have hw : s.counted.hif.noFw = false := hfw
  have href : s.counted.refusal h b = some DENIED := refusal_denied hw ha hr
  rw [State.take, hsq]
  show (s.dispatch g h b).goOn = _
  rw [dispatch_takes ht ha, letIn_refused (r := s.reqOf h g) ha href]

theorem rights_streamBind (s : State) (p : Nat) (b : BindArgs) :
    s.rights p (.streamBind b) = (decide (1023 < b.ctx) || s.portOwner (b.ctx / 128) == p) := rfl

/-- A bind to a context of its issuer's port, or to a number that is no context, reaches R107's tests. -/
theorem take_streamBind {s : State} {h : Hdr} {g : Nat} {b : BindArgs} (ht : s.takes h g) (hp : plainHdr h)
    (ho : 1024 ≤ b.ctx ∨ s.portOwner (b.ctx / 128) = h.part) :
    s.take h (.streamBind b) = (s.counted.runBind (s.reqOf h g) b).goOn := by
  have hr : s.counted.rights h.part (.streamBind b) = true := by
    rw [rights_streamBind, Bool.or_eq_true, decide_eq_true_iff, beq_iff_eq]
    exact ho
  rw [take_acts ht hp rfl hr rfl]
  simp [State.act, onSvc]

/-- A bind to a context of another partition's port is DENIED. -/
theorem take_streamBind_denied {s : State} {h : Hdr} {g : Nat} {b : BindArgs} (ht : s.takes h g) (hc : b.ctx < 1024)
    (ho : s.portOwner (b.ctx / 128) ≠ h.part) : s.take h (.streamBind b) = (s.counted.done (s.reqOf h g) DENIED).goOn := by
  have hr : s.counted.rights h.part (.streamBind b) = false := by
    rw [rights_streamBind, Bool.or_eq_false_iff, decide_eq_false_iff_not, beq_eq_false_iff_ne]
    exact ⟨by omega, ho⟩
  exact take_denied ht rfl hr

/-- A bind ends with a status, and takes effect where that is OK (R107). -/
def bindEnds (s : State) (r : Req) (b : BindArgs) (st : Nat) : State := if st = OK then (s.bind b).done r OK else s.done r st

theorem runBind_bindEnds {s : State} {r : Req} {b : BindArgs} (ht : b.target ≠ 0) :
    s.runBind r b = bindEnds s r b (s.bindStatus r.h.part b) := if_neg ht

theorem bindEnds_ok (s : State) (r : Req) (b : BindArgs) : bindEnds s r b OK = (s.bind b).done r OK := if_pos rfl

theorem bindEnds_failed (s : State) (r : Req) (b : BindArgs) {st : Nat} (h : st ≠ OK) : bindEnds s r b st = s.done r st := if_neg h

/-- The status of a bind to a context of its issuer's port: R107's tests in their order. -/
theorem bindStatus_owned {s : State} {p : Nat} {b : BindArgs} (ho : s.portOwner (b.ctx / 128) = p) :
    s.bindStatus p b =
      if b.target = 1 ∧ b.layer ≤ 12 ∧ s.ownsSlots p b.layer = false then DENIED
      else if b.target = 2 ∧ s.mode ≠ 5 then NOT_READY
      else if bindRange b = false ∨ s.bindFits b = false ∨
          ((s.stream b.ctx).bound = true ∧ (s.stream b.ctx).b.creditInit ≠ b.creditInit) then INVALID
      else if 256 < s.creditSum b.ctx + b.creditInit then NO_RESOURCE
      else OK := if_neg fun h => h.2 ho

/-- Counting a descriptor leaves the regions as they are. -/
theorem areaIn_counted (s : State) (ok : Nat → Nat → Bool) (fuel : Nat) :
    ∀ a n, s.counted.areaIn ok fuel a n = s.areaIn ok fuel a n := by
  induction fuel with
  | zero => exact fun _ _ => rfl
  | succ fuel ih =>
    intro a n
    rw [State.areaIn, State.areaIn]
    simp only [ih]
    rfl

theorem ownsSlots_counted (s : State) (p l : Nat) : s.counted.ownsSlots p l = s.ownsSlots p l := by
  simp only [State.ownsSlots, areaIn_counted]
  rfl

/-- An unbind of a context of its issuer's port, or of a number that is no context. -/
theorem exec_streamUnbind {s : State} {h : Hdr} {g c : Nat} (ht : s.takes h g) (hp : plainHdr h)
    (ho : 1024 ≤ c ∨ s.portOwner (c / 128) = h.part) : exec (.streamUnbind h c) s =
      .next (if 1024 ≤ c then s.counted.done (s.reqOf h g) INVALID else (s.counted.unbind c).done (s.reqOf h g) OK).goOn := by
  refine congrArg Host.Outcome.next ((take_streamBind ht hp ho).trans (congrArg State.goOn ?_))
  refine (if_pos rfl).trans (if_ctx_congr Iff.rfl (fun _ => rfl) fun hc => ?_)
  exact if_neg (not_not.2 (ho.resolve_left hc))

/-- Settles O14: data written out by the definition, a batch's end by `sendCredit_sends`, binds and unbinds by the tests of `runBind`. -/
theorem creditsAndBinds : Obligations.CreditsAndBinds := by
  refine ⟨fun s c n hb hn => ?written, fun s c hb ha hg hh hs hd hst hon => ?batch,
    fun s h g ht hp => ⟨fun b htg hc ho => ?bind, fun b htg hc ho => ?denied, fun c hc ho => ?unbind, fun c hc => ?above⟩⟩
  case written =>
    refine congrArg Host.Outcome.next ((if_pos hb).trans ?_)
    rw [min_eq_left (Nat.le_sub_of_add_le hn)]
  case batch =>
    have hw : (s.stream c).withheld = false := by simp [Stream.withheld, hg, hh, hs]
    refine congrArg Host.Outcome.next ((if_pos ⟨hb, ha⟩).trans ?_)
    generalize (s.stream c).accSince + 100 * max 1 (s.fld MSP_CREDIT_CFG_batch_time) = t
    exact sendCredit_sends (s := s.reach t) hw hst hon hd
  case bind =>
    refine congrArg Host.Outcome.next ((take_streamBind ht hp (.inr ho)).trans ?_)
    rw [runBind_bindEnds htg, bindStatus_owned (s := s.counted) (p := (s.reqOf h g).h.part) ho, ownsSlots_counted]
    simp (disch := decide) only [apply_ite (bindEnds s.counted (s.reqOf h g) b), bindEnds_ok, bindEnds_failed]
    rfl
  case denied => exact congrArg Host.Outcome.next (take_streamBind_denied ht hc ho)
  case unbind => rw [exec_streamUnbind ht hp (.inr ho), if_neg (Nat.not_le.2 hc)]
  case above => rw [exec_streamUnbind ht hp (.inl hc), if_pos hc]

/-! PORT_RESTORE where the port's `st` is none of R97's five states. -/

/-- The host interface released, and port 0 at a number past SLEEP's. -/
def unnamedPortState : State :=
  ({ State.reset with hif := { State.reset.hif with released := true } } : State).setPort 0 { st := 5 }

/-- The state of port 0 after a command. -/
def portAfter : Host.Outcome State Fault Refusal → Option Nat
  | .next t => some (t.port 0).st
  | _ => none

theorem unnamedPortState_ownerUp : unnamedPortState.ownerUp 0 := by decide +kernel

/-- Refutes O12: of the ports that are not UP, a restore trains those in TRAIN and DESKEW alone (R99), where the statement has every `st`
but 0, 3 and 4 train. In this clause the two part only where `st` lies above 4, a number that R97 gives no state; the statement does
not exclude it. -/
theorem not_portStates : ¬ Obligations.PortStates := by
  intro h
  obtain ⟨-, -, hrestore⟩ := h.1 unnamedPortState 0 0 0 unnamedPortState_ownerUp (by decide) (by decide)
  have stays : portAfter (exec (.portRestore 0 0 1) unnamedPortState) = some 5 := by decide +kernel
  exact absurd (stays.symm.trans (congrArg portAfter hrestore)) (by decide +kernel)

end Sys2Proof.Proofs

/-! PROOFS. The heartbeat timer of the protected layer (R152), and what NOPs, fences and READBACKs do at their dispatch, with the copying
of an SQ entry before it (R324 to R331). -/

namespace Sys2Proof.Proofs

open Sys2Proof Sys2Proof.Machine Sys2Proof.Machine.Reg Sys2Proof.Laws

/-! HEARTBEAT_EXPIRY with LYR_S_CTRL.hb_win 0, which the spec takes as 1 ms. -/

/-- S enabled, hb_en 1, hb_win 0, and the heartbeat timer running. -/
def zeroWindow : State :=
  let s := ((State.reset.setLayer 12 { State.reset.layer 12 with en := true }).setFld LYR_S_CTRL_hb_en 1).setFld LYR_S_CTRL_hb_win 0
  { s with lyr := { s.lyr with hbAt := some 5 } }

/-- The argument of the newest log entry after a command. -/
def loggedArg : Host.Outcome State Fault Refusal → Option Nat
  | .next t => t.cal.last.map (·.arg)
  | _ => none

theorem zeroWindow_expires : zeroWindow.lyr.hbAt = some 5 ∧ zeroWindow.fld LYR_S_CTRL_hb_en = 1 ∧ (zeroWindow.layer 12).en = true := by
  decide +kernel

/-- Refutes O17: SAFETY_HEARTBEAT is posted and logged with the window in force, and hb_win 0 is taken as 1 ms, where the statement's
argument holds the field as it stands. In this clause the two part only at hb_win 0, which the statement does not exclude. -/
theorem not_flipsAndHeartbeat : ¬ Obligations.FlipsAndHeartbeat := by
  intro h
  obtain ⟨-, hexpiry⟩ := h
  obtain ⟨hat, hen, hs⟩ := zeroWindow_expires
  have e := congrArg loggedArg (hexpiry zeroWindow 5 hat hen hs)
  have logged : loggedArg (exec .heartbeatExpiry zeroWindow) = some (1 + 2 ^ 24) := by decide +kernel
  exact absurd (logged.symm.trans e) (by decide +kernel)

/-! A descriptor from its SQ through its checks to its action (R324, R325): NOP, FENCE_WAIT, FENCE_SIGNAL and READBACK. -/

/-- With the firmware up, rights, a good header and a good body, nothing refuses a descriptor but R150's test of a FLIP. -/
theorem refusal_none {s : State} {h : Hdr} {b : Body} (hw : s.hif.noFw = false) (hb : ∀ f, b ≠ .flip f)
    (hr : s.rights h.part b = true) (hh : headerGood h b = true) (hg : bodyGood b = true) : s.refusal h b = none := by
  have hboot : s.bootOnly b = false := by simp [State.bootOnly, hw]
  cases b
  case flip f => exact absurd rfl (hb f)
  all_goals simp [State.refusal, hboot, hr, hh, hg]

/-- With no chain open and its CQ enabled, a descriptor other than a FLIP is let in under the next serial number, and waits that it ends
go on. -/
theorem take_letIn {s : State} {h : Hdr} {g : Nat} {b : Body} (ht : s.takes h g) (hb : ∀ f, b ≠ .flip f) :
    s.take h b = (s.counted.letIn (s.reqOf h g) b).goOn := by
  obtain ⟨hsq, hcq, hch, -⟩ := ht
  have hcq' : (s.counted.ringOf h.part 1 h.cq.toNat).isSome = true := hcq
  have hch' : s.counted.openChain h.part h.sq = [] := hch
  simp only [State.counted] at hcq' hch'
  rw [State.take, hsq]
  refine congrArg State.goOn ?_
  cases b
  case flip f => exact absurd rfl (hb f)
  all_goals simp [State.dispatch, State.counted, State.reqOf, hcq', hch']

/-- The heartbeat timer is no part of the host interface. -/
@[simp] theorem beat_hif (s : State) (p : Nat) : (s.beat p).hif = s.hif := by
  unfold State.beat State.restartHb
  split
  · split <;> rfl
  · rfl

/-- A NOP that nothing refuses beats and completes. -/
theorem letIn_nop {s : State} {r : Req} (hw : s.hif.noFw = false) (hp : plainHdr r.h) :
    s.letIn r .nop = (s.beat r.h.part).done r OK := by
  have hnone (t : State) (ht : t.hif.noFw = false) : t.refusal r.h .nop = none :=
    refusal_none ht nofun rfl (headerGood_plain hp _) rfl
  have ⟨_, _, _, _, hl⟩ := hp
  simp [State.letIn, fenced_plain hp, hnone (s.beat r.h.part) (by simpa using hw), State.arm, hl, State.act, onSvc]

theorem headerGood_fenceWait {h : Hdr} {w : Ns} (hp : plainHdr { h with fenceId := 0, fenceVal := 0 }) (hf : h.fenceId.toNat < 4096) :
    headerGood h (.fenceWait w) = true := by
  obtain ⟨hc, hfl, -, -, hl⟩ := hp
  simp only at hc hfl hl
  simp [headerGood, timed, chained, hc, hfl, hl, hf]

/-- A FENCE_WAIT that nothing refuses completes where its fence is reached, and else stops its SQ (R326). -/
theorem letIn_fenceWait {s : State} {r : Req} {w : Ns} (hw : s.hif.noFw = false)
    (hp : plainHdr { r.h with fenceId := 0, fenceVal := 0 }) (hf : r.h.fenceId.toNat < 4096) :
    s.letIn r (.fenceWait w) = if s.headerFence r.h = true then s.done r OK else s.stopSq r (.fenceWait w) w := by
  have hnone : s.refusal r.h (.fenceWait w) = none := refusal_none hw nofun rfl (headerGood_fenceWait hp hf) rfl
  simp [State.letIn, hnone]

/-- A header's fence within R143's 4,096 is reached by R143's difference. -/
theorem headerFence_iff {s : State} {h : Hdr} (hf : h.fenceId.toNat < 4096) :
    s.headerFence h = true ↔ (s.fence h.fenceId.toNat - h.fenceVal).toNat < 2 ^ 31 := by
  rw [State.headerFence, Nat.mod_eq_of_lt hf, State.fenceReached, decide_eq_true_iff]

/-- A FENCE_SIGNAL on a fence of its issuer sets it and completes. -/
theorem take_fenceSignal {s : State} {h : Hdr} {g f : Nat} {v : Word} (ht : s.takes h g) (hp : plainHdr h) (hf : f < 4096)
    (ho : f / 1024 = h.part) : s.take h (.fenceSignal f v) = ((s.counted.setFence f v).done (s.reqOf h g) OK).goOn := by
  have hr : s.counted.rights h.part (.fenceSignal f v) = true := by
    simp only [State.rights, fenceOwner, beq_iff_eq]
    omega
  rw [take_acts ht hp rfl hr (by simp [bodyGood, hf])]
  simp [State.act, onSvc]

theorem mayRead_counted (s : State) (p a n : Nat) : s.counted.mayRead p a n = s.mayRead p a n := areaIn_counted s _ 65 a n

/-- A READBACK with length and source in R325's ranges is DENIED or runs, as its issuer may read the source (R329). -/
theorem take_readback {s : State} {h : Hdr} {g len src dst : Nat} (ht : s.takes h g) (hp : plainHdr h) (h1 : 1 ≤ len)
    (hlen : len < 2 ^ 32) (hsrc : src < 2 ^ 48) : s.take h (.readback len src dst) =
      (if s.mayRead h.part src len = false then s.counted.done (s.reqOf h g) DENIED
        else s.counted.runReadback (s.reqOf h g) len src dst).goOn := by
  have hr : s.counted.rights h.part (.readback len src dst) = s.mayRead h.part src len := mayRead_counted ..
  cases hm : s.mayRead h.part src len with
  | false => exact take_denied ht rfl (hr.trans hm)
  | true =>
    rw [take_acts ht hp rfl (hr.trans hm) (by simp only [bodyGood, h1, hlen, hsrc, decide_true, Bool.and_true])]
    simp [State.act, onSvc]

/-- A FENCE_WAIT whose timeout elapses first is posted and completes FENCE_TIMEOUT (R326). -/
theorem waitTimeout_expired {s : State} {p q g : Nat} {r : Req} {w t : Ns} (hg : s.gq p q = some g)
    (hstop : (s.queue g).stop = some (r, .fenceWait w)) (hat : (s.queue g).stopAt = some t) (hf : s.headerFence r.h = false) :
    s.waitTimeout p q = (((s.reach t).setQueue g { s.queue g with stop := none, stopAt := none }).post 0x12 0x01
      (r.h.fenceId.toNat % 4096 + 0xF0000) [p]).done r FENCE_TIMEOUT := by
  simp only [State.waitTimeout, hg, hstop, hat, hf]
  rfl

/-! SQ_FETCH (R331). -/

@[simp] theorem queue_countRecon (s : State) (a n g : Nat) : (s.countRecon a n).queue g = s.queue g := by
  obtain ⟨r, hr⟩ := countRecon_regs s a n
  rw [hr]
  rfl

/-- Counting units read by reconstruction writes its counter, and no other register of bank 0. -/
theorem reg_countRecon (s : State) (a n ix : Nat) {off : Nat} (ho : off / 4 ≠ FST_CNT_RECON / 4) :
    (s.countRecon a n).reg off ix 0 = s.reg off ix 0 := by
  unfold State.countRecon
  extract_lets whole k
  split
  · rfl
  · refine reg_setReg_other s _ ?_
    simp only [regKey, FST_CNT_RECON] at ho ⊢
    omega

/-! A ring's registers outlast the count of units read by reconstruction, and a write of its context. -/

@[simp] theorem qBase_countRecon (s : State) (a n g : Nat) : (s.countRecon a n).qBase g = s.qBase g := by
  rw [State.qBase, reg_countRecon s a n g (by decide), reg_countRecon s a n g (by decide)]
  rfl

@[simp] theorem qLoc_countRecon (s : State) (a n g : Nat) : (s.countRecon a n).qLoc g = s.qLoc g := by
  rw [State.qLoc, State.fldI, State.fldAt, reg_countRecon s a n g (by decide)]
  rfl

@[simp] theorem qBase_setQueue (s : State) (k : Nat) (x : Queue) (g : Nat) : (s.setQueue k x).qBase g = s.qBase g := rfl
@[simp] theorem qLoc_setQueue (s : State) (k : Nat) (x : Queue) (g : Nat) : (s.setQueue k x).qLoc g = s.qLoc g := rfl

/-- The index after a ring's head, and its context with the head there. -/
def nextHead (s : State) (g : Nat) : Nat := ringNext (s.qSize g) (s.queue g).head.toNat
def headPast (s : State) (g : Nat) : Queue := { s.queue g with head := BitVec.ofNat 16 (nextHead s g) }

/-- The frame-store address of the entry at a local ring's head. -/
def headEntry (s : State) (g : Nat) : Nat := s.qBase g + 64 * ringPos (s.queue g).head.toNat

section
variable {s : State} {p q g : Nat} (hsq : s.sqOf p q = some g) (hn : s.qCount g ≠ 0)
include hsq hn

/-- A host ring's entry is dispatched with the head past it. -/
theorem fetchSq_host (hl : s.qLoc g = false) (b : List Byte) (host : Option (List Byte)) :
    s.fetchSq p q (some b) host = ((s.setQueue g (headPast s g)).dispatch g (hdrOf p q b) (bodyOf b host)).goOn := by
  simp [State.fetchSq, hsq, hn, hl, headPast, nextHead]

/-- A host ring's entry that could not be fetched is ERROR with cause 2. -/
theorem fetchSq_lost (hl : s.qLoc g = false) (host : Option (List Byte)) : s.fetchSq p q none host = s.qError p g 2 := by
  simp [State.fetchSq, hsq, hn, hl]

/-- A local ring that does not lie in its partition's regions is ERROR with cause 2. -/
theorem fetchSq_noRing (hl : s.qLoc g = true) (ho : s.localOk p g = false) (entry host : Option (List Byte)) :
    s.fetchSq p q entry host = s.qError p g 2 := by
  simp [State.fetchSq, hsq, hn, hl, ho]

/-- A local ring's entry read from the frame store is dispatched with the head past it, and the ring's header tells it. -/
theorem fetchSq_local {b : List Byte} (hl : s.qLoc g = true) (ho : s.localOk p g = true)
    (hb : s.ppaRead (headEntry s g) 64 = some b) (entry host : Option (List Byte)) : s.fetchSq p q entry host =
      ((((s.countRecon (headEntry s g) 64).setQueue g (headPast s g)).ppaWrite (s.qBase g - 62) (leBytes 2 (nextHead s g))).dispatch g
        (hdrOf p q b) (bodyOf b host)).goOn := by
  rw [headEntry] at hb
  simp [State.fetchSq, hsq, hn, hl, ho, hb, headPast, nextHead, headEntry]

end

/-- Settles O46: NOPs and FENCE_WAITs by what `letIn` does with them, FENCE_SIGNALs and READBACKs as bodies that act at once, and SQ_FETCH
ring by ring. -/
theorem dispatchFencesAndReadback : Obligations.DispatchFencesAndReadback := by
  refine ⟨fun s h g ht hp => ⟨?nop, fun f v hf ho => ?signal, fun len src dst h1 hlen hsrc => ?readback⟩, fun s h g w ht hp hf => ?wait,
    fun s p q g r w t hp hd hg hstop hat hf => ?timeout, fun s p q g host hsq hn =>
      ⟨fun hl b => ⟨?fetched, ?failed⟩, fun hl e => ⟨fun ho => ?noRing, fun b ho hb => ?localRing⟩⟩⟩
  case nop =>
    have ⟨_, _, _, hfw, _⟩ := ht
    exact congrArg Host.Outcome.next ((take_letIn (b := .nop) ht nofun).trans
      (congrArg State.goOn (letIn_nop (s := s.counted) (r := s.reqOf h g) hfw hp)))
  case signal => exact congrArg Host.Outcome.next (take_fenceSignal ht hp hf ho)
  case readback => exact congrArg Host.Outcome.next (take_readback ht hp h1 hlen hsrc)
  case wait =>
    have ⟨_, _, _, hfw, _⟩ := ht
    refine congrArg Host.Outcome.next ((take_letIn (b := .fenceWait w) ht nofun).trans (congrArg State.goOn ?_))
    rw [letIn_fenceWait (s := s.counted) (r := s.reqOf h g) hfw hp hf]
    exact if_congr (headerFence_iff (s := s.counted) hf) rfl rfl
  case timeout => exact congrArg Host.Outcome.next ((if_pos ⟨hp, hd⟩).trans (waitTimeout_expired hg hstop hat hf))
  case fetched => exact congrArg Host.Outcome.next (fetchSq_host hsq hn hl b host)
  case failed => exact congrArg Host.Outcome.next (fetchSq_lost hsq hn hl host)
  case noRing => exact congrArg Host.Outcome.next (fetchSq_noRing hsq hn hl ho e host)
  case localRing => exact congrArg Host.Outcome.next (fetchSq_local hsq hn hl ho hb e host)

end Sys2Proof.Proofs

/-! PROOFS. The statement of the raster (R157 to R160): the writes of SCN_CTRL.run that start and stop it, and its line starts. -/

namespace Sys2Proof.Proofs

open Sys2Proof Sys2Proof.Machine Sys2Proof.Machine.Reg Sys2Proof.Laws

/-! The writes of SCN_CTRL (R160). -/

/-- SCN_CTRL as the register table has it. -/
def scnCtrlDesc : RegDesc := ⟨"SCN_CTRL", 0x6001c, 4, 1, .owner, .none, [⟨0, 0, .rw, 0⟩]⟩

theorem regAt_scnCtrl : regAt SCN_CTRL = some scnCtrlDesc := by decide +kernel

/-- A served write without reserved bits is `writeRun`: R17 does not hold it back, and no range refuses it. -/
theorem acceptWrite_scnCtrl (s : State) (p : Nat) {w : Nat} (hw : w &&& 1 = w) :
    s.acceptWrite p scnCtrlDesc SCN_CTRL 0 w = s.writeRun w := by
  have hused : w &&& usedMask scnCtrlDesc = w := hw
  rw [State.acceptWrite]
  simp only [hused, if_true]
  refine (if_neg fun ⟨_, hraster, _⟩ => absurd hraster (by decide)).trans ?_
  rfl

theorem owner_writesRun {s : State} {p w : Nat} (h : s.ownerUp p) (hw : w &&& 1 = w) :
    s.bar0Write p SCN_CTRL 4 w = (s.writeRun w).goOn := by
  have hlt : w < 2 ^ 32 := by rw [← hw]; exact Nat.lt_of_le_of_lt Nat.and_le_right (by decide)
  rw [owner_write _ h rfl rfl rfl rfl regAt_scnCtrl rfl (by decide), Nat.mod_eq_of_lt hlt, acceptWrite_scnCtrl s p hw]

theorem exec_scnRun {s : State} {p : Nat} (h : s.ownerUp p) : exec (.scnRun p 1) s = .next (s.writeRun 1).goOn :=
  congrArg Host.Outcome.next (owner_writesRun h rfl)

theorem exec_scnStop {s : State} {p : Nat} (h : s.ownerUp p) : exec (.scnStop p 0) s = .next (s.writeRun 0).goOn :=
  congrArg Host.Outcome.next (owner_writesRun h rfl)

/-! A write of SCN_CTRL.run leaves what the start of the raster looks at. -/

section

variable (s : State) (v : Nat)

theorem running_setFld_run : (s.setFld SCN_CTRL_run v).running = s.running := by
  rw [State.running, State.flag, fld_setFld_other s v (by decide)]
  rfl

theorem timing_setFld_run : (s.setFld SCN_CTRL_run v).timing = s.timing := by
  simp (disch := decide) [State.timing, List.range_succ, fld_setFld_other]

theorem dpllOn_setFld_run : (s.setFld SCN_CTRL_run v).dpllOn = s.dpllOn := by
  simp (disch := decide) only [State.dpllOn, fld_setFld_other]
  rfl

theorem targetFrom_setFld_run (t : Timing) (x : Nat) : (s.setFld SCN_CTRL_run v).targetFrom t x = s.targetFrom t x := by
  simp (disch := decide) only [State.targetFrom, State.framesPer, State.offset16, State.period16, fld_setFld_other]
  rfl

end

/-! The start and the stop of the raster (R160). -/

/-- Frame 0 waits for a target instant: lock 1 or 2, and the DPLL LOCKED with src 1 and a reference (R160, R161). -/
def startsLocked (s : State) : Bool :=
  s.timing.lock != 0 && s.fld TBS_CTRL_src == 1 && s.fld TBS_DPLL_STATUS_state == 2 && s.tbs.refAt.isSome

theorem startsLocked_eq (s : State) :
    (s.timing.lock != 0 && s.dpllOn && s.fld TBS_DPLL_STATUS_state == 2) = startsLocked s := by
  rw [startsLocked, State.dpllOn]
  cases s.fld TBS_DPLL_STATUS_state == 2 <;> simp [Bool.and_assoc]

/-- The raster started in `u`: frame 0 waits for `x`, or for the first target instant of `s` from `x` on (R160). -/
def frameZeroFrom (s u : State) (x : Nat) : State :=
  ({ u with scn := { u.scn with
      starting := some (if startsLocked s then s.targetFrom s.timing x else x), startLocked := startsLocked s } } : State).setFld
    SCN_STATUS_running 1

theorem startRaster_setFld_run (s : State) (v : Nat) : (s.setFld SCN_CTRL_run v).startRaster =
    frameZeroFrom s (s.setFld SCN_CTRL_run v) (256 * (s.now + 10000)) := by
  rw [State.startRaster, timing_setFld_run, dpllOn_setFld_run, fld_setFld_other s v (by decide), startsLocked_eq,
    targetFrom_setFld_run]
  rfl

section

variable {s : State}

theorem fld_run_of_reg (h : s.reg SCN_CTRL 0 0 = 0) : s.fld SCN_CTRL_run = 0 := by
  rw [State.fld, State.fldAt, h]
  rfl

theorem writeRun_starts (hrun : s.fld SCN_CTRL_run = 0) (hr : s.running = false) : s.writeRun 1 =
    frameZeroFrom s (s.setFld SCN_CTRL_run 1) (256 * (s.now + 10000)) := by
  simp [State.writeRun, hrun, running_setFld_run, hr, startRaster_setFld_run]

theorem writeRun_refused (hrun : s.fld SCN_CTRL_run = 1) (hm : s.mode ≠ 10) : s.writeRun 0 = s.setFlag SCN_FLAGS_refused := by
  simp [State.writeRun, hrun, hm]

theorem writeRun_stops (hrun : s.fld SCN_CTRL_run = 1) (hm : s.mode = 10) (hr : s.running = true) (hs : s.scn.starting = none) :
    s.writeRun 0 = { s.setFld SCN_CTRL_run 0 with scn := { s.scn with stopping := true } } := by
  simp [State.writeRun, hrun, hm, running_setFld_run, hr, hs]

/-! Line starts (R157, R160). -/

variable (e : LineEnv)

theorem lineStart_stopped (hr : s.running = false) : s.lineStart e = s := if_pos hr

theorem lineStart_first {x : Nat} (hr : s.running = true) (hx : s.scn.starting = some x) :
    s.lineStart e = ((s.firstFrame x).frontReset x).line e := by
  simp [State.lineStart, hr, hx]

theorem lineStart_within (hr : s.running = true) (hs : s.scn.starting = none) (hl : s.scn.last = false) :
    s.lineStart e = (s.reach (rasterTb s.scn.nextAt)).nextLine.line e := by
  simp [State.lineStart, hr, hs, hl]

theorem stepFires_unstepped (h : s.tbs.stepped = false) : s.stepFires = s := by
  simp [State.stepFires, h]

end

/-- Settles O19: the two writes reach `writeRun`, and the line starts are the branches of `lineStart`. -/
theorem rasterRunsAndStops : Obligations.RasterRunsAndStops := by
  refine ⟨fun s p h hreg hr => ?start, fun s p h hrun => ⟨fun hm => ?refused, fun hm hr hs => ?stop⟩,
    fun s e => ⟨fun hr hst => ?stopped, fun hr hs hl => ?within, fun x hr hx => ?first⟩⟩
  case start =>
    rw [exec_scnRun h, writeRun_starts (fld_run_of_reg hreg) hr]
    rfl
  case refused =>
    rw [exec_scnStop h, writeRun_refused hrun hm]
    rfl
  case stop => rw [exec_scnStop h, writeRun_stops hrun hm hr hs]
  case stopped =>
    refine congrArg Host.Outcome.next ((congrArg State.stepFires (lineStart_stopped e hr)).trans ?_)
    exact stepFires_unstepped hst
  case within => exact congrArg (fun t : State => Host.Outcome.next t.stepFires) (lineStart_within e hr hs hl)
  case first => exact congrArg (fun t : State => Host.Outcome.next t.stepFires) (lineStart_first e hr hx)

end Sys2Proof.Proofs

/-! PROOFS. The statement of the compensation loads (R191 to R193): a de-mura map whose units the store can read by reconstruction
alone, or not at all (R361, R362). -/

namespace Sys2Proof.Proofs

open Sys2Proof Sys2Proof.Machine Sys2Proof.Machine.Reg Sys2Proof.Laws

/-! Counting units read by reconstruction writes FST_CNT_RECON alone: other fields and the store's units are as before. -/

theorem fldI_countRecon (s : State) (a n : Nat) {f : Fld} (hf : f.off / 4 ≠ FST_CNT_RECON / 4) (ix : Nat) :
    (s.countRecon a n).fldI f ix = s.fldI f ix := by
  rw [State.fldI, State.fldAt, reg_countRecon s a n ix hf]
  rfl

theorem fld_countRecon (s : State) (a n : Nat) {f : Fld} (hf : f.off / 4 ≠ FST_CNT_RECON / 4) :
    (s.countRecon a n).fld f = s.fld f := fldI_countRecon s a n hf 0

/-- Counting units read by reconstruction makes no unit more or less readable. -/
theorem unitReadable_countRecon (s : State) (a n u : Nat) : (s.countRecon a n).unitReadable u = s.unitReadable u := by
  obtain ⟨r, hr⟩ := countRecon_regs s a n
  rw [hr]
  rfl

theorem cmpSrc_countRecon (s : State) (a n : Nat) : (s.countRecon a n).cmpSrc = s.cmpSrc := by
  rw [State.cmpSrc, fld_countRecon s a n (by decide), fld_countRecon s a n (by decide)]
  rfl

/-! DEMURA_MAP_LOAD at its dispatch (R328). -/

theorem cmpSrc_counted (s : State) : s.counted.cmpSrc = s.cmpSrc := rfl

theorem cmpAreas_counted (s : State) (code : Nat) : s.counted.cmpAreas code = s.cmpAreas code := by
  simp only [State.cmpAreas, State.inKind, areaIn_counted]
  rfl

/-- DEMURA_MAP_LOAD's map is no table of a layer, a view or SAFETY, and the OWNER loads it. -/
theorem take_demuraMapLoad {s : State} {h : Hdr} {g : Nat} (ht : s.takes h g) (hp : plainHdr h) (ho : h.part = s.owner) :
    s.take h (.tableLoad 0x200 0 none) = (s.counted.cmpLoad (s.reqOf h g) 0x200 0 none).goOn := by
  have hr : s.counted.rights h.part (.tableLoad 0x200 0 none) = true := by
    have : s.counted.tableRights h.part 0x200 = true := tableRights_owner ho rfl rfl (by decide)
    simp [State.rights, this]
  rw [take_acts ht hp rfl hr rfl, act_tableLoad]
  rfl

/-! Units of an area that are lost or read by reconstruction (R361, R362). -/

/-- Unit `u` of the store holds bytes of the `n` at `a`. -/
def unitOfArea (a n u : Nat) : Prop := a / 4096 ≤ u ∧ u < (a + n + 4095) / 4096

/-- Unit `u` is read by reconstruction: not from its port, but from the others of its stripe. -/
def reconstructs (s : State) (u : Nat) : Prop :=
  s.unitHere (unitPlace s.layout u).1 (unitPlace s.layout u).2 = false ∧ s.unitReadable u = true

/-- The units of an area are those that the store numbers from its first one on. -/
theorem mem_range_of_unitOfArea {a n u : Nat} (h : unitOfArea a n u) :
    u - a / 4096 ∈ List.range ((a + n + 4095) / 4096 - a / 4096) ∧ a / 4096 + (u - a / 4096) = u := by
  obtain ⟨hlo, hhi⟩ := h
  exact ⟨List.mem_range.2 (by omega), by omega⟩

/-- An area with a unit that is beyond reconstruction cannot be read intact. -/
theorem readable_lost {s : State} {a n u : Nat} (hu : unitOfArea a n u) (h : s.unitReadable u = false) : s.readable a n = false := by
  obtain ⟨hmem, hat⟩ := mem_range_of_unitOfArea hu
  rw [State.readable, Bool.and_eq_false_iff, List.all_eq_false]
  exact .inr ⟨_, hmem, by simp [hat, h]⟩

/-- Once a unit of it has been reconstructed, the reads of an area leave FST_CNT_RECON above 0. -/
theorem countRecon_counts {s : State} {a n u : Nat} (hl : s.layout = 0) (hp : s.fst.poisoned ≠ []) (hu : unitOfArea a n u)
    (hr : reconstructs s u) : (s.countRecon a n).fld FST_CNT_RECON_count ≠ 0 := by
  obtain ⟨hh, hread⟩ := hr
  obtain ⟨hmem, hat⟩ := mem_range_of_unitOfArea hu
  have hpos := List.length_pos_of_mem (List.mem_filter (p := fun i =>
    !s.unitHere (unitPlace s.layout (a / 4096 + i)).1 (unitPlace s.layout (a / 4096 + i)).2 &&
      s.unitReadable (a / 4096 + i)).2 ⟨hmem, by simp [hat, hh, hread]⟩)
  have hwhole : (s.layout != 0 || (s.fst.poisoned.isEmpty &&
      (List.range 6).all fun n => (s.cxPort n).st == 2 || (s.cxPort n).st == 3)) = false := by
    simp [hl, hp]
  simp only [State.countRecon, hwhole, Bool.false_eq_true, if_false]
  rw [if_neg (by omega)]
  intro h
  have hcount := (fld_setFld_same s _ (by decide) (by decide)).symm.trans h
  simp only [show FST_CNT_RECON_count.hi - FST_CNT_RECON_count.lo + 1 = 32 from rfl] at hcount
  omega

/-! A de-mura map with a unit beyond reconstruction. -/

/-- The bytes of the map that DEMURA_MAP_LOAD reads, its CRC with them (R191). -/
def mapBytes : Nat := 1592524804

theorem cmpRead_lostMap {s : State} {u : Nat} (hu : unitOfArea s.cmpSrc mapBytes u) (h : s.unitReadable u = false) (len : Nat)
    (d : Option (List Byte)) : s.cmpRead 0x200 len d = (DATA_ERROR, s) := if_pos (readable_lost hu h)

/-- The units of the map that were reconstructed are counted (R361), and the load completes DATA_ERROR. -/
theorem cmpLoad_lostMap {s : State} (r : Req) {u : Nat} (ha : s.cmpAreas 0x200 = true) (hu : unitOfArea s.cmpSrc mapBytes u)
    (h : s.unitReadable u = false) : s.cmpLoad r 0x200 0 none = (s.countRecon s.cmpSrc mapBytes).done r DATA_ERROR := by
  have hread : (s.countRecon s.cmpSrc mapBytes).cmpRead 0x200 0 none = (DATA_ERROR, s.countRecon s.cmpSrc mapBytes) :=
    cmpRead_lostMap (u := u) (by rwa [cmpSrc_countRecon]) (by rwa [unitReadable_countRecon]) 0 none
  have harea : s.loadArea 0x200 = (s.cmpSrc, mapBytes) := rfl
  have hbad : DATA_ERROR ≠ OK := by decide
  simp [State.cmpLoad, ha, harea, hread, hbad]

/-! A completion to a CQ in ERROR is kept (R336): it leaves the registers and every SQ as they were. -/

/-- The header's CQ is enabled and in ERROR. -/
def cqInError (s : State) (h : Hdr) : Prop :=
  ∃ g, s.gq h.part h.cq.toNat = some g ∧ s.qEn g = true ∧ s.qKind g = 1 ∧ (s.queue g).err ≠ 0

theorem done_kept {s : State} {r : Req} (hc : cqInError s r.h) {st : Nat} (hst : st ≠ OK) :
    ∃ l, s.done r st = { s with hif := { s.hif with held := l } } := by
  obtain ⟨g, hg, hen, hk, he⟩ := hc
  have hst' : st ≠ 0 := hst
  simp [State.done, State.complete, State.postCpl, hst', hg, hen, hk, he]

/-- Queues of which none is a stopped SQ leave nothing to go on. -/
theorem goOn_unstopped {s : State} (h : ∀ g, (s.queue g).stop = none) : s.goOn = s := by
  have hnone : s.resumable = none := List.find?_eq_none.2 fun g _ => by simp [State.canResume, h g]
  rw [State.goOn]
  cases s.hif.queues.length with
  | zero => rfl
  | succ n => rw [State.goOnN, hnone]

theorem fld_done_goOn {s : State} {r : Req} (hc : cqInError s r.h) (hs : ∀ g, (s.queue g).stop = none) {st : Nat} (hst : st ≠ OK)
    (f : Fld) : (s.done r st).goOn.fld f = s.fld f := by
  obtain ⟨l, hl⟩ := done_kept hc hst
  have hstop : ∀ g, ((s.done r st).queue g).stop = none := by
    rw [hl]
    exact hs
  rw [goOn_unstopped hstop, hl]
  rfl

/-- Two states that such a completion makes one agree in every field. -/
theorem fld_of_done_goOn {u v : State} {r : Req} (hu : cqInError u r.h) (hv : cqInError v r.h) (hsu : ∀ g, (u.queue g).stop = none)
    (hsv : ∀ g, (v.queue g).stop = none) {st : Nat} (hst : st ≠ OK) (h : (u.done r st).goOn = (v.done r st).goOn) (f : Fld) :
    u.fld f = v.fld f := by
  rw [← fld_done_goOn hu hsu hst f, h, fld_done_goOn hv hsv hst f]

theorem cqInError_countRecon {s : State} {h : Hdr} (hp : h.part = 0) (hc : cqInError s h) (a n : Nat) :
    cqInError (s.countRecon a n) h := by
  simpa (disch := decide) only [cqInError, State.gq, State.qEn, State.qKind, hp, fld_countRecon, fldI_countRecon,
    queue_countRecon] using hc

/-! A DEMURA_MAP_LOAD of such a map, by the model and by the statement. -/

section

variable {s : State} {h : Hdr} {g u : Nat} (ht : s.takes h g) (hp : plainHdr h) (ho : h.part = s.owner) (ha : s.cmpAreas 0x200 = true)
  (hu : unitOfArea s.cmpSrc mapBytes u) (hlost : s.unitReadable u = false)

include ht hp ho ha hu hlost

theorem exec_demuraMapLoad_lostMap : exec (.demuraMapLoad h) s =
    .next ((s.counted.countRecon s.cmpSrc mapBytes).done (s.reqOf h g) DATA_ERROR).goOn := by
  have ha' : s.counted.cmpAreas 0x200 = true := (cmpAreas_counted s _).trans ha
  have hu' : unitOfArea s.counted.cmpSrc mapBytes u := by rwa [cmpSrc_counted]
  have hload := cmpLoad_lostMap (s.reqOf h g) ha' hu' hlost
  rw [cmpSrc_counted] at hload
  exact congrArg Host.Outcome.next ((take_demuraMapLoad ht hp ho).trans (congrArg State.goOn hload))

/-- O16 says that the load completes DATA_ERROR and changes nothing else. -/
theorem stated_demuraMapLoad_lostMap (hO16 : Obligations.CompensationLoads) :
    exec (.demuraMapLoad h) s = .next (s.counted.done (s.reqOf h g) DATA_ERROR).goOn := by
  obtain ⟨hload, -⟩ := hO16 s h g ht hp ho
  have hread : s.counted.cmpRead 0x200 0 none = (DATA_ERROR, s.counted) :=
    cmpRead_lostMap (s := s.counted) (u := u) (by rwa [cmpSrc_counted]) hlost 0 none
  have hbad : DATA_ERROR ≠ OK := by decide
  beta_reduce at hload
  rw [hload, hread, if_neg (by simp [ha]), if_pos hbad]

/-- With the load's completion kept and no SQ stopped, O16 says that the load leaves FST_CNT_RECON as it was. -/
theorem stated_countRecon (hO16 : Obligations.CompensationLoads) (hc : cqInError s.counted h)
    (hs : ∀ g, (s.queue g).stop = none) (h0 : h.part = 0) :
    (s.counted.countRecon s.cmpSrc mapBytes).fld FST_CNT_RECON_count = s.counted.fld FST_CNT_RECON_count := by
  have hbad : DATA_ERROR ≠ OK := by decide
  have hsame := (exec_demuraMapLoad_lostMap ht hp ho ha hu hlost).symm.trans
    (stated_demuraMapLoad_lostMap ht hp ho ha hu hlost hO16)
  have hv (g : Nat) : ((s.counted.countRecon s.cmpSrc mapBytes).queue g).stop = none := by
    rw [queue_countRecon]
    exact hs g
  exact fld_of_done_goOn (r := s.reqOf h g) (cqInError_countRecon h0 hc _ _) hc hv hs hbad (Host.Outcome.next.inj hsame) _

end

/-- The OWNER P0's CQ 1 in ERROR, CXL port 0 lost, unit 0 poisoned on port 1, and one DEMURA region from PPA 0 that holds
compensation's areas. -/
def oneUnitLost : State :=
  let s := (((State.reset.setFldI HIF_Q_CFG_en 0 1).setFldI HIF_Q_CFG_en 1 1).setFldI HIF_Q_CFG_kind 1 1).setFld FST_STATUS_state 3
  let s := ((s.setReg (FST_RGN_SIZE 0) 0 0 65536).setFld (FST_RGN_CFG_kind 0) 4).setFld (FST_RGN_CFG_en 0) 1
  { s with
    hif := { s.hif with queues := [(1, { err := 2 })] }
    fst := { s.fst with
      poisoned := [1]
      ports := (0, { st := 4, capMiB := 8192 }) :: [1, 2, 3, 4, 5].map fun n => (n, { st := 2, capMiB := 8192 }) } }

theorem oneUnitLost_takes : oneUnitLost.takes plainDescriptor 0 ∧ plainHdr plainDescriptor ∧
    plainDescriptor.part = oneUnitLost.owner ∧ oneUnitLost.cmpAreas 0x200 = true := by
  decide +kernel

/-- Unit 0, on port 1, is beyond reconstruction; unit 9, on the lost port 0, is reconstructed. -/
theorem oneUnitLost_units : oneUnitLost.unitReadable 0 = false ∧ reconstructs oneUnitLost.counted 9 := by
  unfold reconstructs
  decide +kernel

theorem oneUnitLost_store : oneUnitLost.cmpSrc = 0 ∧ oneUnitLost.counted.fld FST_CNT_RECON_count = 0 ∧
    oneUnitLost.counted.layout = 0 ∧ oneUnitLost.counted.fst.poisoned ≠ [] := by
  decide +kernel

theorem oneUnitLost_cqInError : cqInError oneUnitLost.counted plainDescriptor := ⟨1, by decide +kernel⟩

theorem oneUnitLost_unstopped (g : Nat) : (oneUnitLost.queue g).stop = none := by
  show (Sparse.get ({} : Queue) [(1, { err := 2 })] g).stop = none
  simp only [Sparse.get]
  split <;> rfl

theorem oneUnitLost_map {u : Nat} (hu : u < 388800) : unitOfArea oneUnitLost.cmpSrc mapBytes u := by
  obtain ⟨hsrc, -⟩ := oneUnitLost_store
  rw [hsrc, unitOfArea, mapBytes]
  omega

/-- Refutes O16: a DEMURA_MAP_LOAD whose map lies in its region counts in FST_CNT_RECON the units of the map that it reads by
reconstruction (R361), where the statement has it complete DATA_ERROR and change nothing else. Of the map of `oneUnitLost` unit 0 is
lost and unit 9 is reconstructed. -/
theorem not_compensationLoads : ¬ Obligations.CompensationLoads := by
  intro hO16
  obtain ⟨ht, hp, ho, ha⟩ := oneUnitLost_takes
  obtain ⟨-, hcount, hlayout, hpoison⟩ := oneUnitLost_store
  obtain ⟨hlost, hrecon⟩ := oneUnitLost_units
  have hstated := stated_countRecon ht hp ho ha (oneUnitLost_map (by decide)) hlost hO16 oneUnitLost_cqInError
    oneUnitLost_unstopped rfl
  exact countRecon_counts hlayout hpoison (oneUnitLost_map (by decide)) hrecon (hstated.trans hcount)

end Sys2Proof.Proofs

/-! PROOFS. The statement of the region updates (R211): a patch while the frame store that holds it is down (R348). -/

namespace Sys2Proof.Proofs

open Sys2Proof Sys2Proof.Machine Sys2Proof.Machine.Reg Sys2Proof.Laws

/-- LAYBY, P0's SQ 0 and CQ 1 enabled, and a LAYER region of P0 from PPA 0, the frame store having been taken down. -/
def storeTakenDown : State :=
  let s := (((State.reset.setFldI HIF_Q_CFG_en 0 1).setFldI HIF_Q_CFG_en 1 1).setFldI HIF_Q_CFG_kind 1 1).setFld MOD_STATUS_cur_mode 8
  ((s.setReg (FST_RGN_SIZE 0) 0 0 65536).setFld (FST_RGN_CFG_kind 0) 1).setFld (FST_RGN_CFG_en 0) 1

/-- An update of tile 0 with an RGB10 patch at PPA 64, its values within R211's table. -/
def patchedTile : RegionArgs where
  strip0 := 0
  nstrips := 1
  row0 := 0
  nrows := 1
  patch := 64
  format := 3
  pitch := 128

/-- The number of region-update contexts in use after a command. -/
def contextsAfter : Host.Outcome State Fault Refusal → Option Nat
  | .next t => some t.odv.regions.length
  | _ => none

theorem storeTakenDown_takes : storeTakenDown.takes plainDescriptor 0 ∧ plainHdr plainDescriptor := by
  decide +kernel

/-- A patch needs the frame store before R211's other tests: with the store down its update completes NOT_READY (R348). -/
theorem takeRegion_storeDown {s : State} {a : RegionArgs} (r : Req) (hp : a.patch ≠ 0) (hs : s.storeUp = false) :
    s.takeRegion r a = s.done r NOT_READY := by
  have hst : s.regionStatus r.h.part a = NOT_READY := if_pos (.inr ⟨hp, hs⟩)
  rw [State.takeRegion, hst]
  exact if_pos (by decide)

/-- A REGION_UPDATE that its SQ dispatches reaches R211's tests, whoever issues it. -/
theorem exec_regionUpdate {s : State} {h : Hdr} {g : Nat} (ht : s.takes h g) (hp : plainHdr h) (a : RegionArgs) :
    exec (.regionUpdate h a) s = .next (s.counted.takeRegion (s.reqOf h g) a).goOn := by
  refine congrArg Host.Outcome.next ((take_acts ht hp rfl rfl rfl).trans ?_)
  simp [State.act, onSvc]

/-- Refutes O20: while the frame store is down a REGION_UPDATE with a patch completes NOT_READY in every mode (R348,
`takeRegion_storeDown`), where the statement tests R211's list alone. That of `storeTakenDown` keeps the list and so would wait in
a context; the part gives it none. -/
theorem not_overdriveAndUpdates : ¬ Obligations.OverdriveAndUpdates := by
  intro h
  obtain ⟨hupdate, -⟩ := h
  obtain ⟨ht, hp⟩ := storeTakenDown_takes
  have stated := congrArg contextsAfter (hupdate storeTakenDown plainDescriptor 0 patchedTile ht hp)
  have refused : contextsAfter (exec (.regionUpdate plainDescriptor patchedTile) storeTakenDown) = some 0 := by
    rw [exec_regionUpdate ht hp, takeRegion_storeDown _ (by decide) (by decide +kernel)]
    decide +kernel
  exact absurd (refused.symm.trans stated) (by decide +kernel)

end Sys2Proof.Proofs

/-! PROOFS. What an engine instruction reaches, said once for the shared forms of the instructions: the records that a fault leaves,
then the state of its own cluster, engine by engine. From it the statements that every engine instruction keeps the state's form and
leaves the other clusters, the other engines and the picture path alone (R218 to R220, R235, R236, R269). -/

namespace Sys2Proof.Proofs

open Sys2Proof Sys2Proof.Machine Sys2Proof.Machine.Reg Sys2Proof.Laws

/-! Records: completions, events, log entries and lifetime counters. -/

/-- `t` differs from `s` in the registers, the host interface without its fences, the frame store, the record store, the SVC and the
output alone, and its memories are in form if those of `s` are. -/
structure Recorded (s t : State) : Prop where
  rest : { t with regs := s.regs, hif := s.hif, fst := s.fst, nvs := s.nvs, cal := s.cal, sent := s.sent } = s
  fences : t.hif.fences = s.hif.fences
  memWf : s.memWf → t.memWf

namespace Recorded

theorem refl (s : State) : Recorded s s := ⟨rfl, rfl, id⟩

theorem trans {s t u : State} (h : Recorded s t) (k : Recorded t u) : Recorded s u where
  rest := by
    have e : ({ u with regs := s.regs, hif := s.hif, fst := s.fst, nvs := s.nvs, cal := s.cal, sent := s.sent } : State) =
        { ({ u with regs := t.regs, hif := t.hif, fst := t.fst, nvs := t.nvs, cal := t.cal, sent := t.sent } : State) with
          regs := s.regs, hif := s.hif, fst := s.fst, nvs := s.nvs, cal := s.cal, sent := s.sent } := rfl
    rw [e, k.rest, h.rest]
  fences := k.fences.trans h.fences
  memWf := k.memWf ∘ h.memWf

theorem foldl {α : Type} (f : State → α → State) (hf : ∀ s x, Recorded s (f s x)) (l : List α) : ∀ s, Recorded s (l.foldl f s) := by
  induction l with
  | nil => exact refl
  | cons x l ih => exact fun s => (hf s x).trans (ih _)

theorem eng {s t : State} (h : Recorded s t) : t.eng = s.eng := (congrArg State.eng h.rest :)
theorem cl {s t : State} (h : Recorded s t) (c : Nat) : t.cl c = s.cl c := by rw [State.cl, h.eng]; rfl
theorem en {s t : State} (h : Recorded s t) (g : Nat) : t.en g = s.en g := by rw [State.en, h.eng]; rfl

end Recorded

theorem recorded_regs (s : State) (r : List (Nat × Word)) : Recorded s { s with regs := r } := ⟨rfl, rfl, id⟩
theorem recorded_setReg (s : State) (off ix b w : Nat) : Recorded s (s.setReg off ix b w) := recorded_regs s _
theorem recorded_setFld (s : State) (f : Fld) (v : Nat) : Recorded s (s.setFld f v) := recorded_regs s _
theorem recorded_setFldP (s : State) (f : Fld) (p v : Nat) : Recorded s (s.setFldP f p v) := recorded_regs s _
theorem recorded_setFlag (s : State) (f : Fld) : Recorded s (s.setFlag f) := recorded_regs s _
theorem recorded_addSat (s : State) (f : Fld) (ix b n : Nat) : Recorded s (s.addSat f ix b n) := recorded_regs s _
theorem recorded_emit (s : State) (o : Out) : Recorded s (s.emit o) := ⟨rfl, rfl, id⟩
theorem recorded_cal (s : State) (c : Cal) : Recorded s { s with cal := c } := ⟨rfl, rfl, id⟩

theorem recorded_setQueue (s : State) (g : Nat) (q : Queue) : Recorded s (s.setQueue g q) := ⟨rfl, rfl, id⟩
theorem recorded_qDrop (s : State) (g n : Nat) : Recorded s (s.qDrop g n) := recorded_setQueue s g _
theorem recorded_pba (s : State) (x : Sparse Bool) : Recorded s { s with hif := { s.hif with pba := x } } := ⟨rfl, rfl, id⟩

theorem recorded_qError (s : State) (p g c : Nat) : Recorded s (s.qError p g c) :=
  (recorded_setQueue s g _).trans (recorded_setFldP _ _ p 1)

theorem recorded_ppaStore (s : State) (a : Nat) (d : List Byte) : Recorded s (s.ppaStore a d) where
  rest := by unfold State.ppaStore; split <;> rfl
  fences := by unfold State.ppaStore; split <;> rfl
  memWf h := memWf_ppaStore h a d

theorem recorded_ppaWrite (s : State) (a : Nat) (d : List Byte) : Recorded s (s.ppaWrite a d) := by
  obtain ⟨r, e⟩ := ppaWrite_regs s a d
  rw [e]
  exact (recorded_ppaStore s a d).trans (recorded_regs _ r)

theorem recorded_toHost (s : State) (a : Nat) (d : List Byte) :
    Recorded s { s with hif := { s.hif with hostMem := Sparse.write 0 s.hif.hostMem a d } } where
  rest := rfl
  fences := rfl
  memWf h := by
    obtain ⟨hfst, hxram, hnvs, hline, hhost⟩ := h
    exact ⟨hfst, hxram, hnvs, hline, memory_wf_write hhost a d⟩

theorem recorded_msixDue (s : State) (p g : Nat) : Recorded s (s.msixDue p g) := by
  unfold State.msixDue
  extract_lets vec q t
  have h : Recorded s t := recorded_setQueue s g _
  split
  · exact h.trans (recorded_pba t _)
  · exact h.trans (recorded_emit t _)

theorem recorded_announce (s : State) (p g : Nat) : Recorded s (s.announce p g) := by
  unfold State.announce
  split
  · extract_lets q q' t
    have h : Recorded s t := recorded_setQueue s g q'
    split
    · exact h
    · split
      · exact h.trans (recorded_msixDue t p g)
      · exact h
  · exact .refl s

/-- A record in a ring (R335): its ring, its context and its message. -/
theorem recorded_writeRecord (s : State) (p g a b c d : Nat) : Recorded s (s.writeRecord p g a b c d) := by
  unfold State.writeRecord
  extract_lets q phase at_ next bytes t u h v w x
  split
  · split
    · exact ((recorded_ppaWrite s at_ bytes).trans (recorded_setQueue t g _)).trans (recorded_ppaWrite u _ _)
    · exact recorded_qError s p g 3
  · exact ((((recorded_toHost s _ bytes).trans (recorded_emit v _)).trans (recorded_emit w _)).trans
      (recorded_setQueue x g _)).trans (recorded_announce _ p g)

theorem recorded_offer (s : State) (code cls arg tb p : Nat) : Recorded s (s.offer code cls arg tb p) := by
  unfold State.offer
  extract_lets k
  split
  · exact .refl s
  · split
    · exact .refl s
    · split
      · exact .refl s
      · split
        · exact ((recorded_qDrop s _ 1).trans (recorded_setFldP _ _ p 1)).trans (recorded_setQueue _ _ _)
        · exact recorded_writeRecord ..

theorem recorded_post (s : State) (code cls arg : Nat) (ps : List Nat) : Recorded s (s.post code cls arg ps) :=
  Recorded.foldl _ (fun s p => recorded_offer s code cls _ _ p) _ s

theorem recorded_raise (s : State) (code cls arg : Nat) : Recorded s (s.raise code cls arg) := recorded_post ..

/-- A record store whose memory stays in form changes nothing else. -/
theorem recorded_nvs (s : State) (n : Nvs) (h : Memory.wf s.nvs.mem → Memory.wf n.mem) : Recorded s { s with nvs := n } where
  rest := rfl
  fences := rfl
  memWf hs := by
    obtain ⟨hfst, hxram, hnvs, hline, hhost⟩ := hs
    exact ⟨hfst, hxram, h hnvs, hline, hhost⟩

theorem recorded_nvsStart (s : State) : Recorded s s.nvsStart :=
  ((recorded_nvs s _ fun h => nvs_wf_begin h _ _ _).trans (recorded_cal _ _)).trans (recorded_setFld _ _ _)

theorem recorded_nvsPump (s : State) : Recorded s s.nvsPump := by
  unfold State.nvsPump
  split
  · exact .refl s
  · split
    · exact recorded_nvsStart s
    · exact .refl s

theorem recorded_gather (s : State) (i : GItem) : Recorded s (s.gather i) := by
  unfold State.gather
  split
  · exact .refl s
  · extract_lets rest at_
    exact (recorded_nvs s { s.nvs with gather := rest ++ [i], gatherAt := at_ } id).trans (recorded_nvsPump _)

theorem recorded_gatherRecord (s : State) (key : Nat) (body : List Byte) : Recorded s (s.gatherRecord key body) := by
  unfold State.gatherRecord
  split
  · exact recorded_cal s _
  · split
    · exact recorded_gather s _
    · exact recorded_nvs s { s.nvs with waiting := _ } id

theorem recorded_logAt (s : State) (code cls arg detail : Nat) (t : Ns) (frame : Nat) :
    Recorded s (s.logAt code cls arg detail t frame) := by
  unfold State.logAt
  split
  · exact (recorded_cal s _).trans (recorded_gather _ _)
  · extract_lets n unread cal0 s1 s2 s3 s4 lost due
    have h3 : Recorded s s3 := ((recorded_cal s _).trans (recorded_setFld s1 _ _)).trans (recorded_gather s2 _)
    have h4 : Recorded s s4 := h3.trans (recorded_addSat s3 _ _ _ _)
    split
    · split
      · exact (h4.trans (recorded_cal s4 _)).trans (recorded_post ..)
      · exact h4.trans (recorded_cal s4 _)
    · exact h3

theorem recorded_log (s : State) (code cls arg detail : Nat) : Recorded s (s.log code cls arg detail) := by
  unfold State.log
  split
  · exact recorded_cal s _
  · exact recorded_logAt ..

theorem recorded_raiseLog (s : State) (code cls arg : Nat) : Recorded s (s.raiseLog code cls arg) :=
  (recorded_raise s code cls arg).trans (recorded_log ..)

theorem recorded_countLife (s : State) (k : Nat) : Recorded s (s.countLife k) :=
  recorded_nvs s { s.nvs with counters := _ } id

theorem recorded_postTakeover (s : State) (c i cause bypass : Nat) : Recorded s (s.postTakeover c i cause bypass) :=
  ((recorded_raise s _ _ _).trans (recorded_log ..)).trans (recorded_countLife _ 5)

/-! The state of one engine and its cluster. -/

/-- Engine k keeps the fault of spare g: it is the one that g replaces (R269). -/
def servedBy (s : State) (g k : Nat) : Prop := 512 ≤ g ∧ k = 16 * (g - 512) + (s.cl (g - 512)).spareFor % 16

/-- From `s` to `t` engine g, its cluster and records have changed, with the fault recorded for the engine that a spare serves; a slot
goes on, and forms are kept. -/
structure Isolated (g : Nat) (s t : State) : Prop where
  rest : { t with
    regs := s.regs, eng := s.eng, hif := s.hif, fst := s.fst, nvs := s.nvs, cal := s.cal, free := s.free, sent := s.sent } = s
  fences : t.hif.fences = s.hif.fences
  stage : { t.eng with engines := s.eng.engines, clusters := s.eng.clusters } = s.eng
  clusters : ∀ c, c ≠ clusterOf g → t.cl c = s.cl c
  slot : (t.cl (clusterOf g)).slot = (s.cl (clusterOf g)).slot
  spareFor : 512 ≤ g → (t.cl (clusterOf g)).spareFor = (s.cl (clusterOf g)).spareFor
  engines : ∀ k, k ≠ g → ¬ servedBy s g k → t.en k = s.en k
  faults : ∀ k, k ≠ g → { t.en k with fault := (s.en k).fault, faultAt := (s.en k).faultAt } = s.en k
  engWf : s.engWf → t.engWf
  memWf : s.memWf → t.memWf

theorem clusterOf_spare {g : Nat} (h : 512 ≤ g) : clusterOf g = g - 512 := if_neg (by omega)

namespace Isolated

variable {g : Nat} {s t u : State}

theorem refl (g : Nat) (s : State) : Isolated g s s :=
  ⟨rfl, rfl, rfl, fun _ _ => rfl, rfl, fun _ => rfl, fun _ _ _ => rfl, fun _ _ => rfl, id, id⟩

theorem servedBy_iff (h : Isolated g s t) (k : Nat) : servedBy t g k ↔ servedBy s g k := by
  refine and_congr_right fun hg => ?_
  have e := h.spareFor hg
  rw [clusterOf_spare hg] at e
  rw [e]

theorem trans (h : Isolated g s t) (k : Isolated g t u) : Isolated g s u where
  rest := by
    have e : ({ u with regs := s.regs, eng := s.eng, hif := s.hif, fst := s.fst, nvs := s.nvs, cal := s.cal, free := s.free, sent := s.sent } : State) =
        { ({ u with regs := t.regs, eng := t.eng, hif := t.hif, fst := t.fst, nvs := t.nvs, cal := t.cal, free := t.free, sent := t.sent } : State) with
          regs := s.regs, eng := s.eng, hif := s.hif, fst := s.fst, nvs := s.nvs, cal := s.cal, free := s.free, sent := s.sent } := rfl
    rw [e, k.rest, h.rest]
  fences := k.fences.trans h.fences
  stage := by
    have e : ({ u.eng with engines := s.eng.engines, clusters := s.eng.clusters } : EngSt) =
        { ({ u.eng with engines := t.eng.engines, clusters := t.eng.clusters } : EngSt) with
          engines := s.eng.engines, clusters := s.eng.clusters } := rfl
    rw [e, k.stage, h.stage]
  clusters c hc := (k.clusters c hc).trans (h.clusters c hc)
  slot := k.slot.trans h.slot
  spareFor hg := (k.spareFor hg).trans (h.spareFor hg)
  engines j hj hs := (k.engines j hj (mt (h.servedBy_iff j).1 hs)).trans (h.engines j hj hs)
  faults j hj := by
    have e : ({ u.en j with fault := (s.en j).fault, faultAt := (s.en j).faultAt } : Eng) =
        { ({ u.en j with fault := (t.en j).fault, faultAt := (t.en j).faultAt } : Eng) with
          fault := (s.en j).fault, faultAt := (s.en j).faultAt } := rfl
    rw [e, k.faults j hj, h.faults j hj]
  engWf := k.engWf ∘ h.engWf
  memWf := k.memWf ∘ h.memWf

theorem foldl {α : Type} (f : State → α → State) (hf : ∀ s x, Isolated g s (f s x)) (l : List α) : ∀ s, Isolated g s (l.foldl f s) := by
  induction l with
  | nil => exact refl g
  | cons x l ih => exact fun s => (hf s x).trans (ih _)

theorem pending (h : Isolated g s t) : t.pending = s.pending := (congrArg State.pending h.rest :)
theorem jobs (h : Isolated g s t) : t.eng.jobs = s.eng.jobs := (congrArg EngSt.jobs h.stage :)
theorem input (h : Isolated g s t) : t.eng.input = s.eng.input := (congrArg EngSt.input h.stage :)

end Isolated

theorem Recorded.isolated {s t : State} (h : Recorded s t) (g : Nat) : Isolated g s t where
  rest := by
    have e : ({ t with regs := s.regs, eng := s.eng, hif := s.hif, fst := s.fst, nvs := s.nvs, cal := s.cal, free := s.free, sent := s.sent } : State) =
        { ({ t with regs := s.regs, hif := s.hif, fst := s.fst, nvs := s.nvs, cal := s.cal, sent := s.sent } : State) with
          eng := s.eng, free := s.free } := rfl
    rw [e, h.rest]
  fences := h.fences
  stage := by rw [h.eng]
  clusters c _ := h.cl c
  slot := by rw [h.cl]
  spareFor _ := by rw [h.cl]
  engines k _ _ := h.en k
  faults k _ := by rw [h.en]
  engWf hs := by rw [State.engWf, h.eng]; exact hs
  memWf := h.memWf

section
variable {g : Nat} {s : State}

/-- An engine's form is that of its s-registers, predicates and memory. -/
theorem eng_wf_congr {e f : Eng} (h : Eng.wf e) (hs : f.s = e.s) (hp : f.p = e.p) (hm : f.mem = e.mem) : Eng.wf f := by
  unfold Eng.wf
  rw [hs, hp, hm]
  exact h

theorem eng_wf_setMem {e : Eng} (h : Eng.wf e) {m : List (Nat × Byte)} (hm : Memory.wf m) : Eng.wf { e with mem := m } := by
  obtain ⟨hs, hs0, hp, hp0, -⟩ := h
  exact ⟨hs, hs0, hp, hp0, hm⟩

theorem eng_wf_mem {e : Eng} (h : Eng.wf e) : Memory.wf e.mem := by
  obtain ⟨-, -, -, -, hm⟩ := h
  exact hm

/-- Engine g changed. -/
theorem isolated_setEn {x : Eng} (hx : Eng.wf (s.en g) → Eng.wf x) : Isolated g s (s.setEn g x) where
  rest := rfl
  fences := rfl
  stage := rfl
  clusters _ _ := rfl
  slot := rfl
  spareFor _ := rfl
  engines _ hk _ := en_setEn_other _ _ hk
  faults k hk := by rw [en_setEn_other _ _ hk]
  engWf h := engWf_setEn h g (hx (en_wf h g))
  memWf := id

/-- Its cluster changed, the slot and a spare's engine apart. -/
theorem isolated_setCl {x : Cluster} (hslot : x.slot = (s.cl (clusterOf g)).slot)
    (hspare : 512 ≤ g → x.spareFor = (s.cl (clusterOf g)).spareFor) : Isolated g s (s.setCl (clusterOf g) x) where
  rest := rfl
  fences := rfl
  stage := rfl
  clusters _ hc := cl_setCl_other _ _ hc
  slot := by rw [cl_setCl_same, hslot]
  spareFor hg := by rw [cl_setCl_same, hspare hg]
  engines _ _ _ := rfl
  faults _ _ := rfl
  engWf h := h
  memWf := id

/-- The fault of a spare recorded for the engine that it serves. -/
theorem isolated_recordFault {k : Nat} (hk : servedBy s g k) (code at_ : Nat) :
    Isolated g s (s.setEn k { s.en k with fault := code, faultAt := at_ }) where
  rest := rfl
  fences := rfl
  stage := rfl
  clusters _ _ := rfl
  slot := rfl
  spareFor _ := rfl
  engines j _ hs := en_setEn_other _ _ fun e => hs (e ▸ hk)
  faults j _ := by
    by_cases e : j = k
    · rw [e, en_setEn_same]
    · rw [en_setEn_other _ _ e]
  engWf h := engWf_setEn h k (en_wf h k)
  memWf := id

theorem isolated_free (s : State) (g n : Nat) : Isolated g s { s with free := n } :=
  ⟨rfl, rfl, rfl, fun _ _ => rfl, rfl, fun _ => rfl, fun _ _ _ => rfl, fun _ _ => rfl, id, id⟩

/-! Faults and the watchdog. -/

theorem isolated_hvPrune (s : State) (g : Nat) : Isolated g s (s.hvPrune (clusterOf g)) := isolated_setCl rfl fun _ => rfl

theorem isolated_watchdog (s : State) (g cause : Nat) : Isolated g s (s.watchdog g cause) := by
  unfold State.watchdog
  extract_lets c i e cl s1 s2 s3
  have h2 : Isolated g s s2 := ((recorded_setFlag s _).isolated g).trans (isolated_setEn id)
  split
  · rename_i hg
    exact h2.trans (isolated_setCl rfl fun h => absurd hg.1 (by omega))
  · have h3 : Isolated g s s3 := h2.trans (isolated_setCl rfl fun _ => rfl)
    exact (h3.trans (isolated_hvPrune s3 g)).trans ((recorded_postTakeover _ _ _ _ _).isolated g)

theorem isolated_engFault (s : State) (g code : Nat) : Isolated g s (s.engFault g code) := by
  unfold State.engFault
  extract_lets e s1 i served s2
  have h1 : Isolated g s s1 := isolated_setEn id
  have h2 : Isolated g s s2 := by
    unfold s2
    split
    · rename_i hg
      exact h1.trans (isolated_recordFault ⟨hg, rfl⟩ _ _)
    · exact h1
  split
  · exact h2.trans (isolated_watchdog s2 g 2)
  · exact h2.trans (isolated_hvPrune s2 g)

/-! How an instruction retires. -/

theorem isolated_goTo (s : State) (g t : Nat) : Isolated g s (s.goTo g t) := by
  unfold State.goTo
  split
  · exact isolated_setEn id
  · exact isolated_engFault s g 4

theorem isolated_retire (s : State) (g : Nat) : Isolated g s (s.retire g) :=
  (isolated_setEn fun h => by exact h).trans (isolated_goTo _ g _)

theorem isolated_engDo {f : Eng → Eng} (s : State) (g : Nat) (hf : ∀ e, Eng.wf e → Eng.wf (f e)) : Isolated g s (s.engDo g f) :=
  (isolated_setEn (hf _)).trans (isolated_retire _ g)

theorem isolated_onEngine {f : State → State} (s : State) (g : Nat) (hf : Isolated g s (f s)) : Isolated g s (s.onEngine g f) := by
  unfold State.onEngine
  split
  · exact hf
  · exact .refl g s

/-! Shared forms of the instructions. -/

theorem isolated_salu (s : State) (g : Nat) (rd ra rb : BitVec 4) (f : Word → Word → Word) : Isolated g s (s.salu g rd ra rb f) :=
  isolated_onEngine s g (isolated_engDo s g fun _ h => eng_wf_setS h _ _)

theorem isolated_saluImm (s : State) (g : Nat) (rd ra : BitVec 4) (b : Word) (f : Word → Word → Word) :
    Isolated g s (s.saluImm g rd ra b f) :=
  isolated_onEngine s g (isolated_engDo s g fun _ h => eng_wf_setS h _ _)

theorem isolated_jump {f : Eng → Eng} (s : State) (g : Nat) (t : Int) (hf : ∀ e, Eng.wf e → Eng.wf (f e)) :
    Isolated g s (s.jump g t f) := by
  unfold State.jump
  split
  · exact isolated_setEn (hf _)
  · exact isolated_engFault s g 4

theorem isolated_loopOp (s : State) (g n len : Nat) : Isolated g s (s.loopOp g n len) := by
  unfold State.loopOp
  extract_lets e pc
  split
  · exact isolated_engFault s g 1
  · split
    · exact isolated_goTo s g _
    · exact (isolated_setEn fun h => by exact h).trans (isolated_goTo _ g _)

theorem isolated_csrVal (s : State) (g n : Nat) : Isolated g s (s.csrVal g n).2 := by
  unfold State.csrVal
  extract_lets e c i cl
  split
  case h_6 => exact isolated_free s g _
  case h_14 => split <;> exact .refl g s
  all_goals exact .refl g s

theorem csrPut_wf {e : Eng} (h : Eng.wf e) (n : Nat) (v : Word) : Eng.wf (e.csrPut n v) := by
  unfold Eng.csrPut
  split
  · exact h
  · split
    · exact h
    · exact h

theorem isolated_csrOp (s : State) (g : Nat) (rd ra : BitVec 4) (csr : BitVec 12) (f : Option (Word → Word → Word)) :
    Isolated g s (s.csrOp g rd ra csr f) := by
  refine isolated_onEngine s g ?_
  have hv := isolated_csrVal s g csr.toNat
  dsimp only
  split
  · exact isolated_engFault s g 1
  · exact isolated_engFault s g 1
  · split
    · exact hv.trans (isolated_engDo _ g fun _ h => eng_wf_setS h _ _)
    · exact isolated_engFault s g 1
  · exact hv.trans (isolated_engDo _ g fun _ h => csrPut_wf (eng_wf_setS h _ _) _ _)

/-- A load: a free value may have been drawn for the bytes that the spec leaves open. -/
theorem isolated_load {f : Eng → Eng} (s : State) (g n : Nat) (hf : ∀ e, Eng.wf e → Eng.wf (f e)) :
    Isolated g s ({ s with free := n }.engDo g f) :=
  (isolated_free s g n).trans (isolated_engDo _ g hf)

theorem isolated_sld (s : State) (g : Nat) (rd ra : BitVec 4) (off : BitVec 14) (n : Nat) (sgn : Bool) :
    Isolated g s (s.sld g rd ra off n sgn) := by
  refine isolated_onEngine s g ?_
  extract_lets a v x
  split
  · exact isolated_load s g _ fun _ h => eng_wf_setS h _ _
  · exact isolated_engFault s g 2

theorem isolated_engWriteByte (s : State) (g a : Nat) (b : Byte) : Isolated g s (s.engWriteByte g a b) := by
  unfold State.engWriteByte
  split
  · exact isolated_setEn fun h => eng_wf_setMem h (sparse_wf_set (eng_wf_mem h) a b)
  · exact isolated_setCl rfl fun _ => rfl

theorem isolated_engWrite (g : Nat) (d : List Byte) : ∀ (s : State) (a : Nat), Isolated g s (s.engWrite g a d) := by
  induction d with
  | nil => exact fun s _ => .refl g s
  | cons b d ih => exact fun s a => (isolated_engWriteByte s g a b).trans (ih _ _)

theorem isolated_sst (s : State) (g : Nat) (rb ra : BitVec 4) (off : BitVec 14) (n : Nat) : Isolated g s (s.sst g rb ra off n) := by
  refine isolated_onEngine s g ?_
  extract_lets e a
  split
  · exact (isolated_engWrite g _ s a).trans (isolated_retire _ g)
  · exact isolated_engFault s g 2

theorem isolated_vldOp (s : State) (g : Nat) (vd : BitVec 5) (ra : BitVec 4) (pg : BitVec 3) (off : BitVec 14) :
    Isolated g s (s.vldOp g vd ra pg off none) := by
  refine isolated_onEngine s g ?_
  extract_lets a s1
  split
  · exact isolated_onEngine s g (isolated_load s g _ fun _ h => eng_wf_setV h _ _)
  · exact isolated_engFault s g 2

theorem isolated_vstOp (s : State) (g : Nat) (vb : BitVec 5) (ra : BitVec 4) (pg : BitVec 3) (off : BitVec 14) :
    Isolated g s (s.vstOp g vb ra pg off) := by
  refine isolated_onEngine s g ?_
  extract_lets e a
  split
  · refine (Isolated.foldl _ (fun s l => ?_) _ s).trans (isolated_retire _ g)
    split
    · exact isolated_engWrite g _ s _
    · exact .refl g s
  · exact isolated_engFault s g 2

theorem isolated_valu (s : State) (g : Nat) (vd va vb : BitVec 5) (pg : BitVec 3) (src : BitVec 2) (f : Half → Half → Half) :
    Isolated g s (s.valu g vd va vb pg src f) := by
  refine isolated_onEngine s g ?_
  split
  · exact isolated_engDo s g fun _ h => h
  · exact isolated_engFault s g 1

theorem isolated_plog {f : Eng → Eng} (s : State) (g : Nat) (hf : ∀ e, Eng.wf e → Eng.wf (f e)) : Isolated g s (s.plog g f) :=
  isolated_onEngine s g (isolated_engDo s g hf)

theorem isolated_vred (s : State) (g : Nat) (vd va : BitVec 5) (ps : BitVec 3) (ext : Half → Word) (f : Word → Word → Word) :
    Isolated g s (s.vred g vd va ps ext f) := by
  refine isolated_onEngine s g ?_
  split
  · exact isolated_engFault s g 1
  · exact isolated_engDo s g fun _ h => eng_wf_setS h _ _

theorem isolated_macOp (s : State) (g : Nat) (ad : BitVec 2) (va vb : BitVec 5) (pg : BitVec 3) (src sgn : BitVec 2)
    (f : BitVec 40 → BitVec 40 → BitVec 40) : Isolated g s (s.macOp g ad va vb pg src sgn f) := by
  refine isolated_onEngine s g ?_
  split
  · exact isolated_engFault s g 1
  · split
    · exact isolated_engFault s g 1
    · exact isolated_engDo s g fun _ h => h

theorem isolated_vlut2 (s : State) (g : Nat) (vd va vb : BitVec 5) (ra sh : BitVec 4) (pg : BitVec 3) (sgn : Bool) :
    Isolated g s (s.vlut2 g vd va vb ra sh pg sgn) := by
  refine isolated_onEngine s g ?_
  extract_lets w a mx my
  split
  · exact isolated_engFault s g 1
  · split
    · exact isolated_engFault s g 2
    · exact isolated_engDo s g fun _ h => h

theorem isolated_sgetOp (s : State) (g : Nat) (vd : BitVec 5) (pd : BitVec 3) : Isolated g s (s.sgetOp g vd pd) := by
  unfold State.sgetOp
  extract_lets c i cl hv line m at_
  split
  · refine (isolated_engDo s g fun e h => ?_).trans (isolated_hvPrune _ g)
    exact eng_wf_congr (eng_wf_setP (eng_wf_setV h _ _) _ _) rfl rfl rfl
  · exact isolated_engDo s g fun _ h => eng_wf_setP (eng_wf_setV h _ _) _ _

/-! Control. -/

theorem isolated_drainDone (s : State) (g : Nat) : Isolated g s (s.drainDone g) := by
  unfold State.drainDone
  extract_lets c i cl d k
  split
  · exact .refl g s
  · exact isolated_setCl rfl fun _ => rfl

theorem isolated_capture (s : State) (g : Nat) : Isolated g s (s.capture g) := by
  unfold State.capture
  extract_lets c t
  have h : Isolated g s t := isolated_drainDone s g
  split
  · exact h.trans (isolated_setCl rfl fun _ => rfl)
  · exact h

theorem isolated_waitReturn (s : State) (g : Nat) (rd : BitVec 4) (late : Bool) : Isolated g s (s.waitReturn g rd late) := by
  unfold State.waitReturn
  extract_lets x
  exact isolated_engDo s g fun e h => eng_wf_congr (eng_wf_setS h rd.toNat (waitWord x late)) rfl rfl rfl

end

/-! Every engine instruction, by the form it has. -/

/-- An engine instruction runs on its engine alone, and only while that runs (R262, R265). -/
theorem exec_onEngine {i : Instr} {g : Nat} (h : i.engine? = some g) :
    ∃ f : State → State, ∀ s, exec i s = .next (s.onEngine g f) := by
  cases i <;> cases h <;> exact ⟨_, fun _ => rfl⟩

theorem isolated_waitl (s : State) (g : Nat) (rd : BitVec 4) : ∃ t, exec (.waitl g rd) s = .next t ∧ Isolated g s t := by
  refine ⟨_, rfl, isolated_onEngine s g ?_⟩
  extract_lets t
  have h : Isolated g s t := isolated_capture s g
  split
  · exact h.trans (isolated_waitReturn t g rd true)
  · exact h.trans (isolated_setEn fun h => by exact h)

theorem isolated_sig (s : State) (g : Nat) (ch : BitVec 4) : ∃ t, exec (.sig g ch) s = .next t ∧ Isolated g s t := by
  refine ⟨_, rfl, isolated_onEngine s g ?_⟩
  extract_lets c cl n i post
  split
  · split
    · exact isolated_engFault s g 3
    · exact (isolated_setCl (by rfl) fun _ => by rfl).trans (isolated_retire _ g)
  · split
    · exact (isolated_setCl (by rfl) fun _ => by rfl).trans (isolated_retire _ g)
    · exact isolated_engFault s g 1

/-- What an engine instruction changes, faulting or not (a VLD without a parity error). -/
theorem exec_isolated {i : Instr} {g : Nat} (h : i.engine? = some g) (hp : ∀ vd ra pg off p, i ≠ .vld g vd ra pg off (some p))
    (s : State) : ∃ t, exec i s = .next t ∧ Isolated g s t := by
  cases i <;> cases h
  case saluAdd | saluSub | saluAnd | saluOr | saluXor | saluSll | saluSrl | saluSra | saluSlt | saluSltu | saluMul | saluMulh
      | saluMulhu | saluMin | saluMax | saluMinu | saluMaxu => exact ⟨_, rfl, isolated_salu ..⟩
  case addi | slti | sltiu | andi | ori | xori | slli | srli | srai | lui => exact ⟨_, rfl, isolated_saluImm ..⟩
  case br =>
    refine ⟨_, rfl, isolated_onEngine s g ?_⟩
    dsimp only
    split
    · exact isolated_engFault s g 1
    · exact isolated_jump s g _ fun _ h => h
    · exact isolated_retire s g
  case jal => exact ⟨_, rfl, isolated_onEngine s g (isolated_jump s g _ fun _ h => eng_wf_setS h _ _)⟩
  case jalr => exact ⟨_, rfl, isolated_onEngine s g (isolated_jump s g _ fun _ h => eng_wf_setS h _ _)⟩
  case loop => exact ⟨_, rfl, isolated_onEngine s g (isolated_loopOp s g _ _)⟩
  case ctrlNop | fence => exact ⟨_, rfl, isolated_onEngine s g (isolated_retire s g)⟩
  case waitl rd => exact isolated_waitl s g rd
  case sig ch => exact isolated_sig s g ch
  case halt => exact ⟨_, rfl, isolated_onEngine s g ((isolated_setEn fun h => by exact h).trans (isolated_hvPrune _ g))⟩
  case csrRead | csrWrite | csrSet | csrClear => exact ⟨_, rfl, isolated_csrOp ..⟩
  case lb | lbu | lh | lhu | lw => exact ⟨_, rfl, isolated_sld ..⟩
  case sb | sh | sw => exact ⟨_, rfl, isolated_sst ..⟩
  case vld vd ra pg off perr =>
    cases perr with
    | none => exact ⟨_, rfl, isolated_vldOp ..⟩
    | some p => exact absurd rfl (hp vd ra pg off p)
  case vst => exact ⟨_, rfl, isolated_vstOp ..⟩
  case valuAdd | valuSub | addss | subss | addus | subus | mullo | mulhs | valuMulhu | valuMin | valuMax | valuMinu | valuMaxu
      | valuAnd | valuOr | valuXor | valuAndn | valuSll | valuSrl | valuSra | srar | absdu | avgu | vmov =>
    exact ⟨_, rfl, isolated_valu ..⟩
  case vcmp =>
    refine ⟨_, rfl, isolated_onEngine s g ?_⟩
    split
    · exact isolated_engDo s g fun _ h => eng_wf_setP h _ _
    · exact isolated_engFault s g 1
  case plogAnd | plogOr | plogXor | plogAndn | plogNot | froms | firstn => exact ⟨_, rfl, isolated_plog s g fun _ h => eng_wf_setP h _ _⟩
  case tos | cnt => exact ⟨_, rfl, isolated_plog s g fun _ h => eng_wf_setS h _ _⟩
  case vsel | vperm | vbcst | vbcsts | vrnd => exact ⟨_, rfl, isolated_onEngine s g (isolated_engDo s g fun _ h => h)⟩
  case vredAdd | vredAddu | vredMin | vredMax | vredMinu | vredMaxu => exact ⟨_, rfl, isolated_vred ..⟩
  case vmul | vmac | vmsu | aclr => exact ⟨_, rfl, isolated_macOp ..⟩
  case aext =>
    refine ⟨_, rfl, isolated_onEngine s g ?_⟩
    split
    · exact isolated_engFault s g 1
    · exact isolated_engDo s g fun _ h => h
  case vlut =>
    refine ⟨_, rfl, isolated_onEngine s g ?_⟩
    dsimp only
    split
    · exact isolated_engFault s g 2
    · exact isolated_engDo s g fun _ h => h
  case vlut2u | vlut2s => exact ⟨_, rfl, isolated_vlut2 ..⟩
  case pget =>
    refine ⟨_, rfl, isolated_onEngine s g ?_⟩
    split
    · exact isolated_engFault s g 1
    · split
      · exact isolated_engDo s g fun _ h => h
      · exact isolated_engFault s g 3
  case pput =>
    refine ⟨_, rfl, isolated_onEngine s g ?_⟩
    split
    · exact isolated_engFault s g 1
    · split
      · exact isolated_engDo s g fun _ h => h
      · exact isolated_engFault s g 3
  case sget => exact ⟨_, rfl, isolated_onEngine s g (isolated_sgetOp ..)⟩
  case illegalInstruction =>
    refine ⟨_, rfl, isolated_onEngine s g ?_⟩
    split
    · exact isolated_engFault s g 1
    · exact .refl g s

/-- Settles O3: what `exec_isolated` leaves as it was, part by part. -/
theorem engineStepsAreIsolated : Obligations.EngineStepsAreIsolated := by
  intro s t i g hi hp ht
  obtain ⟨u, hu, h⟩ := exec_isolated hi hp s
  obtain rfl : u = t := Host.Outcome.next.inj (hu.symm.trans ht)
  have field {α : Type} (f : State → α) := congrArg f h.rest
  exact ⟨h.clusters, fun k hk hs => h.engines k hk fun ⟨hg, e⟩ => hs hg e, h.faults, field State.pending, field State.tb,
    field State.tbFrac, field State.scn, field State.lyr, field State.mod, field State.cmp, field State.odv, field State.pnl,
    field State.kdl, field State.lnk, field State.ports, field State.streams, field State.tbs, field State.mem, field State.pwr,
    field State.sec, field State.tap, h.jobs, h.input, h.fences, field State.inReset⟩

/-! The form of engines and memories (R244, R251), through a parity error that a VLD meets (R236, R365 to R379) too. -/

/-- From `s` to `t` the queue of commands stays, and engines and memories in form stay so. -/
structure KeepsForm (s t : State) : Prop where
  pending : t.pending = s.pending
  engWf : s.engWf → t.engWf
  memWf : s.memWf → t.memWf

theorem KeepsForm.refl (s : State) : KeepsForm s s := ⟨rfl, id, id⟩

theorem KeepsForm.trans {s t u : State} (h : KeepsForm s t) (k : KeepsForm t u) : KeepsForm s u :=
  ⟨k.pending.trans h.pending, k.engWf ∘ h.engWf, k.memWf ∘ h.memWf⟩

theorem Isolated.keepsForm {g : Nat} {s t : State} (h : Isolated g s t) : KeepsForm s t := ⟨h.pending, h.engWf, h.memWf⟩

theorem Recorded.keepsForm {s t : State} (h : Recorded s t) : KeepsForm s t := (h.isolated 0).keepsForm

theorem keepsForm_setInst (s : State) (n : Nat) (x : Inst) : KeepsForm s (s.setInst n x) := ⟨rfl, id, id⟩

theorem keepsForm_setCl (s : State) (c : Nat) (x : Cluster) : KeepsForm s (s.setCl c x) := ⟨rfl, id, id⟩

theorem keepsForm_noteParity (s : State) (e : ParityErr) : KeepsForm s (s.noteParity e) :=
  (keepsForm_setInst s _ _).trans ((recorded_setFlag _ _).trans (recorded_setReg _ _ _ _ _)).keepsForm

theorem keepsForm_postParity (s : State) (i : Nat) (hard : Bool) : KeepsForm s (s.postParity i hard) := by
  unfold State.postParity
  extract_lets x due
  split
  · exact (keepsForm_setInst s i _).trans (recorded_raiseLog ..).keepsForm
  · exact .refl s

theorem keepsForm_remapWord (s : State) (i w : Nat) : KeepsForm s (s.remapWord i w) := by
  unfold State.remapWord
  extract_lets x s1 s2 s3
  split
  · have h2 : KeepsForm s s2 := (keepsForm_setInst s i _).trans (recorded_setFlag s1 _).keepsForm
    exact (h2.trans (recorded_raiseLog ..).keepsForm).trans (recorded_gatherRecord s3 _ _).keepsForm
  · exact ((recorded_setFlag s _).trans (recorded_raiseLog ..)).keepsForm

theorem keepsForm_parityTest (s : State) (e : ParityErr) : KeepsForm s (s.parityTest e) := by
  unfold State.parityTest
  split
  · exact (keepsForm_postParity s _ true).trans (keepsForm_remapWord _ _ _)
  · exact keepsForm_setInst s _ _

theorem zeroEngWord_wf {e : Eng} (h : Eng.wf e) (w : Nat) : Eng.wf (zeroEngWord e w) := by
  unfold zeroEngWord
  split
  · exact eng_wf_setMem h (memory_wf_write (eng_wf_mem h) _ _)
  · exact eng_wf_congr h rfl rfl rfl

/-- A parity error in an engine's memory (R236). -/
theorem keepsForm_engParity (s : State) (e : ParityErr) : KeepsForm s (s.engParity e) := by
  unfold State.engParity
  extract_lets g s1 s2
  have h2 : KeepsForm s s2 :=
    (keepsForm_noteParity s e).trans (isolated_setEn fun h => by exact zeroEngWord_wf h e.word).keepsForm
  refine KeepsForm.trans (h2.trans ?_) (keepsForm_parityTest _ e)
  split
  · exact (isolated_watchdog s2 g 3).keepsForm
  · exact .refl s2

/-- A hard fault in a cluster's memory (R377): its bytes, and which checkpoint copies are whole. -/
theorem keepsForm_clFault (s : State) (c o : Nat) : KeepsForm s (s.clFault c o) := by
  unfold State.clFault
  extract_lets s1 cl n i k id
  have h1 : KeepsForm s s1 := keepsForm_setCl s c _
  split
  · split
    · exact h1.trans (keepsForm_setCl s1 c _)
    · exact h1.trans (keepsForm_setCl s1 c _)
  · split
    · split
      · exact h1.trans (keepsForm_setCl s1 c _)
      · exact h1
    · exact h1

theorem keepsForm_clParity (s : State) (e : ParityErr) : KeepsForm s (s.clParity e) := by
  unfold State.clParity
  extract_lets s1
  refine KeepsForm.trans ((keepsForm_noteParity s e).trans ?_) (keepsForm_parityTest _ e)
  split
  · exact keepsForm_clFault s1 _ _
  · exact .refl s1

theorem keepsForm_loadParity {s t : State} {g a : Nat} {e : ParityErr} (h : s.loadParity g a e = some t) : KeepsForm s t := by
  unfold State.loadParity at h
  split at h
  · cases h
  · split at h
    · cases h
      exact keepsForm_engParity s e
    · split at h
      · cases h
        exact keepsForm_clParity s e
      · cases h

theorem keepsForm_onEngine {f : State → State} {s : State} (g : Nat) (hf : KeepsForm s (f s)) : KeepsForm s (s.onEngine g f) := by
  unfold State.onEngine
  split
  · exact hf
  · exact .refl s

/-- A VLD, whatever parity error it meets: the error's action, then the load or nothing. -/
theorem keepsForm_vldOp (s : State) (g : Nat) (vd : BitVec 5) (ra : BitVec 4) (pg : BitVec 3) (off : BitVec 14)
    (perr : Option ParityErr) : KeepsForm s (s.vldOp g vd ra pg off perr) := by
  refine keepsForm_onEngine g ?_
  extract_lets a s1
  split
  · have h1 : KeepsForm s s1 := by
      unfold s1
      cases h : perr.bind (s.loadParity g a) with
      | none => exact .refl s
      | some t =>
        obtain ⟨e, -, he⟩ := Option.bind_eq_some_iff.1 h
        exact keepsForm_loadParity he
    exact h1.trans (isolated_onEngine s1 g (isolated_load s1 g _ fun _ h => eng_wf_setV h _ _)).keepsForm
  · exact (isolated_engFault s g 2).keepsForm

theorem exec_keepsForm {i : Instr} {g : Nat} (h : i.engine? = some g) (s : State) : ∃ t, exec i s = .next t ∧ KeepsForm s t := by
  by_cases hp : ∀ vd ra pg off p, i ≠ .vld g vd ra pg off (some p)
  · obtain ⟨t, ht, k⟩ := exec_isolated h hp s
    exact ⟨t, ht, k.keepsForm⟩
  · push Not at hp
    obtain ⟨vd, ra, pg, off, p, rfl⟩ := hp
    exact ⟨_, rfl, keepsForm_vldOp ..⟩

/-- Settles O2: the form is kept by the form of each instruction; s0 and p0 are read as constants (R244). -/
theorem engineStepsKeepTheForm : Obligations.EngineStepsKeepTheForm := by
  intro s i rest g hi hew hmw
  obtain ⟨t, ht, h⟩ := exec_keepsForm hi { s with pending := rest }
  exact ⟨t, ht, h.engWf hew, h.memWf hmw, h.pending, fun _ => ⟨rfl, rfl⟩⟩

end Sys2Proof.Proofs

/-! PROOFS. The statements of single engine instructions: illegal words (R245, R269), stores (R251), the pixel and sample streams (R261)
and control (R262 to R265). -/

namespace Sys2Proof.Proofs

open Sys2Proof Sys2Proof.Machine Sys2Proof.Machine.Reg Sys2Proof.Laws

/-! Illegal words (R245, R269). -/

/-- With no watchdog for its cluster an engine that faults halts, and keeps no sensed line (R229). -/
theorem engFault_unwatched {s : State} {g : Nat} (hg : g < 512) (hw : s.wdRuns (clusterOf g) = false) (code : Nat) :
    s.engFault g code = (s.setEn g { s.en g with st := 5, fault := code, faultAt := (s.en g).pc.toNat }).hvPrune (clusterOf g) := by
  have hs : ¬ 512 ≤ g := by omega
  have hw' (e : Eng) : (s.setEn g e).wdRuns (clusterOf g) = false := hw
  simp [State.engFault, hs, hw']

/-- The fetch of a word that spells no instruction is a fault of code 1. -/
theorem exec_illegalInstruction {s : State} {g : Nat} {w : Word} (h : s.runs g) (hd : decodeEngine g w = none) :
    exec (.illegalInstruction g w) s = .next (s.engFault g 1) := by
  refine congrArg Host.Outcome.next ((onEngine_runs h _).trans ?_)
  simp [hd]

theorem exec_stopped {s : State} {i : Instr} {g : Nat} (h : i.engine? = some g) (hr : ¬ s.runs g) : exec i s = .next s := by
  obtain ⟨f, hf⟩ := exec_onEngine h
  rw [hf, onEngine_stopped hr]

/-- No format has opcode 0 or an opcode of 0x1F or more (R246). -/
theorem decodeEngine_unused (g : Nat) {w : Word} (h : w.toNat / 2 ^ 26 = 0 ∨ 0x1F ≤ w.toNat / 2 ^ 26) : decodeEngine g w = none := by
  unfold decodeEngine
  split
  case h_31 => rfl
  all_goals omega

/-- Settles O39: the fault of an unwatched engine, and that a halted engine retires nothing. -/
theorem illegalWordsFault : Obligations.IllegalWordsFault := by
  refine ⟨fun s g w hr hg hw hd => ?_, fun s g i hst hi => exec_stopped hi fun hr => ?_, fun g w => decodeEngine_unused g⟩
  · rw [exec_illegalInstruction hr hd, engFault_unwatched hg hw]
  · have hrun : (s.en g).st = 1 := hr.1
    omega

/-! Stores (R219, R220, R251). -/

/-- An instruction without an effect of its own, on an engine that runs straight on. -/
theorem retire_straight {s : State} {g : Nat} (h : s.straight g) : s.retire g = s.stepped g (s.en g) := by
  obtain ⟨-, hb, hs⟩ := h
  have hl : loopBack (s.en g).pc.toNat (s.en g).loops = ((s.en g).pc.toNat + 1, (s.en g).loops) := loopBack_straight hs
  have hpc : BitVec.ofNat 12 ((s.en g).pc.toNat + 1) = (s.en g).pc + 1 := by
    apply BitVec.eq_of_toNat_eq
    simp [BitVec.toNat_add]
  have hlt : (s.en g).pc.toNat + 1 < 4096 := by omega
  simp only [State.retire, State.goTo, en_setEn_same, hl, hlt, if_true, setEn_setEn, hpc, State.stepped]

/-- Being about to run straight on hangs on the engine's state, pc and levels, and on its cluster's power. -/
theorem straight_congr {s t : State} {g : Nat} (h : s.straight g) (hst : (t.en g).st = (s.en g).st) (hpc : (t.en g).pc = (s.en g).pc)
    (hl : (t.en g).loops = (s.en g).loops) (hp : t.pwr = s.pwr) : t.straight g := by
  obtain ⟨⟨hr, hon⟩, hb, hs⟩ := h
  refine ⟨⟨hst.trans hr, ?_⟩, hpc ▸ hb, hpc ▸ hl ▸ hs⟩
  rw [State.clOn, hp]
  exact hon

theorem getD_leBytes (n v k : Nat) (h : k < n) : (leBytes n v).getD k 0 = BitVec.ofNat 8 (v / 256 ^ k) := by
  induction n generalizing v k with
  | zero => omega
  | succ n ih =>
    cases k with
    | zero => simp [leBytes]
    | succ k =>
      have e := ih (v / 256) k (by omega)
      rw [Nat.div_div_eq_div_mul, ← Nat.pow_succ'] at e
      simpa [leBytes] using e

/-- A byte as an engine reads it. -/
def engByte (s : State) (g b : Nat) : Byte :=
  if b < 0x10000 then Sparse.get 0 (s.en g).mem b else s.windowByte (clusterOf g) (b - 0x100000)

theorem engRead_one (s : State) (g b : Nat) : s.engRead g b 1 = [engByte s g b] := by
  unfold State.engRead engByte
  split <;> simp [Sparse.read]

/-- The areas that a store may reach (R251): local memory, the write-back rings and the kernel area, all readable as they are. -/
def storeArea (a n : Nat) : Prop :=
  a + n ≤ 0x10000 ∨ (0x11C000 ≤ a ∧ a + n ≤ 0x11C800) ∨ (0x180000 ≤ a ∧ a + n ≤ 0x200000)

theorem storeArea_of_storeOk {s : State} {g a n : Nat} (hi : s.localOf g < 16) (h : s.storeOk g a n = true) : storeArea a n := by
  simp only [State.storeOk, Bool.or_eq_true, Bool.and_eq_true, decide_eq_true_eq] at h
  unfold storeArea
  omega

/-- Bytes written at `a` are there, and every byte that an engine reads elsewhere is as it was. -/
theorem engByte_engWriteByte {s : State} {g a b : Nat} (x : Byte) (ha : storeArea a 1)
    (hb : b < 0x10000 ∨ (0x100000 ≤ b ∧ b < 0x200000)) :
    engByte (s.engWriteByte g a x) g b = if b = a then x else engByte s g b := by
  unfold storeArea at ha
  by_cases hloc : a < 0x10000
  · have e : s.engWriteByte g a x = s.setEn g { s.en g with mem := Sparse.set 0 (s.en g).mem a x } := if_pos hloc
    rw [e]
    by_cases hba : b = a
    · subst hba
      simp [engByte, hloc]
    · have hw (o : Nat) : (s.setEn g { s.en g with mem := Sparse.set 0 (s.en g).mem a x }).windowByte (clusterOf g) o =
          s.windowByte (clusterOf g) o := rfl
      simp only [engByte, en_setEn_same, sparse_get_set_other (0 : Byte) 0 _ _ hba, hw, hba, if_false]
  · have e : s.engWriteByte g a x = s.clWrite (clusterOf g) (a - 0x100000) [x] := if_neg hloc
    rw [e]
    have hcl : ((s.clWrite (clusterOf g) (a - 0x100000) [x]).cl (clusterOf g)).mem =
        Sparse.set 0 (s.cl (clusterOf g)).mem (a - 0x100000) x := by
      rw [State.clWrite, cl_setCl_same]
      rfl
    have hen : (s.clWrite (clusterOf g) (a - 0x100000) [x]).en g = s.en g := rfl
    have hfree : (s.clWrite (clusterOf g) (a - 0x100000) [x]).free = s.free := rfl
    by_cases hba : b = a
    · subst hba
      have h1 : ¬(0x1C800 ≤ b - 0x100000 ∧ b - 0x100000 < 0x20000) := by omega
      have h2 : ¬(0x60000 ≤ b - 0x100000 ∧ b - 0x100000 < 0x80000 ∧
          (0x7E000 ≤ b - 0x100000 ∨ 0x8810 ≤ (b - 0x100000 - 0x60000) % 0xA000)) := by omega
      simp only [engByte, hloc, State.windowByte, h1, h2, hcl, sparse_get_set_same, if_false, if_true]
    · by_cases hbl : b < 0x10000
      · simp only [engByte, hbl, hen, hba, if_true, if_false]
      · have hne : b - 0x100000 ≠ a - 0x100000 := by omega
        simp only [engByte, hbl, State.windowByte, hcl, hfree, sparse_get_set_other (0 : Byte) 0 _ _ hne, hba, if_false]

theorem engByte_engWrite {g b : Nat} (hb : b < 0x10000 ∨ (0x100000 ≤ b ∧ b < 0x200000)) (d : List Byte) :
    ∀ {s : State} {a : Nat}, storeArea a d.length →
      engByte (s.engWrite g a d) g b = if a ≤ b ∧ b < a + d.length then d.getD (b - a) 0 else engByte s g b := by
  induction d with
  | nil => simp [State.engWrite]
  | cons x d ih =>
    intro s a ha
    have hhead : storeArea a 1 := by
      unfold storeArea at ha ⊢
      simp only [List.length_cons] at ha
      omega
    have htail : storeArea (a + 1) d.length := by
      unfold storeArea at ha ⊢
      simp only [List.length_cons] at ha
      omega
    rw [State.engWrite, ih htail, engByte_engWriteByte x hhead hb]
    by_cases hba : b = a
    · subst hba
      simp
    · by_cases hin : a + 1 ≤ b ∧ b < a + 1 + d.length
      · have hin' : a ≤ b ∧ b < a + (x :: d).length := by rw [List.length_cons]; omega
        have hk : b - a = b - (a + 1) + 1 := by omega
        rw [if_pos hin, if_pos hin', hk, List.getD_cons_succ]
      · have hin' : ¬(a ≤ b ∧ b < a + (x :: d).length) := by rw [List.length_cons]; omega
        rw [if_neg hin, if_neg hin', if_neg hba]

/-- A store changes memories of engines and clusters alone. -/
theorem engWrite_frame (g : Nat) (d : List Byte) : ∀ (s : State) (a : Nat),
    { s.engWrite g a d with eng := { (s.engWrite g a d).eng with engines := s.eng.engines, clusters := s.eng.clusters } } = s := by
  induction d with
  | nil => exact fun _ _ => rfl
  | cons b d ih =>
    intro s a
    have h := ih (s.engWriteByte g a b) (a + 1)
    have k := engWriteByte_frame s g a b
    have hk := congrArg (fun u : State => ({ u with eng := { u.eng with engines := s.eng.engines, clusters := s.eng.clusters } } : State)) h
    exact hk.trans k

theorem en_engWrite (g : Nat) (d : List Byte) : ∀ (s : State) (a : Nat), ∃ m, (s.engWrite g a d).en g = { s.en g with mem := m } := by
  induction d with
  | nil => exact fun s _ => ⟨(s.en g).mem, rfl⟩
  | cons b d ih =>
    intro s a
    obtain ⟨m, hm⟩ := ih (s.engWriteByte g a b) (a + 1)
    have hb : ∃ m, (s.engWriteByte g a b).en g = { s.en g with mem := m } := by
      unfold State.engWriteByte
      split
      · exact ⟨_, en_setEn_same ..⟩
      · exact ⟨(s.en g).mem, rfl⟩
    obtain ⟨m', hm'⟩ := hb
    exact ⟨m, hm.trans (by rw [hm'])⟩

/-- A store that is allowed, on an engine that runs straight on: its bytes, and the next instruction. -/
theorem sst_straight {s : State} {g : Nat} {rb ra : BitVec 4} {off : BitVec 14} {n : Nat} (h : s.straight g)
    (ha : addrOk ((s.en g).ea ra off) n = true) (ho : s.storeOk g ((s.en g).ea ra off) n = true) :
    let u := s.engWrite g ((s.en g).ea ra off) (leBytes n ((s.en g).sreg rb.toNat).toNat)
    s.sst g rb ra off n = u.stepped g (u.en g) := by
  intro u
  obtain ⟨m, hm⟩ : ∃ m, u.en g = { s.en g with mem := m } := en_engWrite g _ s _
  have hu : u.straight g := straight_congr h (by rw [hm]) (by rw [hm]) (by rw [hm]) (congrArg State.pwr (engWrite_frame g _ s _) :)
  rw [State.sst, onEngine_runs h.1]
  simp only [ha, ho, Bool.and_self, if_true]
  exact retire_straight hu

/-- Settles O29: the bytes by `engByte_engWrite`, the rest by what a store leaves of the engine and of the part. -/
theorem storesTouchOnlyTheirBytes : Obligations.StoresTouchOnlyTheirBytes := by
  intro s t g rb ra off n i hs hi hins ⟨ha, ho⟩ ht
  have harea : storeArea ((s.en g).ea ra off) n := storeArea_of_storeOk hi ho
  have hsst := sst_straight (rb := rb) hs ha ho
  generalize (s.en g).ea ra off = a at *
  generalize hu : s.engWrite g a (leBytes n ((s.en g).sreg rb.toNat).toNat) = u at hsst
  obtain rfl : t = u.stepped g (u.en g) := by
    rw [← hsst]
    rcases hins with ⟨rfl, rfl⟩ | ⟨rfl, rfl⟩ | ⟨rfl, rfl⟩ <;> exact (Host.Outcome.next.inj ht).symm
  have hread (b : Nat) : (u.stepped g (u.en g)).engRead g b 1 = [engByte u g b] := by
    rw [engRead_one]
    simp only [engByte, State.stepped, en_setEn_same]
    rfl
  have hbyte (b : Nat) (hb : b < 0x10000 ∨ (0x100000 ≤ b ∧ b < 0x200000)) := engByte_engWrite (g := g) (s := s) hb
    (leBytes n ((s.en g).sreg rb.toNat).toNat) (by rwa [length_leBytes])
  rw [hu, length_leBytes] at hbyte
  obtain ⟨m, hm⟩ : ∃ m, u.en g = { s.en g with mem := m } := hu ▸ en_engWrite g _ s _
  have hen : (u.stepped g (u.en g)).en g = { s.en g with mem := m, pc := (s.en g).pc + 1 } := by
    rw [State.stepped, en_setEn_same, hm]
  have hrest := engWrite_frame g (leBytes n ((s.en g).sreg rb.toNat).toNat) s a
  rw [hu] at hrest
  refine ⟨fun k hk => ?_, fun b hout hb => ?_, fun r => ?_, by rw [hen], (congrArg State.fst hrest :), (congrArg State.mem hrest :),
    (congrArg State.nvs hrest :), (congrArg State.hif hrest :), (congrArg State.regs hrest :)⟩
  · have hb : a + k < 0x10000 ∨ (0x100000 ≤ a + k ∧ a + k < 0x200000) := by unfold storeArea at harea; omega
    rw [hread, hbyte _ hb, if_pos (by omega), Nat.add_sub_cancel_left, getD_leBytes _ _ _ hk]
  · rw [hread, engRead_one, hbyte _ hb, if_neg (by omega)]
  · rw [hen]
    exact ⟨rfl, rfl, rfl, rfl⟩

/-! Pixel and sample streams (R218, R227, R229, R261). -/

/-- The sum of the bits of a mask, lane by lane: below 2^n, and bit k is `f k`. -/
theorem maskSum_testBit (f : Nat → Bool) (n : Nat) :
    let w := (List.range n).foldl (fun n l => if f l then n + 2 ^ l else n) 0
    w < 2 ^ n ∧ ∀ k, w.testBit k = (decide (k < n) && f k) := by
  induction n with
  | zero => simp
  | succ n ih =>
    obtain ⟨hlt, hbit⟩ := ih
    simp only [List.range_succ, List.foldl_append, List.foldl_cons, List.foldl_nil]
    generalize (List.range n).foldl (fun n l => if f l then n + 2 ^ l else n) 0 = w at hlt hbit
    have hpow : 2 ^ (n + 1) = 2 * 2 ^ n := by omega
    refine ⟨by split <;> omega, fun k => ?_⟩
    rcases lt_trichotomy k n with hk | rfl | hk
    · have h1 : k < n + 1 := by omega
      split
      · rw [Nat.add_comm, Nat.testBit_two_pow_add_gt hk, hbit]
        simp [hk, h1]
      · rw [hbit]
        simp [hk, h1]
    · split
      · rename_i hf
        rw [Nat.add_comm, Nat.testBit_two_pow_add_eq, hbit]
        simp [hf]
      · rename_i hf
        rw [hbit]
        simp [hf]
    · have h1 : ¬ k < n + 1 := by omega
      rw [Nat.testBit_lt_two_pow]
      · simp [h1]
      · calc _ < 2 ^ (n + 1) := by split <;> omega
          _ ≤ 2 ^ k := Nat.pow_le_pow_right (by omega) (by omega)

theorem getLsbD_maskOf (f : Nat → Bool) {l : Nat} (h : l < 16) : (maskOf f).getLsbD l = f l := by
  obtain ⟨-, hbit⟩ := maskSum_testBit f 16
  rw [maskOf, BitVec.getLsbD_ofNat, hbit]
  simp [h]

theorem getD_lanes (f : Nat → Half) {l : Nat} (h : l < 16) : (lanes f).getD l 0 = f l := by
  simp [lanes, h]

@[simp] theorem vreg_setV_same (e : Eng) (n : Nat) (x : List Half) : (e.setV n x).vreg n = x := by simp [Eng.vreg, Eng.setV]

theorem vreg_setV_other (e : Eng) {n r : Nat} (x : List Half) (h : r ≠ n) : (e.setV n x).vreg r = e.vreg r := by
  simp [Eng.vreg, Eng.setV, sparse_get_set_other _ _ _ _ h]

@[simp] theorem vreg_setP (e : Eng) (n r : Nat) (x : Half) : (e.setP n x).vreg r = e.vreg r := by unfold Eng.setP; split <;> rfl
@[simp] theorem sreg_setP (e : Eng) (n r : Nat) (x : Half) : (e.setP n x).sreg r = e.sreg r := by unfold Eng.setP; split <;> rfl
@[simp] theorem acc_setP (e : Eng) (n r : Nat) (x : Half) : (e.setP n x).acc r = e.acc r := by unfold Eng.setP; split <;> rfl

theorem preg_setP_same (e : Eng) {n : Nat} (x : Half) (h : n ≠ 0) : (e.setP n x).preg n = x := by simp [Eng.preg, Eng.setP, h]

theorem preg_setP_other (e : Eng) {n r : Nat} (x : Half) (h : r ≠ n) : (e.setP n x).preg r = e.preg r := by
  by_cases hn : n = 0
  · subst hn; rfl
  · by_cases hr : r = 0
    · subst hr; rfl
    · simp [Eng.preg, Eng.setP, hn, hr, sparse_get_set_other _ _ _ x h]

/-- Harvest lines that leave the ring change no engine. -/
@[simp] theorem en_hvPrune (s : State) (c g : Nat) : (s.hvPrune c).en g = s.en g := rfl

section
variable {s : State} {g : Nat}

theorem exec_pget_zero (h : s.straight g) (vd : BitVec 5) : exec (.pget g vd 0) s =
    .next (if (s.cl (clusterOf g)).slot.active ∧ (s.en g).gets < 6 then
      s.stepped g { (s.en g).setV vd.toNat (s.inVec (s.stripOf g) (s.en g).gets) with gets := (s.en g).gets + 1 }
    else s.engFault g 3) := by
  refine congrArg Host.Outcome.next ((onEngine_runs h.1 _).trans ?_)
  simp only [ne_eq, not_true_eq_false, if_false]
  exact ite_congr rfl (fun _ => engDo_straight h rfl rfl) fun _ => rfl

theorem exec_pput_zero (h : s.straight g) (vd : BitVec 5) : exec (.pput g vd 0) s =
    .next (if (s.cl (clusterOf g)).slot.active ∧ (s.en g).puts.length < 6 then
      s.stepped g { s.en g with puts := (s.en g).puts ++ [(s.en g).vreg vd.toNat] }
    else s.engFault g 3) := by
  refine congrArg Host.Outcome.next ((onEngine_runs h.1 _).trans ?_)
  simp only [ne_eq, not_true_eq_false, if_false]
  exact ite_congr rfl (fun _ => engDo_straight h rfl rfl) fun _ => rfl

theorem exec_stream_nonzero (h : s.runs g) (vd : BitVec 5) {pd : BitVec 3} (hp : pd ≠ 0) :
    exec (.pget g vd pd) s = .next (s.engFault g 1) ∧ exec (.pput g vd pd) s = .next (s.engFault g 1) :=
  ⟨congrArg Host.Outcome.next ((onEngine_runs h _).trans (if_pos hp)),
    congrArg Host.Outcome.next ((onEngine_runs h _).trans (if_pos hp))⟩

theorem exec_sget (h : s.straight g) (vd : BitVec 5) (pd : BitVec 3) : exec (.sget g vd pd) s = .next (s.sgetOp g vd pd) :=
  congrArg Host.Outcome.next (onEngine_runs h.1 _)

/-- With no sensed line queued, SGET clears its vector and its mask. -/
theorem sgetOp_empty (h : s.straight g) (vd : BitVec 5) (pd : BitVec 3)
    (hq : (s.cl (clusterOf g)).hvBase + (s.cl (clusterOf g)).harvest.length ≤ max (s.en g).hv (6 * (s.cl (clusterOf g)).hvBase) / 6) :
    s.sgetOp g vd pd = s.stepped g (((s.en g).setV vd.toNat (List.replicate 16 0)).setP pd.toNat 0) := by
  unfold State.sgetOp
  extract_lets c i cl hv line m at_
  rw [if_neg (Nat.not_lt.2 hq)]
  exact engDo_straight h (setP_pc ..) (setP_loops ..)

/-- Entry `l` of vector `m` of a strip in a sensed line; lanes beyond the strip's 90 entries are 0. -/
def senseAt (s : State) (g : Nat) (line : List Nat) (m l : Nat) : Nat :=
  if 16 * m + l < 90 then line.getD (90 * s.localOf g + 16 * m + l) 0 else 0

/-- With a sensed line queued, SGET writes the next 16 entries of the strip and their marks, and counts them as taken. -/
theorem en_sgetOp_queued (h : s.straight g) (vd : BitVec 5) (pd : BitVec 3) {hv : Nat}
    (he : hv = max (s.en g).hv (6 * (s.cl (clusterOf g)).hvBase))
    (hq : hv / 6 < (s.cl (clusterOf g)).hvBase + (s.cl (clusterOf g)).harvest.length) :
    let line := (s.cl (clusterOf g)).harvest.getD (hv / 6 - (s.cl (clusterOf g)).hvBase) []
    (s.sgetOp g vd pd).en g =
      { ((s.en g).setV vd.toNat (lanes fun l => BitVec.ofNat 16 (senseAt s g line (hv % 6) l % 4096))).setP pd.toNat
          (maskOf fun l => decide (32768 ≤ senseAt s g line (hv % 6) l)) with hv := hv + 1, pc := (s.en g).pc + 1 } := by
  subst he
  unfold State.sgetOp
  extract_lets c i cl hv line m at_
  rw [if_pos hq, en_hvPrune, engDo_straight h (setP_pc ..) (setP_loops ..), State.stepped, en_setEn_same]
  rfl

end

/-- Settles O36: each instruction's case by the lemma about it. -/
theorem pixelAndSampleStreams : Obligations.PixelAndSampleStreams := by
  intro s g vd pd h
  refine ⟨fun ha hg => ?_, fun ha hp => ?_, fun hn => ?_, fun hn => ?_, fun hp => exec_stream_nonzero h.1 vd hp, fun hq => ?_, fun hq => ?_⟩
  · rw [exec_pget_zero h, if_pos ⟨ha, hg⟩]
  · rw [exec_pput_zero h, if_pos ⟨ha, hp⟩]
  · rw [exec_pget_zero h, if_neg hn]
  · rw [exec_pput_zero h, if_neg hn]
  · rw [exec_sget h, sgetOp_empty h vd pd hq]
  · refine ⟨_, exec_sget h vd pd, ?_⟩
    rw [en_sgetOp_queued h vd pd rfl hq]
    refine ⟨rfl, rfl, fun l hl => ?_, fun hp l hl => ?_, fun r => ⟨?_, ?_, fun hr => ?_, fun hr => ?_⟩⟩
    · exact (congrArg (·.getD l 0) ((vreg_setP ..).trans (vreg_setV_same ..))).trans (getD_lanes _ hl)
    · have hp' : pd.toNat ≠ 0 := fun e => hp (BitVec.eq_of_toNat_eq e)
      exact (congrArg (·.getLsbD l) (preg_setP_same _ _ hp')).trans (getLsbD_maskOf _ hl)
    · exact sreg_setP ..
    · exact acc_setP ..
    · exact preg_setP_other _ _ hr
    · exact (vreg_setP ..).trans (vreg_setV_other _ _ hr)

/-! Control (R230, R235, R262 to R265). -/

section
variable {s t : State} {g : Nat}

/-- What the statements about WAITL see of a drain or a capture: engines, power and jobs stay, and of engine g's cluster the job, the
slot and the spare's engine. -/
structure DrainsOnly (g : Nat) (s t : State) : Prop where
  en : ∀ k, t.en k = s.en k
  pwr : t.pwr = s.pwr
  jobs : t.eng.jobs = s.eng.jobs
  job : (t.cl (clusterOf g)).job = (s.cl (clusterOf g)).job
  slot : (t.cl (clusterOf g)).slot = (s.cl (clusterOf g)).slot
  spareFor : (t.cl (clusterOf g)).spareFor = (s.cl (clusterOf g)).spareFor

theorem drainsOnly_refl (g : Nat) (s : State) : DrainsOnly g s s := ⟨fun _ => rfl, rfl, rfl, rfl, rfl, rfl⟩

theorem drainsOnly_setCl {x : Cluster} (hj : x.job = (s.cl (clusterOf g)).job) (hs : x.slot = (s.cl (clusterOf g)).slot)
    (hf : x.spareFor = (s.cl (clusterOf g)).spareFor) : DrainsOnly g s (s.setCl (clusterOf g) x) where
  en _ := rfl
  pwr := rfl
  jobs := rfl
  job := by rw [cl_setCl_same, hj]
  slot := by rw [cl_setCl_same, hs]
  spareFor := by rw [cl_setCl_same, hf]

theorem DrainsOnly.trans {u : State} (h : DrainsOnly g s t) (k : DrainsOnly g t u) : DrainsOnly g s u :=
  ⟨fun j => (k.en j).trans (h.en j), k.pwr.trans h.pwr, k.jobs.trans h.jobs, k.job.trans h.job, k.slot.trans h.slot,
    k.spareFor.trans h.spareFor⟩

theorem DrainsOnly.jobOf (h : DrainsOnly g s t) : t.jobOf (clusterOf g) = s.jobOf (clusterOf g) := by
  rw [State.jobOf, h.job, h.jobs]
  rfl

theorem DrainsOnly.localOf (h : DrainsOnly g s t) : t.localOf g = s.localOf g := by
  unfold State.localOf
  split
  · rfl
  · rename_i hg
    have e := h.spareFor
    rwa [clusterOf_spare (by omega)] at e

theorem DrainsOnly.straight (h : DrainsOnly g s t) (hs : s.straight g) : t.straight g :=
  straight_congr hs (by rw [h.en]) (by rw [h.en]) (by rw [h.en]) h.pwr

theorem drainsOnly_drainDone (s : State) (g : Nat) : DrainsOnly g s (s.drainDone g) := by
  unfold State.drainDone
  extract_lets c i cl d k
  split
  · exact drainsOnly_refl g s
  · exact drainsOnly_setCl rfl rfl rfl

theorem drainsOnly_capture (s : State) (g : Nat) : DrainsOnly g s (s.capture g) := by
  unfold State.capture
  extract_lets c t
  have h : DrainsOnly g s t := drainsOnly_drainDone s g
  split
  · exact h.trans (drainsOnly_setCl rfl rfl rfl)
  · exact h

/-- The checkpoint that a WAITL captures for a job (R235). -/
theorem drain_capture {j : Job} (hj : s.jobOf (clusterOf g) = some j) :
    Sparse.get [] ((s.capture g).cl (clusterOf g)).drain (s.localOf g) = checkpointOf (s.en g) j.image.ckptBase j.image.ckptLen := by
  have h := drainsOnly_drainDone s g
  have hj' : (s.drainDone g).jobOf (clusterOf g) = some j := h.jobOf.trans hj
  simp only [State.capture, hj', cl_setCl_same, h.localOf, sparse_get_set_same, h.en]

theorem exec_waitl_sleeps (h : s.runs g) (rd : BitVec 4) (ho : (s.en g).overrun = false) :
    exec (.waitl g rd) s = .next ((s.capture g).setEn g { s.en g with st := 2, waitRd := rd }) := by
  refine congrArg Host.Outcome.next ((onEngine_runs h _).trans ?_)
  simp [(drainsOnly_capture s g).en, ho]

theorem exec_waitl_late (h : s.runs g) (rd : BitVec 4) (ho : (s.en g).overrun = true) :
    exec (.waitl g rd) s = .next ((s.capture g).waitReturn g rd true) := by
  refine congrArg Host.Outcome.next ((onEngine_runs h _).trans ?_)
  simp [(drainsOnly_capture s g).en, ho]

/-- A WAITL that returns to an engine that runs straight on. -/
theorem en_waitReturn (h : s.straight g) (rd : BitVec 4) (late : Bool) : (s.waitReturn g rd late).en g =
    { (s.en g).setS rd.toNat (waitWord (s.cl (clusterOf g)).slot late) with
      st := 1, slot := (s.cl (clusterOf g)).slot, overrun := false, started := false, resumed := false, pc := (s.en g).pc + 1 } := by
  unfold State.waitReturn
  extract_lets x
  rw [engDo_straight h (setS_pc ..) (setS_loops ..), State.stepped, en_setEn_same]

/-- The word of a late return in a slot whose line and programmed line fit their fields (R262). -/
theorem waitWord_late {x : LineSlotInfo} (hl : x.line < 2 ^ 14) (hp : x.prog < 2 ^ 16) :
    (waitWord x true).toNat = 2 ^ 31 + (if x.active then 2 ^ 30 + x.line * 65536 else 0) + x.prog := by
  rw [waitWord, BitVec.toNat_ofNat, Nat.mod_eq_of_lt hl, Nat.mod_eq_of_lt (show x.prog < 65536 from hp), Nat.mod_eq_of_lt]
  · simp
  · simp only [if_true]
    split <;> omega

theorem exec_sig (h : s.runs g) (ch : BitVec 4) : exec (.sig g ch) s = .next (
    if ch.toNat = 0 then
      if Sparse.get 0 (s.cl (clusterOf g)).wbPost (s.localOf g) - Sparse.get 0 (s.cl (clusterOf g)).wbCnt (s.localOf g) = 8 then
        s.engFault g 3
      else (s.setCl (clusterOf g) { s.cl (clusterOf g) with
        wbPost := Sparse.set 0 (s.cl (clusterOf g)).wbPost (s.localOf g)
          (Sparse.get 0 (s.cl (clusterOf g)).wbPost (s.localOf g) + 1) }).retire g
    else if ch.toNat ≤ 7 then
      (s.setCl (clusterOf g) { s.cl (clusterOf g) with
        sig := Sparse.set 0 (s.cl (clusterOf g)).sig ch.toNat (Sparse.get 0 (s.cl (clusterOf g)).sig ch.toNat + 1) }).retire g
    else s.engFault g 1) :=
  congrArg Host.Outcome.next (onEngine_runs h _)

theorem retire_setCl (h : s.straight g) (c : Nat) (x : Cluster) : (s.setCl c x).retire g = (s.setCl c x).stepped g (s.en g) :=
  retire_straight (straight_congr h rfl rfl rfl rfl)

end

/-- Settles O37, instruction by instruction. -/
theorem engineControl : Obligations.EngineControl := by
  intro s g hr
  have h0 : (0 : BitVec 4).toNat = 0 := rfl
  refine ⟨fun h => ⟨?_, ?_⟩, ?_, fun rd ho => ?_, fun rd hrd ho h => ?_, fun h hn => ?_, fun hn => ?_, fun ch h h1 h7 => ?_, fun ch h8 => ?_⟩
  case refine_1 | refine_2 => exact congrArg Host.Outcome.next ((onEngine_runs hr _).trans (retire_straight h))
  case refine_3 =>
    refine ⟨_, congrArg Host.Outcome.next (onEngine_runs hr _), ?_, fun k hk => ?_⟩
    · rw [en_hvPrune, en_setEn_same]
    · rw [en_hvPrune, en_setEn_other _ _ hk]
  case refine_4 =>
    have hc := drainsOnly_capture s g
    refine ⟨_, exec_waitl_sleeps hr rd ho, en_setEn_same .., fun k hk => ?_, fun j hj => drain_capture hj⟩
    rw [en_setEn_other _ _ hk, hc.en]
  case refine_5 =>
    have hc := drainsOnly_capture s g
    refine ⟨_, exec_waitl_late hr rd ho, ?_⟩
    rw [en_waitReturn (hc.straight h) rd true, hc.en, hc.slot]
    have hrd' : rd.toNat ≠ 0 := fun e => hrd (BitVec.eq_of_toNat_eq e)
    refine ⟨rfl, rfl, rfl, rfl, fun hl hp => ?_⟩
    exact (congrArg BitVec.toNat (sreg_setS_same _ _ hrd')).trans (waitWord_late hl hp)
  case refine_6 => rw [exec_sig hr, if_pos h0, if_neg hn, retire_setCl h]
  case refine_7 => rw [exec_sig hr, if_pos h0, if_pos hn]
  case refine_8 => rw [exec_sig hr, if_neg (by omega), if_pos h7, retire_setCl h]
  case refine_9 => rw [exec_sig hr, if_neg (by omega), if_neg (by omega)]

end Sys2Proof.Proofs

/-! PROOFS. The statements of the engines' jobs (R232 to R234, R446, R447), the watchdog and the spare (R236 to R240), and the clusters'
slots, loads, checkpoints, fetch streams, write-backs and conflict counters (R223 to R243). -/

namespace Sys2Proof.Proofs

open Sys2Proof Sys2Proof.Machine Sys2Proof.Machine.Reg Sys2Proof.Laws

/-! Jobs from dispatch to their contexts (R232, R233). -/

theorem ownsClusters_of_owner {s : State} {p : Nat} {m : Word} (h : ∀ c < 32, m.getLsbD c = true → s.clOwner c = p) :
    s.ownsClusters p m = true := by
  refine List.all_eq_true.2 fun c hc => beq_iff_eq.2 ?_
  obtain ⟨hc, hbit⟩ := List.mem_filter.1 hc
  exact h c (List.mem_range.1 hc) hbit

/-- An ENGINE_JOB of a partition that owns its clusters is judged. -/
theorem take_engineJob {s : State} {h : Hdr} {g : Nat} {j : JobArgs} (ht : s.takes h g) (hp : plainHdr h) (hi : j.image < 2 ^ 48)
    (ha : j.arg < 2 ^ 48) (ho : ∀ c < 32, j.clusters.getLsbD c = true → s.clOwner c = h.part) :
    s.take h (.engineJob j) =
      (if j.image = 0 then s.counted.takeStop (s.reqOf h g) j.clusters else s.counted.takeJob (s.reqOf h g) j).goOn := by
  have hr : s.counted.rights h.part (.engineJob j) = true := ownsClusters_of_owner (s := s.counted) ho
  have hg : bodyGood (.engineJob j) = true := by
    simp only [bodyGood, hi, ha, decide_true, Bool.and_self]
  rw [take_acts ht hp rfl hr hg]
  simp [State.act, onSvc]

theorem jobStatus_counted (s : State) (p : Nat) (j : JobArgs) : s.counted.jobStatus p j = s.jobStatus p j := by
  simp only [State.jobStatus, State.inOwn, State.inOwned, areaIn_counted]
  rfl

theorem jobStatus_notReady {s : State} {p : Nat} {j : JobArgs} (h : s.mode = 11 ∨ s.storeUp = false) :
    s.jobStatus p j = NOT_READY := if_pos h

theorem jobStatus_denied {s : State} {p : Nat} {j : JobArgs} (hm : s.mode ≠ 11) (hs : s.storeUp = true)
    (h : s.inOwn 7 p j.image 64 = false ∨ (j.argLen ≠ 0 ∧ s.inOwned p j.arg j.argLen = false)) : s.jobStatus p j = DENIED := by
  have hready : ¬(s.mode = 11 ∨ s.storeUp = false) := by simp [hm, hs]
  rw [State.jobStatus, if_neg hready, if_pos h]

theorem takeJob_refused {s : State} {r : Req} {j : JobArgs} (h : s.jobStatus r.h.part j ≠ OK) :
    s.takeJob r j = s.done r (s.jobStatus r.h.part j) := if_pos h

/-- The lowest free context hangs on the contexts in use. -/
theorem freeJobId_congr {s t : State} (h : t.eng.jobs = s.eng.jobs) : t.freeJobId = s.freeJobId := by
  rw [State.freeJobId, State.freeJobId, h]

/-- The context of an accepted ENGINE_JOB: the lowest free one, with the image and the argument block as they lie in the store. -/
def jobContext (s : State) (r : Req) (j : JobArgs) : Job :=
  { id := s.freeJobId, req := r, a := j, argData := s.bytes j.arg j.argLen
    image := imageOf (s.bytes j.image (headerTotal (s.bytes j.image 64))) }

theorem takeJob_accepted {s : State} {r : Req} {j : JobArgs} (h : s.jobStatus r.h.part j = OK) :
    let v := (s.countRecon j.image (headerTotal (s.bytes j.image 64))).countRecon j.arg j.argLen
    s.takeJob r j =
      if imgPolicy = 0 then (v.imgLast r.h.part 3 0 r.h.tag.toNat).addJob { jobContext s r j with readyAt := some s.now }
      else { v.addJob (jobContext s r j) with sec := { s.sec with verify := s.sec.verify ++ [s.freeJobId] } } := by
  intro v
  obtain ⟨p, hp⟩ := countRecon_regs s j.image (headerTotal (s.bytes j.image 64))
  obtain ⟨q, hq⟩ := countRecon_regs { s with regs := p } j.arg j.argLen
  have hv : v = { s with regs := q } := by unfold v; rw [hp, hq]
  rw [State.takeJob]
  simp only [h, ne_eq, not_true_eq_false, if_false]
  rw [show (s.countRecon j.image (headerTotal (s.bytes j.image 64))).countRecon j.arg j.argLen = v from rfl, hv,
    freeJobId_congr (s := s) (t := { s with regs := q }) rfl, jobContext]
  generalize s.freeJobId = n
  rfl

theorem exec_engineJobStop {s : State} {h : Hdr} {g : Nat} {m : Word} (ht : s.takes h g) (hp : plainHdr h)
    (ho : ∀ c < 32, m.getLsbD c = true → s.clOwner c = h.part) :
    exec (.engineJobStop h m) s = .next (s.counted.takeStop (s.reqOf h g) m).goOn :=
  congrArg Host.Outcome.next (take_engineJob (j := ⟨0, m, 0, 0, 0⟩) ht hp (Nat.two_pow_pos 48) (Nat.two_pow_pos 48) ho)

theorem takeStop_awake {s : State} {r : Req} {m : Word} (h : s.mode ≠ 11) : s.takeStop r m =
    if m = 0 then s.done r INVALID
    else if 1024 ≤ s.eng.jobs.length then s.done r NO_RESOURCE
    else s.addJob { id := s.freeJobId, req := r, a := ⟨0, m, 0, 0, 0⟩, image := noImage, argData := [], readyAt := some s.now, stop := true } :=
  if_neg h

/-- A signature is judged by the keys and the floor alone. -/
theorem sigReason_congr {s t : State} (hk : t.sec.imgKeys = s.sec.imgKeys) (hr : t.regs = s.regs) (b : List Byte) (n : Nat) :
    t.sigReason b n = s.sigReason b n := by
  have hf : t.fld SEC_IMG_FLOOR_svn = s.fld SEC_IMG_FLOOR_svn := by simp only [State.fld, State.fldAt, State.reg, hr]
  rw [State.sigReason, State.sigReason, hk, hf]

theorem imgLast_eng (s : State) (p result reason tag : Nat) : (s.imgLast p result reason tag).eng = s.eng := by
  rw [State.imgLast, setFldP_eng, setFldP_eng, setFldP_eng]

/-- What a verification that ends with reason `why` does, 0 for none. -/
theorem verified_reason {s : State} {j : Job} {why : Nat} (h : s.sigReason (s.bytes j.a.image j.image.total) j.image.sigLen = why) :
    s.verified j = if why = 0 then
        (s.imgLast j.req.h.part 1 0 j.req.h.tag.toNat).mapJobs fun k =>
          if k.id = j.id then { k with sealed_ := true, readyAt := some s.now } else k
      else (((s.imgLast j.req.h.part 2 why j.req.h.tag.toNat).setFlag SEC_FLAGS_img_denied).setJobs
        (s.eng.jobs.filter (·.id != j.id))).showJobs.done j.req DENIED := by
  rw [State.verified, h]
  dsimp only
  rw [setFlag_eng, imgLast_eng]

/-- The verification that ends is the oldest (R447). -/
theorem exec_imageVerified {s : State} {id : Nat} {ids : List Nat} {j : Job} (hv : s.sec.verify = id :: ids)
    (hj : s.eng.jobs.find? (·.id == id) = some j) :
    exec .imageVerified s = .next (State.verified { s with sec := { s.sec with verify := ids } } j) := by
  refine congrArg Host.Outcome.next ?_
  simp [hv, hj]

/-- Settles O21: the dispatch by `take_engineJob`, R233's tests by `jobStatus`, and a verification's end. -/
theorem engineJobs : Obligations.EngineJobs := by
  refine ⟨fun s h g j ht hp h0 hi ha ho => ?_, fun s h g m ht hp hm ho => ?_, fun s id ids j hv hj => ?_⟩
  · intro u r
    have hexec : exec (.engineJob h j) s = .next (u.takeJob r j).goOn := by
      refine congrArg Host.Outcome.next ((take_engineJob ht hp hi ha ho).trans ?_)
      rw [if_neg h0]
    have hst : u.jobStatus r.h.part j = s.jobStatus h.part j := jobStatus_counted s h.part j
    refine ⟨fun hn => ?_, fun hm hs hd => ?_, fun hok => ?_⟩
    · have hnr := hst.trans (jobStatus_notReady hn)
      rw [hexec, takeJob_refused (by rw [hnr]; decide), hnr]
    · have hdn := hst.trans (jobStatus_denied hm hs hd)
      rw [hexec, takeJob_refused (by rw [hdn]; decide), hdn]
    · rw [hexec, takeJob_accepted (hst.trans hok), jobContext, freeJobId_congr (s := s) (t := u) rfl]
      generalize s.freeJobId = n
      rfl
  · rw [exec_engineJobStop ht hp ho, takeStop_awake (s := s.counted) hm, freeJobId_congr (s := s) (t := s.counted) rfl]
    rfl
  · have hid : j.id = id := by simpa using List.find?_some hj
    intro u why p tag
    have hwhy : u.sigReason (u.bytes j.a.image j.image.total) j.image.sigLen = why := sigReason_congr rfl rfl _ _
    rw [exec_imageVerified hv hj, verified_reason hwhy, hid]
    rfl

/-! The watchdog and the spare (R236 to R240). -/

theorem clusterOf_engine {g : Nat} (h : g < 512) : clusterOf g = g / 16 := if_pos h

theorem localOf_engine {s : State} {g : Nat} (h : g < 512) : s.localOf g = g % 16 := if_pos h

section
variable {s : State} {g : Nat}

/-- A stall of an engine that runs, in a cluster whose watchdog runs, fires it with cause 0. -/
theorem exec_watchdogStall (h : s.runs g) (hw : s.wdRuns (clusterOf g) = true) :
    exec (.watchdogStall g) s = .next (s.watchdog g 0) := by
  refine congrArg Host.Outcome.next ((onEngine_runs h _).trans ?_)
  rw [if_pos hw]

/-- The engine stops and the stall counts, whatever follows. -/
def stalled (s : State) (g : Nat) : State :=
  (s.setFld ENG_FLAGS_takeover 1).setEn g { s.en g with st := 4, firings := (s.en g).firings + 1 }

theorem spareEn_stalled (s : State) (g : Nat) : (stalled s g).fld ENG_CTRL_spare_en = s.fld ENG_CTRL_spare_en := by
  rw [stalled, fld_setEn]
  exact fld_setFld_other s 1 (by decide)

theorem cl_stalled (s : State) (g c : Nat) : (stalled s g).cl c = s.cl c := by
  rw [stalled, cl_setEn, cl_setFld]

theorem watchdog_stall (hg : g < 512) : s.watchdog g 0 =
    if (s.cl (g / 16)).spare = 0 ∧ s.fld ENG_CTRL_spare_en = 1 then
      (stalled s g).setCl (g / 16) { s.cl (g / 16) with
        fires := min (2 ^ 32 - 1) ((s.cl (g / 16)).fires + 1), spare := 1, spareFor := g % 16, retired := false, takeCause := 0 }
    else (((stalled s g).setCl (g / 16) { s.cl (g / 16) with
        fires := min (2 ^ 32 - 1) ((s.cl (g / 16)).fires + 1)
        bypass := (s.cl (g / 16)).bypass ||| BitVec.ofNat 16 (2 ^ (g % 16)) }).hvPrune (g / 16)).postTakeover (g / 16) (g % 16) 0 1 := by
  have hspare : ¬ 512 ≤ g := by omega
  have hs : (s.setFlag ENG_FLAGS_takeover).setEn g { s.en g with st := 4, firings := (s.en g).firings + 1 } = stalled s g := rfl
  have hcond : (g < 512 ∧ (stalled s g).spareHeld (g / 16) = true ∧ (stalled s g).fld ENG_CTRL_spare_en = 1) ↔
      (s.cl (g / 16)).spare = 0 ∧ s.fld ENG_CTRL_spare_en = 1 := by
    rw [spareEn_stalled, State.spareHeld, cl_stalled, beq_iff_eq]
    exact and_iff_right hg
  unfold State.watchdog
  simp only [clusterOf_engine hg, localOf_engine hg, true_or, if_true, hs, hcond, if_neg hspare]
  rfl

end

@[simp] theorem setCl_setCl (s : State) (c : Nat) (x y : Cluster) : (s.setCl c x).setCl c y = s.setCl c y := by
  simp only [State.setCl, sparse_set_set]

theorem exec_spareLoaded {s : State} {c : Nat} (h : (s.cl c).spare = 1) (hd : (s.cl c).resumeDue = false) :
    exec (.spareLoaded c) s = .next (
      let t := match s.jobOf c with
        | some j => if (s.cl c).jobSt = 2 then s.loadSpare c j else s
        | none => s
      t.setCl c { t.cl c with resumeDue := true }) :=
  congrArg Host.Outcome.next (if_pos ⟨h, hd⟩)

/-- The spare's registers and memory after a load for strip i of cluster c (R238). -/
def spareLoad (s : State) (c : Nat) (j : Job) : Eng :=
  let cl := s.cl c
  let i := cl.spareFor
  let w := Sparse.get 0 cl.whole i
  let fl : Half := Sparse.get 0 cl.flagsSince i
  let e : Eng := { loadedEng j.image j.argData (16 * c + i) with
    st := 0, started := false, hv := (s.en (16 * c + i)).hv, firings := (s.en (512 + c)).firings, msflag := fl }
  let d := Sparse.read 0 cl.mem (ckptOff i (w - 1)) 0x1800
  let m := restoreFrom { e with mem := Sparse.write 0 e.mem (64 * j.image.ckptBase) ((d.drop 1536).take (64 * j.image.ckptLen)) } d
  if w = 0 then { e with atEntry := true } else { m with msflag := m.msflag ||| fl }

/-- A cluster with the milestone flags kept apart replaced. -/
def withFlags (cl : Cluster) (since new : List (Nat × Half)) : Cluster := { cl with flagsSince := since, flagsNew := new }

theorem ask_withFlags (cl : Cluster) (since new : List (Nat × Half)) (m : Nat) :
    (withFlags cl since new).ask m = withFlags (cl.ask m) since new :=
  (apply_ite (withFlags · since new) (cl.asked.contains m = true) cl { cl with asked := m :: cl.asked }).symm

theorem setEn_setCl (s : State) (c g : Nat) (x : Cluster) (e : Eng) : (s.setEn g e).setCl c x = (s.setCl c x).setEn g e := rfl

theorem loadSpare_eq (s : State) (c : Nat) (j : Job) : s.loadSpare c j =
    (s.setEn (512 + c) (spareLoad s c j)).setCl c (withFlags ((s.cl c).ask 16)
      (Sparse.set 0 (s.cl c).flagsSince (s.cl c).spareFor 0) (Sparse.set 0 (s.cl c).flagsNew (s.cl c).spareFor 0)) := by
  rw [← ask_withFlags, setEn_setCl]
  unfold State.loadSpare spareLoad
  dsimp only
  by_cases hw : Sparse.get 0 (s.cl c).whole (s.cl c).spareFor = 0
  · rw [if_pos hw, if_pos hw]
    rfl
  · rw [if_neg hw, if_neg hw]
    rfl

/-- Settles O23: a stall by `watchdog_stall`, and the spare's load by `loadSpare_eq`. -/
theorem watchdogAndTakeover : Obligations.WatchdogAndTakeover := by
  refine ⟨fun s g hg hr hwd hjob => ?_, fun s c h hd => ?_⟩
  · have hclock : s.wdRuns (clusterOf g) = true := by
      rw [clusterOf_engine hg]
      simp [State.wdRuns, hwd, hjob]
    intro c cl u fires
    refine ⟨fun hspare hen => ?_, fun hno => ?_⟩
    · rw [exec_watchdogStall hr hclock, watchdog_stall hg, if_pos ⟨hspare, hen⟩]
      rfl
    · rw [exec_watchdogStall hr hclock, watchdog_stall hg, if_neg fun ⟨h0, h1⟩ => hno.elim (· h0) fun h => by omega]
      rfl
  · intro cl due
    refine ⟨fun hj => ?_, fun j hj hst => ?_⟩
    · rw [exec_spareLoaded h hd, hj]
    · intro i w fl e d m
      rw [exec_spareLoaded h hd, hj]
      dsimp only
      rw [if_pos hst, loadSpare_eq, cl_setCl_same, setCl_setCl]
      rfl

/-! A slot's start (R224, R225, R234, R242). -/

/-- From `s` to `t` no other cluster than c and no engine of another has changed, and c's slot is the same. -/
structure InCluster (c : Nat) (s t : State) : Prop where
  clusters : ∀ k, k ≠ c → t.cl k = s.cl k
  slot : (t.cl c).slot = (s.cl c).slot
  engines : ∀ g, clusterOf g ≠ c → t.en g = s.en g

theorem inCluster_refl (c : Nat) (s : State) : InCluster c s s := ⟨fun _ _ => rfl, rfl, fun _ _ => rfl⟩

section
variable {c : Nat} {s t : State}

theorem InCluster.trans {u : State} (h : InCluster c s t) (k : InCluster c t u) : InCluster c s u :=
  ⟨fun n hn => (k.clusters n hn).trans (h.clusters n hn), k.slot.trans h.slot, fun g hg => (k.engines g hg).trans (h.engines g hg)⟩

theorem inCluster_foldl {α : Type} {f : State → α → State} (l : List α) (hf : ∀ s, ∀ x ∈ l, InCluster c s (f s x)) :
    ∀ s, InCluster c s (l.foldl f s) := by
  induction l with
  | nil => exact inCluster_refl c
  | cons x l ih => exact fun s => (hf s x (List.mem_cons_self ..)).trans (ih (fun s y hy => hf s y (List.mem_cons_of_mem x hy)) _)

theorem inCluster_setCl {x : Cluster} (h : x.slot = (s.cl c).slot) : InCluster c s (s.setCl c x) :=
  ⟨fun _ hk => cl_setCl_other _ _ hk, by rw [cl_setCl_same, h], fun _ _ => rfl⟩

theorem inCluster_setEn {g : Nat} (x : Eng) (h : clusterOf g = c) : InCluster c s (s.setEn g x) :=
  ⟨fun _ _ => rfl, rfl, fun _ hk => en_setEn_other _ _ fun e => hk (e ▸ h)⟩

theorem inCluster_setJobs (s : State) (c : Nat) (l : List Job) : InCluster c s (s.setJobs l) := ⟨fun _ _ => rfl, rfl, fun _ _ => rfl⟩

theorem inCluster_mapJobs (s : State) (c : Nat) (f : Job → Job) : InCluster c s (s.mapJobs f) := inCluster_setJobs s c _

theorem inCluster_freeJobs (s : State) (c : Nat) : InCluster c s s.freeJobs := inCluster_setJobs s c _

theorem Recorded.inCluster (h : Recorded s t) (c : Nat) : InCluster c s t :=
  ⟨fun k _ => h.cl k, by rw [h.cl], fun g _ => h.en g⟩

/-- What an engine's instruction may reach lies in its cluster: an engine, and the one that a spare serves. -/
theorem Isolated.inCluster {g : Nat} (h : Isolated g s t) (hg : clusterOf g = c) (hc : c < 32) : InCluster c s t := by
  subst hg
  refine ⟨h.clusters, h.slot, fun k hk => h.engines k (fun e => hk (by rw [e])) ?_⟩
  rintro ⟨hspare, rfl⟩
  rw [clusterOf_spare hspare] at hc hk
  exact hk (by rw [clusterOf_engine (by omega)]; omega)

theorem clusterOf_serverOf (s : State) {c i : Nat} (hc : c < 32) (hi : i < 16) : clusterOf (s.serverOf c i) = c := by
  unfold State.serverOf
  dsimp only
  split
  · rw [clusterOf_spare (by omega)]
    omega
  · rw [clusterOf_engine (by omega)]
    omega

theorem inCluster_judge (s : State) {i : Nat} (hc : c < 32) (hi : i < 16) : InCluster c s (s.judge c i) := by
  have hg := clusterOf_serverOf s hc hi
  unfold State.judge
  extract_lets g e cl s1 s2
  have h2 : InCluster c s s2 := (inCluster_setCl (by rfl)).trans (inCluster_setEn _ hg)
  split
  · exact inCluster_refl c s
  · split
    · exact inCluster_setEn _ hg
    · split
      · exact h2.trans ((isolated_watchdog s2 g 1).inCluster hg hc)
      · exact h2

theorem inCluster_wake (s : State) {i : Nat} (hc : c < 32) (hi : i < 16) : InCluster c s (s.wake c i) := by
  have hg := clusterOf_serverOf s hc hi
  unfold State.wake
  extract_lets g e s1
  have h1 : InCluster c s s1 := inCluster_setEn _ hg
  split
  · exact inCluster_refl c s
  · split
    · exact h1.trans ((isolated_waitReturn s1 g _ false).inCluster hg hc)
    · exact h1

theorem inCluster_resume (s : State) (hc : c < 32) : InCluster c s (s.resume c) := by
  have hg : clusterOf (512 + c) = c := by rw [clusterOf_spare (by omega)]; omega
  unfold State.resume
  extract_lets cl g i s1 e0 e s2 e2 s3
  have h1 : InCluster c s s1 := inCluster_setCl rfl
  split
  · exact inCluster_refl c s
  · have h3 : InCluster c s s3 := by
      unfold s3
      split
      · exact h1
      · split
        · exact h1.trans (inCluster_setEn _ hg)
        · have h2 : InCluster c s1 s2 := (inCluster_setEn e hg).trans ((isolated_waitReturn _ g _ false).inCluster hg hc)
          exact (h1.trans h2).trans (inCluster_setEn _ hg)
    exact h3.trans ((recorded_postTakeover s3 c i _ 0).inCluster c)

theorem inCluster_freeCluster (s : State) (hc : c < 32) : InCluster c s (s.freeCluster c) := by
  unfold State.freeCluster
  extract_lets cl s1
  split
  · exact inCluster_refl c s
  · extract_lets s2 cl'
    have h1 : InCluster c s s1 := by
      unfold s1
      refine inCluster_foldl _ (fun t i hi => ?_) s
      extract_lets g e
      split
      · exact inCluster_refl c t
      · exact inCluster_setEn _ (clusterOf_serverOf t hc (List.mem_range.1 hi))
    have h2 : InCluster c s s2 := h1.trans (inCluster_mapJobs s1 c _)
    clear_value s2
    exact (h2.trans (inCluster_setCl (by rfl))).trans (inCluster_freeJobs _ c)

theorem inCluster_takeCluster (s : State) (hc : c < 32) (due : Job → Bool) : InCluster c s (s.takeCluster c due) := by
  unfold State.takeCluster
  split
  · exact inCluster_refl c s
  · extract_lets win s1 s2 s3 cl
    have h2 : InCluster c s s2 := (inCluster_mapJobs s c _).trans (inCluster_freeCluster s1 hc)
    split
    · exact h2
    · exact (h2.trans (inCluster_mapJobs s2 c _)).trans (inCluster_setCl (by rfl))

theorem inCluster_handOver (s : State) (hc : c < 32) (x : LineSlotInfo) : InCluster c s (s.handOver c x) := by
  unfold State.handOver
  extract_lets ended s1
  have h1 : InCluster c s s1 := by
    unfold s1
    split
    · exact inCluster_freeCluster s hc
    · exact inCluster_refl c s
  exact h1.trans (inCluster_takeCluster s1 hc _)

theorem inCluster_checkUnits (s : State) (c : Nat) (x : LineSlotInfo) : InCluster c s (s.checkUnits c x) := by
  unfold State.checkUnits
  split
  · exact inCluster_refl c s
  · extract_lets cl sf e s1 us
    have hf : InCluster c s sf := (recorded_setFlag s _).inCluster c
    have h1 : InCluster c s s1 := by
      unfold s1
      split
      · exact ⟨hf.clusters, hf.slot, hf.engines⟩
      · exact inCluster_refl c s
    split
    · refine h1.trans (inCluster_setCl ?_)
      exact h1.slot.symm
    · split
      · exact inCluster_setCl rfl
      · exact inCluster_refl c s

/-- A slot that starts on cluster c is its cluster's, and reaches nothing of another. -/
theorem slotStart_inCluster (s : State) (hc : c < 32) : ((s.slotStart c).cl c).slot = s.slotFor c ∧
    (∀ k, k ≠ c → (s.slotStart c).cl k = s.cl k) ∧ ∀ g, clusterOf g ≠ c → (s.slotStart c).en g = s.en g := by
  unfold State.slotStart
  extract_lets x cl s1 s2 s3 cl' s4 s5
  split
  · exact ⟨by rw [cl_setCl_same], fun k hk => cl_setCl_other _ _ hk, fun _ _ => rfl⟩
  · have h1 : InCluster c s s1 := by
      unfold s1
      exact inCluster_foldl _ (fun t i hi => inCluster_judge t hc (List.mem_range.1 hi)) s
    have h3 : InCluster c s s3 := (h1.trans (inCluster_handOver s1 hc x)).trans (inCluster_checkUnits s2 c x)
    have h5 : InCluster c s4 s5 := by
      unfold s5
      split
      · exact inCluster_foldl _ (fun t i hi => inCluster_wake t hc (List.mem_range.1 hi)) s4
      · exact inCluster_refl c s4
    have h6 : InCluster c s4 (s5.resume c) := h5.trans (inCluster_resume s5 hc)
    refine ⟨by rw [h6.slot, cl_setCl_same], fun k hk => ?_, fun g hg => ?_⟩
    · rw [h6.clusters k hk, cl_setCl_other _ _ hk, h3.clusters k hk]
    · rw [h6.engines g hg, en_setCl, h3.engines g hg]

/-! A slot of a cluster that holds no job, and to which none passes (R224, R234). -/

theorem takeCluster_none (h : ∀ j ∈ s.eng.jobs, c ∉ j.todo) (due : Job → Bool) : s.takeCluster c due = s := by
  have hnil : (s.eng.jobs.filter fun j => j.latched && j.todo.contains c && due j) = [] := by
    refine List.filter_eq_nil_iff.2 fun j hj => ?_
    simp [h j hj]
  rw [State.takeCluster, hnil]

theorem jobOf_free (h : (s.cl c).job = none) : s.jobOf c = none := by rw [State.jobOf, h]

theorem slotStart_idle (hon : s.clOn c = true) (hst : (s.cl c).jobSt ≠ 2) (hj : (s.cl c).job = none) (hd : (s.cl c).resumeDue = false)
    (hq : ∀ j ∈ s.eng.jobs, c ∉ j.todo) : s.slotStart c = s.setCl c { s.cl c with slot := s.slotFor c } := by
  have hjudge (i : Nat) : s.judge c i = s := if_pos (.inl hst)
  have hfold (l : List Nat) : l.foldl (fun s i => s.judge c i) s = s := by
    induction l with
    | nil => rfl
    | cons i l ih => rw [List.foldl_cons, hjudge, ih]
  have hhand (x : LineSlotInfo) : s.handOver c x = s := by
    simp only [State.handOver, jobOf_free hj, Bool.false_eq_true, if_false, takeCluster_none hq]
  have hunits (x : LineSlotInfo) : s.checkUnits c x = s := by rw [State.checkUnits, jobOf_free hj]
  simp only [State.slotStart, hon, hfold, hhand, hunits, cl_setCl_same, State.resume, hd, hst, Bool.true_eq_false, if_false, if_true]

/-- LINE_SLOT on a cluster that has not had the slot (R224). -/
theorem exec_lineSlot (hc : c < 32) (h : (s.cl c).slot ≠ s.slotFor c) : exec (.lineSlot c) s = .next (s.slotStart c) :=
  congrArg Host.Outcome.next (if_pos ⟨hc, h⟩)

end

/-! A job's load, a drain's end and a fetched unit (R228, R234, R235). -/

/-- The engine of strip i of cluster c as the load of a job leaves it. -/
def loadedStrip (s : State) (c : Nat) (j : Job) (i : Nat) : Eng :=
  { loadedEng j.image j.argData (16 * c + i) with
    hv := (s.en (16 * c + i)).hv, firings := (s.en (16 * c + i)).firings, slot := (s.cl c).slot }

/-- From `s` to `t` the first n engines of cluster c have been loaded with a job, and of clusters only c's requests have changed. -/
structure LoadedTo (c : Nat) (j : Job) (s : State) (n : Nat) (t : State) : Prop where
  cluster : ∃ asked, t.cl c = { s.cl c with asked := asked }
  loaded : ∀ i < n, t.en (16 * c + i) = loadedStrip s c j i
  strips : ∀ i, n ≤ i → t.en (16 * c + i) = s.en (16 * c + i)
  others : ∀ g, clusterOf g ≠ c → t.en g = s.en g

section
variable {s t : State} {c : Nat} {j : Job}

theorem ask_asked (cl : Cluster) (m : Nat) : ∃ asked, cl.ask m = { cl with asked := asked } := by
  unfold Cluster.ask
  split
  · exact ⟨cl.asked, rfl⟩
  · exact ⟨m :: cl.asked, rfl⟩

/-- The load of one engine of a cluster whose spare is idle and whose strip is not in bypass. -/
theorem loadEngine_direct {i : Nat} (h0 : (s.cl c).spare = 0) (hb : (s.cl c).bypass.getLsbD i = false) (hg : 16 * c + i < 512) :
    s.loadEngine c i j = (s.setCl c ((s.cl c).ask i)).setEn (16 * c + i) (loadedStrip s c j i) := by
  have hserver : s.serverOf c i = 16 * c + i := by simp [State.serverOf, h0]
  obtain ⟨asked, hask⟩ := ask_asked (s.cl c) i
  simp only [State.loadEngine, hserver, hb, hg, Nat.not_le.2 hg, false_and, Bool.false_eq_true, if_true, if_false, cl_setCl_same, hask]
  rfl

theorem loadedTo_loadEngine {n : Nat} (h : LoadedTo c j s n t) (h0 : (s.cl c).spare = 0) (hb : (s.cl c).bypass = 0) (hc : c < 32)
    (hn : n < 16) : LoadedTo c j s (n + 1) (t.loadEngine c n j) := by
  obtain ⟨asked, hcl⟩ := h.cluster
  obtain ⟨asked', hask⟩ := ask_asked (t.cl c) n
  have hstrip : loadedStrip t c j n = loadedStrip s c j n := by
    rw [loadedStrip, h.strips n (Nat.le_refl n), hcl]
    rfl
  rw [loadEngine_direct (by rw [hcl]; exact h0) (by rw [hcl, hb]; exact BitVec.getLsbD_zero) (by omega), hstrip]
  refine ⟨⟨asked', ?_⟩, fun i hi => ?_, fun i hi => ?_, fun g hg => ?_⟩
  · rw [cl_setEn, cl_setCl_same, hask, hcl]
  · by_cases e : i = n
    · rw [e, en_setEn_same]
    · rw [en_setEn_other _ _ (by omega), en_setCl, h.loaded i (by omega)]
  · rw [en_setEn_other _ _ (by omega), en_setCl, h.strips i (by omega)]
  · have hne : g ≠ 16 * c + n := by
      rintro rfl
      exact hg (by rw [clusterOf_engine (by omega)]; omega)
    rw [en_setEn_other _ _ hne, en_setCl, h.others g hg]

theorem loadedTo_range (h0 : (s.cl c).spare = 0) (hb : (s.cl c).bypass = 0) (hc : c < 32) (n : Nat) (hn : n ≤ 16) :
    LoadedTo c j s n ((List.range n).foldl (fun s i => s.loadEngine c i j) s) := by
  induction n with
  | zero => exact ⟨⟨(s.cl c).asked, rfl⟩, fun _ hi => absurd hi (Nat.not_lt_zero _), fun _ _ => rfl, fun _ _ => rfl⟩
  | succ n ih =>
    rw [List.range_succ, List.foldl_append]
    exact loadedTo_loadEngine (ih (by omega)) h0 hb hc hn

theorem cl_readNodes (s : State) (c : Nat) : ∃ nodes, (s.readNodes c).cl c = { s.cl c with nodes := nodes } :=
  ⟨_, cl_setCl_same ..⟩

/-- What LT's fall leaves (R173). -/
theorem ltFalls_eng (s : State) : s.ltFalls.eng = s.eng := by
  unfold State.ltFalls
  extract_lets need lt
  split
  · split
    · rw [setFld_eng]
    · rfl
  · rfl

theorem en_ltFalls (s : State) (g : Nat) : s.ltFalls.en g = s.en g := by rw [State.en, ltFalls_eng]; rfl

theorem cl_ltFalls (s : State) (c : Nat) : s.ltFalls.cl c = s.cl c := by rw [State.cl, ltFalls_eng]; rfl

/-- The end of a job's load on a cluster without takeover or bypass (R234, R244). -/
theorem loadCluster_loads (h0 : (s.cl c).spare = 0) (hb : (s.cl c).bypass = 0) (hc : c < 32) :
    ((s.loadCluster c j).cl c).jobSt = 2 ∧ ((s.loadCluster c j).cl c).job = (s.cl c).job ∧
      (∀ i < 16, (s.loadCluster c j).en (16 * c + i) = loadedStrip s c j i) ∧
      ∀ g, clusterOf g ≠ c → (s.loadCluster c j).en g = s.en g := by
  unfold State.loadCluster
  extract_lets cl s1 s2
  have hcl : s1.cl c = _ := cl_setCl_same ..
  have h2 : LoadedTo c j s1 16 s2 := by
    unfold s2
    exact loadedTo_range (by rw [hcl]; exact h0) (by rw [hcl]; exact hb) hc 16 (Nat.le_refl 16)
  have hstrip (i : Nat) : loadedStrip s1 c j i = loadedStrip s c j i := by
    rw [loadedStrip, hcl]
    rfl
  obtain ⟨asked, hasked⟩ := h2.cluster
  rw [hcl] at hasked
  have hen : (∀ i < 16, s2.en (16 * c + i) = loadedStrip s c j i) ∧ ∀ g, clusterOf g ≠ c → s2.en g = s.en g :=
    ⟨fun i hi => (h2.loaded i hi).trans (hstrip i), h2.others⟩
  split
  · obtain ⟨nodes, hnodes⟩ := cl_readNodes s2 c
    rw [hnodes, hasked]
    exact ⟨rfl, rfl, hen⟩
  · rw [hasked]
    exact ⟨rfl, rfl, hen⟩

theorem exec_jobLoadDone (hj : s.jobOf c = some j) (hst : (s.cl c).jobSt = 3) :
    exec (.jobLoadDone c) s = .next (s.loadCluster c j).ltFalls := by
  refine congrArg Host.Outcome.next ?_
  rw [hj]
  exact if_pos hst

/-- The end of a drain of an engine of its own strip (R235). -/
theorem exec_checkpointDrainDone {g : Nat} (hg : g < 512) (hd : Sparse.get [] (s.cl (g / 16)).drain (g % 16) ≠ []) :
    exec (.checkpointDrainDone g) s =
      let cl := s.cl (g / 16)
      let k := if Sparse.get 0 cl.whole (g % 16) = 1 then 1 else 0
      .next (s.setCl (g / 16) { cl with
        mem := Sparse.write 0 cl.mem (ckptOff (g % 16) k) (Sparse.get [] cl.drain (g % 16))
        whole := Sparse.set 0 cl.whole (g % 16) (k + 1)
        older := Sparse.set false cl.older (g % 16) (Sparse.get 0 cl.whole (g % 16) != 0)
        flagsSince := Sparse.set 0 cl.flagsSince (g % 16) (Sparse.get 0 cl.flagsNew (g % 16))
        drain := Sparse.set [] cl.drain (g % 16) [] }) := by
  refine congrArg Host.Outcome.next ?_
  unfold State.drainDone
  simp only [clusterOf_engine hg, localOf_engine hg, if_neg hd]

/-- Cluster memory written from an offset. -/
def withMem (cl : Cluster) (o : Nat) (d : List Byte) : Cluster := { cl with mem := Sparse.write 0 cl.mem o d }

theorem ask_withMem (cl : Cluster) (o : Nat) (d : List Byte) (m : Nat) : (withMem cl o d).ask m = withMem (cl.ask m) o d :=
  (apply_ite (withMem · o d) (cl.asked.contains m = true) cl { cl with asked := m :: cl.asked }).symm

/-- A unit of a stream that the cluster's job has. -/
theorem exec_fetchUnit {n u : Nat} {f : List Nat} (hj : s.jobOf c = some j) (hst : 2 ≤ (s.cl c).jobSt)
    (hf : j.image.streams[n]? = some f) (hu : u < 65536) : exec (.fetchUnitArrived c n u) s = .next (
      if s.unitDue f u = true then
        match s.ppaRead (strmFld f 0 + u * strmFld f 1 + c * strmFld f 2) (strmFld f 3) with
        | none => s
        | some d =>
          let t := (s.countRecon (strmFld f 0 + u * strmFld f 1 + c * strmFld f 2) (strmFld f 3)).clWrite c
            (strmFld f 4 + u % max 1 (strmFld f 6) * strmFld f 3) d
          let cl := (t.cl c).ask 17
          t.setCl c { cl with units := (cl.units.filter (· != n * 65536 + u)) ++ [n * 65536 + u] }
      else s) := by
  obtain ⟨hn, -⟩ := List.getElem?_eq_some_iff.1 hf
  have hgetD : j.image.streams.getD n [] = f := by rw [List.getD_eq_getElem?_getD, hf]; rfl
  refine congrArg Host.Outcome.next ?_
  rw [hj]
  dsimp only
  rw [hgetD]
  exact if_congr (by simp only [hn, hu, hst, true_and]) rfl rfl

/-- What a fetched unit leaves: its bytes in the ring, and the unit counted as there (R228). -/
theorem fetchedUnit_eq (s : State) (c n u a l o : Nat) (d : List Byte) :
    let t := (s.countRecon a l).clWrite c o d
    let cl := (t.cl c).ask 17
    t.setCl c { cl with units := (cl.units.filter (· != n * 65536 + u)) ++ [n * 65536 + u] } =
      (s.countRecon a l).setCl c { (s.cl c).ask 17 with
        mem := Sparse.write 0 (s.cl c).mem o d
        units := ((s.cl c).units.filter (· != n * 65536 + u)) ++ [n * 65536 + u] } := by
  intro t cl
  obtain ⟨r, hr⟩ := countRecon_regs s a l
  obtain ⟨asked, hask⟩ := ask_asked (s.cl c) 17
  have hcl : cl = withMem ((s.cl c).ask 17) o d := by
    unfold cl t
    rw [State.clWrite, cl_setCl_same, hr, ← ask_withMem]
    rfl
  unfold t
  rw [hcl, hask, State.clWrite, setCl_setCl]
  rfl

end

/-! Write-backs and conflict counters (R223, R230, R243). -/

section
variable {s : State}

theorem storeUp_setCl (s : State) (c : Nat) (x : Cluster) : (s.setCl c x).storeUp = s.storeUp := rfl

/-- The regions hang on registers alone. -/
theorem areaIn_setCl (s : State) (c : Nat) (x : Cluster) (ok : Nat → Nat → Bool) (fuel : Nat) :
    ∀ a n, (s.setCl c x).areaIn ok fuel a n = s.areaIn ok fuel a n := by
  induction fuel with
  | zero => exact fun _ _ => rfl
  | succ fuel ih =>
    intro a n
    rw [State.areaIn, State.areaIn]
    simp only [ih]
    rfl

theorem mayWrite_setCl (s : State) (c : Nat) (x : Cluster) (p a n : Nat) : (s.setCl c x).mayWrite p a n = s.mayWrite p a n := by
  simp only [State.mayWrite, areaIn_setCl]
  rfl

theorem windowByte_setCl {c : Nat} {x : Cluster} (h : x.mem = (s.cl c).mem) (o : Nat) :
    (s.setCl c x).windowByte c o = s.windowByte c o := by
  simp only [State.windowByte, cl_setCl_same, h, setCl_free]

theorem mem_ask (cl : Cluster) (m : Nat) : (cl.ask m).mem = cl.mem := by
  obtain ⟨asked, h⟩ := ask_asked cl m
  rw [h]

/-- The shape that a write-back's source, length and target keep (R230). -/
def wbShape (e : Nat × Nat × Nat) : Bool :=
  e.1 % 64 == 0 && e.2.1 % 64 == 0 && decide (64 ≤ e.2.1) && decide (e.2.1 ≤ 65536) && decide (e.1 + e.2.1 ≤ 0x100000) && e.2.2 % 64 == 0

/-- The oldest write-back of an engine, where one is posted (R230). -/
theorem writeBackDone_posted {g : Nat} (hg : g < 512) :
    let c := g / 16
    let cl := s.cl c
    let cnt := Sparse.get 0 cl.wbCnt (g % 16)
    let e := s.wbEntry c (g % 16) cnt.toNat
    let u := s.setCl c ({ cl with wbCnt := Sparse.set 0 cl.wbCnt (g % 16) (cnt + 1) }.ask 17)
    cnt ≠ Sparse.get 0 cl.wbPost (g % 16) → s.writeBackDone g =
      if (wbShape e && s.storeUp && s.mayWrite cl.wbPart e.2.2 e.2.1) = true then
        (u.ppaWrite e.2.2 ((List.range e.2.1).map fun k => s.windowByte c (e.1 + k))).ringBells e.2.2 e.2.1
      else (u.fstDeny cl.wbPart).setFld ENG_FLAGS_wb_denied 1 := by
  intro c cl cnt e u hpost
  have hdue : ¬(544 ≤ g ∨ cnt = Sparse.get 0 cl.wbPost (g % 16)) := by
    rintro (h | h)
    · omega
    · exact hpost h
  have hmem : ({ cl with wbCnt := Sparse.set 0 cl.wbCnt (g % 16) (cnt + 1) }.ask 17 : Cluster).mem = (s.cl c).mem := mem_ask _ 17
  have hbyte (o : Nat) : u.windowByte c o = s.windowByte c o := windowByte_setCl hmem o
  have hup : u.storeUp = s.storeUp := storeUp_setCl ..
  have hmay : u.mayWrite cl.wbPart e.2.2 e.2.1 = s.mayWrite cl.wbPart e.2.2 e.2.1 := mayWrite_setCl ..
  rw [← hup, ← hmay]
  rw [show (fun k => s.windowByte c (e.1 + k)) = fun k => u.windowByte c (e.1 + k) from funext fun k => (hbyte (e.1 + k)).symm]
  unfold State.writeBackDone
  rw [clusterOf_engine hg, localOf_engine hg]
  exact if_neg hdue

/-- A partition's read of its word of the conflict counters' low halves. -/
theorem exec_engConfRead {p : Nat} (hp : s.reachable p = true) : exec (.engConfRead p) s =
    .next ((s.engConf p).2.emit (.readData p (leBytes 4 (s.engConf p).1) false)) := by
  have hat : (regAt ENG_CONF_LO).isSome = true := by decide +kernel
  obtain ⟨d, hd⟩ := Option.isSome_iff_exists.1 hat
  have hword : s.readWord p ENG_CONF_LO = s.engConf p := by
    rw [State.readWord, hd]
    exact if_pos rfl
  refine congrArg Host.Outcome.next ?_
  unfold State.bar0Read
  have hwin : inWin ENG_CONF_LO = false := by decide +kernel
  have hmsix : inMsix ENG_CONF_LO = false := by decide +kernel
  have hpba : inPba ENG_CONF_LO = false := by decide +kernel
  have hal : ENG_CONF_LO / 4 * 4 = ENG_CONF_LO ∧ ENG_CONF_LO % 4 = 0 := by decide +kernel
  obtain ⟨hal, hbyte⟩ := hal
  have htake : (leBytes 4 (s.engConf p).1).take 4 = leBytes 4 (s.engConf p).1 := List.take_of_length_le (by rw [length_leBytes])
  simp [hp, hwin, hmsix, hpba, hal, hbyte, hword, htake]

/-- A read by a partition that has no such counter (R223). -/
theorem engConf_foreign {p : Nat} (h : s.clOwner (s.fldP ENG_SEL_cluster p) ≠ p ∨ 19 < s.fldP ENG_SEL_master p) :
    s.engConf p = (0, s.setReg ENG_CONF_HI 0 p 0) :=
  if_neg fun ⟨ho, hm⟩ => h.elim (· ho) (Nat.not_lt.2 hm)

/-- The state after the counter of master m of cluster c has grown by n and been read. -/
def confRead (s : State) (c m n : Nat) : State :=
  s.setCl c { s.cl c with
    conf := bumpConf (s.cl c).conf m n
    asked := if (s.cl c).busy m then (s.cl c).asked else (s.cl c).asked.filter (· != m) }

/-- A read by the cluster's own partition: the counter has grown by some n, by nothing where its master has asked nothing, and is
answered in halves (R223, R243). -/
theorem engConf_own {p : Nat} (ho : s.clOwner (s.fldP ENG_SEL_cluster p) = p) (hm : s.fldP ENG_SEL_master p ≤ 19) :
    let c := s.fldP ENG_SEL_cluster p
    let m := s.fldP ENG_SEL_master p
    ∃ (n : Nat) (u : State), ((s.cl c).asked.contains m = false → n = 0) ∧ (u.cl c).conf = bumpConf (s.cl c).conf m n ∧
      s.engConf p = ((Sparse.get 0 (bumpConf (s.cl c).conf m n) m).toNat % 2 ^ 32,
        u.setReg ENG_CONF_HI 0 p ((Sparse.get 0 (bumpConf (s.cl c).conf m n) m).toNat / 2 ^ 32)) := by
  intro c m
  have hdraw : ∃ (n : Nat) (u : State), ((s.cl c).asked.contains m = false → n = 0) ∧ u.cl c = s.cl c ∧
      (if (s.cl c).asked.contains m then s.draw (2 ^ 48) else (0, s)) = (n, u) := by
    by_cases h : (s.cl c).asked.contains m = true
    · exact ⟨(s.draw (2 ^ 48)).1, (s.draw (2 ^ 48)).2, fun h' => (Bool.false_ne_true (h'.symm.trans h)).elim, rfl, if_pos h⟩
    · exact ⟨0, s, fun _ => rfl, rfl, if_neg h⟩
  obtain ⟨n, u, hn, hu, hr⟩ := hdraw
  refine ⟨n, confRead u c m n, hn, ?_, ?_⟩
  · rw [confRead, cl_setCl_same, hu]
  · unfold State.engConf
    refine (if_pos ⟨ho, hm⟩).trans ?_
    dsimp only
    rw [hr, ← hu]
    rfl

theorem bumpConf_other (l : List (Nat × BitVec 48)) {m k : Nat} (n : Nat) (h : k ≠ m) :
    Sparse.get 0 (bumpConf l m n) k = Sparse.get 0 l k :=
  sparse_get_set_other _ _ _ _ h

theorem bumpConf_zero (l : List (Nat × BitVec 48)) (m : Nat) : Sparse.get 0 (bumpConf l m 0) m = Sparse.get 0 l m := by
  rw [bumpConf, sparse_get_set_same]
  exact BitVec.add_zero _

end

/-- Settles O22: a slot by `slotStart_inCluster` and `slotStart_idle`, a load by `loadCluster_loads`, a drain, a fetched unit, a
write-back, and the conflict counters by `engConf_own` and `engConf_foreign`. -/
theorem slotsOfClusters : Obligations.SlotsOfClusters := by
  refine ⟨fun s c hc => ?_, fun s c j hc hj hst h0 hb => ?_, fun s g hg => ?_, fun s c n u j f d hj hst hf hu => ?_,
    fun s g hg => ?_, fun s p hp => ?_⟩
  case refine_1 =>
    intro x hx
    have hexec := exec_lineSlot hc hx
    refine ⟨⟨_, hexec, slotStart_inCluster s hc⟩, fun hidle => hexec.trans (congrArg Host.Outcome.next ?_)⟩
    cases hon : s.clOn c with
    | false => exact if_pos hon
    | true =>
      rcases hidle with hoff | ⟨hst, hj, hd, hq⟩
      · rw [hon] at hoff
        exact absurd hoff (by decide)
      · exact slotStart_idle hon hst hj hd hq
  case refine_2 =>
    have h := loadCluster_loads (j := j) h0 hb hc
    refine ⟨_, exec_jobLoadDone hj hst, ?_⟩
    simp only [cl_ltFalls, en_ltFalls]
    exact h
  case refine_3 => exact fun hd => exec_checkpointDrainDone hg hd
  case refine_4 =>
    intro a
    rw [exec_fetchUnit hj hst hf hu]
    refine ⟨fun h => by rw [h]; rfl, fun h hd => ?_⟩
    rw [if_pos h, hd]
    exact congrArg Host.Outcome.next (fetchedUnit_eq s c n u ..)
  case refine_5 =>
    intro c cl cnt e u hpost h1 h2 h3 h4 h5 h6
    have hshape : wbShape e = true := by simp [wbShape, h1, h2, h3, h4, show e.1 + e.2.1 ≤ 1048576 from h5, h6]
    refine congrArg (fun t : State => Host.Outcome.next t.goOn) ((writeBackDone_posted hg hpost).trans ?_)
    refine if_congr ?_ rfl rfl
    rw [hshape, Bool.true_and, Bool.and_eq_true]
  case refine_6 =>
    intro c m
    refine ⟨fun h => ?_, fun ho hm => ?_⟩
    · rw [exec_engConfRead hp, engConf_foreign h]
      dsimp only
      rw [show leBytes 4 0 = [0, 0, 0, 0] by decide +kernel]
    · obtain ⟨n, u, hn, hconf, hread⟩ := engConf_own ho hm
      rw [exec_engConfRead hp, hread]
      refine ⟨_, _, rfl, ?_, ?_, fun k hk => ?_, fun h => ?_⟩
      · rw [cl_setReg, hconf]
      · rw [reg_setReg_same]
        exact Nat.mod_eq_of_lt (by omega)
      · rw [cl_setReg, hconf, bumpConf_other _ _ hk]
      · rw [hn h, bumpConf_zero]

end Sys2Proof.Proofs

/-! PROOFS. The words of the engine instructions (R245, R246): each format's fields are read back from its word, and a decoded word is
the word of its instruction. -/

namespace Sys2Proof.Proofs

open Sys2Proof Sys2Proof.Machine Sys2Proof.Machine.Reg Sys2Proof.Laws

/-! Fields of a word as numbers. -/

theorem toNat_wf (w : Word) (lo n : Nat) : (wf w lo n).toNat = w.toNat / 2 ^ lo % 2 ^ n := by
  simp [wf, BitVec.extractLsb'_toNat, Nat.shiftRight_eq_div_pow]

theorem wf_eq_iff {w : Word} {lo n : Nat} {x : BitVec n} : wf w lo n = x ↔ w.toNat / 2 ^ lo % 2 ^ n = x.toNat := by
  rw [← BitVec.toNat_inj, toNat_wf]

theorem getLsbD_eq_iff {w : Word} {k : Nat} {b : Bool} : w.getLsbD k = b ↔ w.toNat / 2 ^ k % 2 = b.toNat := by
  rw [BitVec.getLsbD, Nat.testBit_eq_decide_div_mod_eq]
  cases b <;> simp

theorem zeroAnd_eq_some {w : Word} {lo n : Nat} {o : Option Instr} {i : Instr} :
    zeroAnd w lo n o = some i ↔ w.toNat / 2 ^ lo % 2 ^ n = 0 ∧ o = some i := by
  have h : wf w lo n = 0 ↔ w.toNat / 2 ^ lo % 2 ^ n = 0 := wf_eq_iff
  unfold zeroAnd
  split
  · rename_i hz
    exact ⟨fun e => ⟨h.1 hz, e⟩, And.right⟩
  · rename_i hz
    exact ⟨nofun, fun e => absurd (h.2 e.1) hz⟩

theorem onlyIf_eq_some {b : Bool} {o : Option Instr} {i : Instr} : onlyIf b o = some i ↔ b = true ∧ o = some i := by
  cases b <;> simp [onlyIf]

/-- What an encoder adds up: the opcode and each field at its place. -/
def fieldSum (op : Nat) (fields : List (Nat × Nat)) : Nat := fields.foldr (fun f n => f.1 * 2 ^ f.2 + n) (op * 2 ^ 26)

theorem fieldSum_nil (op : Nat) : fieldSum op [] = op * 2 ^ 26 := by rw [fieldSum, List.foldr_nil]

theorem fieldSum_cons (op v lo : Nat) (fs : List (Nat × Nat)) : fieldSum op ((v, lo) :: fs) = v * 2 ^ lo + fieldSum op fs := by
  rw [fieldSum, List.foldr_cons, fieldSum]

theorem word_eq_some {op : Nat} {fields : List (Nat × Nat)} {w : Word} :
    word op fields = some w ↔ fieldSum op fields % 2 ^ 32 = w.toNat := by
  rw [word, Option.some_inj, ← BitVec.toNat_inj, BitVec.toNat_ofNat, fieldSum]

/-! The layout of each format (R246): a word is a format's word of some fields exactly when it holds these fields and its zero fields
are 0. -/

section
variable {w : Word} {op fn : Nat}

theorem salu_layout {rd ra rb : BitVec 4} (hf : fn < 2 ^ 6) :
    word 0x01 [(rd.toNat, 22), (ra.toNat, 18), (rb.toNat, 14), (fn, 0)] = some w ↔ w.toNat / 2 ^ 26 = 0x01 ∧
      wf w 22 4 = rd ∧ wf w 18 4 = ra ∧ wf w 14 4 = rb ∧ w.toNat / 2 ^ 6 % 2 ^ 8 = 0 ∧ (wf w 0 6).toNat = fn := by
  simp only [word_eq_some, fieldSum_cons, fieldSum_nil, wf_eq_iff, toNat_wf]
  omega

theorem imm_layout {rd ra : BitVec 4} {imm : BitVec 18} (ho : op < 2 ^ 6) :
    word op [(rd.toNat, 22), (ra.toNat, 18), (imm.toNat, 0)] = some w ↔ w.toNat / 2 ^ 26 = op ∧
      wf w 22 4 = rd ∧ wf w 18 4 = ra ∧ wf w 0 18 = imm := by
  simp only [word_eq_some, fieldSum_cons, fieldSum_nil, wf_eq_iff]
  omega

theorem shi_layout {rd ra : BitVec 4} {sh : BitVec 5} (hf : fn < 2 ^ 2) :
    word 0x08 [(rd.toNat, 22), (ra.toNat, 18), (fn, 16), (sh.toNat, 0)] = some w ↔ w.toNat / 2 ^ 26 = 0x08 ∧
      wf w 22 4 = rd ∧ wf w 18 4 = ra ∧ (wf w 16 2).toNat = fn ∧ w.toNat / 2 ^ 5 % 2 ^ 11 = 0 ∧ wf w 0 5 = sh := by
  simp only [word_eq_some, fieldSum_cons, fieldSum_nil, wf_eq_iff, toNat_wf]
  omega

theorem lui_layout {rd : BitVec 4} {imm : BitVec 16} :
    word 0x09 [(rd.toNat, 22), (imm.toNat, 0)] = some w ↔ w.toNat / 2 ^ 26 = 0x09 ∧
      wf w 22 4 = rd ∧ w.toNat / 2 ^ 16 % 2 ^ 6 = 0 ∧ wf w 0 16 = imm := by
  simp only [word_eq_some, fieldSum_cons, fieldSum_nil, wf_eq_iff]
  omega

theorem br_layout {ra rb : BitVec 4} {cond : BitVec 3} {off : BitVec 15} :
    word 0x0A [(ra.toNat, 22), (rb.toNat, 18), (cond.toNat, 15), (off.toNat, 0)] = some w ↔ w.toNat / 2 ^ 26 = 0x0A ∧
      wf w 22 4 = ra ∧ wf w 18 4 = rb ∧ wf w 15 3 = cond ∧ wf w 0 15 = off := by
  simp only [word_eq_some, fieldSum_cons, fieldSum_nil, wf_eq_iff]
  omega

theorem jal_layout {off : BitVec 26} :
    word 0x0B [(off.toNat, 0)] = some w ↔ w.toNat / 2 ^ 26 = 0x0B ∧ wf w 0 26 = off := by
  simp only [word_eq_some, fieldSum_cons, fieldSum_nil, wf_eq_iff]
  omega

theorem jalr_layout {rd ra : BitVec 4} :
    word 0x0C [(rd.toNat, 22), (ra.toNat, 18)] = some w ↔ w.toNat / 2 ^ 26 = 0x0C ∧
      wf w 22 4 = rd ∧ wf w 18 4 = ra ∧ w.toNat / 2 ^ 0 % 2 ^ 18 = 0 := by
  simp only [word_eq_some, fieldSum_cons, fieldSum_nil, wf_eq_iff]
  omega

theorem loop_layout {rc : BitVec 4} {count : BitVec 12} {len : BitVec 10} :
    word 0x0D [(rc.toNat, 22), (count.toNat, 10), (len.toNat, 0)] = some w ↔ w.toNat / 2 ^ 26 = 0x0D ∧
      wf w 22 4 = rc ∧ wf w 10 12 = count ∧ wf w 0 10 = len := by
  simp only [word_eq_some, fieldSum_cons, fieldSum_nil, wf_eq_iff]
  omega

theorem csr_layout {rd ra : BitVec 4} {csr : BitVec 12} (hf : fn < 2 ^ 2) :
    word 0x0F [(rd.toNat, 22), (ra.toNat, 18), (fn, 16), (csr.toNat, 0)] = some w ↔ w.toNat / 2 ^ 26 = 0x0F ∧
      wf w 22 4 = rd ∧ wf w 18 4 = ra ∧ (wf w 16 2).toNat = fn ∧ w.toNat / 2 ^ 12 % 2 ^ 4 = 0 ∧ wf w 0 12 = csr := by
  simp only [word_eq_some, fieldSum_cons, fieldSum_nil, wf_eq_iff, toNat_wf]
  omega

theorem scalarMem_layout {r ra : BitVec 4} {off : BitVec 14} (ho : op < 2 ^ 6) (hf : fn < 2 ^ 4) :
    word op [(r.toNat, 22), (ra.toNat, 18), (fn, 14), (off.toNat, 0)] = some w ↔ w.toNat / 2 ^ 26 = op ∧
      wf w 22 4 = r ∧ wf w 18 4 = ra ∧ (wf w 14 4).toNat = fn ∧ wf w 0 14 = off := by
  simp only [word_eq_some, fieldSum_cons, fieldSum_nil, wf_eq_iff, toNat_wf]
  omega

theorem vectorMem_layout {v : BitVec 5} {ra : BitVec 4} {pg : BitVec 3} {off : BitVec 14} (ho : op < 2 ^ 6) :
    word op [(v.toNat, 21), (ra.toNat, 17), (pg.toNat, 14), (off.toNat, 0)] = some w ↔ w.toNat / 2 ^ 26 = op ∧
      wf w 21 5 = v ∧ wf w 17 4 = ra ∧ wf w 14 3 = pg ∧ wf w 0 14 = off := by
  simp only [word_eq_some, fieldSum_cons, fieldSum_nil, wf_eq_iff]
  omega

theorem valu_layout {vd va vb : BitVec 5} {pg : BitVec 3} {src : BitVec 2} (hf : fn < 2 ^ 6) :
    valuWord vd va vb pg src fn = some w ↔ w.toNat / 2 ^ 26 = 0x14 ∧ wf w 21 5 = vd ∧ wf w 16 5 = va ∧ wf w 11 5 = vb ∧
      wf w 8 3 = pg ∧ wf w 6 2 = src ∧ (wf w 0 6).toNat = fn := by
  simp only [valuWord, word_eq_some, fieldSum_cons, fieldSum_nil, wf_eq_iff, toNat_wf]
  omega

theorem vcmp_layout {pd : BitVec 3} {va vb : BitVec 5} {pg : BitVec 3} {src : BitVec 2} {cond : BitVec 4} :
    word 0x15 [(pd.toNat, 23), (va.toNat, 18), (vb.toNat, 13), (pg.toNat, 10), (src.toNat, 8), (cond.toNat, 0)] = some w ↔
      w.toNat / 2 ^ 26 = 0x15 ∧ wf w 23 3 = pd ∧ wf w 18 5 = va ∧ wf w 13 5 = vb ∧ wf w 10 3 = pg ∧ wf w 8 2 = src ∧
        w.toNat / 2 ^ 4 % 2 ^ 4 = 0 ∧ wf w 0 4 = cond := by
  simp only [word_eq_some, fieldSum_cons, fieldSum_nil, wf_eq_iff]
  omega

theorem plog_layout {pd pa pb : BitVec 3} {sa : BitVec 4} (hf : fn < 2 ^ 4) :
    word 0x16 [(pd.toNat, 23), (pa.toNat, 20), (pb.toNat, 17), (sa.toNat, 13), (fn, 0)] = some w ↔ w.toNat / 2 ^ 26 = 0x16 ∧
      wf w 23 3 = pd ∧ wf w 20 3 = pa ∧ wf w 17 3 = pb ∧ wf w 13 4 = sa ∧ w.toNat / 2 ^ 4 % 2 ^ 9 = 0 ∧ (wf w 0 4).toNat = fn := by
  simp only [word_eq_some, fieldSum_cons, fieldSum_nil, wf_eq_iff, toNat_wf]
  omega

theorem vmove_layout {vd va vb : BitVec 5} {ps : BitVec 3} (hf : fn < 2 ^ 4) :
    word 0x17 [(vd.toNat, 21), (va.toNat, 16), (vb.toNat, 11), (ps.toNat, 8), (fn, 0)] = some w ↔ w.toNat / 2 ^ 26 = 0x17 ∧
      wf w 21 5 = vd ∧ wf w 16 5 = va ∧ wf w 11 5 = vb ∧ wf w 8 3 = ps ∧ w.toNat / 2 ^ 4 % 2 ^ 4 = 0 ∧ (wf w 0 4).toNat = fn := by
  simp only [word_eq_some, fieldSum_cons, fieldSum_nil, wf_eq_iff, toNat_wf]
  omega

theorem mac_layout {ad : BitVec 2} {va vb : BitVec 5} {pg : BitVec 3} {src sgn : BitVec 2} (hf : fn < 2 ^ 2) :
    macWord ad va vb pg src sgn fn = some w ↔ w.toNat / 2 ^ 26 = 0x18 ∧ wf w 24 2 = ad ∧ wf w 19 5 = va ∧ wf w 14 5 = vb ∧
      wf w 11 3 = pg ∧ wf w 9 2 = src ∧ wf w 7 2 = sgn ∧ w.toNat / 2 ^ 2 % 2 ^ 5 = 0 ∧ (wf w 0 2).toNat = fn := by
  simp only [macWord, word_eq_some, fieldSum_cons, fieldSum_nil, wf_eq_iff, toNat_wf]
  omega

theorem aext_layout {vd : BitVec 5} {ad : BitVec 2} {pg : BitVec 3} {sh : BitVec 6} {rnd : Bool} {sat : BitVec 2} :
    word 0x19 [(vd.toNat, 21), (ad.toNat, 19), (pg.toNat, 16), (sh.toNat, 10), (rnd.toNat, 9), (sat.toNat, 7)] = some w ↔
      w.toNat / 2 ^ 26 = 0x19 ∧ wf w 21 5 = vd ∧ wf w 19 2 = ad ∧ wf w 16 3 = pg ∧ wf w 10 6 = sh ∧ w.getLsbD 9 = rnd ∧
        wf w 7 2 = sat ∧ w.toNat / 2 ^ 0 % 2 ^ 7 = 0 := by
  have hb : rnd.toNat ≤ 1 := rnd.toNat_le
  simp only [word_eq_some, fieldSum_cons, fieldSum_nil, wf_eq_iff, getLsbD_eq_iff]
  omega

theorem vlut_layout {vd va : BitVec 5} {ra sh : BitVec 4} {pg : BitVec 3} {sgn : Bool} :
    word 0x1A [(vd.toNat, 21), (va.toNat, 16), (ra.toNat, 12), (sh.toNat, 8), (pg.toNat, 5), (sgn.toNat, 4)] = some w ↔
      w.toNat / 2 ^ 26 = 0x1A ∧ wf w 21 5 = vd ∧ wf w 16 5 = va ∧ wf w 12 4 = ra ∧ wf w 8 4 = sh ∧ wf w 5 3 = pg ∧
        w.getLsbD 4 = sgn ∧ w.toNat / 2 ^ 0 % 2 ^ 4 = 0 := by
  have hb : sgn.toNat ≤ 1 := sgn.toNat_le
  simp only [word_eq_some, fieldSum_cons, fieldSum_nil, wf_eq_iff, getLsbD_eq_iff]
  omega

theorem vlut2_layout {vd va vb : BitVec 5} {ra sh : BitVec 4} {pg : BitVec 3} (ho : op < 2 ^ 6) :
    word op [(vd.toNat, 21), (va.toNat, 16), (vb.toNat, 11), (ra.toNat, 7), (sh.toNat, 3), (pg.toNat, 0)] = some w ↔
      w.toNat / 2 ^ 26 = op ∧ wf w 21 5 = vd ∧ wf w 16 5 = va ∧ wf w 11 5 = vb ∧ wf w 7 4 = ra ∧ wf w 3 4 = sh ∧ wf w 0 3 = pg := by
  simp only [word_eq_some, fieldSum_cons, fieldSum_nil, wf_eq_iff]
  omega

theorem vrnd_layout {vd : BitVec 5} {pg : BitVec 3} :
    word 0x1D [(vd.toNat, 21), (pg.toNat, 0)] = some w ↔ w.toNat / 2 ^ 26 = 0x1D ∧
      wf w 21 5 = vd ∧ w.toNat / 2 ^ 3 % 2 ^ 18 = 0 ∧ wf w 0 3 = pg := by
  simp only [word_eq_some, fieldSum_cons, fieldSum_nil, wf_eq_iff]
  omega

theorem strm_layout {vd : BitVec 5} {pd : BitVec 3} (hf : fn < 2 ^ 4) :
    word 0x1E [(vd.toNat, 21), (pd.toNat, 18), (fn, 0)] = some w ↔ w.toNat / 2 ^ 26 = 0x1E ∧
      wf w 21 5 = vd ∧ wf w 18 3 = pd ∧ w.toNat / 2 ^ 4 % 2 ^ 14 = 0 ∧ (wf w 0 4).toNat = fn := by
  simp only [word_eq_some, fieldSum_cons, fieldSum_nil, wf_eq_iff, toNat_wf]
  omega

end

/-! Words to instructions: an engine reads an instruction's word back as that instruction. -/

section
variable {w : Word} {g fn : Nat} {i : Instr}

theorem decode_salu {rd ra rb : BitVec 4} (h : word 0x01 [(rd.toNat, 22), (ra.toNat, 18), (rb.toNat, 14), (fn, 0)] = some w)
    (hi : saluOf g rd ra rb fn = some i) (hf : fn < 2 ^ 6) : decodeEngine g w = some i := by
  obtain ⟨hop, hrd, hra, hrb, hz, hfn⟩ := (salu_layout hf).1 h
  simp only [decodeEngine, hop, hrd, hra, hrb, hfn]
  exact zeroAnd_eq_some.2 ⟨hz, hi⟩

theorem decode_shi {rd ra : BitVec 4} {sh : BitVec 5} (h : word 0x08 [(rd.toNat, 22), (ra.toNat, 18), (fn, 16), (sh.toNat, 0)] = some w)
    (hi : shiOf g rd ra sh fn = some i) (hf : fn < 2 ^ 2) : decodeEngine g w = some i := by
  obtain ⟨hop, hrd, hra, hfn, hz, hsh⟩ := (shi_layout hf).1 h
  simp only [decodeEngine, hop, hrd, hra, hsh, hfn]
  exact zeroAnd_eq_some.2 ⟨hz, hi⟩

/-- CTRL's words name the fields that their function uses (R264). -/
theorem decode_ctrl {rd ch : BitVec 4} (hop : w.toNat / 2 ^ 26 = 0x0E) (hz : w.toNat / 2 ^ 4 % 2 ^ 14 = 0)
    (hfn : w.toNat / 2 ^ 0 % 2 ^ 4 = fn) (hrd : wf w 22 4 = rd) (hch : wf w 18 4 = ch) (hi : ctrlOf g rd ch fn = some i) :
    decodeEngine g w = some i := by
  simp only [decodeEngine, hop, hrd, hch, toNat_wf, hfn]
  exact zeroAnd_eq_some.2 ⟨hz, hi⟩

theorem decode_csr {rd ra : BitVec 4} {csr : BitVec 12}
    (h : word 0x0F [(rd.toNat, 22), (ra.toNat, 18), (fn, 16), (csr.toNat, 0)] = some w)
    (hi : csrOf g rd ra csr fn = some i) (hf : fn < 2 ^ 2) : decodeEngine g w = some i := by
  obtain ⟨hop, hrd, hra, hfn, hz, hcsr⟩ := (csr_layout hf).1 h
  simp only [decodeEngine, hop, hrd, hra, hcsr, hfn]
  exact zeroAnd_eq_some.2 ⟨hz, hi⟩

theorem decode_sld {rd ra : BitVec 4} {off : BitVec 14}
    (h : word 0x10 [(rd.toNat, 22), (ra.toNat, 18), (fn, 14), (off.toNat, 0)] = some w)
    (hi : sldOf g rd ra off fn = some i) (hf : fn < 2 ^ 4) : decodeEngine g w = some i := by
  obtain ⟨hop, hrd, hra, hfn, hoff⟩ := (scalarMem_layout (by decide) hf).1 h
  simp only [decodeEngine, hop, hrd, hra, hoff, hfn]
  exact hi

theorem decode_sst {rb ra : BitVec 4} {off : BitVec 14}
    (h : word 0x11 [(rb.toNat, 22), (ra.toNat, 18), (fn, 14), (off.toNat, 0)] = some w)
    (hi : sstOf g rb ra off fn = some i) (hf : fn < 2 ^ 4) : decodeEngine g w = some i := by
  obtain ⟨hop, hrb, hra, hfn, hoff⟩ := (scalarMem_layout (by decide) hf).1 h
  simp only [decodeEngine, hop, hrb, hra, hoff, hfn]
  exact hi

theorem decode_valu {vd va vb : BitVec 5} {pg : BitVec 3} {src : BitVec 2} (h : valuWord vd va vb pg src fn = some w)
    (hs : srcOk src vb = true) (hi : valuOf g vd va vb pg src fn = some i) (hf : fn < 2 ^ 6) : decodeEngine g w = some i := by
  obtain ⟨hop, hvd, hva, hvb, hpg, hsrc, hfn⟩ := (valu_layout hf).1 h
  simp only [decodeEngine, hop, hvd, hva, hvb, hpg, hsrc, hfn]
  exact onlyIf_eq_some.2 ⟨hs, hi⟩

theorem decode_plog {pd pa pb : BitVec 3} {sa : BitVec 4}
    (h : word 0x16 [(pd.toNat, 23), (pa.toNat, 20), (pb.toNat, 17), (sa.toNat, 13), (fn, 0)] = some w)
    (hi : plogOf g pd pa pb sa fn = some i) (hf : fn < 2 ^ 4) : decodeEngine g w = some i := by
  obtain ⟨hop, hpd, hpa, hpb, hsa, hz, hfn⟩ := (plog_layout hf).1 h
  simp only [decodeEngine, hop, hpd, hpa, hpb, hsa, hfn]
  exact zeroAnd_eq_some.2 ⟨hz, hi⟩

/-- VMOVE's VRED functions name an s-register: bit 4 of vd is a zero field (R255). -/
theorem vmove_codes {vd : BitVec 5} (hvd : wf w 21 5 = vd) (hfn : (wf w 0 4).toNat = fn) :
    (decide (wf w 0 4 < 4) || !w.getLsbD 25) = true ↔ fn < 4 ∨ vd.toNat < 16 := by
  have hlt : wf w 0 4 < 4 ↔ fn < 4 := hfn ▸ Iff.rfl
  rw [Bool.or_eq_true, decide_eq_true_iff, hlt, Bool.not_eq_true', getLsbD_eq_iff, ← hvd, toNat_wf, Bool.toNat_false]
  omega

theorem decode_vmove {vd va vb : BitVec 5} {ps : BitVec 3}
    (h : word 0x17 [(vd.toNat, 21), (va.toNat, 16), (vb.toNat, 11), (ps.toNat, 8), (fn, 0)] = some w) (hv : fn < 4 ∨ vd.toNat < 16)
    (hi : vmoveOf g vd va vb ps fn = some i) (hf : fn < 2 ^ 4) : decodeEngine g w = some i := by
  obtain ⟨hop, hvd, hva, hvb, hps, hz, hfn⟩ := (vmove_layout hf).1 h
  have hc := (vmove_codes hvd hfn).2 hv
  simp only [decodeEngine, hop, hvd, hva, hvb, hps, hfn]
  exact onlyIf_eq_some.2 ⟨hc, zeroAnd_eq_some.2 ⟨hz, hi⟩⟩

theorem decode_mac {ad : BitVec 2} {va vb : BitVec 5} {pg : BitVec 3} {src sgn : BitVec 2} (h : macWord ad va vb pg src sgn fn = some w)
    (hs : (srcOk src vb && sgn != 3) = true) (hi : vmacOf g ad va vb pg src sgn fn = some i) (hf : fn < 2 ^ 2) :
    decodeEngine g w = some i := by
  obtain ⟨hop, had, hva, hvb, hpg, hsrc, hsgn, hz, hfn⟩ := (mac_layout hf).1 h
  simp only [decodeEngine, hop, had, hva, hvb, hpg, hsrc, hsgn, hfn]
  exact onlyIf_eq_some.2 ⟨hs, zeroAnd_eq_some.2 ⟨hz, hi⟩⟩

theorem decode_strm {vd : BitVec 5} {pd : BitVec 3} (h : word 0x1E [(vd.toNat, 21), (pd.toNat, 18), (fn, 0)] = some w)
    (hi : strmOf g vd pd fn = some i) (hf : fn < 2 ^ 4) : decodeEngine g w = some i := by
  obtain ⟨hop, hvd, hpd, hz, hfn⟩ := (strm_layout hf).1 h
  simp only [decodeEngine, hop, hvd, hpd, hfn]
  exact zeroAnd_eq_some.2 ⟨hz, hi⟩

end

/-- Settles O40: each instruction by the layout of its format. -/
theorem engineWordsRoundTrip : Obligations.EngineWordsRoundTrip := by
  intro i w hwf h hp
  cases i
  case saluAdd | saluSub | saluAnd | saluOr | saluXor | saluSll | saluSrl | saluSra | saluSlt | saluSltu | saluMul | saluMulh
      | saluMulhu | saluMin | saluMax | saluMinu | saluMaxu => exact ⟨_, rfl, decode_salu h rfl (by decide)⟩
  case addi | slti | sltiu | andi | ori | xori =>
    obtain ⟨hop, hrd, hra, himm⟩ := (imm_layout (by decide)).1 h
    exact ⟨_, rfl, by simp only [decodeEngine, hop, hrd, hra, himm]⟩
  case slli | srli | srai => exact ⟨_, rfl, decode_shi h rfl (by decide)⟩
  case lui =>
    obtain ⟨hop, hrd, hz, himm⟩ := lui_layout.1 h
    refine ⟨_, rfl, ?_⟩
    simp only [decodeEngine, hop, hrd, himm]
    exact zeroAnd_eq_some.2 ⟨hz, rfl⟩
  case br =>
    obtain ⟨hop, hra, hrb, hcond, hoff⟩ := br_layout.1 h
    refine ⟨_, rfl, ?_⟩
    simp only [decodeEngine, hop, hra, hrb, hcond, hoff]
    exact onlyIf_eq_some.2 ⟨(Bool.and_eq_true_iff.1 hwf).2, rfl⟩
  case jal =>
    obtain ⟨hop, hoff⟩ := jal_layout.1 h
    exact ⟨_, rfl, by simp only [decodeEngine, hop, hoff]⟩
  case jalr =>
    obtain ⟨hop, hrd, hra, hz⟩ := jalr_layout.1 h
    refine ⟨_, rfl, ?_⟩
    simp only [decodeEngine, hop, hrd, hra]
    exact zeroAnd_eq_some.2 ⟨hz, rfl⟩
  case loop =>
    obtain ⟨hop, hrc, hcount, hlen⟩ := loop_layout.1 h
    exact ⟨_, rfl, by simp only [decodeEngine, hop, hrc, hcount, hlen]⟩
  case ctrlNop | halt | fence =>
    have hw := word_eq_some.1 h
    simp only [fieldSum_cons, fieldSum_nil] at hw
    exact ⟨_, rfl, decode_ctrl (by omega) (by omega) rfl rfl rfl (by rw [← hw]; rfl)⟩
  case waitl rd =>
    have hw := word_eq_some.1 h
    simp only [fieldSum_cons, fieldSum_nil] at hw
    exact ⟨_, rfl, decode_ctrl (fn := 1) (by omega) (by omega) (by omega) (wf_eq_iff.2 (by omega)) rfl rfl⟩
  case sig ch =>
    have hw := word_eq_some.1 h
    simp only [fieldSum_cons, fieldSum_nil] at hw
    exact ⟨_, rfl, decode_ctrl (fn := 2) (by omega) (by omega) (by omega) rfl (wf_eq_iff.2 (by omega)) rfl⟩
  case csrRead | csrWrite | csrSet | csrClear => exact ⟨_, rfl, decode_csr h rfl (by decide)⟩
  case lb | lbu | lh | lhu | lw => exact ⟨_, rfl, decode_sld h rfl (by decide)⟩
  case sb | sh | sw => exact ⟨_, rfl, decode_sst h rfl (by decide)⟩
  case vld vd ra pg off perr =>
    cases perr with
    | some p => exact (hp _ _ _ _ _ _ rfl).elim
    | none =>
      obtain ⟨hop, hvd, hra, hpg, hoff⟩ := (vectorMem_layout (by decide)).1 h
      exact ⟨_, rfl, by simp only [decodeEngine, hop, hvd, hra, hpg, hoff]⟩
  case vst =>
    obtain ⟨hop, hvb, hra, hpg, hoff⟩ := (vectorMem_layout (by decide)).1 h
    exact ⟨_, rfl, by simp only [decodeEngine, hop, hvb, hra, hpg, hoff]⟩
  case valuAdd | valuSub | addss | subss | addus | subus | mullo | mulhs | valuMulhu | valuMin | valuMax | valuMinu | valuMaxu
      | valuAnd | valuOr | valuXor | valuAndn | valuSll | valuSrl | valuSra | srar | absdu | avgu | vmov =>
    exact ⟨_, rfl, decode_valu h (Bool.and_eq_true_iff.1 hwf).2 rfl (by decide)⟩
  case vcmp =>
    obtain ⟨hop, hpd, hva, hvb, hpg, hsrc, hz, hcond⟩ := vcmp_layout.1 h
    obtain ⟨hgc, hs⟩ := Bool.and_eq_true_iff.1 hwf
    obtain ⟨-, hc⟩ := Bool.and_eq_true_iff.1 hgc
    refine ⟨_, rfl, ?_⟩
    simp only [decodeEngine, hop, hpd, hva, hvb, hpg, hsrc, hcond]
    exact onlyIf_eq_some.2 ⟨Bool.and_eq_true_iff.2 ⟨hs, hc⟩, zeroAnd_eq_some.2 ⟨hz, rfl⟩⟩
  case plogAnd | plogOr | plogXor | plogAndn | plogNot | froms | tos | cnt | firstn => exact ⟨_, rfl, decode_plog h rfl (by decide)⟩
  case vsel | vperm | vbcst | vbcsts => exact ⟨_, rfl, decode_vmove h (.inl (by decide)) rfl (by decide)⟩
  case vredAdd | vredAddu | vredMin | vredMax | vredMinu | vredMaxu =>
    exact ⟨_, rfl, decode_vmove h (.inr (of_decide_eq_true (Bool.and_eq_true_iff.1 hwf).2)) rfl (by decide)⟩
  case vmul | vmac | vmsu | aclr =>
    obtain ⟨hgs, hn⟩ := Bool.and_eq_true_iff.1 hwf
    obtain ⟨-, hs⟩ := Bool.and_eq_true_iff.1 hgs
    exact ⟨_, rfl, decode_mac h (Bool.and_eq_true_iff.2 ⟨hs, hn⟩) rfl (by decide)⟩
  case aext =>
    obtain ⟨hop, hvd, had, hpg, hsh, hrnd, hsat, hz⟩ := aext_layout.1 h
    refine ⟨_, rfl, ?_⟩
    simp only [decodeEngine, hop, hvd, had, hpg, hsh, hrnd, hsat]
    exact zeroAnd_eq_some.2 ⟨hz, rfl⟩
  case vlut =>
    obtain ⟨hop, hvd, hva, hra, hsh, hpg, hsgn, hz⟩ := vlut_layout.1 h
    refine ⟨_, rfl, ?_⟩
    simp only [decodeEngine, hop, hvd, hva, hra, hsh, hpg, hsgn]
    exact zeroAnd_eq_some.2 ⟨hz, rfl⟩
  case vlut2u | vlut2s =>
    obtain ⟨hop, hvd, hva, hvb, hra, hsh, hpg⟩ := (vlut2_layout (by decide)).1 h
    exact ⟨_, rfl, by simp only [decodeEngine, hop, hvd, hva, hvb, hra, hsh, hpg]⟩
  case vrnd =>
    obtain ⟨hop, hvd, hz, hpg⟩ := vrnd_layout.1 h
    refine ⟨_, rfl, ?_⟩
    simp only [decodeEngine, hop, hvd, hpg]
    exact zeroAnd_eq_some.2 ⟨hz, rfl⟩
  case pget | pput | sget => exact ⟨_, rfl, decode_strm h rfl (by decide)⟩
  all_goals cases h

/-! Instructions from words: what a decoder's function answers is well-formed, and its word has the fields that were read. -/

/-- A well-formed instruction of engine g, with its word. -/
structure ReadAs (g : Nat) (i : Instr) (o : Option Word) : Prop where
  wf : i.wf = true
  engine : i.engine? = some g
  word : encodeEngine i = o

theorem ReadAs.of_word {g : Nat} {i : Instr} {o : Option Word} {w : Word} (h : ReadAs g i o) (ho : o = some w) : ReadAs g i (some w) :=
  ho ▸ h

section
variable {g n : Nat} {i : Instr} (hg : engOk g = true)
include hg

theorem saluOf_readAs {rd ra rb : BitVec 4} (h : saluOf g rd ra rb n = some i) :
    ReadAs g i (word 0x01 [(rd.toNat, 22), (ra.toNat, 18), (rb.toNat, 14), (n, 0)]) := by
  unfold saluOf at h
  split at h <;> cases h <;> exact ⟨hg, rfl, rfl⟩

theorem shiOf_readAs {rd ra : BitVec 4} {sh : BitVec 5} (h : shiOf g rd ra sh n = some i) :
    ReadAs g i (word 0x08 [(rd.toNat, 22), (ra.toNat, 18), (n, 16), (sh.toNat, 0)]) := by
  unfold shiOf at h
  split at h <;> cases h <;> exact ⟨hg, rfl, rfl⟩

theorem ctrlOf_wf {rd ch : BitVec 4} (h : ctrlOf g rd ch n = some i) : i.wf = true ∧ i.engine? = some g := by
  unfold ctrlOf at h
  split at h <;> cases h <;> exact ⟨hg, rfl⟩

theorem csrOf_readAs {rd ra : BitVec 4} {csr : BitVec 12} (h : csrOf g rd ra csr n = some i) :
    ReadAs g i (word 0x0F [(rd.toNat, 22), (ra.toNat, 18), (n, 16), (csr.toNat, 0)]) := by
  unfold csrOf at h
  split at h <;> cases h <;> exact ⟨hg, rfl, rfl⟩

theorem sldOf_readAs {rd ra : BitVec 4} {off : BitVec 14} (h : sldOf g rd ra off n = some i) :
    ReadAs g i (word 0x10 [(rd.toNat, 22), (ra.toNat, 18), (n, 14), (off.toNat, 0)]) := by
  unfold sldOf at h
  split at h <;> cases h <;> exact ⟨hg, rfl, rfl⟩

theorem sstOf_readAs {rb ra : BitVec 4} {off : BitVec 14} (h : sstOf g rb ra off n = some i) :
    ReadAs g i (word 0x11 [(rb.toNat, 22), (ra.toNat, 18), (n, 14), (off.toNat, 0)]) := by
  unfold sstOf at h
  split at h <;> cases h <;> exact ⟨hg, rfl, rfl⟩

theorem valuOf_readAs {vd va vb : BitVec 5} {pg : BitVec 3} {src : BitVec 2} (hs : srcOk src vb = true)
    (h : valuOf g vd va vb pg src n = some i) : ReadAs g i (valuWord vd va vb pg src n) := by
  have hwf : (engOk g && srcOk src vb) = true := Bool.and_eq_true_iff.2 ⟨hg, hs⟩
  unfold valuOf at h
  split at h <;> cases h <;> exact ⟨hwf, rfl, rfl⟩

theorem plogOf_readAs {pd pa pb : BitVec 3} {sa : BitVec 4} (h : plogOf g pd pa pb sa n = some i) :
    ReadAs g i (word 0x16 [(pd.toNat, 23), (pa.toNat, 20), (pb.toNat, 17), (sa.toNat, 13), (n, 0)]) := by
  unfold plogOf at h
  split at h <;> cases h <;> exact ⟨hg, rfl, rfl⟩

theorem vmoveOf_readAs {vd va vb : BitVec 5} {ps : BitVec 3} (hv : n < 4 ∨ vd.toNat < 16) (h : vmoveOf g vd va vb ps n = some i) :
    ReadAs g i (word 0x17 [(vd.toNat, 21), (va.toNat, 16), (vb.toNat, 11), (ps.toNat, 8), (n, 0)]) := by
  unfold vmoveOf at h
  split at h
  case h_1 | h_2 | h_3 | h_4 =>
    cases h
    exact ⟨hg, rfl, rfl⟩
  case h_11 => cases h
  all_goals
    cases h
    have hlt : vd.toNat < 16 := hv.resolve_left (by decide)
    exact ⟨Bool.and_eq_true_iff.2 ⟨hg, decide_eq_true hlt⟩, rfl, rfl⟩

theorem vmacOf_readAs {ad : BitVec 2} {va vb : BitVec 5} {pg : BitVec 3} {src sgn : BitVec 2} (hs : (srcOk src vb && sgn != 3) = true)
    (h : vmacOf g ad va vb pg src sgn n = some i) : ReadAs g i (macWord ad va vb pg src sgn n) := by
  have hwf : (engOk g && srcOk src vb && sgn != 3) = true := by rw [Bool.and_assoc, hg, hs]; rfl
  unfold vmacOf at h
  split at h <;> cases h <;> exact ⟨hwf, rfl, rfl⟩

theorem strmOf_readAs {vd : BitVec 5} {pd : BitVec 3} (h : strmOf g vd pd n = some i) :
    ReadAs g i (word 0x1E [(vd.toNat, 21), (pd.toNat, 18), (n, 0)]) := by
  unfold strmOf at h
  split at h <;> cases h <;> exact ⟨hg, rfl, rfl⟩

end

theorem decodeEngine_ctrl {g : Nat} {w : Word} {i : Instr} (hg : engOk g = true) (hop : w.toNat / 2 ^ 26 = 0x0E)
    (h : decodeEngine g w = some i) : i.wf = true ∧ i.engine? = some g := by
  simp only [decodeEngine, hop] at h
  exact ctrlOf_wf hg (zeroAnd_eq_some.1 h).2

/-- Outside CTRL a word that an engine reads is the word of what it reads. -/
theorem decodeEngine_readAs {g : Nat} {w : Word} {i : Instr} (hg : engOk g = true) (hc : w.toNat / 2 ^ 26 ≠ 0x0E)
    (h : decodeEngine g w = some i) : ReadAs g i (some w) := by
  unfold decodeEngine at h
  split at h
  case h_1 hop =>
    obtain ⟨hz, h⟩ := zeroAnd_eq_some.1 h
    exact (saluOf_readAs hg h).of_word ((salu_layout (wf w 0 6).isLt).2 ⟨hop, rfl, rfl, rfl, hz, rfl⟩)
  case h_2 hop | h_3 hop | h_4 hop | h_5 hop | h_6 hop | h_7 hop =>
    cases h
    exact ⟨hg, rfl, (imm_layout (by decide)).2 ⟨hop, rfl, rfl, rfl⟩⟩
  case h_8 hop =>
    obtain ⟨hz, h⟩ := zeroAnd_eq_some.1 h
    exact (shiOf_readAs hg h).of_word ((shi_layout (wf w 16 2).isLt).2 ⟨hop, rfl, rfl, rfl, hz, rfl⟩)
  case h_9 hop =>
    obtain ⟨hz, h⟩ := zeroAnd_eq_some.1 h
    cases h
    exact ⟨hg, rfl, lui_layout.2 ⟨hop, rfl, hz, rfl⟩⟩
  case h_10 hop =>
    obtain ⟨hcond, h⟩ := onlyIf_eq_some.1 h
    cases h
    exact ⟨Bool.and_eq_true_iff.2 ⟨hg, hcond⟩, rfl, br_layout.2 ⟨hop, rfl, rfl, rfl, rfl⟩⟩
  case h_11 hop =>
    cases h
    exact ⟨hg, rfl, jal_layout.2 ⟨hop, rfl⟩⟩
  case h_12 hop =>
    obtain ⟨hz, h⟩ := zeroAnd_eq_some.1 h
    cases h
    exact ⟨hg, rfl, jalr_layout.2 ⟨hop, rfl, rfl, hz⟩⟩
  case h_13 hop =>
    cases h
    exact ⟨hg, rfl, loop_layout.2 ⟨hop, rfl, rfl, rfl⟩⟩
  case h_14 hop => exact absurd hop hc
  case h_15 hop =>
    obtain ⟨hz, h⟩ := zeroAnd_eq_some.1 h
    exact (csrOf_readAs hg h).of_word ((csr_layout (wf w 16 2).isLt).2 ⟨hop, rfl, rfl, rfl, hz, rfl⟩)
  case h_16 hop =>
    exact (sldOf_readAs hg h).of_word ((scalarMem_layout (by decide) (wf w 14 4).isLt).2 ⟨hop, rfl, rfl, rfl, rfl⟩)
  case h_17 hop =>
    exact (sstOf_readAs hg h).of_word ((scalarMem_layout (by decide) (wf w 14 4).isLt).2 ⟨hop, rfl, rfl, rfl, rfl⟩)
  case h_18 hop =>
    cases h
    exact ⟨Bool.and_eq_true_iff.2 ⟨hg, rfl⟩, rfl, (vectorMem_layout (by decide)).2 ⟨hop, rfl, rfl, rfl, rfl⟩⟩
  case h_19 hop =>
    cases h
    exact ⟨hg, rfl, (vectorMem_layout (by decide)).2 ⟨hop, rfl, rfl, rfl, rfl⟩⟩
  case h_20 hop =>
    obtain ⟨hs, h⟩ := onlyIf_eq_some.1 h
    exact (valuOf_readAs hg hs h).of_word ((valu_layout (wf w 0 6).isLt).2 ⟨hop, rfl, rfl, rfl, rfl, rfl, rfl⟩)
  case h_21 hop =>
    obtain ⟨hsc, h⟩ := onlyIf_eq_some.1 h
    obtain ⟨hs, hcond⟩ := Bool.and_eq_true_iff.1 hsc
    obtain ⟨hz, h⟩ := zeroAnd_eq_some.1 h
    cases h
    exact ⟨Bool.and_eq_true_iff.2 ⟨Bool.and_eq_true_iff.2 ⟨hg, hcond⟩, hs⟩, rfl,
      vcmp_layout.2 ⟨hop, rfl, rfl, rfl, rfl, rfl, hz, rfl⟩⟩
  case h_22 hop =>
    obtain ⟨hz, h⟩ := zeroAnd_eq_some.1 h
    exact (plogOf_readAs hg h).of_word ((plog_layout (wf w 0 4).isLt).2 ⟨hop, rfl, rfl, rfl, rfl, hz, rfl⟩)
  case h_23 hop =>
    obtain ⟨hcode, h⟩ := onlyIf_eq_some.1 h
    obtain ⟨hz, h⟩ := zeroAnd_eq_some.1 h
    exact (vmoveOf_readAs hg ((vmove_codes rfl rfl).1 hcode) h).of_word
      ((vmove_layout (wf w 0 4).isLt).2 ⟨hop, rfl, rfl, rfl, rfl, hz, rfl⟩)
  case h_24 hop =>
    obtain ⟨hs, h⟩ := onlyIf_eq_some.1 h
    obtain ⟨hz, h⟩ := zeroAnd_eq_some.1 h
    exact (vmacOf_readAs hg hs h).of_word ((mac_layout (wf w 0 2).isLt).2 ⟨hop, rfl, rfl, rfl, rfl, rfl, rfl, hz, rfl⟩)
  case h_25 hop =>
    obtain ⟨hz, h⟩ := zeroAnd_eq_some.1 h
    cases h
    exact ⟨hg, rfl, aext_layout.2 ⟨hop, rfl, rfl, rfl, rfl, rfl, rfl, hz⟩⟩
  case h_26 hop =>
    obtain ⟨hz, h⟩ := zeroAnd_eq_some.1 h
    cases h
    exact ⟨hg, rfl, vlut_layout.2 ⟨hop, rfl, rfl, rfl, rfl, rfl, rfl, hz⟩⟩
  case h_27 hop | h_28 hop =>
    cases h
    exact ⟨hg, rfl, (vlut2_layout (by decide)).2 ⟨hop, rfl, rfl, rfl, rfl, rfl, rfl⟩⟩
  case h_29 hop =>
    obtain ⟨hz, h⟩ := zeroAnd_eq_some.1 h
    cases h
    exact ⟨hg, rfl, vrnd_layout.2 ⟨hop, rfl, hz, rfl⟩⟩
  case h_30 hop =>
    obtain ⟨hz, h⟩ := zeroAnd_eq_some.1 h
    exact (strmOf_readAs hg h).of_word ((strm_layout (wf w 0 4).isLt).2 ⟨hop, rfl, rfl, hz, rfl⟩)
  case h_31 => cases h

/-- Settles O41: CTRL's words by `decodeEngine_ctrl`, all others by `decodeEngine_readAs`. -/
theorem decodedWordsAreWellFormed : Obligations.DecodedWordsAreWellFormed := by
  intro g w i hlt h
  have hg : engOk g = true := decide_eq_true hlt
  by_cases hc : w.toNat / 2 ^ 26 = 0x0E
  · obtain ⟨hwf, he⟩ := decodeEngine_ctrl hg hc h
    exact ⟨hwf, he, absurd hc⟩
  · obtain ⟨hwf, he, hw⟩ := decodeEngine_readAs hg hc h
    exact ⟨hwf, he, fun _ => hw⟩

end Sys2Proof.Proofs

/-! PROOFS. The scalar instructions of the engines: results in s-registers (R248), jumps (R249), LOOP (R250), loads and stores (R251) and
CSRs (R266, R267). -/

namespace Sys2Proof.Proofs

open Sys2Proof Sys2Proof.Machine Sys2Proof.Machine.Reg Sys2Proof.Laws

/-! Operations of machine words as operations of numbers, for every width. -/

section
variable {n : Nat}

theorem sub_eq_ofInt (a b : BitVec n) : a - b = BitVec.ofInt n ((a.toNat : Int) - b.toNat) := by
  rw [Int.sub_eq_add_neg, BitVec.ofInt_add, BitVec.ofInt_neg, BitVec.sub_eq_add_neg]
  simp

theorem add_ofInt (a : BitVec n) (p : Int) : a + BitVec.ofInt n p = BitVec.ofInt n (a.toInt + p) := by
  rw [BitVec.ofInt_add, BitVec.ofInt_toInt]

theorem sub_ofInt (a : BitVec n) (p : Int) : a - BitVec.ofInt n p = BitVec.ofInt n (a.toInt - p) := by
  rw [Int.sub_eq_add_neg, BitVec.ofInt_add, BitVec.ofInt_neg, BitVec.ofInt_toInt, BitVec.sub_eq_add_neg]

theorem mul_eq_ofNat (a b : BitVec n) : a * b = BitVec.ofNat n (a.toNat * b.toNat) := by
  simp [BitVec.ofNat_mul]

theorem shiftLeft_eq_ofNat (a : BitVec n) (k : Nat) : a <<< k = BitVec.ofNat n (a.toNat * 2 ^ k) := by
  apply BitVec.eq_of_toNat_eq
  simp [Nat.shiftLeft_eq]

theorem ushiftRight_eq_ofNat (a : BitVec n) (k : Nat) : a >>> k = BitVec.ofNat n (a.toNat / 2 ^ k) := by
  rw [← Nat.shiftRight_eq_div_pow, ← BitVec.toNat_ushiftRight, BitVec.ofNat_toNat, BitVec.setWidth_eq]

theorem sshiftRight_eq_ofInt (a : BitVec n) (k : Nat) : a.sshiftRight k = BitVec.ofInt n (a.toInt / 2 ^ k) := by
  have h := Int.shiftRight_eq_div_pow a.toInt k
  push_cast at h
  rw [← h, ← BitVec.toInt_sshiftRight, BitVec.ofInt_toInt]

theorem ite_slt_eq_min (a b : BitVec n) : (if b.slt a then b else a) = BitVec.ofInt n (min a.toInt b.toInt) := by
  rw [min_comm, min_def_lt]
  by_cases h : b.toInt < a.toInt <;> simp [BitVec.slt, h]

theorem ite_slt_eq_max (a b : BitVec n) : (if a.slt b then b else a) = BitVec.ofInt n (max a.toInt b.toInt) := by
  rw [max_def_lt]
  by_cases h : a.toInt < b.toInt <;> simp [BitVec.slt, h]

theorem ite_ult_eq_min (a b : BitVec n) : (if b.ult a then b else a) = BitVec.ofNat n (min a.toNat b.toNat) := by
  rw [min_comm, min_def_lt]
  by_cases h : b.toNat < a.toNat <;> simp [BitVec.ult, h]

theorem ite_ult_eq_max (a b : BitVec n) : (if a.ult b then b else a) = BitVec.ofNat n (max a.toNat b.toNat) := by
  rw [max_def_lt]
  by_cases h : a.toNat < b.toNat <;> simp [BitVec.ult, h]

end

theorem wordOf_slt (a b : Word) : wordOf (a.slt b) = if a.toInt < b.toInt then 1 else 0 := by simp [wordOf, BitVec.slt]

theorem wordOf_ult (a b : Word) : wordOf (a.ult b) = if a.toNat < b.toNat then 1 else 0 := by simp [wordOf, BitVec.ult]

theorem toInt_sxt {n : Nat} (h : n ≤ 32) (x : BitVec n) : (sxt x).toInt = x.toInt := BitVec.toInt_signExtend_of_le h

theorem add_sxt {n : Nat} (a : Word) (x : BitVec n) : a + sxt x = BitVec.ofInt 32 (a.toInt + x.toInt)  :=
  add_ofInt a x.toInt

theorem zxt_eq_ofNat {n : Nat} (x : BitVec n) : zxt x = BitVec.ofNat 32 x.toNat := (BitVec.ofNat_toNat ..).symm

theorem toNat_zxt {n : Nat} (h : n ≤ 32) (x : BitVec n) : (zxt x).toNat = x.toNat := BitVec.toNat_setWidth_of_le h

theorem shAmt_zxt (sh : BitVec 5) : shAmt (zxt sh) = sh.toNat := by
  rw [shAmt, toNat_zxt (by decide), Nat.mod_eq_of_lt sh.isLt]

/-! Results in s-registers (R244, R248). -/

/-- Register 0 ignores writes (R244). -/
theorem setS_eq_ite {n : Nat} (e : Eng) (rd : BitVec n) (x : Word) :
    e.setS rd.toNat x = if rd = 0 then e else { e with s := Sparse.set 0 e.s rd.toNat x } := by
  have hz : rd.toNat = 0 ↔ rd = 0 := by rw [← BitVec.toNat_inj]; simp
  exact if_congr hz rfl rfl

section
variable {s : State} {g : Nat}

theorem salu_result (h : s.straight g) {rd ra rb : BitVec 4} {f : Word → Word → Word} {x : Word}
    (hx : f ((s.en g).sreg ra.toNat) ((s.en g).sreg rb.toNat) = x) : Host.Outcome.next (s.salu g rd ra rb f) =
      (.next (s.stepped g (if rd = 0 then s.en g else { s.en g with s := Sparse.set 0 (s.en g).s rd.toNat x })) :
        Host.Outcome State Fault Refusal) := by
  rw [salu_straight h, hx, setS_eq_ite]

theorem saluImm_result (h : s.straight g) {rd ra : BitVec 4} {b : Word} {f : Word → Word → Word} {x : Word}
    (hx : f ((s.en g).sreg ra.toNat) b = x) : Host.Outcome.next (s.saluImm g rd ra b f) =
      (.next (s.stepped g (if rd = 0 then s.en g else { s.en g with s := Sparse.set 0 (s.en g).s rd.toNat x })) :
        Host.Outcome State Fault Refusal) := by
  rw [saluImm_straight h, hx, setS_eq_ite]

end

/-- Settles O24: each function by its operation on numbers. -/
theorem scalarResults : Obligations.ScalarResults := by
  intro s g rd ra rb h
  exact ⟨salu_result h rfl, salu_result h (sub_eq_ofInt ..), salu_result h rfl, salu_result h rfl, salu_result h rfl,
    salu_result h (shiftLeft_eq_ofNat ..), salu_result h (ushiftRight_eq_ofNat ..), salu_result h (sshiftRight_eq_ofInt ..),
    salu_result h (wordOf_slt ..), salu_result h (wordOf_ult ..), salu_result h (mul_eq_ofNat ..), salu_result h rfl,
    salu_result h rfl, salu_result h (ite_slt_eq_min ..), salu_result h (ite_slt_eq_max ..), salu_result h (ite_ult_eq_min ..),
    salu_result h (ite_ult_eq_max ..)⟩

/-- Settles O25: each form by its operation on numbers and its extended immediate. -/
theorem immediateResults : Obligations.ImmediateResults := by
  intro s g rd ra imm sh hi h
  refine ⟨saluImm_result h (add_sxt ..), saluImm_result h ?_, saluImm_result h (wordOf_ult ..),
    saluImm_result h (congrArg _ (zxt_eq_ofNat imm)), saluImm_result h (congrArg _ (zxt_eq_ofNat imm)),
    saluImm_result h (congrArg _ (zxt_eq_ofNat imm)), saluImm_result h ?_, saluImm_result h ?_, saluImm_result h ?_,
    saluImm_result h ?_⟩
  · rw [wordOf_slt, toInt_sxt (by decide)]
  · rw [shAmt_zxt, shiftLeft_eq_ofNat]
  · rw [shAmt_zxt, ushiftRight_eq_ofNat]
  · rw [shAmt_zxt, sshiftRight_eq_ofInt]
  · rw [shiftLeft_eq_ofNat, toNat_zxt (by decide)]

/-! Jumps (R249). -/

/-- The condition of a BR as its code names it (R249). -/
def brHolds (cond : BitVec 3) (a b : Word) : Prop :=
  (cond = 0 ∧ a = b) ∨ (cond = 1 ∧ a ≠ b) ∨ (cond = 2 ∧ a.toInt < b.toInt) ∨ (cond = 3 ∧ b.toInt ≤ a.toInt) ∨
    (cond = 4 ∧ a.toNat < b.toNat) ∨ (cond = 5 ∧ b.toNat ≤ a.toNat)

theorem brCond_eq_some {cond : BitVec 3} (hc : cond < 6) (a b : Word) : ∃ x, brCond cond a b = some x ∧ (x = true ↔ brHolds cond a b) := by
  obtain rfl | rfl | rfl | rfl | rfl | rfl : cond = 0 ∨ cond = 1 ∨ cond = 2 ∨ cond = 3 ∨ cond = 4 ∨ cond = 5 := by
    revert cond
    decide
  all_goals exact ⟨_, rfl, by simp [brHolds, BitVec.slt, BitVec.ult]⟩

theorem brCond_reserved {cond : BitVec 3} (hc : 6 ≤ cond) (a b : Word) : brCond cond a b = none := by
  obtain rfl | rfl : cond = 6 ∨ cond = 7 := by
    revert cond
    decide
  all_goals rfl

theorem brHolds_lt {cond : BitVec 3} {a b : Word} (h : brHolds cond a b) : cond < 6 := by
  obtain ⟨rfl, -⟩ | ⟨rfl, -⟩ | ⟨rfl, -⟩ | ⟨rfl, -⟩ | ⟨rfl, -⟩ | ⟨rfl, -⟩ := h <;> decide

section
variable {s : State} {g : Nat}

/-- A jump with an effect `f` on the engine that leaves its levels to the jump. -/
theorem jump_eq {f : Eng → Eng} (hl : (f (s.en g)).loops = (s.en g).loops) (t : Int) : s.jump g t f =
    if 0 ≤ t ∧ t < 4096 then
      s.setEn g { f (s.en g) with
        pc := BitVec.ofInt 12 t
        loops := ((s.en g).loops.reverse.takeWhile fun l => decide (l.start ≤ t) && decide (t ≤ l.stop)).reverse }
    else s.engFault g 4 := by
  refine ite_congr rfl (fun ht => ?_) fun _ => rfl
  obtain ⟨n, rfl⟩ := Int.eq_ofNat_of_zero_le ht.1
  simp [hl, keepLevels, LoopLv.has]

theorem next_jump {f : Eng → Eng} {x : Eng} (hx : f (s.en g) = x) (hl : x.loops = (s.en g).loops) (t : Int) :
    Host.Outcome.next (s.jump g t f) = (if 0 ≤ t ∧ t < 4096 then
      .next (s.setEn g { x with
        pc := BitVec.ofInt 12 t
        loops := ((s.en g).loops.reverse.takeWhile fun l => decide (l.start ≤ t) && decide (t ≤ l.stop)).reverse })
    else .next (s.engFault g 4) : Host.Outcome State Fault Refusal) := by
  subst hx
  rw [jump_eq hl, apply_ite Host.Outcome.next]

theorem exec_br (h : s.runs g) (ra rb : BitVec 4) (cond : BitVec 3) (off : BitVec 15) : exec (.br g ra rb cond off) s = .next (
    match brCond cond ((s.en g).sreg ra.toNat) ((s.en g).sreg rb.toNat) with
    | none => s.engFault g 1
    | some true => s.jump g ((s.en g).pc.toNat + off.toInt) id
    | some false => s.retire g) :=
  (congrArg Host.Outcome.next (onEngine_runs h _)).trans rfl

theorem exec_jal (h : s.runs g) (off : BitVec 26) : exec (.jal g off) s =
    .next (s.jump g ((s.en g).pc.toNat + off.toInt) fun e => e.setS 15 (BitVec.ofNat 32 ((s.en g).pc.toNat + 1))) :=
  congrArg Host.Outcome.next (onEngine_runs h _)

theorem exec_jalr (h : s.runs g) (rd ra : BitVec 4) : exec (.jalr g rd ra) s =
    .next (s.jump g ((s.en g).sreg ra.toNat).toNat fun e => e.setS rd.toNat (BitVec.ofNat 32 (e.pc.toNat + 1))) :=
  congrArg Host.Outcome.next (onEngine_runs h _)

theorem exec_ctrlNop (h : s.runs g) : exec (.ctrlNop g) s = .next (s.retire g) :=
  congrArg Host.Outcome.next (onEngine_runs h _)

/-- How an instruction retires at the engine's pc: the next index and the levels left open. -/
theorem retire_eq (s : State) (g : Nat) {t : Nat} {ls : List LoopLv} (h : loopBack (s.en g).pc.toNat (s.en g).loops = (t, ls)) (ht : t < 4096) :
    s.retire g = s.setEn g { s.en g with pc := BitVec.ofNat 12 t, loops := ls } := by
  simp only [State.retire, State.goTo, h, ht, if_true, en_setEn_same, setEn_setEn]

/-- A fault takes nothing from an engine that was put as it is. -/
theorem engFault_setEn_self (s : State) (g code : Nat) : (s.setEn g (s.en g)).engFault g code = s.engFault g code := by
  simp only [State.engFault, en_setEn_same, setEn_setEn]

theorem retire_past_end (hpc : (s.en g).pc.toNat = 4095) (hl : (s.en g).loops = []) : s.retire g = s.engFault g 4 := by
  have he : { s.en g with loops := [] } = s.en g := by rw [← hl]
  simp only [State.retire, State.goTo, hl, loopBack, hpc, he, engFault_setEn_self]
  exact if_neg (by decide)

end

/-- Settles O26: BR by its condition, JAL and JALR by `next_jump`, and a NOP at the last index by `retire_past_end`. -/
theorem branchesAndJumps : Obligations.BranchesAndJumps := by
  intro s g h
  refine ⟨fun ra rb cond off => ⟨fun hh => ?_, fun hc hn hs => ?_, fun hc => ?_⟩, fun off => ?_, fun rd ra => ?_, fun hpc hl => ?_⟩
  case refine_1 =>
    obtain ⟨x, hx, hiff⟩ := brCond_eq_some (brHolds_lt hh) ((s.en g).sreg ra.toNat) ((s.en g).sreg rb.toNat)
    rw [exec_br h, hx, hiff.2 hh]
    exact next_jump rfl rfl _
  case refine_2 =>
    obtain ⟨x, hx, hiff⟩ := brCond_eq_some hc ((s.en g).sreg ra.toNat) ((s.en g).sreg rb.toNat)
    rw [exec_br h, hx, Bool.eq_false_iff.2 (mt hiff.1 hn)]
    exact congrArg Host.Outcome.next (retire_straight hs)
  case refine_3 => rw [exec_br h, brCond_reserved hc]
  case refine_4 => exact (exec_jal h off).trans (next_jump rfl rfl _)
  case refine_5 =>
    refine (exec_jalr h rd ra).trans (next_jump (setS_eq_ite ..) ?_ _)
    split <;> rfl
  case refine_6 => rw [exec_ctrlNop h, retire_past_end hpc hl]

/-! LOOP (R250). -/

theorem loopBad_iff (e : Eng) (n : Nat) (len : BitVec 10) : loopBad e n len.toNat = true ↔
    len = 0 ∨ 4095 < e.pc.toNat + len.toNat ∨
      ((0x0A ≤ (e.code.getD (e.pc.toNat + len.toNat) 0).toNat / 2 ^ 26 ∧ (e.code.getD (e.pc.toNat + len.toNat) 0).toNat / 2 ^ 26 ≤ 0x0D) ∨
        ((e.code.getD (e.pc.toNat + len.toNat) 0).toNat / 2 ^ 26 = 0x0E ∧ (e.code.getD (e.pc.toNat + len.toNat) 0).toNat % 16 = 3)) ∨
      (n ≠ 0 ∧ (2 ≤ e.loops.length ∨ ∃ l, e.loops.head? = some l ∧ l.stop < e.pc.toNat + len.toNat)) := by
  have hlen : len.toNat = 0 ↔ len = 0 := by rw [← BitVec.toNat_inj]; rfl
  simp only [loopBad, endsBadly, Bool.or_eq_true, Bool.and_eq_true, beq_iff_eq, bne_iff_ne, decide_eq_true_eq, hlen, or_assoc]
  cases e.loops <;> simp

section
variable {s : State} {g : Nat}

theorem exec_loop (h : s.runs g) (rc : BitVec 4) (count : BitVec 12) (len : BitVec 10) : exec (.loop g rc count len) s =
    .next (s.loopOp g (if rc = 0 then count.toNat else ((s.en g).sreg rc.toNat).toNat % 65536) len.toNat) :=
  congrArg Host.Outcome.next (onEngine_runs h _)

theorem loopOp_bad {n len : Nat} (h : loopBad (s.en g) n len = true) : s.loopOp g n len = s.engFault g 1 := if_pos h

theorem loopOp_skips {len : Nat} (h : ¬ loopBad (s.en g) 0 len = true) (hl : (s.en g).pc.toNat + len < 4095) :
    s.loopOp g 0 len = s.setEn g { s.en g with pc := BitVec.ofNat 12 ((s.en g).pc.toNat + len + 1) } :=
  (if_neg h).trans ((if_pos rfl).trans (if_pos (by omega)))

theorem loopOp_opens {n len : Nat} (h : ¬ loopBad (s.en g) n len = true) (hn : n ≠ 0) (hpc : (s.en g).pc.toNat < 4095) :
    s.loopOp g n len = s.stepped g { s.en g with
      loops := { start := (s.en g).pc.toNat + 1, stop := (s.en g).pc.toNat + len, left := n } :: (s.en g).loops } := by
  have hlt : (s.en g).pc.toNat + 1 < 4096 := by omega
  have hnext : BitVec.ofNat 12 ((s.en g).pc.toNat + 1) = (s.en g).pc + 1 := rfl
  simp only [State.loopOp, if_neg h, if_neg hn, State.goTo, if_pos hlt, hnext, en_setEn_same, setEn_setEn, State.stepped]

end

/-- Settles O27: the LOOP by whether it is refused and whether it has passes, the end of a body by `retire_eq`. -/
theorem loopLevels : Obligations.LoopLevels := by
  intro s g h
  refine ⟨fun rc count len => ?_, fun l ls hls hstop hstart hleft => ?_, fun l ls hls hstop hleft hout hpc => ?_⟩
  case refine_1 =>
    intro n w control bad
    have hbad : loopBad (s.en g) n len.toNat = true ↔ bad := loopBad_iff ..
    have hexec : exec (.loop g rc count len) s = .next (s.loopOp g n len.toNat) := exec_loop h ..
    refine ⟨fun hb => ?_, fun hb hn hlt => ?_, fun hb hn => ?_⟩
    · rw [hexec, loopOp_bad (hbad.2 hb)]
    · rw [hn] at hexec hbad
      rw [hexec, loopOp_skips (mt hbad.1 hb) hlt]
    · have hlen : len.toNat ≠ 0 := fun e => hb (.inl (BitVec.eq_of_toNat_eq e))
      have hend : ¬ 4095 < (s.en g).pc.toNat + len.toNat := fun e => hb (.inr (.inl e))
      rw [hexec, loopOp_opens (mt hbad.1 hb) hn (by omega)]
  case refine_2 =>
    have hback : loopBack (s.en g).pc.toNat (s.en g).loops = (l.start, { l with left := l.left - 1 } :: ls) := by
      rw [hls, loopBack, if_pos hstop, if_pos hleft]
    rw [exec_ctrlNop h, retire_eq s g hback hstart]
  case refine_3 =>
    have hback : loopBack (s.en g).pc.toNat (s.en g).loops = ((s.en g).pc.toNat + 1, ls) := by
      rw [hls, loopBack, if_pos hstop, if_neg (by omega), loopBack_straight hout]
    rw [exec_ctrlNop h, retire_eq s g hback (by omega)]
    rfl

/-! Loads and stores (R251). -/

section
variable {s : State} {g : Nat}

theorem ea_eq (e : Eng) (ra : BitVec 4) (off : BitVec 14) :
    e.ea ra off = (BitVec.ofInt 32 ((e.sreg ra.toNat).toInt + off.toInt)).toNat := by
  rw [Eng.ea, add_sxt]

/-- The state after a load: one from the cluster window moves the counter of free values on. -/
def loaded (s : State) (a : Nat) : State := { s with free := if a < 0x10000 then s.free else s.free + 2 ^ 20 }

theorem straight_loaded (h : s.straight g) (a : Nat) : (loaded s a).straight g := straight_congr h rfl rfl rfl rfl

theorem addrOk_iff {a n : Nat} : addrOk a n = true ↔ a + n ≤ 0x10000 ∨ (0x100000 ≤ a ∧ a + n ≤ 0x200000) := by
  simp [addrOk]

/-- The value that an SLD of n bytes loads. -/
def sldWord (s : State) (g a n : Nat) (sgn : Bool) : Word :=
  if sgn then BitVec.ofInt 32 (signed (8 * n) (leNat (s.engRead g a n))) else BitVec.ofNat 32 (leNat (s.engRead g a n))

theorem sld_inside (h : s.straight g) {rd ra : BitVec 4} {off : BitVec 14} {n : Nat} {sgn : Bool} (ha : addrOk ((s.en g).ea ra off) n = true) :
    s.sld g rd ra off n sgn = (loaded s ((s.en g).ea ra off)).stepped g (if rd = 0 then s.en g else
      { s.en g with s := Sparse.set 0 (s.en g).s rd.toNat (sldWord s g ((s.en g).ea ra off) n sgn) }) := by
  rw [← setS_eq_ite]
  exact (onEngine_runs h.1 _).trans ((if_pos ha).trans (engDo_straight (straight_loaded h _) (setS_pc ..) (setS_loops ..)))

theorem sld_outside (h : s.straight g) {rd ra : BitVec 4} {off : BitVec 14} {n : Nat} {sgn : Bool}
    (ha : ¬ addrOk ((s.en g).ea ra off) n = true) : s.sld g rd ra off n sgn = s.engFault g 2 :=
  (onEngine_runs h.1 _).trans (if_neg ha)

/-- Where a store is allowed (R220, R251): local memory, the kernel area, or the engine's own write-back ring, within the window. -/
theorem storable_iff {a n : Nat} : (addrOk a n && s.storeOk g a n) = true ↔ a + n ≤ 0x10000 ∨ (0x180000 ≤ a ∧ a + n ≤ 0x200000) ∨
    (0x11C000 + 128 * s.localOf g ≤ a ∧ a + n ≤ 0x11C000 + 128 * s.localOf g + 128 ∧ a + n ≤ 0x200000) := by
  simp only [Bool.and_eq_true, addrOk_iff, State.storeOk, Bool.or_eq_true, decide_eq_true_eq]
  omega

theorem sst_stores (h : s.straight g) {rb ra : BitVec 4} {off : BitVec 14} {n : Nat}
    (ha : (addrOk ((s.en g).ea ra off) n && s.storeOk g ((s.en g).ea ra off) n) = true) :
    let u := s.engWrite g ((s.en g).ea ra off) (leBytes n ((s.en g).sreg rb.toNat).toNat)
    s.sst g rb ra off n = u.stepped g (u.en g) :=
  sst_straight h (Bool.and_eq_true_iff.1 ha).1 (Bool.and_eq_true_iff.1 ha).2

theorem sst_denied (h : s.straight g) {rb ra : BitVec 4} {off : BitVec 14} {n : Nat}
    (ha : ¬ (addrOk ((s.en g).ea ra off) n && s.storeOk g ((s.en g).ea ra off) n) = true) : s.sst g rb ra off n = s.engFault g 2 :=
  (onEngine_runs h.1 _).trans (if_neg ha)

end

theorem next_congr {t u : State} (h : t = u) : (Host.Outcome.next t : Host.Outcome State Fault Refusal) = .next u := congrArg _ h

/-- Settles O28: loads by `sld_inside`, stores by `sst_stores`, and both where the address is refused. -/
theorem scalarMemory : Obligations.ScalarMemory := by
  intro s g r ra off h
  dsimp only
  rw [← ea_eq]
  refine ⟨fun ha => ⟨?_, ?_⟩, fun ha => ⟨?_, ?_⟩, fun ha => ?_, fun ha => ?_, fun ha => ?_, fun ha => ?_,
    fun ha => ⟨?_, ?_⟩, fun ha => ⟨?_, ?_⟩, fun ha => ?_, fun ha => ?_, fun ha => ?_, fun ha => ?_⟩
  case refine_1 | refine_2 | refine_3 | refine_4 | refine_5 => exact next_congr (sld_inside h (addrOk_iff.2 ha))
  case refine_6 | refine_7 | refine_8 => exact next_congr (sst_stores h (storable_iff.2 ha))
  case refine_9 | refine_10 | refine_11 | refine_12 | refine_13 => exact next_congr (sld_outside h (mt addrOk_iff.1 ha))
  case refine_14 | refine_15 | refine_16 => exact next_congr (sst_denied h (mt storable_iff.1 ha))

/-! CSRs (R266, R267). -/

/-- The CSRs that only reads are for. -/
def csrReadOnly (k : Nat) : Prop := k ≤ 7 ∨ (0x11 ≤ k ∧ k ≤ 0x19) ∨ k = 0x30 ∨ k = 0x31

theorem csrKind_readOnly {k : Nat} (h : csrReadOnly k) : csrKind k = some .ro := by
  unfold csrReadOnly at h
  unfold csrKind
  split
  · rfl
  · rw [if_neg (by omega)]
    split
    · rfl
    · rw [if_neg (by omega), if_pos (by omega)]

theorem csrKind_unlisted {k : Nat} (h : ¬ (csrReadOnly k ∨ k = 0x10 ∨ k = 0x20)) : csrKind k = none := by
  unfold csrReadOnly at h
  unfold csrKind
  rw [if_neg (by omega), if_neg (by omega), if_neg (by omega), if_neg (by omega), if_neg (by omega)]

theorem csrKind_isSome {k : Nat} (h : csrReadOnly k ∨ k = 0x10 ∨ k = 0x20) : (csrKind k).isSome = true := by
  obtain h | rfl | rfl := h
  · rw [csrKind_readOnly h]
    rfl
  · rfl
  · rfl

section
variable {s : State} {g : Nat}

theorem csrOp_read (h : s.runs g) (rd : BitVec 4) {n : BitVec 12} (hk : (csrKind n.toNat).isSome = true) : s.csrOp g rd 0 n none =
    (s.csrVal g n.toNat).2.engDo g fun e => e.setS rd.toNat (BitVec.ofNat 32 (s.csrVal g n.toNat).1) := by
  refine (onEngine_runs h _).trans ?_
  obtain ⟨k, hk⟩ := Option.isSome_iff_exists.1 hk
  cases k <;> simp [hk]

theorem csrOp_unlisted (h : s.runs g) (rd ra : BitVec 4) {n : BitVec 12} (hk : csrKind n.toNat = none)
    (f : Option (Word → Word → Word)) : s.csrOp g rd ra n f = s.engFault g 1 := by
  refine (onEngine_runs h _).trans ?_
  simp [hk]

theorem csrOp_readOnly (h : s.runs g) (rd ra : BitVec 4) {n : BitVec 12} (hk : csrKind n.toNat = some .ro)
    (f : Word → Word → Word) : s.csrOp g rd ra n (some f) = s.engFault g 1 := by
  refine (onEngine_runs h _).trans ?_
  simp [hk]

theorem csrPut_pc (e : Eng) (n : Nat) (v : Word) : (e.csrPut n v).pc = e.pc := by unfold Eng.csrPut; split_ifs <;> rfl
theorem csrPut_loops (e : Eng) (n : Nat) (v : Word) : (e.csrPut n v).loops = e.loops := by unfold Eng.csrPut; split_ifs <;> rfl

/-- A write, set or clear of CSR_MSFLAG or CSR_RNDSEED: the old value goes into rd before s[ra] is read. -/
theorem csrOp_write (h : s.straight g) (rd ra : BitVec 4) {n : BitVec 12} (hn : n = 0x10 ∨ n = 0x20) (f : Word → Word → Word)
    {old : Nat} (ho : s.csrVal g n.toNat = (old, s)) {e : Eng} (he : (s.en g).setS rd.toNat (BitVec.ofNat 32 old) = e) :
    s.csrOp g rd ra n (some f) = s.stepped g (e.csrPut n.toNat (f (BitVec.ofNat 32 old) (e.sreg ra.toNat))) := by
  have hput := engDo_straight h (f := fun x => (x.setS rd.toNat (BitVec.ofNat 32 old)).csrPut n.toNat
      (f (BitVec.ofNat 32 old) ((x.setS rd.toNat (BitVec.ofNat 32 old)).sreg ra.toNat)))
    ((csrPut_pc ..).trans (setS_pc ..)) ((csrPut_loops ..).trans (setS_loops ..))
  subst he
  refine (onEngine_runs h.1 _).trans (Eq.trans ?_ hput)
  obtain rfl | rfl := hn
  · have hk : csrKind (0x10 : BitVec 12).toNat = some .rw := rfl
    simp only [hk, ho]
  · have hk : csrKind (0x20 : BitVec 12).toNat = some .wo := rfl
    simp only [hk, ho]

/-- Of a read, the model's counter of free values may move on: CSR_CYC draws one. -/
theorem csrVal_free (s : State) (g k : Nat) : ∃ f, (s.csrVal g k).2 = { s with free := f } := by
  unfold State.csrVal
  dsimp only
  split
  case h_6 => exact ⟨s.free + 1, rfl⟩
  case h_14 => split <;> exact ⟨s.free, rfl⟩
  all_goals exact ⟨s.free, rfl⟩

/-- The passes left of a level; 0 when none is open. -/
def passesLeft (l : Option LoopLv) : Nat := (l.map (·.left)).getD 0

theorem leftOf_eq (l : Option LoopLv) : leftOf l = passesLeft l := by cases l <;> rfl

/-- What a CSR reads, where that is a part of the state (R267). -/
def csrShows (s : State) (g k : Nat) : Option Nat :=
  if k = 0 then some (s.stripOf g + if 512 ≤ g then 65536 else 0)
  else if k = 2 then some (s.en g).slot.frame
  else if k = 3 then some ((s.en g).slot.tb % 2 ^ 32)
  else if k = 4 then some ((s.en g).slot.tb / 2 ^ 32)
  else if k = 0x10 then some (s.en g).msflag.toNat
  else if k = 0x11 then some (Sparse.get 0 (s.cl (clusterOf g)).wbPost (s.localOf g)).toNat
  else if k = 0x12 then some (Sparse.get 0 (s.cl (clusterOf g)).wbCnt (s.localOf g)).toNat
  else if 0x13 ≤ k ∧ k ≤ 0x19 then some (Sparse.get 0 (s.cl (clusterOf g)).sig (k - 0x12)).toNat
  else if k = 0x20 then some 0
  else if k = 0x30 then some (passesLeft (outerLv (s.en g).loops))
  else if k = 0x31 then some (passesLeft (innerLv (s.en g).loops))
  else none

theorem ite_some_eq_some {c : Prop} [Decidable c] {x w : Nat} {o : Option Nat} :
    (if c then some x else o) = some w ↔ (c ∧ x = w) ∨ (¬ c ∧ o = some w) := by
  split <;> simp [*]

/-- CSR_SIGCNT1 to 7 read the counters of the cluster's channels (R267). -/
theorem csrVal_sig {k : Nat} (h : 0x13 ≤ k ∧ k ≤ 0x19) :
    s.csrVal g k = ((Sparse.get 0 (s.cl (clusterOf g)).sig (k - 0x12)).toNat, s) := by
  unfold State.csrVal
  dsimp only
  split
  case h_14 => rw [if_pos h]
  all_goals omega

theorem csrVal_shows {k w : Nat} (h : csrShows s g k = some w) : s.csrVal g k = (w, s) := by
  simp only [csrShows, ite_some_eq_some, reduceCtorEq, and_false, or_false] at h
  obtain ⟨rfl, rfl⟩ | ⟨-, ⟨rfl, rfl⟩ | ⟨-, ⟨rfl, rfl⟩ | ⟨-, ⟨rfl, rfl⟩ | ⟨-, ⟨rfl, rfl⟩ | ⟨-, ⟨rfl, rfl⟩ | ⟨-, ⟨rfl, rfl⟩ |
    ⟨-, ⟨hsig, rfl⟩ | ⟨-, ⟨rfl, rfl⟩ | ⟨-, ⟨rfl, rfl⟩ | ⟨-, rfl, rfl⟩⟩⟩⟩⟩⟩⟩⟩⟩⟩ := h
  exacts [rfl, rfl, rfl, rfl, rfl, rfl, rfl, csrVal_sig hsig, rfl, congrArg (·, s) (leftOf_eq _), congrArg (·, s) (leftOf_eq _)]

end

theorem csrShows_listed {s : State} {g k w : Nat} (h : csrShows s g k = some w) : csrReadOnly k ∨ k = 0x10 ∨ k = 0x20 := by
  simp only [csrShows, ite_some_eq_some, reduceCtorEq, and_false, or_false] at h
  unfold csrReadOnly
  omega

/-- The old value of CSR_MSFLAG, 16 bits of the s-register that it is read into, comes back whole. -/
theorem setWidth_ofNat_toNat (x : Half) : (BitVec.ofNat 32 x.toNat).setWidth 16 = x := by
  apply BitVec.eq_of_toNat_eq
  have h := x.isLt
  simp only [BitVec.toNat_setWidth, BitVec.toNat_ofNat]
  omega

/-- Settles O38: reads by `csrOp_read`, writes by `csrOp_write`, and what is refused by the CSR's kind. -/
theorem csrResults : Obligations.CsrResults := by
  intro s g rd ra n h
  have hmsflag (f : Word → Word → Word) := csrOp_write h rd ra (.inl rfl) f (csrVal_shows (k := 0x10) rfl) (setS_eq_ite ..)
  refine ⟨fun w hw => ?_, fun hl => ?_, ⟨?_, ?_, ?_⟩, ?_, fun hl => ?_, fun hl => ?_⟩
  case refine_1 =>
    have hw : csrShows s g n.toNat = some w := hw
    refine next_congr ((csrOp_read h.1 rd (csrKind_isSome (csrShows_listed hw))).trans ?_)
    rw [csrVal_shows hw, engDo_straight h (setS_pc ..) (setS_loops ..), setS_eq_ite]
  case refine_2 =>
    obtain ⟨f, hf⟩ := csrVal_free s g n.toNat
    refine ⟨(s.csrVal g n.toNat).1, f, next_congr ((csrOp_read h.1 rd (csrKind_isSome hl)).trans ?_)⟩
    have hs : ({ s with free := f } : State).straight g := straight_congr h rfl rfl rfl rfl
    rw [hf, engDo_straight hs (setS_pc ..) (setS_loops ..), setS_eq_ite]
    rfl
  case refine_3 => exact next_congr (hmsflag _)
  case refine_4 =>
    have hput (e : Eng) (a : Word) : e.csrPut 0x10 (BitVec.ofNat 32 (s.en g).msflag.toNat ||| a) =
        { e with msflag := (s.en g).msflag ||| a.setWidth 16 } := by
      rw [Eng.csrPut, if_pos rfl, BitVec.setWidth_or, setWidth_ofNat_toNat]
    exact next_congr ((hmsflag _).trans (congrArg (s.stepped g) (hput _ _)))
  case refine_5 =>
    have hput (e : Eng) (a : Word) : e.csrPut 0x10 (BitVec.ofNat 32 (s.en g).msflag.toNat &&& ~~~a) =
        { e with msflag := (s.en g).msflag &&& ~~~a.setWidth 16 } := by
      rw [Eng.csrPut, if_pos rfl, BitVec.setWidth_and, setWidth_ofNat_toNat, BitVec.setWidth_not (by decide)]
    exact next_congr ((hmsflag _).trans (congrArg (s.stepped g) (hput _ _)))
  case refine_6 =>
    exact next_congr (csrOp_write h rd ra (.inr rfl) _ (csrVal_shows (k := 0x20) rfl) (setS_eq_ite ..))
  case refine_7 => exact next_congr (csrOp_unlisted h.1 rd ra (csrKind_unlisted hl) _)
  case refine_8 =>
    have hrefused (f : Word → Word → Word) : s.csrOp g rd ra n (some f) = s.engFault g 1 :=
      hl.elim (fun hr => csrOp_readOnly h.1 rd ra (csrKind_readOnly hr) f) fun hu => csrOp_unlisted h.1 rd ra (csrKind_unlisted hu) _
    exact ⟨next_congr (hrefused _), next_congr (hrefused _), next_congr (hrefused _)⟩

end Sys2Proof.Proofs

/-! PROOFS. The vector instructions of the engines: lanes (R253), predicates (R254), moves and reductions (R255), accumulators (R256, R257),
tables and random numbers (R258 to R260), loads and stores (R251). -/

namespace Sys2Proof.Proofs

open Sys2Proof Sys2Proof.Machine Sys2Proof.Machine.Reg Sys2Proof.Laws

/-! Lanes under a predicate (R253). -/

/-- A v-register written under a predicate, lane by lane. -/
theorem putV_eq {f f' : Nat → Half} (e : Eng) (vd : BitVec 5) (pg : BitVec 3) (h : ∀ l < 16, f l = f' l) :
    e.putV vd pg f = e.setV vd.toNat ((List.range 16).map fun l =>
      if (e.preg pg.toNat).getLsbD l then f' l else (e.vreg vd.toNat).getD l 0) := by
  refine congrArg (e.setV vd.toNat) (List.map_congr_left fun l hl => ?_)
  rw [h l (List.mem_range.1 hl)]
  rfl

/-- Lane l of the second operand of an instruction whose src is not reserved (R246). -/
def operandLane (e : Eng) (src : BitVec 2) (vb : BitVec 5) (l : Nat) : Half :=
  if src = 0 then (e.vreg vb.toNat).getD l 0
  else if src = 1 then (e.sreg vb.toNat).setWidth 16
  else BitVec.ofNat 16 vb.toNat

theorem getLsbD_four_iff (v : BitVec 5) : v.getLsbD 4 = true ↔ 16 ≤ v.toNat := by
  have h := v.isLt
  rw [BitVec.getLsbD, Nat.testBit_eq_decide_div_mod_eq, decide_eq_true_eq]
  omega

theorem src_cases (src : BitVec 2) : src = 0 ∨ src = 1 ∨ src = 2 ∨ src = 3 := by
  revert src
  decide

theorem vsrc_reserved {e : Eng} {src : BitVec 2} {vb : BitVec 5} (h : src = 3 ∨ (src = 1 ∧ 16 ≤ vb.toNat)) : e.vsrc src vb = none := by
  obtain rfl | ⟨rfl, hb⟩ := h
  · rfl
  · exact if_pos ((getLsbD_four_iff vb).2 hb)

theorem vsrc_operandLane {e : Eng} {src : BitVec 2} {vb : BitVec 5} (h : ¬ (src = 3 ∨ (src = 1 ∧ 16 ≤ vb.toNat))) :
    ∃ b, e.vsrc src vb = some b ∧ ∀ l < 16, laneAt b l = operandLane e src vb l := by
  obtain rfl | rfl | rfl | rfl := src_cases src
  · exact ⟨_, rfl, fun _ _ => rfl⟩
  · have hb : ¬ vb.getLsbD 4 = true := fun hb => h (.inr ⟨rfl, (getLsbD_four_iff vb).1 hb⟩)
    exact ⟨_, if_neg hb, fun l hl => getD_lanes _ hl⟩
  · exact ⟨_, rfl, fun l hl => (getD_lanes _ hl).trans (BitVec.ofNat_toNat ..).symm⟩
  · exact absurd (.inl rfl) h

/-- What a VALU form answers on an engine that runs straight on: the fault of a reserved operand, or `f` in the lanes of pg. -/
def valuOutcome (s : State) (g : Nat) (vd va vb : BitVec 5) (pg : BitVec 3) (src : BitVec 2) (f : Half → Half → Half) :
    Host.Outcome State Fault Refusal :=
  if src = 3 ∨ (src = 1 ∧ 16 ≤ vb.toNat) then .next (s.engFault g 1)
  else .next (s.stepped g ((s.en g).setV vd.toNat ((List.range 16).map fun l =>
    if ((s.en g).preg pg.toNat).getLsbD l then f (((s.en g).vreg va.toNat).getD l 0) (operandLane (s.en g) src vb l)
    else ((s.en g).vreg vd.toNat).getD l 0)))

theorem valu_outcome {s : State} {g : Nat} (h : s.straight g) {vd va vb : BitVec 5} {pg : BitVec 3} {src : BitVec 2}
    {f f' : Half → Half → Half} (hf : ∀ x y, f x y = f' x y) :
    Host.Outcome.next (s.valu g vd va vb pg src f) = valuOutcome s g vd va vb pg src f' := by
  unfold valuOutcome
  split
  case isTrue hbad =>
    refine next_congr ((onEngine_runs h.1 _).trans ?_)
    simp only [vsrc_reserved hbad]
  case isFalse hok =>
    obtain ⟨b, hb, hlanes⟩ := vsrc_operandLane (e := s.en g) hok
    refine next_congr ((valu_straight h vd va vb pg hb f).trans (congrArg (s.stepped g) (putV_eq _ _ _ fun l hl => ?_)))
    rw [hf, hlanes l hl]
    rfl

/-- The distance of two unsigned numbers. -/
theorem ite_ult_eq_dist {n : Nat} (a b : BitVec n) :
    (if a.ult b then b - a else a - b) = BitVec.ofNat n ((a.toNat : Int) - b.toNat).natAbs := by
  have ha := a.isLt
  have hb := b.isLt
  apply BitVec.eq_of_toNat_eq
  rw [BitVec.ult]
  by_cases h : a.toNat < b.toNat
  · rw [if_pos (decide_eq_true h), BitVec.toNat_sub_of_le (BitVec.le_def.2 h.le), BitVec.toNat_ofNat, Nat.mod_eq_of_lt] <;> omega
  · rw [if_neg (by simpa using h), BitVec.toNat_sub_of_le (BitVec.le_def.2 (by omega)), BitVec.toNat_ofNat, Nat.mod_eq_of_lt] <;> omega

theorem decodeEngine_valu_unused (g : Nat) {w : Word} (hop : w.toNat / 2 ^ 26 = 0x14) (hfn : 0x18 ≤ w.toNat % 64) :
    decodeEngine g w = none := by
  have hcode : 0x18 ≤ (wf w 0 6).toNat := by rw [toNat_wf]; omega
  rw [Option.eq_none_iff_forall_ne_some]
  intro i hi
  simp only [decodeEngine, hop] at hi
  obtain ⟨-, hi⟩ := onlyIf_eq_some.1 hi
  unfold valuOf at hi
  split at hi
  case h_25 => cases hi
  all_goals omega

/-- Settles O30: each function by its operation on numbers. -/
theorem laneResults : Obligations.LaneResults := by
  intro s g vd va vb pg src h e b bad put clampS clampU
  rw [show put = valuOutcome s g vd va vb pg src from rfl]
  exact ⟨valu_outcome h fun _ _ => rfl, valu_outcome h fun _ _ => rfl, valu_outcome h fun _ _ => rfl, valu_outcome h fun _ _ => rfl,
    valu_outcome h fun _ _ => rfl, valu_outcome h fun _ _ => rfl, valu_outcome h fun _ _ => rfl,
    valu_outcome h fun _ _ => rfl, valu_outcome h fun _ _ => rfl,
    valu_outcome h ite_slt_eq_min, valu_outcome h ite_slt_eq_max, valu_outcome h ite_ult_eq_min, valu_outcome h ite_ult_eq_max,
    valu_outcome h fun _ _ => rfl, valu_outcome h fun _ _ => rfl, valu_outcome h fun _ _ => rfl, valu_outcome h fun _ _ => rfl,
    valu_outcome h fun _ _ => shiftLeft_eq_ofNat .., valu_outcome h fun _ _ => ushiftRight_eq_ofNat ..,
    valu_outcome h fun _ _ => sshiftRight_eq_ofInt .., valu_outcome h fun _ _ => rfl, valu_outcome h ite_ult_eq_dist,
    valu_outcome h fun _ _ => rfl, valu_outcome h fun _ _ => rfl, fun w => decodeEngine_valu_unused g⟩

/-! Predicates (R254). -/

/-- A comparison of VCMP as its code names it (R254). -/
def vHolds (cond : BitVec 4) (x y : Half) : Prop :=
  (cond = 0 ∧ x = y) ∨ (cond = 1 ∧ x ≠ y) ∨ (cond = 2 ∧ x.toInt < y.toInt) ∨ (cond = 3 ∧ x.toInt ≤ y.toInt) ∨
    (cond = 4 ∧ y.toInt < x.toInt) ∨ (cond = 5 ∧ y.toInt ≤ x.toInt) ∨ (cond = 6 ∧ x.toNat < y.toNat) ∨
    (cond = 7 ∧ x.toNat ≤ y.toNat) ∨ (cond = 8 ∧ y.toNat < x.toNat) ∨ (cond = 9 ∧ y.toNat ≤ x.toNat)

theorem vCond_eq_some {cond : BitVec 4} (hc : cond < 10) (x y : Half) : ∃ b, vCond cond x y = some b ∧ (b = true ↔ vHolds cond x y) := by
  obtain rfl | rfl | rfl | rfl | rfl | rfl | rfl | rfl | rfl | rfl : cond = 0 ∨ cond = 1 ∨ cond = 2 ∨ cond = 3 ∨ cond = 4 ∨
      cond = 5 ∨ cond = 6 ∨ cond = 7 ∨ cond = 8 ∨ cond = 9 := by
    revert cond
    decide
  all_goals exact ⟨_, rfl, by simp [vHolds, BitVec.slt, BitVec.sle, BitVec.ult, BitVec.ule]⟩

theorem vCond_reserved {cond : BitVec 4} (hc : 10 ≤ cond) (x y : Half) : vCond cond x y = none := by
  obtain rfl | rfl | rfl | rfl | rfl | rfl : cond = 10 ∨ cond = 11 ∨ cond = 12 ∨ cond = 13 ∨ cond = 14 ∨ cond = 15 := by
    revert cond
    decide
  all_goals rfl

/-- Predicate 0 ignores writes (R244). -/
theorem setP_eq_ite (e : Eng) (pd : BitVec 3) (x : Half) :
    e.setP pd.toNat x = if pd = 0 then e else { e with p := Sparse.set 0 e.p pd.toNat x } := by
  have hz : pd.toNat = 0 ↔ pd = 0 := by rw [← BitVec.toNat_inj]; rfl
  exact if_congr hz rfl rfl

theorem firstLanes_eq (n : Nat) : firstLanes n = BitVec.ofNat 16 (2 ^ min 16 n - 1) := by
  apply BitVec.eq_of_getLsbD_eq
  intro l hl
  rw [firstLanes, getLsbD_maskOf _ hl, BitVec.getLsbD_ofNat, Nat.testBit_two_pow_sub_one]
  simp [hl]

/-- The lanes of pg that hold VCMP's comparison. -/
def vcmpMask (e : Eng) (va : BitVec 5) (pg : BitVec 3) (cond : BitVec 4) (b : List Half) : Half :=
  maskOf fun l => (e.preg pg.toNat).getLsbD l && (vCond cond (laneAt (e.vreg va.toNat) l) (laneAt b l) == some true)

theorem getLsbD_vcmpMask (e : Eng) (va : BitVec 5) (pg : BitVec 3) {cond : BitVec 4} (b : List Half) (hc : cond < 10) {l : Nat} (hl : l < 16) :
    (vcmpMask e va pg cond b).getLsbD l = true ↔
      (e.preg pg.toNat).getLsbD l = true ∧ vHolds cond ((e.vreg va.toNat).getD l 0) (b.getD l 0) := by
  obtain ⟨x, hx, hiff⟩ := vCond_eq_some hc (laneAt (e.vreg va.toNat) l) (laneAt b l)
  rw [vcmpMask, getLsbD_maskOf _ hl, hx, Bool.and_eq_true, beq_iff_eq, Option.some_inj, hiff]
  rfl

section
variable {s : State} {g : Nat}

theorem vcmp_sets (h : s.straight g) {pd : BitVec 3} {va vb : BitVec 5} {pg : BitVec 3} {src : BitVec 2} {cond : BitVec 4} {b : List Half}
    (hb : (s.en g).vsrc src vb = some b) (hc : cond < 10) : exec (.vcmp g pd va vb pg src cond) s =
      .next (s.stepped g ((s.en g).setP pd.toNat (vcmpMask (s.en g) va pg cond b))) := by
  obtain ⟨x, hx, -⟩ := vCond_eq_some hc 0 0
  refine next_congr ((onEngine_runs h.1 _).trans ?_)
  simp only [hb, hx]
  exact engDo_straight h (setP_pc ..) (setP_loops ..)

theorem vcmp_reserved (h : s.runs g) (pd : BitVec 3) (va vb : BitVec 5) (pg : BitVec 3) (src : BitVec 2) {cond : BitVec 4}
    (hc : 10 ≤ cond) : exec (.vcmp g pd va vb pg src cond) s = .next (s.engFault g 1) := by
  refine next_congr ((onEngine_runs h _).trans ?_)
  simp only [vCond_reserved hc]
  cases (s.en g).vsrc src vb <;> rfl

theorem plog_setP (h : s.straight g) {pd : BitVec 3} {x : Eng → Half} {y : Half} (hx : x (s.en g) = y) :
    Host.Outcome.next (s.plog g fun e => e.setP pd.toNat (x e)) =
      (.next (s.stepped g (if pd = 0 then s.en g else { s.en g with p := Sparse.set 0 (s.en g).p pd.toNat y })) :
        Host.Outcome State Fault Refusal) := by
  rw [State.plog, onEngine_runs h.1, engDo_straight h (setP_pc ..) (setP_loops ..), hx, setP_eq_ite]

theorem plog_setS (h : s.straight g) {rd : BitVec 4} {x : Eng → Word} {y : Word} (hx : x (s.en g) = y) :
    Host.Outcome.next (s.plog g fun e => e.setS rd.toNat (x e)) =
      (.next (s.stepped g (if rd = 0 then s.en g else { s.en g with s := Sparse.set 0 (s.en g).s rd.toNat y })) :
        Host.Outcome State Fault Refusal) := by
  rw [State.plog, onEngine_runs h.1, engDo_straight h (setS_pc ..) (setS_loops ..), hx, setS_eq_ite]

end

/-- Settles O31: VCMP by its condition in each lane, the PLOG functions by what they write. -/
theorem predicateResults : Obligations.PredicateResults := by
  intro s g h
  refine ⟨fun pd va vb pg src cond b hb => ⟨fun hc => ⟨vcmpMask (s.en g) va pg cond b, ?_, fun l hl => ?_⟩, fun hc => ?_⟩,
    fun pd pa pb sa => ⟨?_, ?_, ?_, ?_, ?_, ?_, ?_, ?_, ?_⟩⟩
  case refine_1 => exact (vcmp_sets h hb hc).trans (next_congr (congrArg (s.stepped g) (setP_eq_ite ..)))
  case refine_2 => exact getLsbD_vcmpMask _ _ _ _ hc hl
  case refine_3 => exact vcmp_reserved h.1 pd va vb pg src hc
  case refine_4 | refine_5 | refine_6 | refine_7 | refine_8 => exact plog_setP h rfl
  case refine_9 => exact plog_setP h (BitVec.ofNat_toNat ..).symm
  case refine_10 => exact plog_setS h (BitVec.ofNat_toNat ..).symm
  case refine_11 => exact plog_setS h rfl
  case refine_12 => exact plog_setP h (firstLanes_eq _)

/-! Moves and reductions (R255). -/

/-- The lanes of ps that a VRED form reads, extended to 32 bits. -/
def redLanes (e : Eng) (va : BitVec 5) (ps : BitVec 3) (ext : Half → Word) : List Word :=
  ((List.range 16).filter fun l => (e.preg ps.toNat).getLsbD l).map fun l => ext ((e.vreg va.toNat).getD l 0)

/-- A reduction from the first value on; 0 over none. -/
def redValue (f : Word → Word → Word) : List Word → Word
  | [] => 0
  | x :: xs => xs.foldl f x

theorem redValue_add (xs : List Word) : redValue (fun a b => a + b) xs = xs.foldl (fun a b => a + b) 0 := by
  cases xs with
  | nil => rfl
  | cons x xs => rw [redValue, List.foldl_cons, zero_add]

/-- The sum of extended lanes. -/
def laneSum (e : Eng) (va : BitVec 5) (ps : BitVec 3) (ext : Half → Word) : Word :=
  ((List.range 16).filter ((e.preg ps.toNat).getLsbD ·)).foldl (fun w l => w + ext ((e.vreg va.toNat).getD l 0)) 0

theorem redValue_sum {ext ext' : Half → Word} (e : Eng) (va : BitVec 5) (ps : BitVec 3) (hext : ∀ x, ext x = ext' x) :
    redValue (fun a b => a + b) (redLanes e va ps ext) = laneSum e va ps ext' := by
  rw [funext hext, redValue_add, redLanes, List.foldl_map]
  rfl

/-- Of two values `f` keeps the one of the lesser key, so a fold ends in a value of the least key. -/
theorem foldl_least {f : Word → Word → Word} {key : Word → Int} (hf : ∀ a b, f a b = if key b < key a then b else a) (xs : List Word) :
    ∀ x, xs.foldl f x ∈ x :: xs ∧ ∀ y ∈ x :: xs, key (xs.foldl f x) ≤ key y := by
  induction xs with
  | nil => simp
  | cons z xs ih =>
    intro x
    obtain ⟨hmem, hle⟩ := ih (f x z)
    have hfirst := hle (f x z) List.mem_cons_self
    rw [List.foldl_cons]
    generalize xs.foldl f (f x z) = r at hmem hle hfirst
    have hkeep : (f x z = x ∨ f x z = z) ∧ key (f x z) ≤ key x ∧ key (f x z) ≤ key z := by
      rw [hf]
      split
      · exact ⟨.inr rfl, by omega, le_refl _⟩
      · exact ⟨.inl rfl, le_refl _, by omega⟩
    obtain ⟨heq, hx, hz⟩ := hkeep
    refine ⟨?_, fun y hy => ?_⟩
    · rcases List.mem_cons.1 hmem with rfl | hr
      · rcases heq with h | h <;> simp [h]
      · simp [hr]
    · rcases List.mem_cons.1 hy with rfl | hy
      · exact hfirst.trans hx
      · rcases List.mem_cons.1 hy with rfl | hy
        · exact hfirst.trans hz
        · exact hle y (List.mem_cons_of_mem _ hy)

/-- A word is the extended value of a lane of m that is first in an order, or 0 where m has no lane. -/
def bestLane (m : Half) (a : Nat → Half) (le : Half → Half → Prop) (ext : Half → Word) (w : Word) : Prop :=
  (m = 0 ∧ w = 0) ∨ (∃ l < 16, m.getLsbD l = true ∧ w = ext (a l) ∧ ∀ k < 16, m.getLsbD k = true → le (a l) (a k))

theorem mem_redLanes {e : Eng} {va : BitVec 5} {ps : BitVec 3} {ext : Half → Word} {w : Word} : w ∈ redLanes e va ps ext ↔
    ∃ l < 16, (e.preg ps.toNat).getLsbD l = true ∧ w = ext ((e.vreg va.toNat).getD l 0) := by
  simp only [redLanes, List.mem_map, List.mem_filter, List.mem_range, and_assoc, eq_comm]

theorem redValue_best {f : Word → Word → Word} {key : Word → Int} {ext ext' : Half → Word} {le : Half → Half → Prop} (e : Eng)
    (va : BitVec 5) (ps : BitVec 3) (hf : ∀ a b, f a b = if key b < key a then b else a) (hext : ∀ x, ext x = ext' x)
    (hle : ∀ x y, key (ext x) ≤ key (ext y) → le x y) :
    bestLane (e.preg ps.toNat) (fun l => (e.vreg va.toNat).getD l 0) le ext' (redValue f (redLanes e va ps ext)) := by
  have hmem (w : Word) : w ∈ redLanes e va ps ext ↔ _ := mem_redLanes
  rw [← funext hext]
  cases hl : redLanes e va ps ext with
  | nil =>
    refine .inl ⟨BitVec.eq_of_getLsbD_eq fun l hl16 => ?_, rfl⟩
    refine Eq.trans (Bool.eq_false_iff.2 fun hm => ?_) BitVec.getLsbD_zero.symm
    have hin := (hmem _).2 ⟨l, hl16, hm, rfl⟩
    rw [hl] at hin
    cases hin
  | cons x xs =>
    rw [hl] at hmem
    obtain ⟨hin, hleast⟩ := foldl_least hf xs x
    obtain ⟨l, hl16, hm, hw⟩ := (hmem _).1 hin
    refine .inr ⟨l, hl16, hm, hw, fun k hk16 hmk => hle _ _ ?_⟩
    rw [← hw]
    exact hleast _ ((hmem _).2 ⟨k, hk16, hmk, rfl⟩)

theorem sLane_eq (x : Half) : sLane x = BitVec.ofInt 32 x.toInt := rfl

theorem uLane_eq (x : Half) : uLane x = BitVec.ofNat 32 x.toNat := (BitVec.ofNat_toNat ..).symm

theorem toInt_sLane (x : Half) : (sLane x).toInt = x.toInt := BitVec.toInt_signExtend_of_le (by decide)

theorem toNat_uLane (x : Half) : (uLane x).toNat = x.toNat := BitVec.toNat_setWidth_of_le (by decide)

/-- What a VRED form answers for its value. -/
def vredOutcome (s : State) (g : Nat) (vd : BitVec 5) (w : Word) : Host.Outcome State Fault Refusal :=
  if 16 ≤ vd.toNat then .next (s.engFault g 1)
  else .next (s.stepped g (if vd = 0 then s.en g else { s.en g with s := Sparse.set 0 (s.en g).s vd.toNat w }))

section
variable {s : State} {g : Nat}

theorem vred_outcome (h : s.straight g) {vd va : BitVec 5} {ps : BitVec 3} {ext : Half → Word} {f : Word → Word → Word} {w : Word}
    (hw : redValue f (redLanes (s.en g) va ps ext) = w) : Host.Outcome.next (s.vred g vd va ps ext f) = vredOutcome s g vd w := by
  subst hw
  unfold vredOutcome
  split
  case isTrue hv => exact next_congr ((onEngine_runs h.1 _).trans (if_pos ((getLsbD_four_iff vd).2 hv)))
  case isFalse hv =>
    refine next_congr ((onEngine_runs h.1 _).trans ((if_neg (mt (getLsbD_four_iff vd).1 hv)).trans ?_))
    rw [engDo_straight h (setS_pc ..) (setS_loops ..), ← setS_eq_ite]
    rfl

/-- VPERM, VBCST and VBCSTS write lanes of vd under ps. -/
theorem putV_outcome (h : s.straight g) {vd : BitVec 5} {pg : BitVec 3} {f : Eng → Nat → Half} {f' : Nat → Half}
    (hf : ∀ l < 16, f (s.en g) l = f' l) : Host.Outcome.next (s.onEngine g fun s => s.engDo g fun e => e.putV vd pg (f e)) =
      (.next (s.stepped g ((s.en g).setV vd.toNat ((List.range 16).map fun l =>
        if ((s.en g).preg pg.toNat).getLsbD l then f' l else ((s.en g).vreg vd.toNat).getD l 0))) :
        Host.Outcome State Fault Refusal) := by
  rw [onEngine_runs h.1, engDo_straight h rfl rfl, putV_eq _ _ _ hf]

end

/-- Settles O32: moves by the lanes they write, reductions by `redValue_sum` and `redValue_best`. -/
theorem laneMoves : Obligations.LaneMoves := by
  intro s g vd va vb ps h e m a b old put sum red best
  rw [show red = vredOutcome s g vd from rfl, show sum = laneSum e va ps from rfl, show best = bestLane m a from rfl]
  refine ⟨?_, ?_, ?_, ?_, ?_, ?_, ?_, ?_, ?_, ?_⟩
  case refine_1 => exact next_congr ((onEngine_runs h.1 _).trans (engDo_straight h rfl rfl))
  case refine_2 =>
    exact putV_outcome h fun _ _ => rfl
  case refine_3 => exact putV_outcome h fun _ _ => rfl
  case refine_4 => exact putV_outcome h fun _ _ => (BitVec.ofNat_toNat ..).symm
  case refine_5 => exact vred_outcome h (redValue_sum _ _ _ sLane_eq)
  case refine_6 => exact vred_outcome h (redValue_sum _ _ _ uLane_eq)
  case refine_7 =>
    refine ⟨_, vred_outcome h rfl, redValue_best (key := BitVec.toInt) _ _ _ (fun _ _ => ?_) sLane_eq fun x y hle => ?_⟩
    · simp [BitVec.slt]
    · rwa [toInt_sLane, toInt_sLane] at hle
  case refine_8 =>
    refine ⟨_, vred_outcome h rfl, redValue_best (key := fun w => -w.toInt) _ _ _ (fun _ _ => ?_) sLane_eq fun x y hle => ?_⟩
    · simp [BitVec.slt]
    · rw [toInt_sLane, toInt_sLane] at hle
      omega
  case refine_9 =>
    refine ⟨_, vred_outcome h rfl, redValue_best (key := fun w => (w.toNat : Int)) _ _ _ (fun _ _ => ?_) uLane_eq fun x y hle => ?_⟩
    · simp [BitVec.ult]
    · rw [toNat_uLane, toNat_uLane] at hle
      omega
  case refine_10 =>
    refine ⟨_, vred_outcome h rfl, redValue_best (key := fun w => -(w.toNat : Int)) _ _ _ (fun _ _ => ?_) uLane_eq fun x y hle => ?_⟩
    · simp [BitVec.ult]
    · rw [toNat_uLane, toNat_uLane] at hle
      omega

/-! Accumulators (R256, R257). -/

/-- The product of two lanes by the signedness that sgn names (R256). -/
def macFactor (sgn : BitVec 2) (x y : Half) : Int :=
  if sgn = 0 then (x.toNat : Int) * y.toNat else if sgn = 1 then x.toInt * y.toNat else x.toInt * y.toInt

theorem macProd_eq (sgn : BitVec 2) (x y : Half) : macProd sgn x y = BitVec.ofInt 40 (macFactor sgn x y) := by
  unfold macProd macFactor
  split_ifs
  · rw [← Int.natCast_mul, BitVec.ofInt_natCast]
  · rfl
  · rfl

/-- What a VMAC form answers with the operand b: the fault of a reserved sgn, or `f` in the lanes of pg. -/
def macOutcome (s : State) (g : Nat) (ad : BitVec 2) (va : BitVec 5) (pg : BitVec 3) (sgn : BitVec 2) (b : List Half)
    (f : BitVec 40 → Int → BitVec 40) : Host.Outcome State Fault Refusal :=
  if sgn = 3 then .next (s.engFault g 1)
  else .next (s.stepped g ((s.en g).setA ad.toNat ((List.range 16).map fun l =>
    if ((s.en g).preg pg.toNat).getLsbD l then
      f (((s.en g).acc ad.toNat).getD l 0) (macFactor sgn (((s.en g).vreg va.toNat).getD l 0) (b.getD l 0))
    else ((s.en g).acc ad.toNat).getD l 0)))

section
variable {s : State} {g : Nat}

theorem macOp_reserved (h : s.runs g) {ad : BitVec 2} {va vb : BitVec 5} {pg : BitVec 3} {src sgn : BitVec 2}
    {f : BitVec 40 → BitVec 40 → BitVec 40} (hb : (s.en g).vsrc src vb = none) : s.macOp g ad va vb pg src sgn f = s.engFault g 1 := by
  refine (onEngine_runs h _).trans ?_
  simp only [hb]

theorem macOp_outcome (h : s.straight g) {ad : BitVec 2} {va vb : BitVec 5} {pg : BitVec 3} {src sgn : BitVec 2} {b : List Half}
    {f : BitVec 40 → BitVec 40 → BitVec 40} {f' : BitVec 40 → Int → BitVec 40} (hb : (s.en g).vsrc src vb = some b)
    (hf : ∀ a p, f a (BitVec.ofInt 40 p) = f' a p) :
    Host.Outcome.next (s.macOp g ad va vb pg src sgn f) = macOutcome s g ad va pg sgn b f' := by
  rw [State.macOp, onEngine_runs h.1]
  unfold macOutcome
  simp only [hb, ← apply_ite Host.Outcome.next]
  refine next_congr (ite_congr rfl (fun _ => rfl) fun _ => (engDo_straight h rfl rfl).trans ?_)
  simp only [macProd_eq, hf]
  rfl

theorem aextOf_eq (x : BitVec 40) (n : Nat) (rnd : Bool) (sat : BitVec 2) (d : Nat) : aextOf x n rnd sat d =
    (let t : Int := (x.toInt + (if rnd = true ∧ 0 < n then 2 ^ (n - 1) else 0)) / 2 ^ n
     if sat = 0 then BitVec.ofInt 16 (max (-32768) (min 32767 t))
     else if sat = 1 then BitVec.ofInt 16 (max 0 (min 65535 t))
     else if sat = 2 then BitVec.ofInt 16 (max 0 (min (2 ^ d - 1) t))
     else BitVec.ofInt 16 t) := by
  have ht : (if rnd = true ∧ 0 < n then x.toInt + 2 ^ (n - 1) else x.toInt) = x.toInt + (if rnd = true ∧ 0 < n then 2 ^ (n - 1) else 0) := by
    split <;> simp
  simp only [aextOf, ht]
  rfl

theorem exec_aext_writes (h : s.straight g) (vd : BitVec 5) (ad : BitVec 2) (pg : BitVec 3) {sh : BitVec 6} (rnd : Bool) (sat : BitVec 2)
    (hs : sh.toNat ≤ 39) : exec (.aext g vd ad pg sh rnd sat) s =
      .next (s.stepped g ((s.en g).putV vd pg fun l => aextOf (alane ((s.en g).acc ad.toNat) l) sh.toNat rnd sat s.depth)) :=
  next_congr ((onEngine_runs h.1 _).trans ((if_neg (by omega)).trans (engDo_straight h rfl rfl)))

theorem exec_aext_refused (h : s.runs g) (vd : BitVec 5) (ad : BitVec 2) (pg : BitVec 3) {sh : BitVec 6} (rnd : Bool) (sat : BitVec 2)
    (hs : 39 < sh.toNat) : exec (.aext g vd ad pg sh rnd sat) s = .next (s.engFault g 1) :=
  next_congr ((onEngine_runs h _).trans (if_pos hs))

end

/-- Settles O33: the VMAC functions by `macOp_outcome`, AEXT by its value in each lane. -/
theorem accumulatorResults : Obligations.AccumulatorResults := by
  intro s g h
  refine ⟨fun ad va vb pg src sgn => ?_, fun vd ad pg sh rnd sat => ⟨fun hs => ?_, fun hs => ?_⟩⟩
  case refine_1 =>
    dsimp only
    cases hb : (s.en g).vsrc src vb with
    | none => exact ⟨next_congr (macOp_reserved h.1 hb), next_congr (macOp_reserved h.1 hb), next_congr (macOp_reserved h.1 hb),
        next_congr (macOp_reserved h.1 hb)⟩
    | some b => exact ⟨macOp_outcome h (f' := fun _ p => BitVec.ofInt 40 p) hb fun _ _ => rfl,
        macOp_outcome h (f' := fun a p => BitVec.ofInt 40 (a.toInt + p)) hb add_ofInt,
        macOp_outcome h (f' := fun a p => BitVec.ofInt 40 (a.toInt - p)) hb sub_ofInt,
        macOp_outcome h (f' := fun _ _ => 0) hb fun _ _ => rfl⟩
  case refine_2 =>
    rw [exec_aext_writes h vd ad pg rnd sat hs, putV_eq _ _ _ fun l _ => aextOf_eq ..]
    rfl
  case refine_3 => exact exec_aext_refused h.1 vd ad pg rnd sat hs

/-! Tables and random numbers (R258 to R260). -/

/-- Half of a power of two, where it has one: the rounding term of R258 and R259. -/
theorem half_two_pow (k : Nat) : (if 0 < k then 2 ^ (k - 1) else 0 : Int) = (if 0 < k then 2 ^ k / 2 else 0 : Nat) := by
  cases k with
  | zero => rfl
  | succ k =>
    have hhalf : 2 ^ (k + 1) / 2 = 2 ^ k := by rw [Nat.pow_succ, Nat.mul_div_cancel _ (by decide)]
    rw [if_pos (Nat.succ_pos k), if_pos (Nat.succ_pos k), hhalf, Nat.add_sub_cancel]
    push_cast
    rfl

/-- VLUT's value (R258), `S` the distance of two entries. -/
def vlutAt (T : Nat → Int) (m sh S x : Nat) : Int :=
  if m ≤ x / S then T m
  else T (x / S) + ((T (x / S + 1) - T (x / S)) * (x % S : Nat) + (if 0 < sh then (S / 2 : Nat) else 0)) / S

theorem vlutOf_eq (T : Nat → Int) (m sh x : Nat) : vlutOf T m sh x = vlutAt T m sh (2 ^ sh) x := by
  simp only [vlutOf, half_two_pow, vlutAt]
  push_cast
  rfl

/-- The entry below a coordinate of a 2-D table (R259), and the distance from it. -/
def tableIndex (m S x : Nat) : Nat := if m ≤ x / S then m - 1 else x / S
def tableFraction (m S x : Nat) : Nat := if m ≤ x / S then S else x % S

theorem lut2Pos_eq (x m sh : Nat) : lut2Pos x m sh = (tableIndex m (2 ^ sh) x, tableFraction m (2 ^ sh) x) := by
  unfold lut2Pos tableIndex tableFraction
  split <;> rfl

/-- The value between four entries of a 2-D table (R259). -/
def lut2At (T : Nat → Nat → Int) (sh S ix fx iy fy : Nat) : Int :=
  (T ix iy * (S - fx) * (S - fy) + T (ix + 1) iy * fx * (S - fy) + T ix (iy + 1) * (S - fx) * fy + T (ix + 1) (iy + 1) * fx * fy +
    (if 0 < sh then (S * S / 2 : Nat) else 0)) / (S * S : Nat)

theorem lut2Of_eq (T : Nat → Nat → Int) (mx my sh x y : Nat) : lut2Of T mx my sh x y =
    lut2At T sh (2 ^ sh) (tableIndex mx (2 ^ sh) x) (tableFraction mx (2 ^ sh) x) (tableIndex my (2 ^ sh) y) (tableFraction my (2 ^ sh) y) := by
  have hsq : 2 ^ (2 * sh) = 2 ^ sh * 2 ^ sh := by rw [Nat.two_mul, Nat.pow_add]
  have hround : (if 0 < sh then 2 ^ (2 * sh - 1) else 0 : Int) = (if 0 < sh then 2 ^ sh * 2 ^ sh / 2 else 0 : Nat) := by
    have h := half_two_pow (2 * sh)
    rw [hsq] at h
    simpa using h
  have hdiv : (2 : Int) ^ (2 * sh) = (2 ^ sh * 2 ^ sh : Nat) := by rw [← hsq]; push_cast; rfl
  have hS : (2 : Int) ^ sh = (2 ^ sh : Nat) := by push_cast; rfl
  simp only [lut2Of, lut2Pos_eq, hround, hdiv, hS, lut2At]

theorem lfsrSteps_eq (n : Nat) (q : Half) : lfsrSteps n q = lfsrStep^[n] q := by
  induction n generalizing q with
  | zero => rfl
  | succ n ih => exact ih (lfsrStep q)

section
variable {s : State} {g : Nat}

theorem exec_vlut (h : s.straight g) (vd va : BitVec 5) (ra sh : BitVec 4) (pg : BitVec 3) (sgn : Bool) :
    let w := ((s.en g).sreg ra.toNat).toNat
    exec (.vlut g vd va ra sh pg sgn) s = if 0xFFFF < w % 65536 + 2 * (w / 2 ^ 16 % 4096) + 1 then .next (s.engFault g 2)
      else .next (s.stepped g ((s.en g).putV vd pg fun l => toLane (vlutAt ((s.en g).tab (w % 65536) sgn) (w / 2 ^ 16 % 4096) sh.toNat
        (2 ^ sh.toNat) (laneAt ((s.en g).vreg va.toNat) l).toNat))) := by
  intro w
  rw [← apply_ite Host.Outcome.next]
  simp only [← vlutOf_eq]
  exact next_congr ((onEngine_runs h.1 _).trans (ite_congr rfl (fun _ => rfl) fun _ => engDo_straight h rfl rfl))

theorem vlut2_outcome (h : s.straight g) (vd va vb : BitVec 5) (ra sh : BitVec 4) (pg : BitVec 3) (sgn : Bool) :
    let w := ((s.en g).sreg ra.toNat).toNat
    let mx := w / 2 ^ 16 % 256
    let my := w / 2 ^ 24
    let S := 2 ^ sh.toNat
    let x (l : Nat) : Nat := (((s.en g).vreg va.toNat).getD l 0).toNat
    let y (l : Nat) : Nat := (((s.en g).vreg vb.toNat).getD l 0).toNat
    (Host.Outcome.next (s.vlut2 g vd va vb ra sh pg sgn) : Host.Outcome State Fault Refusal) =
      if mx = 0 ∨ my = 0 then .next (s.engFault g 1)
      else if 0xFFFF < w % 65536 + 2 * (my * (mx + 1) + mx) + 1 then .next (s.engFault g 2)
      else .next (s.stepped g ((s.en g).putV vd pg fun l => toLane (lut2At (fun i j => (s.en g).tab (w % 65536) sgn (j * (mx + 1) + i))
        sh.toNat S (tableIndex mx S (x l)) (tableFraction mx S (x l)) (tableIndex my S (y l)) (tableFraction my S (y l))))) := by
  intro w mx my S x y
  have hmy : bits w 31 24 = my := by
    have hw : w < 2 ^ 32 := ((s.en g).sreg ra.toNat).isLt
    exact Nat.mod_eq_of_lt (show w / 2 ^ 24 < 2 ^ 8 by omega)
  rw [← apply_ite Host.Outcome.next, ← apply_ite Host.Outcome.next]
  simp only [S, ← lut2Of_eq]
  refine next_congr ((onEngine_runs h.1 _).trans ?_)
  dsimp only
  rw [show bits ((s.en g).sreg ra.toNat).toNat 31 24 = my from hmy]
  exact ite_congr rfl (fun _ => rfl) fun _ => ite_congr rfl (fun _ => rfl) fun _ => engDo_straight h rfl rfl

/-- VRND's LFSR of a lane (R260). -/
def rndLane (e : Eng) (pg : BitVec 3) (l : Nat) : Half :=
  if (e.preg pg.toNat).getLsbD l then lfsrStep^[16] (e.q.getD l 0) else e.q.getD l 0

theorem exec_vrnd (h : s.straight g) (vd : BitVec 5) (pg : BitVec 3) : exec (.vrnd g vd pg) s =
    .next (s.stepped g ({ s.en g with q := (List.range 16).map (rndLane (s.en g) pg) }.setV vd.toNat ((List.range 16).map fun l =>
      if ((s.en g).preg pg.toNat).getLsbD l then rndLane (s.en g) pg l else ((s.en g).vreg vd.toNat).getD l 0))) := by
  have hq : masked ((s.en g).preg pg.toNat) (s.en g).q (fun l => lfsrSteps 16 (laneAt (s.en g).q l)) = lanes (rndLane (s.en g) pg) := by
    simp only [lfsrSteps_eq]
    rfl
  refine next_congr ((onEngine_runs h.1 _).trans ((engDo_straight h rfl rfl).trans (congrArg (s.stepped g) ?_)))
  rw [hq]
  exact putV_eq _ _ _ fun l hl => getD_lanes _ hl

end

/-- Settles O34: VLUT and VLUT2 by their values between entries, VRND by `lfsrSteps_eq`. -/
theorem tableAndRandomResults : Obligations.TableAndRandomResults := by
  intro s g vd va vb ra sh pg h
  refine ⟨fun sgn => ?_, fun sgn => ?_, ?_⟩
  case refine_1 =>
    refine (exec_vlut h vd va ra sh pg sgn).trans ?_
    rw [putV_eq _ _ _ fun _ _ => rfl]
    rfl
  case refine_2 =>
    have hexec : exec (if sgn then .vlut2s g vd va vb ra sh pg else .vlut2u g vd va vb ra sh pg) s =
        .next (s.vlut2 g vd va vb ra sh pg sgn) := by cases sgn <;> rfl
    refine (hexec.trans (vlut2_outcome h vd va vb ra sh pg sgn)).trans ?_
    rw [putV_eq _ _ _ fun _ _ => rfl]
    rfl
  case refine_3 => exact exec_vrnd h vd pg

/-! Vector loads and stores (R251). -/

section
variable {s : State} {g : Nat}

/-- A part of the bytes that an engine reads at `a`, within local memory or within the window. -/
theorem engRead_part {a m k n : Nat} (ha : a + m ≤ 0x10000 ∨ 0x100000 ≤ a) (hk : k + n ≤ m) :
    ((s.engRead g a m).drop k).take n = s.engRead g (a + k) n := by
  by_cases hn : n = 0
  · subst hn
    unfold State.engRead
    split <;> simp [Sparse.read]
  · obtain ⟨hloc, hpart⟩ | ⟨hloc, hpart⟩ : (a < 0x10000 ∧ a + k < 0x10000) ∨ (¬ a < 0x10000 ∧ ¬ a + k < 0x10000) := by omega
    · rw [State.engRead, if_pos hloc, State.engRead, if_pos hpart]
      apply List.ext_getElem
      · simp [Sparse.read]
        omega
      · intro i _ _
        simp [Sparse.read, Nat.add_assoc]
    · have hoff (i : Nat) : a - 0x100000 + (k + i) = a + k - 0x100000 + i := by omega
      rw [State.engRead, if_neg hloc, State.engRead, if_neg hpart]
      apply List.ext_getElem
      · simp
        omega
      · intro i _ _
        simp [hoff]

theorem vldOp_inside (h : s.straight g) {vd : BitVec 5} {ra : BitVec 4} {pg : BitVec 3} {off : BitVec 14}
    (ha : addrOk ((s.en g).ea ra off) 32 = true) : s.vldOp g vd ra pg off none = (loaded s ((s.en g).ea ra off)).stepped g
      ((s.en g).putV vd pg fun l => halfAt (s.engRead g ((s.en g).ea ra off) 32) (2 * l)) :=
  (onEngine_runs h.1 _).trans ((if_pos ha).trans ((onEngine_runs h.1 _).trans (engDo_straight (straight_loaded h _) rfl rfl)))

theorem vldOp_outside (h : s.straight g) {vd : BitVec 5} {ra : BitVec 4} {pg : BitVec 3} {off : BitVec 14}
    (ha : ¬ addrOk ((s.en g).ea ra off) 32 = true) : s.vldOp g vd ra pg off none = s.engFault g 2 :=
  (onEngine_runs h.1 _).trans (if_neg ha)

/-- From `s` to `u` the local memory of engine g has become `m`, and nothing else has changed. -/
structure MemOnly (g : Nat) (s u : State) (m : List (Nat × Byte)) : Prop where
  en : u.en g = { s.en g with mem := m }
  put : ∀ x, u.setEn g x = s.setEn g x

theorem memOnly_refl (g : Nat) (s : State) : MemOnly g s s (s.en g).mem := ⟨rfl, fun _ => rfl⟩

theorem MemOnly.engWrite (d : List Byte) : ∀ {u : State} {m : List (Nat × Byte)} {a : Nat}, MemOnly g s u m →
    a + d.length ≤ 0x10000 → MemOnly g s (u.engWrite g a d) (Sparse.write 0 m a d) := by
  induction d with
  | nil => exact fun h _ => h
  | cons x d ih =>
    intro u m a h ha
    rw [List.length_cons] at ha
    have hbyte : u.engWriteByte g a x = u.setEn g { u.en g with mem := Sparse.set 0 (u.en g).mem a x } := if_pos (by omega)
    rw [State.engWrite, Sparse.write]
    refine ih ⟨?_, fun y => ?_⟩ (by omega)
    · rw [hbyte, en_setEn_same, h.en]
    · rw [hbyte, setEn_setEn, h.put]

theorem MemOnly.retire {u : State} {m : List (Nat × Byte)} (h : MemOnly g s u m) (hs : s.straight g) :
    u.retire g = s.stepped g { s.en g with mem := m } := by
  have hu : u.straight g := straight_congr hs (by rw [h.en]) (by rw [h.en]) (by rw [h.en]) (congrArg State.pwr (h.put {}) :)
  rw [retire_straight hu, State.stepped, h.put, h.en]
  rfl

end

/-- A VST's bytes of the lanes below `n` in a memory. -/
def vstMem (e : Eng) (vb : BitVec 5) (pg : BitVec 3) (a n : Nat) : List (Nat × Byte) :=
  (List.range n).foldl (fun m l =>
    if (e.preg pg.toNat).getLsbD l then Sparse.write 0 m (a + 2 * l) (leBytes 2 (laneAt (e.vreg vb.toNat) l).toNat) else m) e.mem

theorem vstMem_succ (e : Eng) (vb : BitVec 5) (pg : BitVec 3) (a n : Nat) : vstMem e vb pg a (n + 1) =
    if (e.preg pg.toNat).getLsbD n then Sparse.write 0 (vstMem e vb pg a n) (a + 2 * n) (leBytes 2 (laneAt (e.vreg vb.toNat) n).toNat)
    else vstMem e vb pg a n := by
  simp [vstMem, List.range_succ]

theorem get_vstMem (e : Eng) (vb : BitVec 5) (pg : BitVec 3) (a n b : Nat) : Sparse.get 0 (vstMem e vb pg a n) b =
    if a ≤ b ∧ b < a + 2 * n ∧ (e.preg pg.toNat).getLsbD ((b - a) / 2) = true then
      BitVec.ofNat 8 (((e.vreg vb.toNat).getD ((b - a) / 2) 0).toNat / 256 ^ ((b - a) % 2))
    else Sparse.get 0 e.mem b := by
  induction n with
  | zero => exact (if_neg (by omega)).symm
  | succ n ih =>
    rw [vstMem_succ, apply_ite (Sparse.get 0 · b), get_write, length_leBytes, ih]
    by_cases hn : a + 2 * n ≤ b ∧ b < a + 2 * n + 2
    · have hlane : (b - a) / 2 = n := by omega
      have hbyte : b - (a + 2 * n) = (b - a) % 2 := by omega
      have hold : ¬ (a ≤ b ∧ b < a + 2 * n ∧ (e.preg pg.toNat).getLsbD n = true) := by omega
      rw [if_pos hn, hlane, hbyte, getD_leBytes _ _ _ (Nat.mod_lt _ (by decide)), if_neg hold]
      exact if_congr ⟨fun hon => ⟨by omega, by omega, hon⟩, fun ⟨_, _, hon⟩ => hon⟩ rfl rfl
    · rw [if_neg hn, ite_self]
      refine if_congr (and_congr_right fun _ => and_congr_left fun _ => ?_) rfl rfl
      omega

section
variable {s : State} {g : Nat}

theorem memOnly_vst (s : State) (g : Nat) (vb : BitVec 5) (pg : BitVec 3) {a n : Nat} (ha : a + 2 * n ≤ 0x10000) :
    MemOnly g s ((List.range n).foldl (fun u l => if ((s.en g).preg pg.toNat).getLsbD l then
      u.engWrite g (a + 2 * l) (leBytes 2 (laneAt ((s.en g).vreg vb.toNat) l).toNat) else u) s) (vstMem (s.en g) vb pg a n) := by
  induction n with
  | zero => exact memOnly_refl g s
  | succ n ih =>
    have h := ih (by omega)
    rw [List.range_succ, List.foldl_append, vstMem_succ, List.foldl_cons, List.foldl_nil]
    split
    · exact h.engWrite _ (by rw [length_leBytes]; omega)
    · exact h

theorem vstOp_local (h : s.straight g) {vb : BitVec 5} {ra : BitVec 4} {pg : BitVec 3} {off : BitVec 14}
    (ha : (s.en g).ea ra off + 32 ≤ 0x10000) :
    s.vstOp g vb ra pg off = s.stepped g { s.en g with mem := vstMem (s.en g) vb pg ((s.en g).ea ra off) 16 } :=
  (onEngine_runs h.1 _).trans ((if_pos (storable_iff.2 (.inl ha))).trans ((memOnly_vst s g vb pg ha).retire h))

theorem vstOp_denied (h : s.straight g) {vb : BitVec 5} {ra : BitVec 4} {pg : BitVec 3} {off : BitVec 14}
    (ha : ¬ (addrOk ((s.en g).ea ra off) 32 = true ∧ s.storeOk g ((s.en g).ea ra off) 32 = true)) :
    s.vstOp g vb ra pg off = s.engFault g 2 :=
  (onEngine_runs h.1 _).trans (if_neg (mt Bool.and_eq_true_iff.1 ha))

end

/-- Settles O35: a load's lanes by `engRead_part`, a store's bytes by `get_vstMem`. -/
theorem vectorLoadsAndStores : Obligations.VectorLoadsAndStores := by
  intro s g v ra pg off h
  dsimp only
  rw [← ea_eq]
  refine ⟨fun ha => ?_, fun ha => ⟨_, next_congr (vstOp_local h ha), fun b => get_vstMem ..⟩,
    fun ha => next_congr (vldOp_outside h (mt addrOk_iff.1 ha)), fun ha => next_congr (vstOp_denied h ha)⟩
  refine next_congr ((vldOp_inside h (addrOk_iff.2 ha)).trans (congrArg (State.stepped _ g) (putV_eq _ _ _ fun l hl => ?_)))
  rw [halfAt, leAt, engRead_part (by omega) (by omega)]

end Sys2Proof.Proofs

/-! PROOFS. The statement of driver training (R284 to R291): the write of KDL_CTRL.train, what a back channel in SYNC delivers, and the
work that waits for vertical blanking. -/

namespace Sys2Proof.Proofs

open Sys2Proof Sys2Proof.Machine Sys2Proof.Machine.Reg Sys2Proof.Laws

/-! The write of KDL_CTRL.train (R285). -/

/-- KDL_CTRL as the register table has it. -/
def kdlCtrlDesc : RegDesc := ⟨"KDL_CTRL", 0xa000c, 4, 1, .owner, .none, [⟨0, 0, .wo, 0⟩]⟩

theorem regAt_kdlCtrl : regAt KDL_CTRL = some kdlCtrlDesc := by decide +kernel

/-- A write of 1 that nothing denies leaves no word and trains. -/
theorem acceptWrite_kdlCtrl (s : State) (p : Nat) : s.acceptWrite p kdlCtrlDesc KDL_CTRL 0 1 = s.trainAll := by
  have hplain : s.plainWrite kdlCtrlDesc KDL_CTRL 0 0 1 = s := plainWrite_none (written_none (d := kdlCtrlDesc) rfl rfl rfl · 1)
  rw [State.acceptWrite]
  refine (if_neg fun ⟨_, hraster, _⟩ => absurd hraster (by decide)).trans ?_
  show (s.plainWrite kdlCtrlDesc KDL_CTRL 0 0 1).trainAll = s.trainAll
  rw [hplain]

theorem exec_kdlTrain {s : State} {p : Nat} (h : s.ownerUp p) : exec (.kdlTrain p 1) s = .next s.trainAll.goOn := by
  refine next_congr ((owner_write _ h rfl rfl rfl rfl regAt_kdlCtrl rfl (by decide)).trans ?_)
  exact congrArg State.goOn (acceptWrite_kdlCtrl s p)

/-! What lanes send, completions and domains that wake leave of the drive link. -/

/-- What every step of a fold leaves, the fold leaves. -/
theorem foldl_keeps {α β : Type} (φ : State → β) {f : State → α → State} (hf : ∀ s x, φ (f s x) = φ s) (l : List α)
    (s : State) : φ (l.foldl f s) = φ s :=
  List.foldlRecOn l f (motive := fun t => φ t = φ s) rfl fun t ht x _ => (hf t x).trans ht

theorem txSend_kdl (s : State) (l : Nat) (ys : List Sym) : (s.txSend l ys).kdl = s.kdl := by
  unfold State.txSend
  extract_lets x r g
  split
  · rfl
  · rfl

theorem txBurst_kdl (s : State) (l n : Nat) (t : Ns) : (s.txBurst l n t).kdl = s.kdl := txSend_kdl ..

theorem txEntryAt_kdl (s : State) (l : Nat) (t : Ns) : (s.txEntryAt l t).kdl = s.kdl := by
  unfold State.txEntryAt
  extract_lets x inBurst t' u v
  have hu : u.kdl = s.kdl := by
    show (if inBurst then s.txSend l (restSyms l 16) else s).kdl = s.kdl
    split
    · exact txSend_kdl ..
    · rfl
  exact (txSend_kdl u _ _).trans hu

theorem txAsk_kdl (s : State) (l : Nat) (exit : Option Nat) (entry : Bool) (t : Ns) : (s.txAsk l exit entry t).kdl = s.kdl := by
  unfold State.txAsk
  extract_lets x u
  split
  case isTrue =>
    split
    · split
      · exact txBurst_kdl ..
      · rfl
    · split
      · rfl
      · rfl
  case isFalse =>
    split
    · exact txEntryAt_kdl ..
    · rfl

theorem txExit_kdl (s : State) (l : Nat) : (s.txExit l).kdl = s.kdl := txAsk_kdl ..
theorem txEnter_kdl (s : State) (l : Nat) : (s.txEnter l).kdl = s.kdl := txAsk_kdl ..

theorem kdlPacket_kdl (s : State) (d : Nat) (start : Byte) (c : List Byte) : (s.kdlPacket d start c).kdl = s.kdl :=
  (txSend_kdl ..).trans (txSend_kdl (s.kdlGap d) _ _)

theorem sendCtl_kdl (s : State) (c : Ctl) : (s.sendCtl c).kdl = s.kdl := kdlPacket_kdl ..

theorem burstLane_kdl (s : State) (l n : Nat) : (s.burstLane l n).kdl = s.kdl := by
  unfold State.burstLane
  split
  · exact txAsk_kdl ..
  · exact txBurst_kdl ..

theorem burstDrv_kdl (s : State) (d n : Nat) : (s.burstDrv d n).kdl = s.kdl := (burstLane_kdl ..).trans (burstLane_kdl ..)

theorem done_kdl (s : State) (r : Req) (st : Nat) : (s.done r st).kdl = s.kdl := (congrArg State.kdl (done_recordsOnly s r st) :)

theorem pmbus_kdl (s : State) (k cmd data : Nat) : (s.pmbus k cmd data).kdl = s.kdl := by
  unfold State.pmbus
  split
  · rfl
  · rfl

theorem railsMayFall_kdl (s : State) : s.railsMayFall.kdl = s.kdl := by
  unfold State.railsMayFall
  split
  · refine foldl_keeps State.kdl (fun t k => ?_) _ s
    split
    · exact pmbus_kdl ..
    · rfl
  · rfl

theorem restoreLanes_kdl (s : State) (d : Nat) : (s.restoreLanes d).kdl = s.kdl := by
  refine foldl_keeps State.kdl (fun t l => ?_) _ s
  rfl

theorem loseDom_kdl (s : State) (d : Nat) : (s.loseDom d).kdl = s.kdl := by
  unfold State.loseDom
  split
  · extract_lets c cl t
    refine (foldl_keeps State.kdl (fun u i => ?_) _ t).trans ?_
    · rfl
    · rfl
  · split
    · rfl
    · refine foldl_keeps State.kdl (fun u l => ?_) _ s
      rfl

theorem endChange_kdl (s : State) (d : Nat) : (s.endChange d).kdl = s.kdl := by
  unfold State.endChange
  extract_lets x
  split
  · rfl
  next st _ =>
    extract_lets u v w
    have hv : v.kdl = s.kdl := by
      show (if st = 2 ∨ x.st = 2 then u.emit (.outputs d (st != 2)) else u).kdl = u.kdl
      split
      · rfl
      · rfl
    have hw : w.kdl = v.kdl := by
      show (if st = 0 then v.restoreLanes d else if st = 2 then v.loseDom d else v).kdl = v.kdl
      split
      · exact restoreLanes_kdl v d
      · split
        · exact loseDom_kdl v d
        · rfl
    split
    · exact (railsMayFall_kdl w).trans (hw.trans hv)
    · exact hw.trans hv

theorem wakeNow_kdl (s : State) (d : Nat) : (s.wakeNow d).kdl = s.kdl := by
  unfold State.wakeNow
  extract_lets x t u y v w
  have hu : u.kdl = s.kdl := by
    show (if x.going.isSome ∧ x.going ≠ some 0 then s.endChange d else s).kdl = s.kdl
    split
    · exact endChange_kdl s d
    · rfl
  have hw : w.kdl = u.kdl := by
    show (if y.st = 2 then v.emit (.outputs d true) else v).kdl = v.kdl
    split
    · rfl
    · rfl
  split
  · rfl
  · exact (restoreLanes_kdl ..).trans (hw.trans hu)

/-! Packets that go out with the raster stopped leave the drivers as they were. -/

theorem ctlReady_drivers (s : State) : s.ctlReady.kdl.drivers = s.kdl.drivers := by
  refine (congrArg Kdl.drivers (foldl_keeps State.kdl (fun t d => ?_) _ _)).trans rfl
  split
  · rfl
  · exact (txExit_kdl ..).trans (txExit_kdl ..)

theorem setupSent_drivers (s : State) : s.setupSent.kdl.drivers = s.kdl.drivers := by
  unfold State.setupSent
  split
  · split
    · rfl
    · exact (congrArg Kdl.drivers (done_kdl ..)).trans rfl
  · rfl

theorem kdlRest_drivers (s : State) : s.kdlRest.kdl.drivers = s.kdl.drivers := by
  unfold State.kdlRest
  split
  · rfl
  · refine congrArg Kdl.drivers (foldl_keeps State.kdl (fun t d => ?_) _ s)
    extract_lets st
    split
    · exact (txEnter_kdl ..).trans (txEnter_kdl ..)
    · rfl

theorem ctlOut_drivers (s : State) : s.ctlOut.kdl.drivers = s.kdl.drivers := by
  unfold State.ctlOut
  split
  · rfl
  · extract_lets t sent u
    have hu : u.kdl = t.kdl := foldl_keeps State.kdl (fun v c => foldl_keeps State.kdl (fun w _ => sendCtl_kdl w c) _ v) _ t
    have ht : t.kdl.drivers = s.kdl.drivers := ctlReady_drivers s
    exact (kdlRest_drivers _).trans ((setupSent_drivers _).trans ((congrArg Kdl.drivers hu).trans ht))

/-! What waits for vertical blanking (R286, R290). -/

/-- From `s` to `t` no driver's training has fallen due. -/
def NoNewRetry (s t : State) : Prop := ∀ e, (s.drv e).retryDue = false → (t.drv e).retryDue = false

namespace NoNewRetry

theorem refl (s : State) : NoNewRetry s s := fun _ h => h
theorem trans {s t u : State} (h : NoNewRetry s t) (k : NoNewRetry t u) : NoNewRetry s u := fun e he => k e (h e he)

theorem of_drivers {s t : State} (h : t.kdl.drivers = s.kdl.drivers) : NoNewRetry s t := by
  intro e he
  rw [State.drv, h]
  exact he

theorem of_setDrv {s : State} {d : Nat} {x : Driver} (h : (s.drv d).retryDue = false → x.retryDue = false) :
    NoNewRetry s (s.setDrv d x) := by
  intro e he
  by_cases hed : e = d
  · subst hed
    rw [drv_setDrv_same]
    exact h he
  · rw [drv_setDrv_other _ _ hed]
    exact he

theorem foldl {α : Type} {f : State → α → State} (hf : ∀ s x, NoNewRetry s (f s x)) (l : List α) (s : State) :
    NoNewRetry s (l.foldl f s) :=
  List.foldlRecOn l f (motive := NoNewRetry s) (refl s) fun t ht x _ => ht.trans (hf t x)

end NoNewRetry

theorem ctl_noNewRetry (s : State) (d type apply : Nat) (body : List Byte) : NoNewRetry s (s.ctl d type apply body) := by
  have h : NoNewRetry s (s.setDrv d { s.drv d with cseq := ((s.drv d).cseq + 1) % 256 }) := .of_setDrv id
  exact h.trans (.of_drivers rfl)

theorem sendEchoes_noNewRetry (s : State) (d n : Nat) : NoNewRetry s (s.sendEchoes d n) :=
  .foldl (fun t _ => ctl_noNewRetry t d 5 0x80 []) _ s

theorem drvFollow_noNewRetry (s : State) (d : Nat) : NoNewRetry s (s.drvFollow d) := by
  unfold State.drvFollow
  extract_lets x t n m
  split
  · exact .refl s
  · split
    · have ht : NoNewRetry s t := .of_setDrv id
      exact ht.trans (.foldl (fun u _ => ctl_noNewRetry u d 7 0x80 _) _ t)
    · split
      · have hu : NoNewRetry s (s.setDrv d { x with echoes := x.echoes - m, nextAt := x.nextAt + 2000 * m }) := .of_setDrv id
        exact hu.trans (sendEchoes_noNewRetry _ d m)
      · exact .refl s

theorem ctlOut_noNewRetry (s : State) : NoNewRetry s s.ctlOut := .of_drivers (ctlOut_drivers s)

theorem trainDrv_noNewRetry (s : State) (d : Nat) : NoNewRetry s (s.trainDrv d) := by
  unfold State.trainDrv
  extract_lets t x u
  have ht : NoNewRetry s t := .of_drivers (congrArg Kdl.drivers ((wakeNow_kdl ..).trans (wakeNow_kdl ..)))
  have hu : NoNewRetry t u := .of_setDrv fun _ => rfl
  have hburst : NoNewRetry u (u.burstDrv d 256) := .of_drivers (congrArg Kdl.drivers (burstDrv_kdl ..))
  exact ((ht.trans hu).trans hburst).trans ((drvFollow_noNewRetry _ d).trans (ctlOut_noNewRetry _))

/-- A driver in DOWN whose retry is due trains. -/
def retryDrv (s : State) (d : Nat) : State := if (s.drv d).retryDue ∧ (s.drv d).st = 5 then s.trainDrv d else s

theorem retryDrv_idle {s : State} {d : Nat} (h : (s.drv d).retryDue = false) : retryDrv s d = s :=
  if_neg fun ⟨hd, _⟩ => absurd hd (Bool.eq_false_iff.1 h)

/-- Where no retry is due, none of the drivers trains. -/
theorem retries_none {s : State} {l : List Nat} (h : ∀ e ∈ l, (s.drv e).retryDue = false) : l.foldl retryDrv s = s := by
  induction l with
  | nil => rfl
  | cons e l ih =>
    rw [List.foldl_cons, retryDrv_idle (h e List.mem_cons_self)]
    exact ih fun e' he' => h e' (List.mem_cons_of_mem e he')

/-- Where one driver's retry alone is due, that driver alone trains: its training makes no other fall due. -/
theorem retries_one {s : State} {l : List Nat} {d : Nat} (hd : d ∈ l) (hl : l.Nodup) (hdue : (s.drv d).retryDue = true)
    (hst : (s.drv d).st = 5) (h : ∀ e, e ≠ d → (s.drv e).retryDue = false) : l.foldl retryDrv s = s.trainDrv d := by
  obtain ⟨before, after, rfl⟩ := List.append_of_mem hd
  obtain ⟨-, hrest, hapart⟩ := List.nodup_append.1 hl
  have hbefore : ∀ e ∈ before, e ≠ d := fun e he => hapart e he d List.mem_cons_self
  obtain ⟨hafter, -⟩ := List.nodup_cons.1 hrest
  have htrain : retryDrv s d = s.trainDrv d := if_pos ⟨hdue, hst⟩
  rw [List.foldl_append, retries_none fun e he => h e (hbefore e he), List.foldl_cons, htrain]
  exact retries_none fun e he => trainDrv_noNewRetry s d e (h e fun hed => hafter (hed ▸ he))

theorem blankWork_waits {s : State} (h : s.inBlank = false) : s.blankWork = s := if_pos h

theorem blankWork_trains {s : State} {d : Nat} (hb : s.inBlank = true) (hecho : s.kdl.echoDue = false) (hlt : d < 64)
    (hon : s.drvOn d = true) (hdue : (s.drv d).retryDue = true) (hst : (s.drv d).st = 5)
    (h : ∀ e, e ≠ d → (s.drv e).retryDue = false) : s.blankWork = s.trainDrv d := by
  have hb' : ¬ s.inBlank = false := by rw [hb]; decide
  rw [State.blankWork, if_neg hb', hecho]
  refine retries_one ?_ (List.nodup_range.filter _) hdue hst h
  exact List.mem_filter.2 ⟨List.mem_range.2 hlt, hon⟩

/-- The second's ECHO_REQs, in vertical blanking: one for each driver in RUN (R286). -/
theorem blankWork_echoes {s : State} (hb : s.inBlank = true) (hecho : s.kdl.echoDue = true) (h : ∀ e, (s.drv e).retryDue = false) :
    s.blankWork = (s.running_.foldl (fun (t : State) d => t.ctl d 5 0x80 []) { s with kdl := { s.kdl with echoDue := false } }).ctlOut := by
  have hb' : ¬ s.inBlank = false := by rw [hb]; decide
  rw [State.blankWork, if_neg hb', hecho]
  refine retries_none fun e _ => ctlOut_noNewRetry _ e ?_
  exact NoNewRetry.foldl (fun t d => sendEchoes_noNewRetry t d 1) _ _ e (h e)

theorem running_eq (s : State) : s.running_ = (List.range 64).filter fun d => s.drvOn d && (s.drv d).st == 3 := by
  rw [State.running_, State.drvs, List.filter_filter]
  exact List.filter_congr fun d _ => Bool.and_comm ..

/-! Packets of a back channel in SYNC (R284). -/

section
variable {s : State} {k : BcPacket} {type len : Nat} {f : State → State} (hd : k.drv < 64) (hst : (s.lane (200 + k.drv)).st = 3)
include hd hst

theorem bcTake_bad (h : bcGood k = false) : s.bcTake k type len f = (s.drvFollow k.drv).bcDrop k.drv :=
  (if_neg (by omega)).trans (if_pos h)

theorem bcTake_good (h : bcGood k = true) (ht : bcByte k 0 = type) (hl : k.body.length = len) :
    s.bcTake k type len f = (f (s.drvFollow k.drv)).ctlOut :=
  (if_neg (by omega)).trans ((if_neg (Bool.not_eq_false _ ▸ h)).trans (if_pos ⟨ht, hl⟩))

end

theorem setDrv_setDrv (s : State) (d : Nat) (x y : Driver) : (s.setDrv d x).setDrv d y = s.setDrv d y := by
  simp [State.setDrv]

/-- The drive link without its drivers and the packets that wait. -/
def linkAside (s : State) : Kdl := { s.kdl with drivers := [], ctl := [] }

/-- Training's due packets change the drivers and the packets that wait, and nothing else of the drive link. -/
theorem drvFollow_linkAside (s : State) (d : Nat) : linkAside (s.drvFollow d) = linkAside s := by
  have hpackets {n type : Nat} {body : List Byte} (t : State) :
      linkAside ((List.range n).foldl (fun u _ => u.ctl d type 0x80 body) t) = linkAside t := by
    refine foldl_keeps linkAside (fun u _ => ?_) _ t
    rfl
  unfold State.drvFollow
  extract_lets x t n m
  split
  · rfl
  · split
    · exact hpackets t
    · split
      · exact hpackets _
      · rfl

theorem drvFollow_rate (s : State) (d : Nat) : (s.drvFollow d).kdl.rate = s.kdl.rate :=
  (congrArg Kdl.rate (drvFollow_linkAside s d) :)

theorem drvFollow_sweep (s : State) (d : Nat) : (s.drvFollow d).kdl.sweep = s.kdl.sweep :=
  (congrArg Kdl.sweep (drvFollow_linkAside s d) :)

/-- What a STATUS records of its driver, at `t` (R284). -/
def statusTaken (x : Driver) (b : List Byte) (t : Ns) : Driver :=
  { x with
    laneA := (leAt b 2 1).testBit 0, laneB := (leAt b 2 1).testBit 1, deskew := (leAt b 2 1).testBit 2
    cseqAcc := leAt b 3 1, lastFlags := leAt b 2 1 % 8 + leAt b 2 1 / 16 * 16
    cCrc := addWrapped x.cCrc x.lastCrc (leAt b 4 2), lastCrc := leAt b 4 2
    cHold := addWrapped x.cHold x.lastHold (leAt b 6 2), lastHold := leAt b 6 2
    cCtl := addWrapped x.cCtl x.lastCtl (leAt b 8 2), lastCtl := leAt b 8 2
    temp := some (signed 16 (leAt b 0 2)), tempAt := t }

/-- The alert of a STATUS that stands for two failed bursts (R289, log entry 31). -/
abbrev burstsFailed (x : Driver) (b : List Byte) : Prop :=
  (leAt b 2 1).testBit 3 = true ∧
    (leAt b 2 1 % 8 + leAt b 2 1 / 16 * 16 = x.lastFlags ∨ 2 ≤ (leAt b 4 2 + 65536 - x.lastCrc) % 65536)

/-- A STATUS by the state of its driver (R284, R285, R289). -/
theorem takeStatus_eq (s : State) (d : Nat) (b : List Byte) :
    s.takeStatus d b =
      let x := s.drv d
      let y := statusTaken x b s.now
      if x.st = 1 ∧ leAt b 2 1 % 8 = 7 then
        ((s.setDrv d { y with st := 2, since := s.now, samples := [], echoes := 16, nextAt := s.now }).drvFollow d).ctlOut
      else if x.st = 3 ∧ (leAt b 2 1 % 8 ≠ 7 ∨ burstsFailed x b) then (s.setDrv d y).retrainDrv d 1
      else if x.st = 4 ∧ leAt b 2 1 % 8 = 7 then (s.setDrv d { y with st := 3, check := true, attempt := 0 }).sendEchoes d 1
      else s.setDrv d y := by
  unfold State.takeStatus
  extract_lets x f locks flags y failed u y'
  have hlocks : locks = true ↔ f % 8 = 7 := beq_iff_eq
  have hfailed : failed = true ↔ burstsFailed x b := by simp [failed, burstsFailed, flags, f]
  have hst : y.st = x.st := rfl
  have hretrain : (!locks || failed) = true ↔ f % 8 ≠ 7 ∨ burstsFailed x b := by
    rw [Bool.or_eq_true, hfailed, Bool.not_eq_true', ← Bool.not_eq_true, hlocks]
  have hecho : u.echoStep d =
      ((s.setDrv d { y with st := 2, since := s.now, samples := [], echoes := 16, nextAt := s.now }).drvFollow d).ctlOut := by
    have hdrv : u.drv d = y := drv_setDrv_same ..
    rw [State.echoStep, hdrv, setDrv_setDrv]
    rfl
  rw [hecho, setDrv_setDrv, hst]
  have hy : y = y' := rfl
  by_cases h1 : x.st = 1
  · simp [h1, hlocks, u, hy, f]
  by_cases h3 : x.st = 3
  · simp [h3, hretrain, u, hy, f]
  by_cases h4 : x.st = 4
  · simp [h4, hlocks, u, hy, f]
  · simp [h1, h3, h4, u, hy]

/-! The ECHO step (R285). -/

theorem foldl_max_le_iff (l : List Nat) (m c : Nat) : l.foldl max m ≤ c ↔ m ≤ c ∧ ∀ a ∈ l, a ≤ c := by
  induction l generalizing m with
  | nil => simp
  | cons a l ih => simp [ih, and_assoc]

theorem le_foldl_min_iff (l : List Nat) (m c : Nat) : c ≤ l.foldl min m ↔ c ≤ m ∧ ∀ a ∈ l, c ≤ a := by
  induction l generalizing m with
  | nil => simp
  | cons a l ih => simp [ih, and_assoc]

/-- The greatest sample is at most `n` above the least where every sample is at most `n` above every other. -/
theorem spread_le_iff {l : List Nat} (hl : l ≠ []) (n : Nat) :
    l.foldl max 0 ≤ l.foldl min (l.headD 0) + n ↔ ∀ a ∈ l, ∀ b ∈ l, a ≤ b + n := by
  have hhead : l.headD 0 ∈ l := by
    obtain ⟨x, t, rfl⟩ := List.exists_cons_of_ne_nil hl
    exact List.mem_cons_self
  have hleast (a : Nat) : a ≤ l.foldl min (l.headD 0) + n ↔ ∀ b ∈ l, a ≤ b + n := by
    simp only [← Nat.sub_le_iff_le_add, le_foldl_min_iff]
    exact ⟨fun ⟨_, h⟩ => h, fun h => ⟨h _ hhead, h⟩⟩
  rw [foldl_max_le_iff]
  exact ⟨fun ⟨_, h⟩ a ha => (hleast a).1 (h a ha), fun h => ⟨Nat.zero_le _, fun a ha => (hleast a).2 (h a ha)⟩⟩

/-! A valid ECHO (R286, R289). -/

/-- A round trip as a phase, ps: half of it without the driver's turn-around. -/
def echoPhi (rate rt : Nat) (b : List Byte) : Nat := (10 * rt - leAt b 0 2 * (slotPs rate / 10)) / 2

/-- What an ECHO records of its driver. -/
def echoTaken (x : Driver) (b : List Byte) : Driver := { x with tRxd := leAt b 2 2, tConv := leAt b 4 2 }

/-- A phase is more than 1 ns off `m`. -/
abbrev farFrom (phi m : Nat) : Prop := m + 1000 < phi ∨ phi + 1000 < m

theorem slotPs_tenth (rate : Nat) :
    slotPs rate / 10 = if rate = 0 then 320 else if rate = 1 then 160 else if rate = 2 then 100 else 80 := by
  unfold slotPs
  split
  · rfl
  · split
    · rfl
    · split
      · rfl
      · rfl

section
variable {s : State} {d : Nat} {b : List Byte} (hturn : 100 ≤ leAt b 0 2)
include hturn

theorem takeEcho_sample (rt : Nat) (hst : (s.drv d).st = 2) :
    s.takeEcho d rt b = s.setDrv d { echoTaken (s.drv d) b with samples := (s.drv d).samples ++ [echoPhi s.kdl.rate rt b] } :=
  (if_neg (by omega)).trans (if_pos hst)

theorem takeEcho_check (rt : Nat) (hst : (s.drv d).st = 3) (hc : (s.drv d).check = true) :
    s.takeEcho d rt b =
      let t := s.setDrv d { echoTaken (s.drv d) b with check := false }
      if farFrom (echoPhi s.kdl.rate rt b) (s.drv d).phi then (t.setFlag KDL_FLAGS_echo_drift).sendEchoes d 16 else t := by
  refine (if_neg (by omega)).trans ((if_neg (by rw [hst]; decide)).trans ((if_pos hst).trans ((if_pos hc).trans ?_)))
  exact if_congr (by simp [echoPhi]) rfl rfl

theorem takeEcho_run (rt : Nat) (hst : (s.drv d).st = 3) (hc : (s.drv d).check = false) :
    s.takeEcho d rt b =
      let x := s.drv d
      let phi := echoPhi s.kdl.rate rt b
      let l := (x.samples ++ [phi]).drop (x.samples.length + 1 - 16)
      if farFrom phi (meanOf x.samples) then (s.setDrv d (echoTaken x b)).setFlag KDL_FLAGS_echo_drift
      else s.setDrv d { echoTaken x b with samples := l, phi := meanOf l } := by
  have hrun : ¬ (s.drv d).check = true := Bool.not_eq_true _ ▸ hc
  refine (if_neg (by omega)).trans ((if_neg (by rw [hst]; decide)).trans ((if_pos hst).trans ((if_neg hrun).trans ?_)))
  exact if_congr (by simp [echoPhi]) rfl rfl

end

/-! The waits of training (R285, R289, R291). -/

theorem exec_echoStepEnd {s : State} {d : Nat} (h : (s.drv d).st = 2) :
    exec (.echoStepEnd d) s = .next
      (let x := s.drv d
       let t := (s.reach (x.since + 30000)).drvFollow d
       if 12 ≤ x.samples.length ∧ ∀ a ∈ x.samples, ∀ b ∈ x.samples, a ≤ b + 200 then t.drvRun d
       else if x.echoRepeat = true then t.drvDown d 2
       else (t.setDrv d { t.drv d with echoRepeat := true }).echoStep d) := by
  refine next_congr ((if_pos h).trans (if_congr (and_congr_right fun hlen => ?_) rfl rfl))
  exact spread_le_iff (by rintro hnil; simp [hnil] at hlen) 200

/-- Settles O42: packets by `bcTake_good` and what each type does, the waits by their tests, blanking's work by `retries_one`. -/
theorem driverTraining : Obligations.DriverTraining := by
  refine ⟨fun s p h => exec_kdlTrain h, fun s k rt hd hst => ⟨fun hbad => ?bad, fun hgood ht hl => ?status,
    fun hgood ht hl hturn => ?echo⟩, fun s d => ⟨fun h => ?timeout, fun h => exec_echoStepEnd h, fun h => ?retrain, fun h hon => ?down,
    fun t h hdown hlost => ?lost⟩, fun s => ⟨fun hb => ?waits, fun hb h => ?echoes⟩⟩
  case bad => exact ⟨next_congr (bcTake_bad hd hst hbad), next_congr (bcTake_bad hd hst hbad), next_congr (bcTake_bad hd hst hbad)⟩
  case status => exact next_congr ((bcTake_good hd hst hgood ht hl).trans (congrArg State.ctlOut (takeStatus_eq ..)))
  case echo =>
    intro ui phi y far l
    have hexec := bcTake_good (f := fun s => s.takeEcho k.drv rt k.body) hd hst hgood ht hl
    have hphi : echoPhi (s.drvFollow k.drv).kdl.rate rt k.body = phi := by rw [echoPhi, drvFollow_rate, slotPs_tenth]
    refine ⟨fun h2 => ?sample, fun h3 hc => ?check, fun h3 hc => ?run⟩
    case sample =>
      have hsample := takeEcho_sample hturn rt h2
      rw [hphi] at hsample
      exact next_congr (hexec.trans (congrArg State.ctlOut hsample))
    case check =>
      have hcheck := takeEcho_check hturn rt h3 hc
      rw [hphi] at hcheck
      exact ⟨fun hfar => next_congr (hexec.trans (congrArg State.ctlOut (hcheck.trans (if_pos hfar)))),
        fun hfar => next_congr (hexec.trans (congrArg State.ctlOut (hcheck.trans (if_neg hfar))))⟩
    case run =>
      have hrun := takeEcho_run hturn rt h3 hc
      rw [hphi] at hrun
      exact ⟨fun hfar => next_congr (hexec.trans (congrArg State.ctlOut (hrun.trans (if_pos hfar)))),
        fun hfar => next_congr (hexec.trans (congrArg State.ctlOut (hrun.trans (if_neg hfar))))⟩
  case timeout => exact next_congr (if_pos h)
  case retrain =>
    refine next_congr ((if_pos h).trans ?_)
    split
    · rfl
    · rfl
  case down =>
    intro t
    have hexec : exec (.downRetry d) s = .next t.blankWork := next_congr (if_pos ⟨h, hon⟩)
    refine ⟨fun hb => hexec.trans (next_congr (blankWork_waits hb)), fun hb hlt hecho hothers => hexec.trans (next_congr ?_)⟩
    refine blankWork_trains hb hecho hlt hon ?_ ?_ fun e he => ?_
    · rw [drv_setDrv_same]
    · rw [drv_setDrv_same]; exact h
    · rw [drv_setDrv_other _ _ he]; exact hothers e he
  case lost =>
    have hposts : ¬((s.drv d).bcLost = true ∨ (s.drv d).st ≠ 3) := by simp [hlost, h]
    show execBcLost d s = _
    simp only [execBcLost, hdown, if_neg hposts]
    rfl
  case waits => exact next_congr (blankWork_waits hb)
  case echoes =>
    let u : State := s.reach (s.kdl.echoAt + 1000000000)
    have hdue := blankWork_echoes (s := { u with kdl := { u.kdl with echoAt := u.now, echoDue := true } }) hb rfl h
    rw [running_eq] at hdue
    exact next_congr hdue

end Sys2Proof.Proofs

/-! PROOFS. The statement of the HARVEST sweeps (R292 to R295): a HARVEST at its dispatch, a SENSE that is awaited, and one that does
not come in time. -/

namespace Sys2Proof.Proofs

open Sys2Proof Sys2Proof.Machine Sys2Proof.Machine.Reg Sys2Proof.Laws

/-! HARVEST at its dispatch (R293). -/

/-- The values of R292 and R302, and a spacing that the settling and the pass pulses leave time for; `tconv` is the longest conversion
of the drivers in RUN. -/
abbrev sweepFits (s : State) (a : HarvestArgs) (tconv : Nat) : Prop :=
  1 ≤ a.nlines ∧ a.nlines ≤ 8640 ∧ 1 ≤ a.step ∧ a.step ≤ 255 ∧ a.line0 + (a.nlines - 1) * a.step < s.timing.vactive ∧
    a.level < 1024 ∧ 1 ≤ a.colours ∧ a.colours ≤ 7 ∧ 1 ≤ a.spacing ∧ a.spacing ≤ 255 ∧
    (a.settle * 100 + tconv * 10 + 4000) * 256 ≤ a.spacing * s.timing.lt ∧
    (a.settle + s.fld PNL_HV_hold) * 25600 + (a.step - 1) * 2 * s.fld PNL_HV_pass * 160 ≤ a.spacing * s.timing.lt

/-- A HARVEST of the OWNER that nothing stops is judged at its dispatch. -/
theorem take_harvest {s : State} {h : Hdr} {g kind : Nat} {a : HarvestArgs} (ht : s.takes h g) (hp : plainHdr h)
    (ho : h.part = s.owner) (ha : a.result < 2 ^ 48) :
    s.take h (.harvest kind a) = (s.counted.runHarvest (s.reqOf h g) kind a).goOn := by
  have hrights : s.counted.rights h.part (.harvest kind a) = true := beq_iff_eq.2 ho
  rw [take_acts ht hp rfl hrights (decide_eq_true ha)]
  simp [State.act, onSvc]

/-- R293's order for the OWNER's HARVEST. -/
theorem runHarvest_owner {s : State} {r : Req} {kind : Nat} (a : HarvestArgs) (ho : r.h.part = s.owner)
    (hk : kind ≤ 1) :
    s.runHarvest r kind a =
      if a.result ≠ 0 ∧ s.areaIn (fun _ o => o == s.owner) 65 a.result (a.nlines * 92160) = false then s.done r DENIED
      else if s.mode ≠ 9 ∨ (kind = 0 ∧ s.fld PNL_PANEL_type = 0) ∨ s.running_ = [] ∨ (a.result ≠ 0 ∧ s.storeUp = false) then
        s.done r NOT_READY
      else if s.kdl.sweep.isSome = true then s.done r NO_RESOURCE
      else if ¬sweepFits s a (s.running_.foldl (fun m d => max m (s.drv d).tConv) 0) then s.done r INVALID
      else { s with kdl := { s.kdl with sweep := some { req := r, kind := kind, a := a } } } := by
  unfold State.runHarvest
  extract_lets run tconv
  refine if_congr ?_ rfl (if_congr ?_ rfl (if_congr Iff.rfl rfl (if_congr ?_ rfl rfl)))
  · simp [ho]
  · rw [List.isEmpty_iff]
  · show _ ↔ ¬sweepFits s a tconv
    omega

/-! A SENSE that is awaited (R295). -/

theorem takeSense_awaited {s : State} {d : Nat} {b : List Byte} {w : Sweep} {o : Nat × Nat × Ns} (hw : s.kdl.sweep = some w)
    (ho : (w.out.find? fun o => o.2.1 == d && w.a.line0 + o.1 * w.a.step == leAt b 0 2) = some o) :
    s.takeSense d b =
      let e := senseEntries (leAt b 2 1 % 8) b
      let v := { w with out := w.out.filter (· != o), part := w.part ++ [(o.1, d, e)] }
      let r := ((s.putResult v o.1 d e).countLine v o.1).ringLine v o.1 (d / 2)
      r.2.putSweep r.1 := by
  simp only [State.takeSense, hw, ho]

/-- A sweep that still asks for a line goes on. -/
theorem putSweep_retry {s : State} {w : Sweep} (h : w.retry ≠ []) :
    s.putSweep w =
      { s.setFld KDL_HV_STATUS_missing (min 32767 w.missing.length) with kdl := { s.kdl with sweep := some w } } :=
  if_neg fun ⟨_, _, _, _, hnone⟩ => h (List.isEmpty_iff.1 hnone)

theorem exec_senseTimeout {s : State} {d line : Nat} {w : Sweep} {o : Nat × Nat × Ns} (hw : s.kdl.sweep = some w)
    (ho : (w.out.find? fun o => o.2.1 == d && w.a.line0 + o.1 * w.a.step == line) = some o) :
    exec (.senseTimeout d line) s = .next
      (let t := s.reach (o.2.2 + 20000)
       let v := { w with out := w.out.filter (· != o) }
       if w.retrying then
         let m := { v with missing := if w.missing.contains o.1 then w.missing else w.missing ++ [o.1] }
         let r := ((t.setFlag KDL_FLAGS_sense_miss).putResult m o.1 d (List.replicate 720 0)).ringLine m o.1 (d / 2)
         r.2.putSweep r.1
       else t.putSweep { v with retry := w.retry ++ [(o.1, d)] }) := by
  show execSenseTimeout d line s = _
  simp only [execSenseTimeout, hw, ho]

/-- Settles O43: the dispatch by `runHarvest_owner`, an awaited SENSE by `takeSense_awaited`, one not in time by `exec_senseTimeout`. -/
theorem harvestSweeps : Obligations.HarvestSweeps := by
  refine ⟨fun s h g a ht hp ho ha => ?dispatch, fun s k w o hd hst hgood htype hlen hw hfind => ?sense,
    fun s d line w o hw hfind => ⟨fun hr => ?again, fun hr => ?missing⟩⟩
  case dispatch =>
    intro u r run tconv ok sweep
    have hexec (kind : Nat) (hk : kind ≤ 1) : .next (s.take h (.harvest kind a)) = sweep kind := by
      have hjudged := runHarvest_owner (s := u) (r := r) a ho hk
      rw [running_eq, areaIn_counted] at hjudged
      exact next_congr ((take_harvest ht hp ho ha).trans (congrArg State.goOn hjudged))
    exact ⟨hexec 0 (by decide), hexec 1 (by decide)⟩
  case sense =>
    have htaken := takeSense_awaited ((drvFollow_sweep s k.drv).trans hw) hfind
    exact next_congr ((bcTake_good hd hst hgood htype hlen).trans (congrArg State.ctlOut htaken))
  case again =>
    refine (exec_senseTimeout hw hfind).trans (next_congr ((if_neg (Bool.not_eq_true _ ▸ hr)).trans ?_))
    exact putSweep_retry (List.append_ne_nil_of_right_ne_nil _ (List.cons_ne_nil _ _))
  case missing => exact (exec_senseTimeout hw hfind).trans (next_congr (if_pos hr))

end Sys2Proof.Proofs

/-! PROOFS. The statement of the record store's journal (R412 to R414): the items that a commit takes fit the journal, and the journal read
back at power-up gives them. -/

namespace Sys2Proof.Proofs

open Sys2Proof Sys2Proof.Machine Sys2Proof.Machine.Reg Sys2Proof.Laws

/-! The items that a commit takes (R412, R413, R435): with the log-state record they fit the journal. -/

/-- The entries and the bytes that the log-state record adds to a commit of `l`. -/
def logShare (l : List GItem) (logged : Bool) : Nat := if l.any logItem && !logged then 1 else 0

theorem logShare_cons (i : GItem) (l : List GItem) (logged : Bool) :
    logShare (i :: l) logged = (if logItem i && !logged then 1 else 0) + logShare l (logged || (logItem i && !logged)) := by
  unfold logShare
  cases hi : logItem i <;> cases logged <;> simp [hi]

theorem fitItems_cons (i : GItem) (l : List GItem) (room n : Nat) (logged : Bool) : fitItems (i :: l) room n logged =
    let k := if logItem i && !logged then 1 else 0
    if itemSize i + 128 * k ≤ room ∧ 1 + k ≤ n then
      let r := fitItems l (room - (itemSize i + 128 * k)) (n - (1 + k)) (logged || (logItem i && !logged))
      (i :: r.1, r.2)
    else ([], i :: l) := by
  rw [fitItems]
  cases logItem i && !logged <;> rfl

/-- What a commit takes fits the room and the entries left, with the log-state record's share. -/
theorem fitItems_fits (l : List GItem) : ∀ room n logged,
    let r := (fitItems l room n logged).1
    (r.map itemSize).sum + 128 * logShare r logged ≤ room ∧ r.length + logShare r logged ≤ n ∧ ∀ i ∈ r, i ∈ l := by
  induction l with
  | nil => exact fun room n logged => ⟨Nat.zero_le _, Nat.zero_le _, fun _ h => h⟩
  | cons i l ih =>
    intro room n logged r
    have hr : r = _ := congrArg Prod.fst (fitItems_cons i l room n logged)
    clear_value r
    generalize hk : (if (logItem i && !logged) = true then 1 else 0) = k at hr
    by_cases h : itemSize i + 128 * k ≤ room ∧ 1 + k ≤ n
    · obtain ⟨hs, hn, hm⟩ := ih (room - (itemSize i + 128 * k)) (n - (1 + k)) (logged || (logItem i && !logged))
      rw [if_pos h] at hr
      subst hr
      simp only [logShare_cons, hk, List.map_cons, List.sum_cons, List.length_cons]
      refine ⟨by omega, by omega, fun j hj => ?_⟩
      rcases List.mem_cons.1 hj with rfl | hj
      · exact List.mem_cons_self
      · exact List.mem_cons_of_mem _ (hm j hj)
    · rw [if_neg h] at hr
      subst hr
      exact ⟨Nat.zero_le _, Nat.zero_le _, nofun⟩

/-- An item that the gathered buffer may hold: a log entry, a record of a listed key, or the mark of a log-state record. -/
def gatherable (i : GItem) : Prop :=
  (i.key = 0 ∧ 1 ≤ i.data.length ∧ i.data.length ≤ 64 ∧ i.off < 2 ^ 23) ∨
    (nvsSlot i.key ≠ none ∧ i.key ≠ 0x0051 ∧ 1 ≤ i.data.length ∧ i.data.length ≤ 16320) ∨ (i.key = 0x0051 ∧ i.data = [])

theorem itemSize_le {i : GItem} (h : gatherable i) : itemSize i + 128 ≤ 16384 ∨ (logItem i = false ∧ itemSize i ≤ 16384) := by
  unfold itemSize logItem
  rcases h with ⟨hk, -⟩ | ⟨hs, hk, -, hl⟩ | ⟨hk, hd⟩
  · simp [hk]
  · have h0 : i.key ≠ 0 := fun h0 => hs (by rw [h0]; rfl)
    right
    simp [h0, hk]
    omega
  · simp [hk, hd]

theorem splitItems_ne_nil {l : List GItem} (hl : l ≠ []) (h : ∀ i ∈ l, gatherable i) : (splitItems l).1 ≠ [] := by
  obtain ⟨i, is, rfl⟩ := List.exists_cons_of_ne_nil hl
  have hi := itemSize_le (h i List.mem_cons_self)
  rw [splitItems, fitItems_cons]
  extract_lets k r
  rw [if_pos ?_]
  · exact List.cons_ne_nil _ _
  · cases hlog : logItem i <;> simp [k, hlog] at hi ⊢ <;> omega

/-- A record's copy as the journal holds it: header, body and padding. -/
theorem length_copyBytes (key seq : Nat) (body : List Byte) : (copyBytes key seq body).length = 64 + (body.length + 63) / 64 * 64 := by
  simp only [copyBytes, List.length_append, length_leBytes, List.length_replicate]
  omega

/-- Bytes padded to whole granules. -/
def padded (d : List Byte) : List Byte := d ++ List.replicate ((64 - d.length % 64) % 64) 0

theorem length_padded (d : List Byte) : (padded d).length = (d.length + 63) / 64 * 64 := by
  simp only [padded, List.length_append, List.length_replicate]
  omega

/-- A log entry among the items of a commit is one granule at most, at its place in the log; records have no such bounds. -/
def journalable (i : GItem) : Prop := i.key = 0 → 1 ≤ i.data.length ∧ i.data.length ≤ 64 ∧ i.off < 2 ^ 23

theorem journalable_of_key {i : GItem} (h : i.key ≠ 0) : journalable i := fun hk => absurd hk h

theorem gatherable.journalable {i : GItem} (h : gatherable i) : journalable i := by
  rcases h with ⟨-, h⟩ | ⟨hs, -⟩ | ⟨hk, -⟩
  · exact fun _ => h
  · exact journalable_of_key fun h0 => hs (by rw [h0]; rfl)
  · exact journalable_of_key (by rw [hk]; decide)

/-- An item that a commit carries takes its size of the journal's data area. -/
theorem length_padded_resolveItem (m : Sparse Byte) {i : GItem} (h : journalable i) :
    (padded (resolveItem m i).data).length = itemSize i := by
  rw [length_padded]
  by_cases hk : i.key = 0
  · obtain ⟨h1, h64, -⟩ := h hk
    simp only [resolveItem, itemSize, hk, if_true]
    omega
  · simp only [resolveItem, itemSize, hk, if_false, length_copyBytes]
    omega

/-- Every slot lies in the record store (R409). -/
theorem nvsSlot_within (key : Nat) : ∀ x, nvsSlot key = some x → x.1 + x.2 < 2 ^ 23 := by
  have hite {c : Prop} [Decidable c] {x : Nat × Nat} {o : Option (Nat × Nat)} (hx : c → x.1 + x.2 < 2 ^ 23)
      (ho : ∀ y, o = some y → y.1 + y.2 < 2 ^ 23) : ∀ y, (if c then some x else o) = some y → y.1 + y.2 < 2 ^ 23 := by
    intro y hy
    by_cases h : c
    · rw [if_pos h, Option.some.injEq] at hy
      exact hy ▸ hx h
    · exact ho y ((if_neg h).symm.trans hy)
  unfold nvsSlot
  iterate 13 refine hite (by omega) ?_
  exact nofun

theorem nextCopy_within (m : Sparse Byte) (key : Nat) : (nextCopy m key).1 < 2 ^ 23 := by
  unfold nextCopy
  split
  next off size b seq body h _ =>
    have hs : off + size < 2 ^ 23 := nvsSlot_within key _ h
    cases b <;> simp only [Bool.false_eq_true, if_false, if_true] <;> omega
  next off size h _ =>
    have hs : off + size < 2 ^ 23 := nvsSlot_within key _ h
    exact Nat.lt_of_le_of_lt (Nat.le_add_right ..) hs
  next => decide

/-- An item of a commit has its target within the store. -/
theorem off_resolveItem (m : Sparse Byte) {i : GItem} (h : journalable i) : (resolveItem m i).off < 2 ^ 23 := by
  unfold resolveItem
  split
  case isTrue hk => exact (h hk).2.2
  case isFalse => exact nextCopy_within ..

/-- The log-state record that goes with log entries takes the place of its marks (R435). -/
theorem withLogState_fits (m : Sparse Byte) (ack ovf : Nat) (l : List GItem) :
    let w := withLogState m ack ovf l
    w.length ≤ l.length + logShare l false ∧ (w.map itemSize).sum ≤ (l.map itemSize).sum + 128 * logShare l false ∧
      (l ≠ [] → w ≠ []) ∧ ((∀ i ∈ l, journalable i) → ∀ i ∈ w, journalable i) := by
  intro w
  by_cases h : l.any logItem = true
  · have hw : w = l.filter (fun i => i.key != 0x0051) ++ _ := if_pos h
    have hshare : logShare l false = 1 := by simp [logShare, h]
    have hsub := List.filter_sublist (p := fun i : GItem => i.key != 0x0051) (l := l)
    rw [hw, hshare]
    refine ⟨?_, ?_, fun _ => by simp, fun hl i hi => ?_⟩
    · simpa using hsub.length_le
    · have hsum := (hsub.map itemSize).sum_le_sum (fun _ _ => Nat.zero_le _)
      simpa [itemSize] using hsum
    · rcases List.mem_append.1 hi with hi | hi
      · exact hl i (hsub.subset hi)
      · rw [List.mem_singleton.1 hi]
        exact journalable_of_key (Nat.succ_ne_zero 0x50)
  · have hw : w = l := if_neg h
    rw [hw]
    exact ⟨Nat.le_add_right .., Nat.le_add_right .., id, id⟩

/-! The journal read back (R412, R414). -/

theorem nvsBytes_add (m : Sparse Byte) (a n k : Nat) : nvsBytes m a (n + k) = nvsBytes m a n ++ nvsBytes m (a + n) k := by
  simp only [nvsBytes, Sparse.read, List.range_add, List.map_append, List.map_map]
  simp only [Function.comp_def, Nat.add_assoc]

/-- Bytes read over a joined string are read over its parts. -/
theorem nvsBytes_append {m : Sparse Byte} {a : Nat} {x y : List Byte} (h : nvsBytes m a (x ++ y).length = x ++ y) :
    nvsBytes m a x.length = x ∧ nvsBytes m (a + x.length) y.length = y := by
  rw [List.length_append, nvsBytes_add] at h
  exact List.append_inj h (by simp [nvsBytes, Sparse.read])

/-- One entry of the journal written to its target. -/
def replayEntry (m t : Sparse Byte) (i : Nat) : Sparse Byte :=
  let e := nvsBytes m (0x1040 + 16 * i) 16
  Sparse.write 0 t (leAt e 0 4) (nvsBytes m (0x2000 + leAt e 8 4) (leAt e 4 4))

theorem journalOf_cons (i : GItem) (l : List GItem) (d : Nat) : journalOf (i :: l) d =
    let r := journalOf l (d + (padded i.data).length)
    ((leBytes 4 i.off ++ leBytes 4 i.data.length ++ leBytes 4 d ++ leBytes 4 0) ++ r.1, padded i.data ++ r.2) := by
  simp only [journalOf, padded, List.append_assoc]

theorem length_journalOf (l : List GItem) : ∀ d, (journalOf l d).1.length = 16 * l.length ∧
    (journalOf l d).2.length = (l.map fun i => (padded i.data).length).sum := by
  induction l with
  | nil => exact fun d => ⟨rfl, rfl⟩
  | cons i l ih =>
    intro d
    obtain ⟨he, hd⟩ := ih (d + (padded i.data).length)
    simp only [journalOf_cons, List.length_append, length_leBytes, he, hd, List.length_cons, List.map_cons, List.sum_cons, and_true]
    omega

/-- A number in its place in a byte string. -/
theorem leAt_at {n v a : Nat} {l : List Byte} (m : List Byte) (hl : l.length = a) (h : v < 256 ^ n) :
    leAt (l ++ (leBytes n v ++ m)) a n = v := by
  rw [leAt_append_right (Nat.le_of_eq hl), hl, Nat.sub_self, leAt_leBytes m h]

theorem replayEntry_eq {m : Sparse Byte} {e k d : Nat} {i : GItem} (t : Sparse Byte)
    (he : nvsBytes m (0x1040 + 16 * k) 16 = leBytes 4 i.off ++ leBytes 4 i.data.length ++ leBytes 4 d ++ leBytes 4 e)
    (hd : nvsBytes m (0x2000 + d) i.data.length = i.data) (ho : i.off < 2 ^ 32) (hl : i.data.length < 2 ^ 32) (hn : d < 2 ^ 32) :
    replayEntry m t k = Sparse.write 0 t i.off i.data := by
  have h0 : leAt (nvsBytes m (0x1040 + 16 * k) 16) 0 4 = i.off := by
    simpa only [he, List.append_assoc] using leAt_leBytes (leBytes 4 i.data.length ++ (leBytes 4 d ++ leBytes 4 e)) ho
  have h4 : leAt (nvsBytes m (0x1040 + 16 * k) 16) 4 4 = i.data.length := by
    simpa only [he, List.append_assoc] using leAt_at (leBytes 4 d ++ leBytes 4 e) (length_leBytes 4 i.off) hl
  have h8 : leAt (nvsBytes m (0x1040 + 16 * k) 16) 8 4 = d := by
    simpa only [he, List.append_assoc] using
      leAt_at (l := leBytes 4 i.off ++ leBytes 4 i.data.length) (leBytes 4 e) (by simp) hn
  rw [replayEntry, h0, h4, h8, hd]

/-- The entries of a journal, from the one with number k on, write its items to their targets. -/
theorem foldl_replayEntry {m : Sparse Byte} (l : List GItem) : ∀ (k d : Nat) (t : Sparse Byte),
    nvsBytes m (0x1040 + 16 * k) (journalOf l d).1.length = (journalOf l d).1 →
    nvsBytes m (0x2000 + d) (journalOf l d).2.length = (journalOf l d).2 →
    (∀ i ∈ l, i.off < 2 ^ 32) → d + (journalOf l d).2.length < 2 ^ 32 →
    (List.range' k l.length).foldl (replayEntry m) t = l.foldl (fun t i => Sparse.write 0 t i.off i.data) t := by
  induction l with
  | nil => exact fun _ _ _ _ _ _ _ => rfl
  | cons i l ih =>
    intro k d t he hd ho hn
    rw [journalOf_cons] at he hd hn
    obtain ⟨he, he'⟩ := nvsBytes_append he
    obtain ⟨hd, hd'⟩ := nvsBytes_append hd
    have hlen : (padded i.data).length = i.data.length + _ := List.length_append
    simp only [List.length_append] at hn
    have hi : replayEntry m t k = Sparse.write 0 t i.off i.data :=
      replayEntry_eq t (by simpa using he) (nvsBytes_append hd).1 (ho i List.mem_cons_self) (by omega) (by omega)
    rw [List.length_cons, List.range'_succ, List.foldl_cons, List.foldl_cons, hi]
    refine ih (k + 1) (d + (padded i.data).length) _ ?_ ?_ (fun j hj => ho j (List.mem_cons_of_mem _ hj)) (by omega)
    · simpa [Nat.mul_add, ← Nat.add_assoc] using he'
    · simpa [Nat.add_assoc] using hd'

/-- A marker before its own CRC-32C. -/
def markerBody (no n : Nat) (entries data : List Byte) : List Byte :=
  leBytes 4 0x4C4E524A ++ leBytes 4 no ++ leBytes 2 n ++ leBytes 2 0 ++ leBytes 4 data.length ++
    leBytes 4 (crc32c (entries ++ data)) ++ List.replicate 40 0

theorem length_markerBody (no n : Nat) (e d : List Byte) : (markerBody no n e d).length = 60 := by simp [markerBody]

theorem markerOf_eq (no n : Nat) (e d : List Byte) :
    markerOf no n e d = markerBody no n e d ++ leBytes 4 (crc32c (markerBody no n e d)) := rfl

theorem length_markerOf (no n : Nat) (e d : List Byte) : (markerOf no n e d).length = 64 := by
  simp [markerOf_eq, length_markerBody]

/-- A marker's fields are read back from its bytes. -/
theorem leAt_markerOf {no n : Nat} {e d : List Byte} (hno : no < 2 ^ 32) (hn : n < 2 ^ 16) (hd : d.length < 2 ^ 32) :
    let b := markerOf no n e d
    leAt b 0 4 = 0x4C4E524A ∧ leAt b 4 4 = no ∧ leAt b 8 2 = n ∧ leAt b 12 4 = d.length ∧ leAt b 16 4 = crc32c (e ++ d) ∧
      leAt b 60 4 = crc32c (b.take 60) := by
  intro b
  have hb : b = markerBody no n e d ++ leBytes 4 (crc32c (markerBody no n e d)) := rfl
  have hbody {a k v : Nat} (ha : a + k ≤ 60) (h : leAt (markerBody no n e d) a k = v) : leAt b a k = v := by
    rw [hb, leAt_append_left (by rwa [length_markerBody]), h]
  have htake : b.take 60 = markerBody no n e d := by
    rw [← length_markerBody no n e d, hb, List.take_left]
  refine ⟨hbody (by decide) ?_, hbody (by decide) ?_, hbody (by decide) ?_, hbody (by decide) ?_, hbody (by decide) ?_, ?_⟩
  case refine_6 =>
    rw [htake, hb]
    simpa only [List.append_nil] using leAt_at [] (length_markerBody no n e d) (crc32c_lt (markerBody no n e d))
  all_goals simp only [markerBody, List.append_assoc]
  · exact leAt_leBytes _ (by decide)
  · exact leAt_at _ (length_leBytes ..) hno
  · simpa only [List.append_assoc] using leAt_at (l := leBytes 4 0x4C4E524A ++ leBytes 4 no) _ (by simp) hn
  · simpa only [List.append_assoc] using
      leAt_at (l := leBytes 4 0x4C4E524A ++ leBytes 4 no ++ leBytes 2 n ++ leBytes 2 0) _ (by simp) hd
  · simpa only [List.append_assoc] using
      leAt_at (l := leBytes 4 0x4C4E524A ++ leBytes 4 no ++ leBytes 2 n ++ leBytes 2 0 ++ leBytes 4 d.length) _ (by simp)
        (crc32c_lt _)

/-- A journal of the items `l` and its marker lie in the memory as R412 lays them out. -/
structure Journaled (m : Sparse Byte) (no : Nat) (l : List GItem) : Prop where
  marker : nvsBytes m 0x1000 64 = markerOf no l.length (journalOf l 0).1 (journalOf l 0).2
  entries : nvsBytes m 0x1040 (journalOf l 0).1.length = (journalOf l 0).1
  data : nvsBytes m 0x2000 (journalOf l 0).2.length = (journalOf l 0).2
  number : no < 2 ^ 32
  count : 1 ≤ l.length ∧ l.length ≤ 64
  size : (journalOf l 0).2.length ≤ 0x4000
  targets : ∀ i ∈ l, i.off < 2 ^ 23

section

variable {m : Sparse Byte} {no : Nat} {l : List GItem} (h : Journaled m no l)
include h

theorem markerNumber_journaled : leAt (nvsBytes m 0x1000 64) 4 4 = no := by
  obtain ⟨hm, -, -, hno, ⟨-, h64⟩, hs, -⟩ := h
  obtain ⟨-, hnum, -⟩ :=
    leAt_markerOf (e := (journalOf l 0).1) (d := (journalOf l 0).2) hno (n := l.length) (by omega) (by omega)
  rw [hm, hnum]

theorem markerWhole_journaled : markerWhole m = true := by
  obtain ⟨hm, he, hd, hno, ⟨h1, h64⟩, hs, -⟩ := h
  obtain ⟨hmagic, -, hn, hlen, hcrc, hself⟩ :=
    leAt_markerOf (e := (journalOf l 0).1) (d := (journalOf l 0).2) hno (n := l.length) (by omega) (by omega)
  obtain ⟨hel, -⟩ := length_journalOf l 0
  rw [hel] at he
  simp only [markerWhole, hm, hmagic, hn, hlen, hcrc, hself, he, hd, h1, h64, hs, beq_self_eq_true, decide_true, Bool.and_self]

theorem replayed_journaled : replayed m = nvsApply m l := by
  obtain ⟨hm, he, hd, hno, ⟨h1, h64⟩, hs, ht⟩ := h
  obtain ⟨-, -, hn, -⟩ :=
    leAt_markerOf (e := (journalOf l 0).1) (d := (journalOf l 0).2) hno (n := l.length) (by omega) (by omega)
  have hfold := foldl_replayEntry (m := m) l 0 0 m he hd (fun i hi => Nat.lt_trans (ht i hi) (by decide)) (by omega)
  rw [nvsApply, ← hfold, replayed, hm, hn, List.range_eq_range']
  rfl

end

/-! A commit that begins (R413). -/

/-- The items of the next commit, as the journal holds them. -/
def commitItems (n : Nvs) (ack ovf : Nat) : List GItem :=
  (withLogState n.mem ack ovf (splitItems n.gather).1).map (resolveItem n.mem)

theorem commit_nvsBegin (now : Ns) (ack ovf : Nat) (n : Nvs) : (nvsBegin now ack ovf n).commit = commitItems n ack ovf := rfl

theorem mem_nvsBegin (now : Ns) (ack ovf : Nat) (n : Nvs) : (nvsBegin now ack ovf n).mem =
    let l := commitItems n ack ovf
    let j := journalOf l 0
    Sparse.write 0 (Sparse.write 0 (Sparse.write 0 n.mem 0x1040 j.1) 0x2000 j.2) 0x1000
      (markerOf (nvsBegin now ack ovf n).commitNo l.length j.1 j.2) := rfl

section

variable {n : Nvs} (hg : n.gather ≠ []) (h : ∀ i ∈ n.gather, gatherable i) (now : Ns) (ack ovf : Nat)
include hg h

/-- The items of a commit fit R412's journal: 64 entries, 16 KiB, and targets within the store. -/
theorem commitItems_fit : let l := commitItems n ack ovf
    (1 ≤ l.length ∧ l.length ≤ 64) ∧ (journalOf l 0).2.length ≤ 0x4000 ∧ ∀ i ∈ l, i.off < 2 ^ 23 := by
  obtain ⟨hsum, hlen, hmem⟩ := fitItems_fits n.gather 16384 64 false
  obtain ⟨hwlen, hwsum, hwne, hwj⟩ := withLogState_fits n.mem ack ovf (splitItems n.gather).1
  have hj := hwj fun i hi => (h i (hmem i hi)).journalable
  have hpos := List.length_pos_of_ne_nil (hwne (splitItems_ne_nil hg h))
  have hdata : (journalOf (commitItems n ack ovf) 0).2.length =
      ((withLogState n.mem ack ovf (splitItems n.gather).1).map itemSize).sum := by
    rw [(length_journalOf _ 0).2, commitItems, List.map_map]
    exact congrArg List.sum (List.map_congr_left fun i hi => length_padded_resolveItem n.mem (hj i hi))
  refine ⟨?_, ?_, fun i hi => ?_⟩
  · simp only [commitItems, List.length_map]
    exact ⟨hpos, hwlen.trans hlen⟩
  · rw [hdata]
    exact hwsum.trans hsum
  · obtain ⟨k, hk, rfl⟩ := List.mem_map.1 hi
    exact off_resolveItem n.mem (hj k hk)

/-- A commit that begins leaves its items in the journal with a marker that names its number. -/
theorem journaled_nvsBegin : Journaled (nvsBegin now ack ovf n).mem (nvsBegin now ack ovf n).commitNo (commitItems n ack ovf) := by
  obtain ⟨hcount, hsize, ht⟩ := commitItems_fit hg h ack ovf
  obtain ⟨hentries, -⟩ := length_journalOf (commitItems n ack ovf) 0
  have hmarker := length_markerOf (nvsBegin now ack ovf n).commitNo (commitItems n ack ovf).length
    (journalOf (commitItems n ack ovf) 0).1 (journalOf (commitItems n ack ovf) 0).2
  refine ⟨?_, ?_, ?_, Nat.mod_lt _ (by decide), hcount, hsize, ht⟩
  · rw [mem_nvsBegin, nvsBytes]
    exact hmarker ▸ read_write_same ..
  · rw [mem_nvsBegin, nvsBytes, read_write_other _ _ _ _ _ _ (by omega), read_write_other _ _ _ _ _ _ (by omega), read_write_same]
  · rw [mem_nvsBegin, nvsBytes, read_write_other _ _ _ _ _ _ (by omega), read_write_same]

end

/-! The journal at power-up (R414). -/

theorem flag_setFlag (s : State) {f : Fld} (h : f.lo = f.hi) (hw : f.hi < 32) : (s.setFlag f).flag f = true := by
  rw [State.flag, State.setFlag, fld_setFld_same s 1 (by omega) hw, h, Nat.sub_self]
  rfl

theorem checkJournal_whole {s : State} (h : markerWhole s.nvs.mem = true) {no : Nat} (hn : leAt (nvsBytes s.nvs.mem 0x1000 64) 4 4 = no) :
    s.checkJournal =
      ({ s with nvs := { s.nvs with mem := replayed s.nvs.mem, commitNo := no, bootEvent := some (0, no) } } : State).setFlag
        NVS_FLAGS_replay := by
  subst hn
  exact if_pos h

/-- A whole marker's commit ends as it would have ended undisturbed. -/
theorem checkJournal_journaled {s : State} {no : Nat} {l : List GItem} (h : Journaled s.nvs.mem no l) :
    s.checkJournal.nvs.mem = nvsApply s.nvs.mem l ∧ s.checkJournal.nvs.bootEvent = some (0, no) ∧
      s.checkJournal.flag NVS_FLAGS_replay = true := by
  rw [checkJournal_whole (markerWhole_journaled h) (markerNumber_journaled h), ← replayed_journaled h]
  exact ⟨by rw [setFlag_nvs], by rw [setFlag_nvs], flag_setFlag _ rfl (by decide)⟩

theorem checkJournal_blank {s : State} (hw : markerWhole s.nvs.mem = false)
    (hz : (nvsBytes s.nvs.mem 0x1000 64).all (· == 0) = true) : s.checkJournal = s := by
  rw [State.checkJournal, hw]
  exact if_pos hz

theorem checkJournal_torn {s : State} (hw : markerWhole s.nvs.mem = false)
    (hz : (nvsBytes s.nvs.mem 0x1000 64).all (· == 0) = false) :
    s.checkJournal.nvs.mem = s.nvs.mem ∧ s.checkJournal.flag NVS_FLAGS_rollback = true := by
  have e : s.checkJournal = _ := (if_neg (Bool.not_eq_true _ ▸ hw)).trans (if_neg (Bool.not_eq_true _ ▸ hz))
  rw [e]
  exact ⟨rfl, flag_setFlag _ rfl (by decide)⟩

/-- Settles O53: a commit that begins leaves a whole journal (`journaled_nvsBegin`), whose check at power-up ends it
(`checkJournal_journaled`). -/
theorem journalReplaysWholeCommits : Obligations.JournalReplaysWholeCommits := by
  refine ⟨fun s now ack ovf hg hall => ?whole, fun s hw => ⟨checkJournal_blank hw, checkJournal_torn hw⟩⟩
  have h : Journaled (nvsBegin now ack ovf s.nvs).mem (nvsBegin now ack ovf s.nvs).commitNo (nvsBegin now ack ovf s.nvs).commit :=
    journaled_nvsBegin hg hall now ack ovf
  obtain ⟨hpos, -⟩ := h.count
  exact ⟨List.length_pos_iff.1 hpos, markerWhole_journaled h,
    checkJournal_journaled (s := { s with nvs := nvsBegin now ack ovf s.nvs }) h⟩

end Sys2Proof.Proofs

/-! PROOFS. The statements of the register space (R450, R451, R454 to R464): accesses that reach no register, denied writes, plain
writes, and the OWNER's set-up. -/

namespace Sys2Proof.Proofs

open Sys2Proof Sys2Proof.Machine Sys2Proof.Machine.Reg Sys2Proof.Laws

/-! Accesses that reach no register (R454, R455). -/

section

variable {s : State} {p off : Nat} (hr : s.reachable p = true) (h1 : inWin off = false) (h2 : inMsix off = false)
  (h3 : inPba off = false)
include hr h1 h2 h3

theorem bar0Write_badSize {size : Nat} (h : ¬(size = 4 ∨ size = 8) ∨ off % size ≠ 0) (v : Nat) :
    s.bar0Write p off size v = (s.setFld GLB_FLAGS_size 1).goOn := by
  simp only [State.bar0Write, State.bar0, hr, h1, h2, h3, Bool.false_eq_true, or_self, if_false, if_true]
  rw [if_pos h]
  rfl

theorem bar0Write_unmapped (ha : off % 4 = 0) (hn : regAt off = none) (v : Nat) :
    s.bar0Write p off 4 v = (s.setFld GLB_FLAGS_unmapped 1).goOn := by
  rw [bar0Write_word v hr h1 h2 h3 ha, State.barWord, hn]
  rfl

theorem bar0Read_misaligned {size : Nat} (h : off % size ≠ 0) :
    s.bar0Read p off size = (s.setFld GLB_FLAGS_size 1).emit (.readData p (List.replicate size 0) false) := by
  simp only [State.bar0Read, hr, h1, h2, h3, Bool.false_eq_true, Bool.true_eq_false, if_false]
  rw [if_pos (.inr h)]
  rfl

/-- An aligned 4-byte read outside the windows returns one register's word. -/
theorem bar0Read_word (ha : off % 4 = 0) : s.bar0Read p off 4 =
    (s.readWord p off).2.emit (.readData p (leBytes 4 (s.readWord p off).1) false) := by
  have hoff : off / 4 * 4 = off := by omega
  have htake (w : Nat) : (leBytes 4 w).take 4 = leBytes 4 w := List.take_of_length_le (by rw [length_leBytes])
  simp only [State.bar0Read, hr, h1, h2, h3, Bool.false_eq_true, Bool.true_eq_false, if_false]
  rw [if_neg (by simp [ha]), if_neg (by decide), hoff, ha, List.drop_zero, htake]

end

/-- GLB_ID as the register table has it. -/
def glbIdDesc : RegDesc := ⟨"GLB_ID", 0x0, 4, 1, .part, .none, [⟨31, 16, .ro, 38422⟩, ⟨15, 8, .ro, 74⟩, ⟨7, 0, .ro, 1⟩]⟩

theorem regAt_glbId : regAt GLB_ID = some glbIdDesc := rfl

/-- GLB_ID shows its stored word. -/
theorem readWord_glbId (s : State) (p : Nat) : s.readWord p GLB_ID = (s.reg GLB_ID 0 p, s) := by
  rw [State.readWord, regAt_glbId]
  rfl

/-- Settles O56: the flags of writes and reads that reach no register, and GLB_ID's word. -/
theorem accessesThatReachNoRegister : Obligations.AccessesThatReachNoRegister := by
  intro s p off size v hr h1 h2 h3
  refine ⟨fun h => ?badSize, fun ha hn => ?unmapped, fun h => ?misaligned, fun ha hn => ?readUnmapped, ?id⟩
  case badSize => exact congrArg _ (bar0Write_badSize hr h1 h2 h3 (h.imp_left fun ⟨h4, h8⟩ => not_or.2 ⟨h4, h8⟩) _)
  case unmapped => exact congrArg _ (bar0Write_unmapped hr h1 h2 h3 ha hn _)
  case misaligned => exact congrArg _ (bar0Read_misaligned hr h1 h2 h3 h)
  case readUnmapped =>
    have hread : s.readWord p off = (0, s.setFld GLB_FLAGS_unmapped 1) := by
      rw [State.readWord, hn]
      rfl
    refine congrArg Host.Outcome.next ((bar0Read_word hr h1 h2 h3 ha).trans ?_)
    rw [hread, show leBytes 4 0 = [0, 0, 0, 0] by decide]
  case id =>
    refine congrArg Host.Outcome.next ((bar0Read_word hr rfl rfl rfl rfl).trans ?_)
    rw [readWord_glbId]

/-! Fields and words of any object and bank, read after a write. -/

/-- A field reads as written, cut to its width. -/
theorem fldAt_setFldAt_same (s : State) {f : Fld} (ix b v : Nat) (h : f.lo ≤ f.hi) (hw : f.hi < 32) :
    (s.setFldAt f ix b v).fldAt f ix b = v % 2 ^ (f.hi - f.lo + 1) := by
  refine Nat.eq_of_testBit_eq fun i => ?_
  rw [State.fldAt, State.setFldAt, reg_setReg_same, testBit_bits, Nat.testBit_mod_two_pow, testBit_setBits _ _ _ _ _ h,
    Nat.testBit_mod_two_pow]
  by_cases hi : i < f.hi - f.lo + 1
  · have h1 : f.lo + i < 32 := by omega
    have h2 : f.lo + i ≤ f.hi := by omega
    simp [hi, h1, h2]
  · simp [hi]

/-- A field of another word outlasts a write. -/
theorem fldAt_setFldAt_other (s : State) {f k : Fld} {ix b jx c : Nat} (v : Nat) (h : regKey k.off jx c ≠ regKey f.off ix b) :
    (s.setFldAt f ix b v).fldAt k jx c = s.fldAt k jx c := by
  rw [State.fldAt, State.setFldAt, reg_setReg_other s _ h]
  rfl

/-! Denied writes (R459, R464). -/

/-- `t` differs from `s` in the registers alone. -/
def regsOnly (s t : State) : Prop := { t with regs := s.regs } = s

theorem regsOnly.trans {s t u : State} (h : regsOnly s t) (k : regsOnly t u) : regsOnly s u := by
  have e : ({ u with regs := s.regs } : State) = { ({ u with regs := t.regs } : State) with regs := s.regs } := rfl
  exact e.trans ((congrArg (fun x : State => ({ x with regs := s.regs } : State)) k).trans h)

theorem setReg_regsOnly (s : State) (off ix b w : Nat) : regsOnly s (s.setReg off ix b w) := rfl
theorem setFldAt_regsOnly (s : State) (f : Fld) (ix b v : Nat) : regsOnly s (s.setFldAt f ix b v) := rfl

section

variable (s : State) (p c off : Nat)

/-- The deny log's wrapped bit is set where the entry at its head is in use. -/
def denyWraps : State := if s.fld (GLB_DENY_LOG_valid (s.fld GLB_DENY_HEAD_next)) = 1 then s.setFld GLB_DENY_HEAD_wrapped 1 else s

/-- The entry that a denied write leaves in the log (R464). -/
def denyEntry : Nat := 2 ^ 31 + p * 2 ^ 29 + c * 2 ^ 26 + off / 4 % 2 ^ 19 * 4

theorem deny_eq : s.deny p c off =
    ((((denyWraps s).setReg (GLB_DENY_LOG (s.fld GLB_DENY_HEAD_next)) 0 0 (denyEntry p c off)).setFld GLB_DENY_HEAD_next
      ((s.fld GLB_DENY_HEAD_next + 1) % 8)).addSat GLB_DENY_CNT_count 0 p 1).setFlag GLB_FLAGS_deny := rfl

theorem denyWraps_regsOnly : regsOnly s (denyWraps s) := by
  unfold denyWraps
  split
  · exact setFldAt_regsOnly ..
  · rfl

/-- A denied write changes the registers alone. -/
theorem deny_regsOnly : regsOnly s (s.deny p c off) := by
  rw [deny_eq]
  exact ((((denyWraps_regsOnly s).trans (setReg_regsOnly ..)).trans (setFldAt_regsOnly ..)).trans (setFldAt_regsOnly ..)).trans
    (setFldAt_regsOnly ..)

theorem fld_denyHead_lt : s.fld GLB_DENY_HEAD_next < 8 := Nat.mod_lt _ (by decide)

/-- The deny log's entries, its head and its flag, and a partition's counter, are different words. -/
theorem denyKeys {n : Nat} (hn : n < 8) : regKey (GLB_DENY_LOG n) 0 0 ≠ regKey GLB_DENY_HEAD 0 0 ∧
    regKey (GLB_DENY_LOG n) 0 0 ≠ regKey GLB_DENY_CNT 0 p ∧ regKey (GLB_DENY_LOG n) 0 0 ≠ regKey GLB_FLAGS 0 0 ∧
    regKey GLB_DENY_HEAD 0 0 ≠ regKey GLB_DENY_CNT 0 p ∧ regKey GLB_DENY_HEAD 0 0 ≠ regKey GLB_FLAGS 0 0 ∧
    regKey GLB_DENY_CNT 0 p ≠ regKey GLB_FLAGS 0 0 := by
  simp only [regKey, GLB_DENY_LOG, GLB_DENY_HEAD, GLB_DENY_CNT, GLB_FLAGS]
  omega

/-- A word that none of the four writes of a denied write names is as before. -/
theorem deny_get {k : Nat} (hl : k ≠ regKey (GLB_DENY_LOG (s.fld GLB_DENY_HEAD_next)) 0 0) (hh : k ≠ regKey GLB_DENY_HEAD 0 0)
    (hc : k ≠ regKey GLB_DENY_CNT 0 p) (hf : k ≠ regKey GLB_FLAGS 0 0) (d : Word) :
    Sparse.get d (s.deny p c off).regs k = Sparse.get d s.regs k := by
  have hw : Sparse.get d (denyWraps s).regs k = Sparse.get d s.regs k := by
    unfold denyWraps
    split
    · exact get_setReg_other s _ d hh
    · rfl
  rw [deny_eq]
  exact (get_setReg_other _ _ d hf).trans ((get_setReg_other _ _ d hc).trans ((get_setReg_other _ _ d hh).trans
    ((get_setReg_other _ _ d hl).trans hw)))

theorem fld_denyWraps_next : (denyWraps s).fld GLB_DENY_HEAD_next = s.fld GLB_DENY_HEAD_next := by
  unfold denyWraps
  split
  · exact fld_setFld_disjoint s _ rfl (by decide) (by decide) (by decide) (by decide)
  · rfl

theorem fld_denyWraps_wrapped : (denyWraps s).fld GLB_DENY_HEAD_wrapped =
    if s.fld (GLB_DENY_LOG_valid (s.fld GLB_DENY_HEAD_next)) = 1 then 1 else s.fld GLB_DENY_HEAD_wrapped := by
  unfold denyWraps
  split
  · exact fld_setFld_same s _ (by decide) (by decide)
  · rfl

/-- What a denied write leaves in the deny log, its head and its flag (R464). -/
theorem deny_log :
    let n := s.fld GLB_DENY_HEAD_next
    let t := s.deny p c off
    t.reg (GLB_DENY_LOG n) 0 0 = denyEntry p c off % 2 ^ 32 ∧ t.fld GLB_DENY_HEAD_next = (n + 1) % 8 ∧
      t.fld GLB_DENY_HEAD_wrapped = (if s.fld (GLB_DENY_LOG_valid n) = 1 then 1 else s.fld GLB_DENY_HEAD_wrapped) ∧
      t.fld GLB_FLAGS_deny = 1 := by
  intro n t
  obtain ⟨hlh, hlc, hlf, hhc, hhf, -⟩ := denyKeys p (fld_denyHead_lt s)
  have ht : t = _ := deny_eq s p c off
  clear_value t
  subst ht
  refine ⟨?_, ?_, ?_, fld_setFld_same _ _ (by decide) (by decide)⟩
  · rw [State.setFlag, State.setFld, State.setFldAt, reg_setReg_other _ _ hlf, State.addSat, State.setFldAt,
      reg_setReg_other _ _ hlc, State.setFld, State.setFldAt, reg_setReg_other _ _ hlh, reg_setReg_same]
  · refine (fldAt_setFldAt_other _ _ hhf).trans ((fldAt_setFldAt_other _ _ hhc).trans ?_)
    refine (fldAt_setFldAt_same _ _ _ _ (by decide) (by decide)).trans ?_
    exact Nat.mod_mod_of_dvd _ (by decide)
  · refine (fldAt_setFldAt_other _ _ hhf).trans ((fldAt_setFldAt_other _ _ hhc).trans ?_)
    refine (fld_setFld_disjoint (f := GLB_DENY_HEAD_next) (k := GLB_DENY_HEAD_wrapped) _ _ rfl (by decide) (by decide) (by decide) (by decide)).trans ?_
    rw [State.fld, State.fldAt, reg_setReg_other _ _ hlh.symm]
    exact fld_denyWraps_wrapped s

/-- Neither the log's entry nor its head lies in the counter's bank. -/
theorem fldP_denyCnt_denyWraps : (denyWraps s).fldP GLB_DENY_CNT_count p = s.fldP GLB_DENY_CNT_count p := by
  obtain ⟨-, -, -, hhc, -⟩ := denyKeys p (n := 0) (by decide)
  unfold denyWraps
  split
  · exact fldAt_setFldAt_other s _ hhc.symm
  · rfl

/-- The writes of a partition that were denied are counted, up to the counter's largest value. -/
theorem deny_count : (s.deny p c off).fldP GLB_DENY_CNT_count p = min (s.fldP GLB_DENY_CNT_count p + 1) (2 ^ 32 - 1) := by
  obtain ⟨-, hlc, -, hhc, -, hcf⟩ := denyKeys p (fld_denyHead_lt s)
  let u := ((denyWraps s).setReg (GLB_DENY_LOG (s.fld GLB_DENY_HEAD_next)) 0 0 (denyEntry p c off)).setFld GLB_DENY_HEAD_next
      ((s.fld GLB_DENY_HEAD_next + 1) % 8)
  have hu : u.fldP GLB_DENY_CNT_count p = s.fldP GLB_DENY_CNT_count p := by
    refine (fldAt_setFldAt_other _ _ hhc.symm).trans ?_
    rw [State.fldAt, reg_setReg_other _ _ hlc.symm]
    exact fldP_denyCnt_denyWraps s p
  rw [← hu, deny_eq]
  refine (fldAt_setFldAt_other _ _ hcf).trans ((fldAt_setFldAt_same _ _ _ _ (by decide) (by decide)).trans ?_)
  exact Nat.mod_eq_of_lt (Nat.lt_of_le_of_lt (Nat.min_le_right ..) (by decide))

end

/-- The one cause for which a write is denied is judged in the order of R459. -/
theorem barWord_denied {s : State} {p off c w : Nat} {d : RegDesc} (hd : regAt off = some d) (h : s.denyCause p d off w = some c) :
    s.barWord p off w = s.deny p c off := by
  rw [State.barWord, hd]
  simp only [h]

theorem denyCause_le {s : State} {p off c w : Nat} {d : RegDesc} (h : s.denyCause p d off w = some c) : c ≤ 4 := by
  unfold State.denyCause at h
  dsimp only at h
  split_ifs at h <;> simp only [Option.some.injEq] at h <;> omega

/-- Settles O57: a denied write is `deny` of its cause, whose four words `deny_log`, `deny_count` and `deny_get` tell apart. -/
theorem deniedWrites : Obligations.DeniedWrites := by
  intro s p off c v d hr h1 h2 h3 ha hoff hd hc n
  have hcause : s.denyCause p d off (v.toNat % 2 ^ 32) = some c := hc
  have hp : p < 4 := by
    simp only [State.reachable, Bool.and_eq_true, decide_eq_true_eq] at hr
    exact hr.1.1
  have hentry : denyEntry p c off = 2 ^ 31 + p * 2 ^ 29 + c * 2 ^ 26 + off := by
    unfold denyEntry
    omega
  have hle := denyCause_le hcause
  obtain ⟨hlog, hnext, hwrapped, hflag⟩ := deny_log s p c off
  refine ⟨s.deny p c off, ?_, ?_, hnext, hwrapped, deny_count s p c off, hflag, deny_regsOnly s p c off,
    fun k hl hh hcnt hf dflt => deny_get s p c off hl hh hcnt hf dflt⟩
  · exact congrArg Host.Outcome.next ((bar0Write_word _ hr h1 h2 h3 ha).trans (congrArg State.goOn (barWord_denied hd hcause)))
  · rw [hlog, hentry]
    omega

/-! A write that nothing denies (R457, R460). -/

theorem mergeBits_lt (n : Nat) : ∀ w m v : Nat, w < 2 ^ n → v < 2 ^ n → mergeBits w m v < 2 ^ n := by
  induction n with
  | zero =>
    intro w m v hw hv
    simp only [mergeBits, Nat.lt_one_iff.1 hw, Nat.lt_one_iff.1 hv, Nat.zero_and]
    decide
  | succ n ih =>
    intro w m v hw hv
    have half := ih (w / 2) (m / 2) (v / 2) (by omega) (by omega)
    have bit (x : Nat) : (x &&& m) % 2 = if m % 2 = 1 then x % 2 else 0 := by
      rcases Nat.mod_two_eq_zero_or_one m with hm | hm <;> rcases Nat.mod_two_eq_zero_or_one x with hx | hx <;>
        simp [Nat.and_mod_two_pow (n := 1), hm, hx]
    have hle : w &&& m ≤ w := Nat.and_le_left
    have hdw := Nat.and_div_two (a := w) (b := m)
    have hdv := Nat.and_div_two (a := v) (b := m)
    unfold mergeBits at half ⊢
    have hwm := bit w
    have hvm := bit v
    by_cases hm : m % 2 = 1
    · rw [if_pos hm] at hwm hvm
      omega
    · rw [if_neg hm] at hwm hvm
      omega

theorem written_lt (d : RegDesc) {cur w : Nat} (hc : cur < 2 ^ 32) (hw : w < 2 ^ 32) : written d cur w < 2 ^ 32 := by
  have ht : accMask d (· == .w1s) &&& w < 2 ^ 32 := Nat.lt_of_le_of_lt Nat.and_le_right hw
  exact mergeBits_lt 32 _ _ _ (mergeBits_lt 32 _ _ _ (mergeBits_lt 32 _ _ _ hc hw) (by decide)) ht

/-- A register's word after a write that its classes let through, and every other word. -/
theorem plainWrite_spec (s : State) (d : RegDesc) (off ix bank : Nat) {w : Nat} (hw : w < 2 ^ 32) :
    let t := s.plainWrite d off ix bank w
    t.reg off ix bank = written d (s.reg off ix bank) w ∧ regsOnly s t ∧
      ∀ k, k ≠ regKey off ix bank → ∀ dflt, Sparse.get dflt t.regs k = Sparse.get dflt s.regs k := by
  unfold State.plainWrite
  split
  case isTrue h => exact ⟨h.symm, rfl, fun _ _ _ => rfl⟩
  case isFalse =>
    refine ⟨?_, setReg_regsOnly .., fun k hk dflt => get_setReg_other s _ dflt hk⟩
    rw [reg_setReg_same, Nat.mod_eq_of_lt (written_lt d (reg_lt ..) hw)]

/-- A register of the CMP block is one of its table, at its own offset. -/
theorem cmp_register {off : Nat} {d : RegDesc} (hlo : 0x70000 ≤ off) (hhi : off < 0x80000) (hd : regAt off = some d) :
    d ∈ regsCMP ∧ off = d.base := by
  have hblock : off / 0x10000 = 7 := by omega
  rw [regAt, hblock] at hd
  have hmem : d ∈ regsCMP := List.mem_of_find?_eq_some hd
  have hone : d.stride = 4 ∧ d.count = 1 := (by decide : ∀ d ∈ regsCMP, d.stride = 4 ∧ d.count = 1) d hmem
  have hat := List.find?_some hd
  simp only [hone, Bool.and_eq_true, decide_eq_true_eq] at hat
  exact ⟨hmem, by omega⟩

theorem cmp_notIndexed {d : RegDesc} (h : d ∈ regsCMP) : d.ix = .none :=
  (by decide : ∀ d ∈ regsCMP, d.ix = .none) d h

/-- A register of the CMP block other than CMP_CTRL takes what its classes let through: no range, raster or unit watches it. -/
theorem acceptWrite_cmp (s : State) (p : Nat) {d : RegDesc} {w : Nat} (h : d ∈ regsCMP) (hc : d.base ≠ CMP_CTRL)
    (hw : w &&& usedMask d = w) :
    s.acceptWrite p d d.base 0 w = s.plainWrite d d.base 0 (if d.scope = .part then p else 0) w := by
  have hraster : rasterReg d.base = false := (by decide : ∀ d ∈ regsCMP, rasterReg d.base = false) d h
  rw [State.acceptWrite]
  simp only [hw, if_true, hraster, cmp_notIndexed h, and_true]
  refine (if_neg fun ⟨_, hr, _⟩ => Bool.false_ne_true hr).trans ?_
  simp only [regsCMP, List.mem_cons, List.not_mem_nil, or_false] at h
  rcases h with rfl | rfl | rfl | rfl | rfl | rfl | rfl | rfl | rfl | rfl | rfl | rfl | rfl | rfl | rfl
  case inl => exact absurd rfl hc
  all_goals rfl

/-- Settles O58: the write reaches `plainWrite` (`acceptWrite_cmp`), which leaves the word that its classes let through. -/
theorem registersTakeWhatTheirClassesAllow : Obligations.RegistersTakeWhatTheirClassesAllow := by
  intro s p off v d ⟨hr, hp⟩ hlock hlo hhi ha hc hd hg hv bank
  obtain ⟨hmem, rfl⟩ := cmp_register hlo hhi hd
  have hix := cmp_notIndexed hmem
  have h1 : inWin d.base = false := by simp [inWin]; omega
  have h2 : inMsix d.base = false := by simp [inMsix]; omega
  have h3 : inPba d.base = false := by simp [inPba]; omega
  have hword : s.barWord p d.base (v.toNat % 2 ^ 32) = s.plainWrite d d.base 0 bank (v.toNat % 2 ^ 32) := by
    rw [barWord_accept (ix := 0) _ hd (by rw [hix]; rfl) hp (by simpa [scopeFor, hix] using hg) (by simp [State.foreign, hix]) hlock]
    exact acceptWrite_cmp s p hmem hc hv
  refine ⟨_, congrArg Host.Outcome.next ((bar0Write_word _ hr h1 h2 h3 ha).trans (congrArg State.goOn hword)), ?_⟩
  exact plainWrite_spec s d d.base 0 bank (Nat.mod_lt _ (by decide))

/-! Steps and the queue of commands. -/

/-- Settles O5: `step` by its definition, and the command table has no words to decode. -/
theorem stepRunsTheFrontCommand : Obligations.StepRunsTheFrontCommand :=
  fun _ _ _ => ⟨rfl, fun _ _ => ⟨rfl, rfl⟩⟩

/-! The OWNER's set-up (R450, R451, R462 to R464). -/

/-- GLB_LOCK, GLB_DENY_HEAD, GLB_PART_EN, SEC_ROLE and SEC_IMG_FLOOR as the register table has them. -/
def glbLockDesc : RegDesc := ⟨"GLB_LOCK", 0x10, 4, 1, .owner, .none, [⟨0, 0, .w1s, 0⟩]⟩
def glbDenyHeadDesc : RegDesc := ⟨"GLB_DENY_HEAD", 0x28, 4, 1, .owner, .none, [⟨31, 31, .wo, 0⟩, ⟨3, 3, .ro, 0⟩, ⟨2, 0, .ro, 0⟩]⟩
def glbPartEnDesc : RegDesc := ⟨"GLB_PART_EN", 0xc, 4, 1, .owner, .none, [⟨3, 0, .rwl, 15⟩]⟩
def secRoleDesc : RegDesc :=
  ⟨"SEC_ROLE", 0x12000c, 4, 1, .owner, .none, [⟨9, 8, .ro, 0⟩, ⟨7, 7, .rwl, 0⟩, ⟨6, 6, .rwl, 0⟩, ⟨5, 4, .rwl, 0⟩, ⟨1, 0, .rwl, 0⟩]⟩
def secImgFloorDesc : RegDesc := ⟨"SEC_IMG_FLOOR", 0x120010, 4, 1, .owner, .none, [⟨31, 0, .rwl, 0⟩]⟩

theorem regAt_glbLock : regAt GLB_LOCK = some glbLockDesc := rfl
theorem regAt_glbDenyHead : regAt GLB_DENY_HEAD = some glbDenyHeadDesc := rfl
theorem regAt_glbPartEn : regAt GLB_PART_EN = some glbPartEnDesc := rfl
theorem regAt_secRole : regAt SEC_ROLE = some secRoleDesc := rfl
theorem regAt_secImgFloor : regAt SEC_IMG_FLOOR = some secImgFloorDesc := rfl

section

variable (s : State) (p : Nat)

theorem acceptWrite_glbPartEn {w : Nat} (hw : w &&& 15 = w) : s.acceptWrite p glbPartEnDesc GLB_PART_EN 0 w = s.writePartEn w := by
  have hused : w &&& usedMask glbPartEnDesc = w := hw
  rw [State.acceptWrite]
  simp only [hused, if_true]
  exact (if_neg fun ⟨_, hr, _⟩ => absurd hr (by decide)).trans rfl

theorem acceptWrite_secRole {w : Nat} (hw : w &&& 0x3F3 = w) : s.acceptWrite p secRoleDesc SEC_ROLE 0 w = s.writeRole w := by
  have hused : w &&& usedMask secRoleDesc = w := hw
  rw [State.acceptWrite]
  simp only [hused, if_true]
  exact (if_neg fun ⟨_, hr, _⟩ => absurd hr (by decide)).trans rfl

theorem acceptWrite_secImgFloor {w : Nat} (hw : w &&& 0xFFFFFFFF = w) :
    s.acceptWrite p secImgFloorDesc SEC_IMG_FLOOR 0 w = s.writeFloor w := by
  have hused : w &&& usedMask secImgFloorDesc = w := hw
  rw [State.acceptWrite]
  simp only [hused, if_true]
  exact (if_neg fun ⟨_, hr, _⟩ => absurd hr (by decide)).trans rfl

theorem acceptWrite_glbDenyHead : s.acceptWrite p glbDenyHeadDesc GLB_DENY_HEAD 0 0x80000000 = s.clearDenyLog := by
  have hsame := plainWrite_none (s := s) (off := GLB_DENY_HEAD) (ix := 0) (bank := 0)
    (written_none (d := glbDenyHeadDesc) rfl rfl rfl · 0x80000000)
  rw [State.acceptWrite]
  simp only [show 0x80000000 &&& usedMask glbDenyHeadDesc = 0x80000000 from rfl, if_true]
  refine (if_neg fun ⟨_, hr, _⟩ => absurd hr (by decide)).trans ?_
  show (s.plainWrite glbDenyHeadDesc GLB_DENY_HEAD 0 0 0x80000000).clearDenyLog = _
  rw [hsame]

theorem written_glbLock (cur : Nat) : written glbLockDesc cur 1 = cur - cur % 2 + 1 := by
  have hset : accMask glbLockDesc (· == .w1s) = 1 := rfl
  have hclear : accMask glbLockDesc (· == .w1c) = 0 := rfl
  have hplain : paramMask glbLockDesc = 0 := rfl
  simp [written, mergeBits, hset, hclear, hplain, Nat.and_one_is_mod]

theorem setBits_glbLock (cur : Nat) : setBits cur 0 0 1 = cur - cur % 2 + 1 := by
  simp [setBits, bits]

/-- The lock's bit, clear before, is set. -/
theorem acceptWrite_glbLock (h : s.locked = false) : s.acceptWrite p glbLockDesc GLB_LOCK 0 1 = s.setFld GLB_LOCK_lock 1 := by
  have hbit : s.reg GLB_LOCK 0 0 % 2 ≠ 1 := by
    simpa [State.locked, State.flag, State.fld, State.fldAt, bits] using h
  have hset : s.setFld GLB_LOCK_lock 1 = s.setReg GLB_LOCK 0 0 (s.reg GLB_LOCK 0 0 - s.reg GLB_LOCK 0 0 % 2 + 1) :=
    congrArg (s.setReg GLB_LOCK 0 0) (setBits_glbLock _)
  rw [State.acceptWrite]
  simp only [show 1 &&& usedMask glbLockDesc = 1 from rfl, if_true]
  refine (if_neg fun ⟨_, hr, _⟩ => absurd hr (by decide)).trans ?_
  show s.plainWrite glbLockDesc GLB_LOCK 0 0 1 = _
  rw [State.plainWrite, written_glbLock, hset, if_neg (by omega)]

/-- An OWNER's write reaches what its register does with the word. -/
theorem ownerWrite_accepted {s t : State} {p off w : Nat} {d : RegDesc} (h : s.ownerUp p) (hd : regAt off = some d)
    (hi : d.ix = .none) (ho : d.scope ≠ .safety) (hw : w < 2 ^ 32) (ha : s.acceptWrite p d off 0 w = t) (h1 : inWin off = false := by rfl)
    (h2 : inMsix off = false := by rfl) (h3 : inPba off = false := by rfl) (h4 : off % 4 = 0 := by rfl) :
    s.bar0Write p off 4 w = t.goOn := by
  rw [owner_write _ h h1 h2 h3 h4 hd hi ho, Nat.mod_eq_of_lt hw, ha]

end

/-- Partition `q` is enabled and leaves with the mask `v`. -/
def leaves (s : State) (v q : Nat) : Bool := s.partOn q && !v.testBit q

/-- Something of partition `q` keeps it enabled (R463). -/
def kept (s : State) (q : Nat) : Prop := q = s.owner ∨ s.hasQueue q = true ∨ ((s.layer 12).en = true ∧ q ∈ s.safetyPart)

/-- The condition on which a mask is refused, partition by partition. -/
theorem partEn_refused_iff (s : State) (v : Nat) :
    (leaves s v s.owner = true ∨ (List.range 4).any (fun q => leaves s v q && s.hasQueue q) = true ∨
      ((s.layer 12).en = true ∧ s.safetyPart.any (leaves s v) = true)) ↔ ∃ q < 4, leaves s v q = true ∧ kept s q := by
  have howner : s.owner < 4 := Nat.mod_lt _ (by decide)
  have hsafe : ∀ q ∈ s.safetyPart, q < 4 := by
    intro q hq
    unfold State.safetyPart at hq
    split at hq
    · rw [List.mem_singleton.1 hq]
      exact Nat.mod_lt _ (by decide)
    · exact absurd hq List.not_mem_nil
  simp only [List.any_eq_true, Bool.and_eq_true, List.mem_range]
  constructor
  · rintro (hl | ⟨q, hq, hl, hqueue⟩ | ⟨hen, q, hq, hl⟩)
    · exact ⟨_, howner, hl, .inl rfl⟩
    · exact ⟨q, hq, hl, .inr (.inl hqueue)⟩
    · exact ⟨q, hsafe q hq, hl, .inr (.inr ⟨hen, hq⟩)⟩
  · rintro ⟨q, hq, hl, rfl | hqueue | ⟨hen, hs⟩⟩
    · exact .inl hl
    · exact .inr (.inl ⟨q, hq, hl, hqueue⟩)
    · exact .inr (.inr ⟨hen, q, hs, hl⟩)

theorem writePartEn_refused {s : State} {v : Nat} (hv : v < 16) (h : ∃ q < 4, leaves s v q = true ∧ kept s q) :
    s.writePartEn v = s.setFld GLB_FLAGS_refused 1 := by
  rw [State.writePartEn, Nat.mod_eq_of_lt hv]
  exact if_pos ((partEn_refused_iff s v).2 h)

theorem writePartEn_taken {s : State} {v : Nat} (hv : v < 16) (h : ¬∃ q < 4, leaves s v q = true ∧ kept s q) :
    s.writePartEn v = s.setReg GLB_PART_EN 0 0 v := by
  rw [State.writePartEn, Nat.mod_eq_of_lt hv]
  exact if_neg (mt (partEn_refused_iff s v).1 h)

theorem leaves_iff {s : State} {v q : Nat} : leaves s v q = true ↔ s.partOn q = true ∧ v.testBit q = false := by
  simp [leaves]

/-- SEC_ROLE's word: the roles as written, with the state of SAFETY's binding (R450, R451). -/
theorem writeRole_eq (s : State) {v : Nat} (hv : v &&& 0xF3 = v) : s.writeRole v =
    let same := bits (s.reg SEC_ROLE 0 0) 7 4 = v / 16
    if ¬same ∧ (s.layer 12).en = true then s.setFld SEC_FLAGS_refused 1
    else s.setReg SEC_ROLE 0 0 (v % 256 +
      256 * (if same then s.fld SEC_ROLE_safety_state
        else if v / 64 % 2 = 0 then 0 else if v / 128 = 0 then 2 else 1)) := by
  extract_lets same
  have hlt : v < 256 := by
    rw [← hv]
    exact Nat.lt_of_le_of_lt Nat.and_le_right (by decide)
  have hgap : v / 4 % 4 = 0 := by
    rw [← hv]
    simp only [show (4 : Nat) = 2 ^ 2 from rfl, Nat.and_div_two_pow, Nat.and_mod_two_pow]
    exact Nat.and_zero _
  have hbind : v / 16 % 16 = v / 16 := by omega
  have hcur : s.reg SEC_ROLE 0 0 / 16 % 16 = bits (s.reg SEC_ROLE 0 0) 7 4 := rfl
  have hword : v % 4 + 16 * (v / 16) = v % 256 := by omega
  have hen : ofWord v SEC_ROLE_safety_en = v / 64 % 2 := rfl
  have hpin : ofWord v SEC_ROLE_pin_en = v / 128 := by
    simp only [ofWord, bits]
    omega
  rw [State.writeRole]
  simp only [hbind, hcur, hword, hen, hpin]
  rfl

/-- Settles O59, register by register. -/
theorem setUpAndRoles : Obligations.SetUpAndRoles := by
  intro s p v h
  have ⟨_, _, hlock⟩ := h
  have hmask {n : Nat} (hn : v.toNat < 2 ^ n) : v.toNat &&& (2 ^ n - 1) = v.toNat := Nat.and_two_pow_sub_one_of_lt_two_pow hn
  refine ⟨?lock, ?clear, fun hv hkeep => ?keeps, fun q hq hv hon hbit hwhy => ?refused, fun hv => ?role, ?floor⟩
  case lock =>
    exact next_congr (ownerWrite_accepted h regAt_glbLock rfl nofun (by decide) (acceptWrite_glbLock s p hlock))
  case clear =>
    exact next_congr (ownerWrite_accepted h regAt_glbDenyHead rfl nofun (by decide) (acceptWrite_glbDenyHead s p))
  case keeps =>
    refine next_congr (ownerWrite_accepted h regAt_glbPartEn rfl nofun v.isLt ((acceptWrite_glbPartEn s p (hmask (n := 4) hv)).trans ?_))
    refine writePartEn_taken hv fun ⟨q, hq, hl, hwhy⟩ => ?_
    obtain ⟨howner, hqueue, hsafe⟩ := hkeep q hq (leaves_iff.1 hl).1 (leaves_iff.1 hl).2
    rcases hwhy with k | k | k
    · exact howner k
    · exact Bool.false_ne_true (hqueue.symm.trans k)
    · exact hsafe k
  case refused =>
    refine next_congr (ownerWrite_accepted h regAt_glbPartEn rfl nofun v.isLt ((acceptWrite_glbPartEn s p (hmask (n := 4) hv)).trans ?_))
    exact writePartEn_refused hv ⟨q, hq, leaves_iff.2 ⟨hon, hbit⟩, hwhy⟩
  case role =>
    have hw : v.toNat &&& 0x3F3 = v.toNat := by
      rw [← hv, Nat.and_assoc]
      rfl
    exact next_congr (ownerWrite_accepted h regAt_secRole rfl nofun v.isLt ((acceptWrite_secRole s p hw).trans (writeRole_eq s hv)))
  case floor =>
    exact next_congr (ownerWrite_accepted h regAt_secImgFloor rfl nofun v.isLt (acceptWrite_secImgFloor s p (hmask (n := 32) v.isLt)))

end Sys2Proof.Proofs

/-! PROOFS. The statement of reset, start-up and the TAP's scans (R396, R461, R472, R488). -/

namespace Sys2Proof.Proofs

open Sys2Proof Sys2Proof.Machine Sys2Proof.Machine.Reg Sys2Proof.Laws

/-! Reset and start-up. -/

theorem mem_measureAon (s : State) : s.measureAon.nvs.mem = s.nvs.mem := by
  simp [State.measureAon, State.draw]

/-- Boot logic before its choice of firmware: the memories filled, and what AON measures (R488). -/
def filled (us : Nat) (t : State) : State :=
  let u : State := { t with inReset := false }
  ((u.setFld MEM_FILL_done 1).setFld MEM_FILL_time (min 1023 us)).measureAon.emit (.pin "BCB_BUSY_N" 0 true)

/-- Boot logic up to its choice of firmware, `x` (R488). -/
def begun (x : Nat × List Byte) (us : Nat) (t : State) : State :=
  let w := (filled us t).setFld NVS_STATUS_fw x.1
  { w with sec := { w.sec with fwImage := if x.1 = 3 then none else some x.2 } }

/-- Start-up after the choice `x` (R488). -/
def started (x : Nat × List Byte) (us : Nat) (c : CalOutcome) (t : State) (brown : Bool) : State :=
  if x.1 = 3 then { begun x us t with hif := { (begun x us t).hif with released := true, noFw := true } }
  else
    let e := (((begun x us t).svcStart brown).takeResults 31 1 c).bootEntries
    ({ e with mod := { e.mod with defaultsDue := e.flag MOD_CTRL_nvm_default_load } } : State).release_

theorem mem_filled (us : Nat) (t : State) : (filled us t).nvs.mem = t.nvs.mem := by
  rw [filled, emit_nvs, mem_measureAon, setFld_nvs, setFld_nvs]

theorem startUp_eq (t : State) (us : Nat) (c : CalOutcome) (brown : Bool) :
    t.startUp us c brown = started (bootFirmware t.nvs.mem) us c t brown := by
  rw [← mem_filled us t]
  unfold State.startUp started begun filled
  dsimp only

/-- `t` is `s` but for what left the part. -/
def emitsOnly (s t : State) : Prop := ∃ l, t = { s with sent := l }

theorem emitsOnly_foldl {α : Type} (f : State → α → State) (h : ∀ s a, emitsOnly s (f s a)) (l : List α) :
    ∀ s, emitsOnly s (l.foldl f s) := by
  induction l with
  | nil => exact fun s => ⟨s.sent, rfl⟩
  | cons a l ih =>
    intro s
    obtain ⟨u, hu⟩ := h s a
    obtain ⟨v, hv⟩ := ih (f s a)
    exact ⟨v, by rw [List.foldl_cons, hv, hu]⟩

theorem emitsOnly_resetPins (s : State) : emitsOnly s s.resetPins := by
  have hpins (name : String) (level : Bool) (n : Nat) (s : State) :
      emitsOnly s ((List.range n).foldl (fun s k => s.emit (.pin name k level)) s) :=
    emitsOnly_foldl _ (fun s _ => ⟨_, rfl⟩) _ s
  obtain ⟨l, hl⟩ := emitsOnly_foldl (fun s (x : String × Nat) => (List.range x.2).foldl (fun s k => s.emit (.pin x.1 k false)) s)
    (fun s x => hpins x.1 false x.2 s) [("CX_PERST_N", 6), ("SYNC_OUT", 1), ("STV", 4), ("CKV", 12), ("AGO", 1), ("GRST", 1),
      ("SCAN_DIR", 1), ("LS_EN", 1), ("PNL_EN", 8), ("CRK_DRV", 4), ("BCB_BUSY_N", 1)] s
  rw [State.resetPins, hl]
  obtain ⟨m, hm⟩ := hpins "HP_WAKE_N" true 4 (({ s with sent := l } : State).emit (.pin "BCB_INT_N" 0 true))
  exact ⟨m, hm⟩

/-- What a reset leaves. -/
theorem assertReset_eq (s : State) : emitsOnly { State.reset with
    pending := s.pending, free := s.free, tap := s.tap
    hif := { State.reset.hif with hostMem := s.hif.hostMem }
    pwr := { State.reset.pwr with bor := s.pwr.bor, borLp := s.pwr.borLp, crystal := s.pwr.crystal, syncHigh := s.pwr.syncHigh }
    nvs := { State.reset.nvs with mem := s.nvs.mem } } s.assertReset := by
  obtain ⟨l, hl⟩ := emitsOnly_resetPins ({ State.reset with
    pending := s.pending, sent := s.sent, free := s.free, tap := s.tap
    hif := { State.reset.hif with hostMem := s.hif.hostMem }
    pwr := { State.reset.pwr with bor := s.pwr.bor, borLp := s.pwr.borLp, crystal := s.pwr.crystal, syncHigh := s.pwr.syncHigh }
    nvs := { State.reset.nvs with mem := s.nvs.mem } } : State)
  exact ⟨l, hl⟩

theorem assertReset_mem (s : State) : s.assertReset.nvs.mem = s.nvs.mem := by
  obtain ⟨l, hl⟩ := assertReset_eq s
  rw [hl]

/-! The TAP's shift registers. -/

/-- What leaves a register of `n + 1` cells is its cells from TDO's end, and then the bits; the last that came in stay. -/
theorem shiftBits_eq (bits : List Bool) : ∀ (cells : List Bool), cells ≠ [] →
    shiftBits cells bits = ((cells.reverse ++ bits).take bits.length, (bits.reverse ++ cells).take cells.length) := by
  induction bits with
  | nil => intro cells _; simp [shiftBits]
  | cons b bs ih =>
    intro cells h
    obtain ⟨init, last, rfl⟩ := List.eq_nil_or_concat cells |>.resolve_left h
    rw [List.concat_eq_append, shiftBits, List.dropLast_concat, ih (b :: init) (List.cons_ne_nil b init)]
    have hkeep : (bs.reverse ++ b :: init).take (init.length + 1) =
        (bs.reverse ++ b :: init ++ [last]).take (init.length + 1) :=
      (List.take_append_of_le_length (by simp)).symm
    simp [hkeep]

/-- The bypass bit captures 0: a 0 leaves first, then the bits, and the last stays. -/
theorem shiftBits_bypass (bits : List Bool) :
    shiftBits [false] bits = ((false :: bits).take bits.length, [bits.getLast?.getD false]) := by
  rw [shiftBits_eq bits [false] (List.cons_ne_nil _ _)]
  rcases List.eq_nil_or_concat bits with rfl | ⟨init, last, rfl⟩ <;> simp

/-- A capture takes one open level for each cell. -/
theorem openBits_keeps (n : Nat) : ∀ s : State,
    (openBits n s).1.length = n ∧ (openBits n s).2 = { s with free := s.free + n } := by
  induction n with
  | zero => exact fun _ => ⟨rfl, rfl⟩
  | succ n ih =>
    intro s
    obtain ⟨hlen, hs⟩ := ih (s.draw 2).2
    refine ⟨congrArg (· + 1) hlen, hs.trans ?_⟩
    rw [State.draw, Nat.add_right_comm s.free 1 n, Nat.add_assoc s.free n 1]

theorem scanBypass_on {s : State} (h : s.pwr.deep < 6) (k : Nat) (held : Bool) (bits : List Bool) :
    s.scanBypass k held bits =
      ({ s with tap := { s.tap with inst := k, held := held, bypassBit := bits.getLast?.getD false } } : State).emit
        (.tap ((false :: bits).take bits.length)) := by
  rw [State.scanBypass, if_pos (by simpa [State.tapOn] using h), shiftBits_bypass]
  rfl

theorem scanCells_on {s : State} (h : s.pwr.deep < 6) (k : Nat) (held : Bool) (bits : List Bool) :
    s.scanCells k held bits =
      ({ s with free := s.free + 176
                tap := { s.tap with inst := k, held := held, cells := (bits.reverse ++ (openBits tapCells s).1).take 176 } } : State).emit
        (.tap (((openBits tapCells s).1.reverse ++ bits).take bits.length)) := by
  obtain ⟨hlen, hs⟩ := openBits_keeps tapCells s
  have hne : (openBits tapCells s).1 ≠ [] := List.ne_nil_of_length_eq_add_one hlen
  have hshift := shiftBits_eq bits _ hne
  rw [State.scanCells, if_pos (by simpa [State.tapOn] using h)]
  generalize openBits tapCells s = c at *
  obtain ⟨cells, t⟩ := c
  subst hs
  simp only [hshift, hlen]
  rfl

theorem tap_off {s : State} (h : 6 ≤ s.pwr.deep) : ¬ s.tapOn = true := by
  rw [State.tapOn, decide_eq_true_eq]
  omega

theorem startUps (s : State) (us : Nat) (c : CalOutcome) :
    let b : State := { s with pwr := { s.pwr with bor := true, borLp := s.pwr.ldoLp, crystal := false } }
    exec (.coldReset us c) s = .next (started (bootFirmware s.nvs.mem) us c s.assertReset false) ∧
    exec (.brownOut us c) s = .next (if s.inReset = true then b.assertReset
      else started (bootFirmware s.nvs.mem) us c b.assertReset true) := by
  intro b
  have hcold := startUp_eq s.assertReset us c false
  have hbrown := startUp_eq b.assertReset us c true
  rw [assertReset_mem] at hcold hbrown
  exact ⟨congrArg Host.Outcome.next hcold, congrArg Host.Outcome.next (if_congr Iff.rfl rfl hbrown)⟩

/-- Settles O60: `startUp_eq` for the start-up, `shiftBits_eq` for the scans. -/
theorem resetAndScans : Obligations.ResetAndScans := by
  refine ⟨fun s => ?reset, fun s us c => ?startUp, fun s bits h => ?bypass, fun s bits h => ?cells, fun s bits h => ?off⟩
  case reset =>
    obtain ⟨l, hl⟩ := assertReset_eq s
    refine ⟨_, congrArg Host.Outcome.next hl, ?_⟩
    exact ⟨rfl, rfl, rfl, rfl, rfl, rfl, rfl, rfl, rfl⟩
  case startUp =>
    intro begin_ rest b
    have hbegin : begin_ = begun (bootFirmware s.nvs.mem) us := rfl
    clear_value begin_
    subst hbegin
    have hrest : rest = started (bootFirmware s.nvs.mem) us c := rfl
    rw [hrest]
    exact startUps s us c
  case bypass =>
    exact ⟨congrArg _ (scanBypass_on h 0 false bits), congrArg _ (scanBypass_on h 3 true bits),
      congrArg _ (scanBypass_on h 4 true bits)⟩
  case cells =>
    exact ⟨(openBits tapCells s).1, (openBits_keeps tapCells s).1, congrArg _ (scanCells_on h 1 false bits),
      congrArg _ (scanCells_on h 2 true bits)⟩
  case off =>
    have hoff := tap_off h
    exact ⟨congrArg _ (if_neg hoff), congrArg _ (if_neg hoff), congrArg _ (if_neg hoff), congrArg _ (if_neg hoff),
      congrArg _ (if_neg hoff)⟩

end Sys2Proof.Proofs

/-! PROOFS. The statement of the SPDM responders (R440 to R443, R451). -/

namespace Sys2Proof.Proofs

open Sys2Proof Sys2Proof.Machine Sys2Proof.Machine.Reg Sys2Proof.Laws

section

variable {s : State} {n : Nat}

theorem negotiated_down (h : s.spdmUp n = false) (f : State → State) : s.negotiated n f = s := if_pos h

theorem negotiated_early (h : s.spdmUp n = true) (ha : (s.spdmOf n).algs = false) (f : State → State) :
    s.negotiated n f = s.spdmError n 4 := by
  rw [State.negotiated, h, ha]
  rfl

theorem negotiated_done (h : s.spdmUp n = true) (ha : (s.spdmOf n).algs = true) (f : State → State) : s.negotiated n f = f s := by
  rw [State.negotiated, h, ha]
  rfl

/-- A request that needs the negotiation runs as the part of it that comes after. -/
def needsNegotiation (n : Nat) (c : Instr) : Prop := ∃ f : State → State, ∀ s : State, exec c s = .next (s.negotiated n f)

/-- Every request but the version, the capabilities, the algorithms and DOE Discovery needs the negotiation. -/
theorem needsNegotiation_requests {c : Instr}
    (h : c = .getDigests n ∨ (∃ a b d, c = .getCertificate n a b d) ∨ (∃ a b, c = .challenge n a b) ∨
      (∃ a b d, c = .getMeasurements n a b d) ∨ (∃ a b, c = .keyExchange n a b) ∨ (∃ a, c = .finish n a) ∨ c = .heartbeat n ∨
      c = .keyUpdate n ∨ c = .endSession n ∨ ∃ a b, c = .encapsulatedRequest n a b) : needsNegotiation n c := by
  rcases h with rfl | ⟨a, b, d, rfl⟩ | ⟨a, b, rfl⟩ | ⟨a, b, d, rfl⟩ | ⟨a, b, rfl⟩ | ⟨a, rfl⟩ | rfl | rfl | rfl | ⟨a, b, rfl⟩ <;>
    exact ⟨_, fun _ => rfl⟩

/-- What a request of the connection that is not one of `needsNegotiation_requests` leaves while the responder is down. -/
theorem exec_spdm_down {c : Instr} (hd : s.spdmUp n = false)
    (h : c = .getVersion n ∨ (∃ w, c = .getCapabilities n w) ∨ (∃ b, c = .negotiateAlgorithms n b) ∨ c = .getDigests n ∨
      (∃ a b d, c = .getCertificate n a b d) ∨ (∃ a b, c = .challenge n a b) ∨ (∃ a b d, c = .getMeasurements n a b d) ∨
      (∃ a b, c = .keyExchange n a b) ∨ (∃ a, c = .finish n a) ∨ c = .heartbeat n ∨ c = .keyUpdate n ∨ c = .endSession n ∨
      (∃ a b, c = .encapsulatedRequest n a b) ∨ ∃ a, c = .doeDiscovery n a) : exec c s = .next s := by
  have hneg : needsNegotiation n c → exec c s = .next s := fun ⟨f, hf⟩ => (hf s).trans (congrArg Host.Outcome.next (negotiated_down hd f))
  have hup : ¬ s.spdmUp n = true := by simp [hd]
  rcases h with rfl | ⟨w, rfl⟩ | ⟨b, rfl⟩ | h | h | h | h | h | h | h | h | h | h | ⟨i, rfl⟩
  · exact congrArg Host.Outcome.next (if_neg hup)
  · exact congrArg Host.Outcome.next (if_pos hd)
  · exact congrArg Host.Outcome.next (if_pos hd)
  iterate 10 exact hneg (needsNegotiation_requests (by simp only [h, true_or, or_true]))
  · exact congrArg Host.Outcome.next (if_pos hd)

/-- An index has a measurement block exactly where R442 offers one. -/
theorem measBlock_isNone (s : State) (i : Nat) :
    (s.measBlock i).isNone = true ↔ ¬((1 ≤ i ∧ i ≤ 5) ∨ (16 ≤ i ∧ i ≤ 47)) := by
  rw [State.measBlock, Option.isNone_map, State.measurement]
  split_ifs <;> simp <;> omega

/-! After the negotiation. -/

variable (hu : s.spdmUp n = true) (ha : (s.spdmOf n).algs = true)
include hu ha

theorem exec_negotiated {c : Instr} {f : State → State} (hf : exec c s = .next (s.negotiated n f)) : exec c s = .next (f s) :=
  hf.trans (congrArg _ (negotiated_done hu ha f))

theorem exec_getDigests {chain : List Byte} (hc : s.certChain = some chain) :
    exec (.getDigests n) s = .next (s.answer n 0x01 (Config.sha384 chain)) := by
  refine (exec_negotiated hu ha rfl).trans ?_
  rw [hc]

theorem exec_getCertificate {chain : List Byte} (hc : s.certChain = some chain) (slot off len : Nat) :
    exec (.getCertificate n slot off len) s = .next (if slot ≠ 0 ∨ chain.length ≤ off then s.spdmError n 1
      else
        let d := (chain.drop off).take (min len 4088)
        s.answer n 0x02 (leBytes 2 d.length ++ leBytes 2 (chain.length - off - d.length) ++ d)) := by
  refine (exec_negotiated hu ha rfl).trans ?_
  rw [hc]

theorem exec_challenge {chain : List Byte} (hc : s.certChain = some chain) (slot : Nat) (nonce : List Byte) :
    exec (.challenge n slot nonce) s =
      .next (if slot ≠ 0 then s.spdmError n 1 else s.signed n 0x03 nonce (Config.sha384 chain)) := by
  refine (exec_negotiated hu ha rfl).trans ?_
  rw [hc]

theorem exec_getMeasurements_offered {idx : List Nat} (hi : ∀ i ∈ idx, (1 ≤ i ∧ i ≤ 5) ∨ (16 ≤ i ∧ i ≤ 47)) (b : Bool)
    (nonce : List Byte) : exec (.getMeasurements n idx b nonce) s =
      .next (if b = true then s.signed n 0x60 nonce (idx.flatMap fun i => (s.measBlock i).getD [])
        else s.answer n 0x60 (idx.flatMap fun i => (s.measBlock i).getD [])) := by
  have hall : ¬ (idx.any fun i => (s.measBlock i).isNone) = true := by
    rw [List.any_eq_true]
    exact fun ⟨i, hm, hn⟩ => (measBlock_isNone s i).1 hn (hi i hm)
  refine (exec_negotiated hu ha rfl).trans ?_
  exact congrArg Host.Outcome.next (if_neg hall)

theorem exec_getMeasurements_notOffered {idx : List Nat} {i : Nat} (hm : i ∈ idx) (hi : i = 0 ∨ (6 ≤ i ∧ i ≤ 15) ∨ 48 ≤ i)
    (b : Bool) (nonce : List Byte) : exec (.getMeasurements n idx b nonce) s = .next (s.spdmError n 1) := by
  have hany : (idx.any fun i => (s.measBlock i).isNone) = true :=
    List.any_eq_true.2 ⟨i, hm, (measBlock_isNone s i).2 (by omega)⟩
  refine (exec_negotiated hu ha rfl).trans ?_
  exact congrArg Host.Outcome.next (if_pos hany)

theorem exec_encapsulatedRequest (h1 : (s.spdmOf n).session = 1) (hm : (s.spdmOf n).mutAuth = true) (key : List Byte) (ok : Bool) :
    exec (.encapsulatedRequest n key ok) s =
      .next (if ok = true then (s.setSpdm n { s.spdmOf n with peer := Config.sha384 key }).answer n 0x6B []
        else (s.setSpdm n { s.spdmOf n with session := 0 }).spdmError n 6) := by
  have hopen : ¬ ((s.spdmOf n).session ≠ 1 ∨ (s.spdmOf n).mutAuth = false) := by simp [h1, hm]
  refine (exec_negotiated hu ha rfl).trans ?_
  exact congrArg Host.Outcome.next (if_neg hopen)

theorem exec_finish (h1 : (s.spdmOf n).session = 1) (hm : (s.spdmOf n).mutAuth = false ∨ (s.spdmOf n).peer ≠ []) (ok : Bool) :
    exec (.finish n ok) s =
      .next (if ok = true then
          let t := (s.setSpdm n { s.spdmOf n with session := 2 }).answer n 0x65 []
          if (s.spdmOf n).mutAuth = true then t.pinCheck n (s.spdmOf n).peer else t
        else (s.setSpdm n { s.spdmOf n with session := 0 }).spdmError n 6) := by
  have hopen : ¬ ((s.spdmOf n).session ≠ 1 ∨ ((s.spdmOf n).mutAuth && (s.spdmOf n).peer.isEmpty) = true) := by
    rcases hm with hm | hm <;> simp [h1, hm]
  refine (exec_negotiated hu ha rfl).trans ?_
  exact congrArg Host.Outcome.next (if_neg hopen)

end

theorem measurement_cluster (s : State) {c : Nat} (hc : c < 32) :
    s.measurement (16 + c) = some (if (s.cl c).job.isSome = true then (s.cl c).digest else List.replicate 48 0) := by
  have hslot : 16 ≤ 16 + c ∧ 16 + c < 48 := by omega
  rw [State.measurement, if_neg (by omega), if_neg (by omega), if_neg (by omega), if_neg (by omega), if_neg (by omega),
    if_pos hslot, Nat.add_sub_cancel_left]

/-- What DOE Discovery answers. -/
theorem exec_doeDiscovery {s : State} {n : Nat} (hu : s.spdmUp n = true) (i : Nat) :
    exec (.doeDiscovery n i) s = .next (s.answer n 0
      (if i = 0 then [1, 0, 0, 1] else if i = 1 then [1, 0, 1, 2] else if i = 2 then [1, 0, 2, 0] else [0xFF, 0xFF, 0, 0])) := by
  have hnd : ¬ s.spdmUp n = false := by simp [hu]
  refine congrArg Host.Outcome.next ((if_neg hnd).trans ?_)
  by_cases hi : i ≤ 2
  · rw [if_pos hi]
    interval_cases i <;> rfl
  · rw [if_neg hi, if_neg (by omega), if_neg (by omega), if_neg (by omega)]
    rfl

/-- Settles O55: `needsNegotiation_requests` for the order of a connection, and one equation of `exec` per request after it. -/
theorem spdmResponders : Obligations.SpdmResponders := by
  intro s n x error
  refine ⟨fun c hd h => exec_spdm_down hd h, fun c hu ha h => ?early, fun hu => ?connection, fun hu ha => ?negotiated⟩
  case early =>
    obtain ⟨f, hf⟩ := needsNegotiation_requests h
    exact (hf s).trans (congrArg _ (negotiated_early hu ha f))
  case connection =>
    have hnd : ¬ s.spdmUp n = false := by simp [hu]
    exact ⟨congrArg Host.Outcome.next (if_pos hu), fun w => congrArg Host.Outcome.next (if_neg hnd),
      fun o => congrArg Host.Outcome.next (if_neg hnd), exec_doeDiscovery hu⟩
  case negotiated =>
    refine ⟨fun chain hc => ?chain, fun idx nonce => ⟨fun hi => ?offered, fun i hm hi b => ?notOffered⟩, fun ma => ?key,
      fun h1 hm key => ?encapsulated, fun h1 hm => ?finish, fun h2 => ?session, fun h2 => ?noSession,
      rfl, rfl, fun c hc => measurement_cluster s hc⟩
    case chain =>
      have hcert := exec_getCertificate hu ha hc
      have hchal := exec_challenge hu ha hc
      exact ⟨exec_getDigests hu ha hc, fun off len hoff => (hcert 0 off len).trans (congrArg _ (if_neg (by omega))),
        fun slot off len hbad => (hcert slot off len).trans (congrArg _ (if_pos hbad)),
        fun nonce => ⟨(hchal 0 nonce).trans (congrArg _ (if_neg (by omega))),
          fun slot hs => (hchal slot nonce).trans (congrArg _ (if_pos hs))⟩⟩
    case offered =>
      intro d
      have hblocks := exec_getMeasurements_offered hu ha hi
      exact ⟨(hblocks true nonce).trans (congrArg _ (if_pos rfl)),
        (hblocks false nonce).trans (congrArg _ (if_neg Bool.false_ne_true))⟩
    case notOffered => exact exec_getMeasurements_notOffered hu ha hm hi b nonce
    case key =>
      refine ⟨?_, fun slot hs => ?_⟩
      · refine (exec_negotiated hu ha rfl).trans ?_
        exact congrArg Host.Outcome.next (if_neg (not_not.2 rfl))
      · refine (exec_negotiated hu ha rfl).trans ?_
        exact congrArg Host.Outcome.next (if_pos hs)
    case encapsulated =>
      have henc := exec_encapsulatedRequest hu ha h1 hm key
      exact ⟨(henc true).trans (congrArg _ (if_pos rfl)), (henc false).trans (congrArg _ (if_neg Bool.false_ne_true))⟩
    case finish =>
      have hfin := exec_finish hu ha h1 hm
      refine ⟨(hfin false).trans (congrArg _ (if_neg Bool.false_ne_true)),
        (hfin true).trans (congrArg _ ((if_pos rfl).trans ?_))⟩
      by_cases hma : x.mutAuth = true
      · refine (if_pos hma).trans (if_congr ?_ rfl rfl)
        exact (and_iff_right hma).symm
      · exact (if_neg hma).trans (if_neg fun h => hma h.1).symm
    case session =>
      refine ⟨(exec_negotiated hu ha rfl).trans ?_, (exec_negotiated hu ha rfl).trans ?_, (exec_negotiated hu ha rfl).trans ?_⟩ <;>
        exact congrArg Host.Outcome.next (if_pos h2)
    case noSession =>
      refine ⟨(exec_negotiated hu ha rfl).trans ?_, (exec_negotiated hu ha rfl).trans ?_, (exec_negotiated hu ha rfl).trans ?_⟩ <;>
        exact congrArg Host.Outcome.next (if_neg h2)

end Sys2Proof.Proofs

/-! PROOFS. The statements of the frame store (R346 to R363): its life, regions, the host's window and the stripe buffers. -/

namespace Sys2Proof.Proofs

open Sys2Proof Sys2Proof.Machine Sys2Proof.Machine.Reg Sys2Proof.Laws

/-! Region enables (R352). -/

/-- FST_RGN_CFG as the register table has it. -/
def rgnCfgDesc : RegDesc :=
  ⟨"FST_RGN_CFG", 0xd1008, 16, 64, .owner, .none, [⟨31, 31, .rwl, 0⟩, ⟨11, 8, .rwl, 0⟩, ⟨1, 0, .rwl, 0⟩]⟩

theorem regAt_rgnCfg {k : Nat} (hk : k < 64) : regAt (FST_RGN_CFG k) = some rgnCfgDesc := by
  have hall : ∀ k : Fin 64, regAt (FST_RGN_CFG k) = some rgnCfgDesc := by decide
  exact hall ⟨k, hk⟩

/-- A register without W1C and W1S bits takes a word of its writable bits whole, where it held nothing else. -/
theorem written_whole {d : RegDesc} {m cur w : Nat} (hm : paramMask d = m) (hc : accMask d (· == .w1c) = 0)
    (ht : accMask d (· == .w1s) = 0) (hcur : cur &&& m = cur) (hw : w &&& m = w) : written d cur w = w := by
  simp only [written, mergeBits, hm, hc, ht, hcur, hw]
  simp

theorem regionOk_iff (s : State) (k w : Nat) : s.regionOk k w = true ↔
    1 ≤ w / 256 % 16 ∧ w / 256 % 16 ≤ 9 ∧ s.rgnBase k < s.rgnEnd k ∧ s.rgnEnd k ≤ s.usable ∧ 65536 ≤ s.rgnBase k ∧
      (w / 256 % 16 = 9 → s.isSafety (w % 4) = true) ∧
      ∀ j < 64, j = k ∨ s.rgnEn j = false ∨ s.rgnEnd k ≤ s.rgnBase j ∨ s.rgnEnd j ≤ s.rgnBase k := by
  simp [State.regionOk, and_assoc, or_assoc, imp_iff_not_or]

/-- No range is set for the registers of the host interface and after it. -/
theorem wordOk_high {off : Nat} (h : 0xC0000 ≤ off) (w : Nat) : wordOk off w = true := by
  simp (disch := omega) only [wordOk, TBS_CTRL, TBS_SYNC_PERIOD, TBS_DPLL_CFG, TBS_SLEW, TBS_OUT_CFG, TBS_SHUT_CFG, TBS_SHUT_MAP,
    TBS_MS_QUOTA, LNK_EI_CFG, LYR_ZORDER_LO, LYR_ZORDER_HI, LYR_L_SRC, LYR_L_DST, SCN_VSYNC_VBACK, SCN_VACTIVE_VFRONT,
    SCN_LINE_TIME, SCN_SYNC_CFG, PNL_PANEL, PNL_GATE_CFG, PNL_GRST, PNL_HV, PNL_CRK_CFG, if_neg]

theorem rasterReg_high {off : Nat} (h : 0xC0000 ≤ off) : rasterReg off = false := by
  simp only [rasterReg, SCN_VSYNC_VBACK, SCN_VACTIVE_VFRONT, SCN_LINE_TIME, SCN_SYNC_CFG, SCN_PHASE, TBS_SHUT_CFG, TBS_SHUT_OFFSET,
    Bool.or_eq_false_iff, Bool.and_eq_false_iff, beq_eq_false_iff_ne, decide_eq_false_iff_not]
  omega

theorem setInRange_high (s : State) {off : Nat} (h : 0xC0000 ≤ off) (w : Nat) : s.setInRange off w = true := by
  have hoff : ¬ off ≤ TBS_SHUT_OFFSET 3 := by simp only [TBS_SHUT_OFFSET]; omega
  simp [State.setInRange, hoff]

theorem acceptWrite_rgnCfg (s : State) (p : Nat) {k w : Nat} (hk : k < 64) (hw : w &&& 0x80000F03 = w) :
    s.acceptWrite p rgnCfgDesc (FST_RGN_CFG k) 0 w =
      if ofWord w (FST_RGN_CFG_en k) = 1 ∧ s.regionOk k w = false then s.setFlag FST_FLAGS_rgn_refused
      else s.plainWrite rgnCfgDesc (FST_RGN_CFG k) 0 0 w := by
  have hused : w &&& usedMask rgnCfgDesc = w := hw
  have hhigh : 0xC0000 ≤ FST_RGN_CFG k := by simp only [FST_RGN_CFG]; omega
  have hsetup (v : Nat) : setupOk (FST_RGN_CFG k) v = true := by
    simp (disch := omega) only [setupOk, FST_RGN_CFG, FST_CFG, PWR_DOM_CFG, if_neg]
  rw [State.acceptWrite]
  simp only [hused, if_true, rasterReg_high hhigh, wordOk_high hhigh, setInRange_high s hhigh, hsetup]
  simp (disch := omega) only [FST_RGN_CFG, GLB_PART_EN, SEC_ROLE, SEC_IMG_FLOOR, HIF_QALLOC, HIF_Q_CFG, HIF_Q_BASE_LO, HIF_Q_BASE_HI,
    HIF_Q_AGG, SCN_CTRL, FST_CFG, FST_RGN_BASE, if_neg, if_pos]
  have hk' : (0xd1008 + 16 * k - 0xd1000) / 16 = k := by omega
  simp (disch := omega) only [State.writeRegion, FST_RGN_BASE, hk', Bool.false_eq_true, false_and, and_false, if_false,
    Bool.true_eq_false, or_self, if_pos]

theorem fits_32 {w m : Nat} (h : w &&& m = w) (hm : m < 2 ^ 32) : w < 2 ^ 32 :=
  h ▸ Nat.and_lt_two_pow w hm

/-- The OWNER's write of a region's configuration. -/
theorem regionEnableWrite_owner {s : State} {p k : Nat} {v : Word} (h : s.ownerUp p) (hk : k < 64)
    (hv : v.toNat &&& 0x80000F03 = v.toNat) : exec (.regionEnableWrite p k v) s =
      .next (if v.getLsbD 31 = true ∧ s.regionOk k v.toNat = false then s.setFlag FST_FLAGS_rgn_refused
        else s.plainWrite rgnCfgDesc (FST_RGN_CFG k) 0 0 v.toNat).goOn := by
  have hen : ofWord v.toNat (FST_RGN_CFG_en k) = 1 ↔ v.getLsbD 31 = true := by
    simp [ofWord, bits, BitVec.getLsbD, Nat.testBit_eq_decide_div_mod_eq]
  have hwin : inWin (FST_RGN_CFG k) = false := by simp [inWin, FST_RGN_CFG]; omega
  have hmsix : inMsix (FST_RGN_CFG k) = false := by simp [inMsix, FST_RGN_CFG]; omega
  have hpba : inPba (FST_RGN_CFG k) = false := by simp [inPba, FST_RGN_CFG]; omega
  refine congrArg Host.Outcome.next ((if_pos hk).trans (ownerWrite_accepted h (regAt_rgnCfg hk) rfl (by decide) v.isLt ?_ hwin hmsix hpba
    (by simp only [FST_RGN_CFG]; omega)))
  rw [acceptWrite_rgnCfg s p hk hv, if_congr (and_congr_left' hen) rfl rfl]

/-! The host's window (R353 to R355). -/

theorem apertureWrite_up {s : State} {p off : Nat} {d : List Byte} (h : s.hostUp p) (h1 : 1 ≤ d.length) (hn : d.length ≤ 512)
    (ho : off + d.length ≤ 32768) : exec (.apertureWrite p off d) s = .next
      (if s.mayWrite p (s.winAddr p off) d.length = false then s.fstDeny p
        else if s.storeUp = false then s
        else (s.l1Out.bufWrite (s.winAddr p off) d).ringBells (s.winAddr p off) d.length).goOn := by
  obtain ⟨hr, hp⟩ := h
  have hok : ¬ winOk off d.length = false := by simp [winOk]; omega
  have hin : ¬ (s.reachable p = false ∨ 32768 ≤ off) := by simp [hr]; omega
  refine congrArg Host.Outcome.next ((if_neg hin).trans ((if_pos hp).trans (congrArg State.goOn ?_)))
  exact if_neg hok

theorem apertureRead_up {s : State} {p off n : Nat} (hr : s.reachable p = true) (h1 : 1 ≤ n) (ho : off + n ≤ 32768) :
    exec (.apertureRead p off n) s = .next (s.winRead p off n) := by
  have hin : ¬ (s.reachable p = false ∨ 32768 ≤ off) := by simp [hr]; omega
  exact congrArg Host.Outcome.next (if_neg hin)

theorem readable_storeUp {s : State} {a n : Nat} (h : s.readable a n = true) : s.storeUp = true := by
  simp only [State.readable, Bool.and_eq_true] at h
  exact h.1.1

theorem winRead_intact {s : State} {p off n : Nat} (h1 : 1 ≤ n) (hn : n ≤ 512) (ho : off + n ≤ 32768)
    (hm : s.mayRead p (s.winAddr p off) n = true) (ha : s.fst.asleep = false) (hd : s.readable (s.winAddr p off) n = true) :
    s.winRead p off n = (s.countRecon (s.winAddr p off) n).emit (.readData p (s.bytes (s.winAddr p off) n) false) := by
  have hawake : s.l1Out = s := if_neg (by simp [ha])
  have hread : s.ppaRead (s.winAddr p off) n = some (s.bytes (s.winAddr p off) n) := if_pos hd
  have hopen : ¬ (winOk off n = false ∨ s.mayRead p (s.winAddr p off) n = false ∨ s.storeUp = false) := by
    simp [winOk, hm, readable_storeUp hd]
    omega
  rw [State.winRead]
  refine (if_neg hopen).trans ?_
  simp only [hawake, hread]

/-- Settles O48: the enables through `regionOk_iff`, the window through `apertureWrite_up` and `winRead_intact`. -/
theorem regionsApertureAndBuffers : Obligations.RegionsApertureAndBuffers := by
  refine ⟨fun s p k v h hk hv hold => ?enables, fun s p off d h h1 hn ho => ?writes, fun s p off n h h1 hn ho => ?reads,
    fun s k hk hu => ⟨fun ha => ?flush, fun u => ⟨fun ha => ?last, fun hm hleft => ?ack⟩⟩⟩
  case enables =>
    intro kind b e ok
    have hwrite := regionEnableWrite_owner h hk hv
    refine ⟨fun hen hno => hwrite.trans ?_, fun hok hne => hwrite.trans ?_⟩
    · rw [if_pos ⟨hen, Bool.eq_false_iff.2 fun c => hno ((regionOk_iff s k _).1 c)⟩]
      rfl
    · have hno : ¬ (v.getLsbD 31 = true ∧ s.regionOk k v.toNat = false) := by
        rintro ⟨hen, hbad⟩
        rcases hok with hoff | hok
        · exact Bool.false_ne_true (hoff ▸ hen)
        · exact Bool.false_ne_true (hbad ▸ (regionOk_iff s k _).2 hok)
      rw [if_neg hno, State.plainWrite, written_whole rfl rfl rfl hold hv, if_neg (Ne.symm hne)]
  case writes =>
    intro a
    have hwrite := apertureWrite_up h h1 hn ho
    have haddr : s.winAddr p off = a := rfl
    rw [haddr] at hwrite
    refine ⟨fun hm hup => hwrite.trans ?_, fun hm => hwrite.trans ?_⟩
    · rw [if_neg (by simp [hm]), if_neg (by simp [hup])]
    · rw [if_pos hm]
      rfl
  case reads =>
    intro a
    have hread := apertureRead_up (n := n) h.1 h1 ho
    exact ⟨fun hm ha hd => hread.trans (congrArg _ (winRead_intact h1 hn ho hm ha hd)),
      fun hno => hread.trans (congrArg _ (if_pos (.inr hno)))⟩
  case flush => exact congrArg Host.Outcome.next (if_pos ⟨hk, hu, by simp [ha]⟩)
  case last =>
    refine congrArg Host.Outcome.next ((if_pos ⟨hk, hu, by simp [ha]⟩).trans (if_pos ?_))
    simp [ha]
  case ack =>
    refine congrArg Host.Outcome.next ((if_pos ⟨hk, hu, by simpa using hm⟩).trans (if_neg ?_))
    simpa using hleft

/-! Bring-up and take-down (R348). -/

theorem showStore_mod (s : State) (st : Nat) : (s.showStore st).mod = s.mod := by
  rw [State.showStore, setFld_mod, setFld_mod]

theorem fld_showStore (s : State) (st : Nat) {f : Fld} (h : f.off / 4 ≠ FST_STATUS / 4) : (s.showStore st).fld f = s.fld f := by
  rw [State.showStore, fld_setFld_other _ _ h, fld_setFld_other _ _ h]

/-- FST_CFG as the register table has it. -/
def fstCfgDesc : RegDesc :=
  ⟨"FST_CFG", 0xd0000, 4, 1, .owner, .none, [⟨7, 7, .rwl, 1⟩, ⟨5, 4, .rwl, 0⟩, ⟨3, 2, .rwl, 0⟩, ⟨0, 0, .rwl, 0⟩]⟩

theorem regAt_fstCfg : regAt FST_CFG = some fstCfgDesc := rfl

/-- A field of a word just stored. -/
theorem fld_setReg_same (s : State) {f : Fld} {off w : Nat} (hf : f.off = off) (hw : w < 2 ^ 32) :
    (s.setReg off 0 0 w).fld f = bits w f.hi f.lo := by
  rw [State.fld, State.fldAt, hf, reg_setReg_same, Nat.mod_eq_of_lt hw]

theorem acceptWrite_fstCfg (s : State) (p : Nat) {w : Nat} (hw : w &&& 0xBD = w) (hlay : w / 4 % 4 ≠ 3) (hrate : w / 16 % 4 ≤ 1)
    (hold : s.reg FST_CFG 0 0 &&& 0xBD = s.reg FST_CFG 0 0) :
    s.acceptWrite p fstCfgDesc FST_CFG 0 w = s.writeFstCfg fstCfgDesc w := by
  have hused : w &&& usedMask fstCfgDesc = w := hw
  have hhigh : 0xC0000 ≤ FST_CFG := by decide
  have hsetup : setupOk FST_CFG w = true := by
    simp [setupOk, ofWord, bits, hlay, hrate]
  have hwritten : written fstCfgDesc (s.reg FST_CFG 0 0) w = w := written_whole rfl rfl rfl hold hw
  have hbank : ¬ (fstCfgDesc.scope = .part ∧ fstCfgDesc.ix = .none) := by decide
  rw [State.acceptWrite]
  simp only [hused, if_true, hbank, if_false, hwritten, rasterReg_high hhigh, wordOk_high hhigh,
    setInRange_high s hhigh, hsetup, Bool.false_eq_true, false_and, and_false, Bool.true_eq_false, or_self]
  rfl

/-- What the OWNER's write of a new FST_CFG does. -/
theorem writeFstCfg_new (s : State) {w : Nat} (hw : w &&& 0xBD = w) (hold : s.reg FST_CFG 0 0 &&& 0xBD = s.reg FST_CFG 0 0)
    (hne : s.fld FST_CFG_en ≠ w % 2) : s.writeFstCfg fstCfgDesc w =
      let u := s.setReg FST_CFG 0 0 w
      if s.fld FST_CFG_en = 0 ∧ w % 2 = 1 then u.fstUp
      else if s.fld FST_CFG_en = 1 ∧ w % 2 = 0 then u.fstDown else u := by
  have hnew : (s.setReg FST_CFG 0 0 w).fld FST_CFG_en = w % 2 := by
    refine (fld_setReg_same s (f := FST_CFG_en) rfl (fits_32 hw (by decide))).trans ?_
    simp [bits]
  have hwritten : written fstCfgDesc (s.reg FST_CFG 0 0) w = w := written_whole rfl rfl rfl hold hw
  have hchange : ¬ w = s.reg FST_CFG 0 0 := fun h => hne (by simp [h, State.fld, State.fldAt, bits])
  simp only [State.writeFstCfg, State.plainWrite, hwritten, if_neg hchange, hnew]

/-- Bring-up takes the layout and the rate from FST_CFG. -/
theorem fstUp_setReg (s : State) {w : Nat} (hw : w &&& 0xBD = w) : (s.setReg FST_CFG 0 0 w).fstUp =
    ((List.range (layoutPorts (w / 4 % 4))).foldl
      (fun (t : State) n => ((t.needNow (14 + n)).emit (.pin "CX_PERST_N" n true)).portState n 1)
      { s.setReg FST_CFG 0 0 w with fst := { layout := w / 4 % 4, rateMax := w / 16 % 4 } }).showStore 1 := by
  have h32 := fits_32 hw (by decide)
  have hlay : (s.setReg FST_CFG 0 0 w).fld FST_CFG_layout = w / 4 % 4 := fld_setReg_same s rfl h32
  have hrate : (s.setReg FST_CFG 0 0 w).fld FST_CFG_rate_max = w / 16 % 4 := fld_setReg_same s rfl h32
  simp only [State.fstUp, hlay, hrate, State.cxPorts, State.layout]

/-- FRAME_STORE_UP and FRAME_STORE_DOWN are the OWNER's write of FST_CFG. -/
theorem fstCfg_owner {s : State} {p : Nat} {v : Word} (h : s.ownerUp p) (hv : v.toNat &&& 0xBD = v.toNat)
    (hlay : v.toNat / 4 % 4 ≠ 3) (hrate : v.toNat / 16 % 4 ≤ 1) (hold : s.reg FST_CFG 0 0 &&& 0xBD = s.reg FST_CFG 0 0) :
    s.bar0Write p FST_CFG 4 v.toNat = (s.writeFstCfg fstCfgDesc v.toNat).goOn :=
  ownerWrite_accepted h regAt_fstCfg rfl (by decide) v.isLt (acceptWrite_fstCfg s p hv hlay hrate hold)

/-! Ports (R347, R360 to R363). -/

section

variable {s : State} {n : Nat}

theorem layout_setFld (f : Fld) (v : Nat) : (s.setFld f v).layout = s.layout := by
  rw [State.layout, setFld_fst, ← State.layout]

theorem layout_setCxPort (x : CxPort) : (s.setCxPort n x).layout = s.layout := rfl

theorem layout_portState (st : Nat) : (s.portState n st).layout = s.layout := by
  rw [State.portState, layout_setFld, layout_setCxPort]

theorem cxPort_portState_same (st : Nat) : (s.portState n st).cxPort n = { s.cxPort n with st := st } := by
  rw [State.portState, cxPort_setFld, cxPort_setCxPort_same]

theorem cxPort_portState_other {k : Nat} (hk : k ≠ n) (st : Nat) : (s.portState n st).cxPort k = s.cxPort k := by
  rw [State.portState, cxPort_setFld, cxPort_setCxPort_other _ _ hk]

theorem unitHere_setCxPort {j : Nat} (hj : j ≠ n) (x : CxPort) (stripe : Nat) :
    (s.setCxPort n x).unitHere stripe j = s.unitHere stripe j := by
  rw [State.unitHere, cxPort_setCxPort_other _ _ hj]
  rfl

theorem cxPorts_contains (hn : n < layoutPorts s.layout) : s.cxPorts.contains n = true := by
  simpa [State.cxPorts] using hn

theorem cxPorts_not_missing (hn : n < layoutPorts s.layout) : ¬ s.cxPorts.contains n = false := by
  rw [cxPorts_contains hn]
  decide

theorem portLive_of (hn : n < layoutPorts s.layout) (h : (s.cxPort n).st = 2 ∨ (s.cxPort n).st = 3 ∨ (s.cxPort n).st = 5) :
    s.portLive n = true := by
  rw [State.portLive, cxPorts_contains hn]
  rcases h with h | h | h <;> simp [h]

/-- A port that is present trains. -/
theorem cxlPortTrained_training (hst : (s.cxPort n).st = 1) (hn : n < layoutPorts s.layout) (hen : s.fld FST_CFG_en = 1)
    (dev : Option CxlDevice) : exec (.cxlPortTrained n dev) s = .next (s.portTrained n dev) :=
  congrArg Host.Outcome.next (if_pos ⟨cxPorts_contains hn, hst, hen⟩)

theorem portTrained_absent {d : CxlDevice} (h : s.deviceOk d = false) : s.portTrained n (some d) = (s.portState n 0).showStore 4 := by
  have hf : (some d).filter s.deviceOk = none := by simp [Option.filter, h]
  rw [State.portTrained, hf]

/-- The port as it is once its device has met R347. -/
def portUsed (s : State) (n : Nat) (d : CxlDevice) : State :=
  (((s.setCxPort n { s.cxPort n with capMiB := d.capMiB, rate := d.rate, linkUp := true }).setFld
    (FST_PORT_STATUS_rate n) d.rate).setFld (FST_PORT_STATUS_cap n) (d.capMiB / 1024)).portState n 2

theorem portUsed_st (d : CxlDevice) (k : Nat) : ((portUsed s n d).cxPort k).st = 2 ↔ k = n ∨ (s.cxPort k).st = 2 := by
  by_cases hk : k = n
  · rw [hk, portUsed, cxPort_portState_same]
    exact iff_of_true rfl (.inl rfl)
  · rw [portUsed, cxPort_portState_other hk, cxPort_setFld, cxPort_setFld, cxPort_setCxPort_other _ _ hk]
    exact ⟨.inr, fun h => h.resolve_left hk⟩

/-- Every port of the layout is in use once port `n` is. -/
theorem portUsed_all (d : CxlDevice) : ((portUsed s n d).cxPorts.all fun k => ((portUsed s n d).cxPort k).st == 2) = true ↔
    ∀ k < layoutPorts s.layout, k = n ∨ (s.cxPort k).st = 2 := by
  have hlay : (portUsed s n d).layout = s.layout := by
    rw [portUsed, layout_portState, layout_setFld, layout_setFld, layout_setCxPort]
  rw [State.cxPorts, hlay, List.all_eq_true]
  simp only [List.mem_range, beq_iff_eq, portUsed_st]

theorem portTrained_used {d : CxlDevice} (h : s.deviceOk d = true) : s.portTrained n (some d) =
    if ∀ k < layoutPorts s.layout, k = n ∨ (s.cxPort k).st = 2 then
      ({ portUsed s n d with fst := { (portUsed s n d).fst with filling := true } } : State).showStore 1
    else portUsed s n d := by
  have hf : (some d).filter s.deviceOk = some d := by simp [Option.filter, h]
  rw [State.portTrained, hf]
  exact if_congr (portUsed_all d) rfl rfl

/-- The other five units of a stripe are there, whatever is recorded of the sixth's port. -/
theorem othersHere_iff (x : CxPort) (stripe : Nat) :
    ((List.range 6).all fun k => k == n || (s.setCxPort n x).unitHere stripe k) = true ↔
      ∀ j < 6, j = n ∨ s.unitHere stripe j = true := by
  simp only [List.all_eq_true, List.mem_range, Bool.or_eq_true, beq_iff_eq]
  refine forall₂_congr fun j _ => ?_
  by_cases hj : j = n
  · simp [hj]
  · rw [unitHere_setCxPort hj]

/-- A bad read that does not lose its port is rewritten from its stripe where the other five units are there. -/
theorem poisonedUnit_rewritten (x : CxPort) {stripe : Nat} (hl : s.layout = 0) (h : ∀ j < 6, j = n ∨ s.unitHere stripe j = true) :
    (s.setCxPort n x).poisonedUnit n stripe =
      let w := (s.setCxPort n x).addSat FST_CNT_RECON_count 0 0 1
      { w with fst := { w.fst with poisoned := s.fst.poisoned.erase (8 * stripe + n) } } :=
  if_pos ⟨hl, (othersHere_iff x stripe).2 h⟩

theorem poisonedUnit_lost (x : CxPort) {stripe : Nat} (h : ¬ (s.layout = 0 ∧ ∀ j < 6, j = n ∨ s.unitHere stripe j = true)) :
    (s.setCxPort n x).poisonedUnit n stripe =
      let u := s.setCxPort n x
      let k := 8 * stripe + n
      ({ u with fst := { u.fst with poisoned := s.fst.poisoned.erase k ++ [k] } } : State).setFld FST_FLAGS_data_lost 1 :=
  if_neg fun ⟨hl, ha⟩ => h ⟨hl, (othersHere_iff x stripe).1 ha⟩

theorem cxlReadReturn_bad (hn : n < layoutPorts s.layout) (h : (s.cxPort n).st = 2 ∨ (s.cxPort n).st = 5) (dev : Nat) :
    exec (.cxlReadReturn n dev true) s = .next
      (let bad := s.now :: (s.cxPort n).bad.filter fun t => decide (s.now < t + 1000000)
      if 16 < bad.length then s.losePort n 3
      else (s.setCxPort n { s.cxPort n with bad := bad }).poisonedUnit n (dev / 4096)) :=
  congrArg Host.Outcome.next (if_pos ⟨portLive_of hn (h.imp_right .inr), by omega, rfl⟩)

/-! Rebuild (R363). -/

theorem rebuild_find (hl : s.layout = 0) (hn : n < 6) (h5 : (s.cxPort n).st = 5) (ho : ∀ k < 6, k ≠ n → (s.cxPort k).st = 2) :
    (s.cxPorts.find? fun k => (s.cxPort k).st == 5) = some n := by
  have hports : s.cxPorts = List.range 6 := by rw [State.cxPorts, hl]; rfl
  rw [hports, List.find?_range_eq_some]
  refine ⟨by simp [h5], List.mem_range.2 hn, fun k hk => ?_⟩
  simp [ho k (by omega) (by omega)]

theorem portCap_portState (st : Nat) : (s.portState n st).portCap = s.portCap := by
  have hcap (k : Nat) : ((s.portState n st).cxPort k).capMiB = (s.cxPort k).capMiB := by
    by_cases hk : k = n
    · rw [hk, cxPort_portState_same]
    · rw [cxPort_portState_other hk]
  simp only [State.portCap, layout_portState, hcap]

theorem portCap_setFld (f : Fld) (v : Nat) : (s.setFld f v).portCap = s.portCap := by
  simp only [State.portCap, layout_setFld, cxPort_setFld]

theorem poisoned_portState (st : Nat) : (s.portState n st).fst.poisoned = s.fst.poisoned := by
  rw [State.portState, setFld_fst]
  rfl

/-- The store once port `n` is rebuilt. -/
theorem rebuildDone_last (hl : s.layout = 0) (hn : n < 6) (h5 : (s.cxPort n).st = 5) (ho : ∀ k < 6, k ≠ n → (s.cxPort k).st = 2) :
    exec .rebuildDone s = .next (
      let t := (s.portState n 2).setFld FST_REBUILD_done (s.portCap / 2 ^ 26)
      (({ t with fst := { t.fst with
        rebuildPt := s.portCap / 4096, poisoned := s.fst.poisoned.filter fun k => k % 8 != n } } : State).showStore 2).setFlag
          FST_FLAGS_rebuilt) := by
  have hall : (s.cxPorts.all fun k => k == n || (s.cxPort k).st == 2) = true := by
    simp only [List.all_eq_true, State.cxPorts, hl, List.mem_range, Bool.or_eq_true, beq_iff_eq]
    exact fun k hk => or_iff_not_imp_left.2 (ho k hk)
  have hcap (v : Nat) : ((s.portState n 2).setFld FST_REBUILD_done v).portCap = s.portCap :=
    (portCap_setFld _ _).trans (portCap_portState 2)
  have hpoisoned (v : Nat) : ((s.portState n 2).setFld FST_REBUILD_done v).fst.poisoned = s.fst.poisoned := by
    rw [setFld_fst, poisoned_portState]
  refine congrArg Host.Outcome.next ?_
  rw [rebuild_find hl hn h5 ho]
  refine (if_pos hall).trans ?_
  simp only [hcap, hpoisoned]

/-! The links' sleep (R174, R359). -/

theorem l1Out_asleep (h : s.fst.asleep = true) : s.l1Out = (List.range (layoutPorts s.layout)).foldl (fun t k =>
    if (t.cxPort k).st = 3 then (t.setCxPort k { t.cxPort k with exitAt := some t.now }).needNow (14 + k) else t)
      { s with fst := { s.fst with asleep := false } } := if_pos h

end

/-- The part once a rebuild of port `k` has begun. -/
def rebuildBegun (s : State) (k : Nat) : State :=
  ((({ s with fst := { s.fst with rebuildPt := 0 } } : State).portState k 5).setFld FST_REBUILD_port k).setFld FST_REBUILD_done 0

/-- No port is lost any more where no other port was. -/
theorem rebuildBegun_none {s : State} {k : Nat} (hl : s.layout = 0) (ho : ∀ j < 6, j ≠ k → (s.cxPort j).st ≠ 4) :
    ¬ ((rebuildBegun s k).cxPorts.any fun j => ((rebuildBegun s k).cxPort j).st == 4) = true := by
  have hlay : (rebuildBegun s k).layout = 0 := by
    rw [rebuildBegun, layout_setFld, layout_setFld, layout_portState]
    exact hl
  have hst (j : Nat) (hj : j < 6) : ((rebuildBegun s k).cxPort j).st ≠ 4 := by
    rw [rebuildBegun, cxPort_setFld, cxPort_setFld]
    by_cases hk : j = k
    · rw [hk, cxPort_portState_same]
      exact (by decide : (5 : Nat) ≠ 4)
    · rw [cxPort_portState_other hk]
      exact ho j hj hk
  rw [State.cxPorts, hlay, List.any_eq_true]
  rintro ⟨j, hj, h4⟩
  exact hst j (List.mem_range.1 hj) (beq_iff_eq.1 h4)

/-- FST_PORT_CTRL as the register table has it. -/
def portCtrlDesc : RegDesc := ⟨"FST_PORT_CTRL", 0xd0050, 4, 6, .owner, .none, [⟨0, 0, .wo, 0⟩]⟩

theorem regAt_portCtrl {k : Nat} (hk : k < 6) : regAt (FST_PORT_CTRL k) = some portCtrlDesc := by
  have hall : ∀ k : Fin 6, regAt (FST_PORT_CTRL k) = some portCtrlDesc := by decide
  exact hall ⟨k, hk⟩

theorem acceptWrite_portCtrl (s : State) (p : Nat) {k : Nat} (hk : k < 6) :
    s.acceptWrite p portCtrlDesc (FST_PORT_CTRL k) 0 1 = s.startRebuild k := by
  have hwo (cur : Nat) : written portCtrlDesc cur 1 = cur := written_none rfl rfl rfl cur 1
  rw [State.acceptWrite]
  simp only [show 1 &&& usedMask portCtrlDesc = 1 from rfl, if_true]
  interval_cases k <;>
    exact (if_neg fun ⟨_, hr, _⟩ => absurd hr (by decide)).trans (congrArg (State.startRebuild · _) (plainWrite_none hwo))

/-- PORT_REBUILD is the OWNER's write of 1 to FST_PORT_CTRL. -/
theorem portRebuild_owner {s : State} {p k : Nat} (h : s.ownerUp p) (hk : k < 6) :
    exec (.portRebuild p k 1) s = .next (s.startRebuild k).goOn := by
  refine congrArg Host.Outcome.next ((if_pos hk).trans ?_)
  have hdesc := regAt_portCtrl hk
  have hacc := acceptWrite_portCtrl s p hk
  interval_cases k <;> exact ownerWrite_accepted h hdesc rfl (by decide) (by decide) hacc

/-- What an L1 exit leaves (R359): the wake register keeps the largest time seen. -/
theorem cxlLinkL0_exit {s : State} {n : Nat} (hn : n < layoutPorts s.layout) (h3 : (s.cxPort n).st = 3)
    (he : (s.cxPort n).exitAt.isSome = true) (e : Nat) : exec (.cxlLinkL0 n e) s =
      .next (((s.setCxPort n { s.cxPort n with exitAt := none }).portState n 2).setFld (FST_PORT_WAKE_obs n)
        (max (s.fld (FST_PORT_WAKE_obs n)) (min 65535 e))) := by
  have hports : layoutPorts s.layout ≤ 6 := by
    unfold layoutPorts
    split_ifs <;> omega
  have hobs (t : State) (st : Nat) : (t.portState n st).fld (FST_PORT_WAKE_obs n) = t.fld (FST_PORT_WAKE_obs n) := by
    rw [State.portState, fld_setFld_other _ _ (by show (0xd0030 + 4 * n) / 4 ≠ (0xd0010 + 4 * n) / 4; omega), fld_setCxPort]
  have hkept := hobs (s.setCxPort n { s.cxPort n with exitAt := none }) 2
  rw [fld_setCxPort] at hkept
  refine congrArg Host.Outcome.next ((if_neg (cxPorts_not_missing hn)).trans ((if_pos ⟨h3, he⟩).trans ?_))
  show State.setFld _ _ (max (State.fld _ (FST_PORT_WAKE_obs n)) (min 65535 e)) = _
  rw [hkept]

/-- The life of one port: errors, losses and the way back to L0. -/
theorem portLife (s : State) (n : Nat) (hn : n < layoutPorts s.layout) :
    let live := (s.cxPort n).st = 2 ∨ (s.cxPort n).st = 5
    (live → exec (.readWatchdog n) s = .next ((s.addSat FST_CNT_WD_count 0 0 1).losePort n 0)) ∧
    (live ∨ (s.cxPort n).st = 3 →
      exec (.cxlLinkDown n) s = .next (s.losePort n 1) ∧ exec (.cxlFatalError n) s = .next (s.losePort n 2)) ∧
    (live → ∀ t : Ns, (s.cxPort n).corrLog = some t →
      exec (.cxlCorrectableError n) s =
        .next (if t + 3600000000000 ≤ s.now then
            (s.setCxPort n { s.cxPort n with corr := 0, corrLog := some s.now }).log 0x0102 0x0E n ((s.cxPort n).corr + 1)
          else s.setCxPort n { s.cxPort n with corr := (s.cxPort n).corr + 1 })) ∧
    (∀ e : Nat, (s.cxPort n).st = 4 → exec (.cxlLinkL0 n e) s = .next (s.setCxPort n { s.cxPort n with linkUp := true })) ∧
    (∀ t : Ns, (s.cxPort n).st = 3 → (s.cxPort n).exitAt = some t →
      exec (.l1ExitTimeout n) s = .next ((s.reach (t + s.wakeLat n + 4000)).losePort n 1)) := by
  intro live
  have hup (h : live) : s.portLive n = true ∧ (s.cxPort n).st ≠ 3 :=
    ⟨portLive_of hn (h.imp_right .inr), by rcases h with h | h <;> omega⟩
  refine ⟨fun h => congrArg Host.Outcome.next (if_pos (hup h)), fun h => ?_, fun h t ht => ?_, fun e h4 => ?_, fun t h3 ht => ?_⟩
  · have hlive : s.portLive n = true := portLive_of hn (by rcases h with (h | h) | h <;> simp [h])
    exact ⟨congrArg Host.Outcome.next (if_pos hlive), congrArg Host.Outcome.next (if_pos hlive)⟩
  · refine congrArg Host.Outcome.next ((if_pos (hup h).1).trans ?_)
    simp only [ht, decide_eq_true_eq]
  · exact congrArg Host.Outcome.next ((if_neg (cxPorts_not_missing hn)).trans ((if_neg (by simp [h4])).trans (if_pos h4)))
  · refine congrArg Host.Outcome.next ((if_pos ⟨portLive_of hn (.inr (.inl h3)), h3⟩).trans ?_)
    rw [ht]

/-- Settles O47: one rule per command, `fstCfg_owner` for FST_CFG and `startRebuild` for the rebuild. -/
theorem frameStoreLife : Obligations.FrameStoreLife := by
  refine ⟨fun s p v h hv hlay hrate hold => ?config, fun s n hst hn hen => ⟨?absent, fun d => ⟨fun hd => ?bad, fun hd => ?used⟩⟩,
    fun s hf hst hdue hvint => ?ready, fun s n hn => ?life, fun s p k h hk => ?rebuild, fun s n hl hn h5 ho => ?rebuilt,
    fun s => ⟨fun hen hup ha hp hb hc hw => ?entry, fun ha => ?exit⟩⟩
  case config =>
    intro u
    have hwrite := fstCfg_owner h hv hlay hrate hold
    have hbit : v.getLsbD 0 = decide (v.toNat % 2 = 1) := by simp [BitVec.getLsbD, Nat.testBit_zero]
    refine ⟨fun hen hon => ?_, fun hen hoff => ?_⟩
    · have hone := decide_eq_true_iff.1 (hbit ▸ hon)
      refine congrArg Host.Outcome.next (hwrite.trans (congrArg State.goOn ?_))
      rw [writeFstCfg_new s hv hold (by omega)]
      exact (if_pos ⟨hen, hone⟩).trans (fstUp_setReg s hv)
    · have hzero : v.toNat % 2 = 0 := by
        have := decide_eq_false_iff_not.1 (hbit ▸ hoff)
        omega
      refine congrArg Host.Outcome.next (hwrite.trans (congrArg State.goOn ?_))
      rw [writeFstCfg_new s hv hold (by omega)]
      exact (if_neg (by omega)).trans (if_pos ⟨hen, hzero⟩)
  case absent => exact cxlPortTrained_training hst hn hen none
  case bad => exact (cxlPortTrained_training hst hn hen _).trans (congrArg _ (portTrained_absent hd))
  case used => exact (cxlPortTrained_training hst hn hen _).trans (congrArg _ (portTrained_used hd))
  case ready =>
    have hnone (t : State) (h : t.fld CMP_CTRL_vint_en = 0) : t.fillVintage = t := if_neg fun c => by simp [h] at c
    refine congrArg Host.Outcome.next ((if_pos hf).trans ?_)
    have hshown : ({ s with fst := { s.fst with filling := false } } : State).fld FST_STATUS_state = 1 := hst
    simp only [hshown, if_true, showStore_mod, hdue, Bool.false_eq_true, if_false]
    exact hnone _ ((fld_showStore _ _ (by decide)).trans hvint)
  case life =>
    intro live
    obtain ⟨hwatch, hdown, hcorr, hlost, hlate⟩ := portLife s n hn
    refine ⟨hwatch, hdown, fun dev h => ?_, hcorr, fun e h3 he => cxlLinkL0_exit hn h3 he e, hlost, hlate⟩
    intro bad k u there
    have hread := cxlReadReturn_bad hn h dev
    refine ⟨congrArg Host.Outcome.next (if_neg (by simp)), fun hb => hread.trans (congrArg _ (if_pos hb)),
      fun hb ht => hread.trans (congrArg _ ((if_neg (Nat.not_lt.2 hb)).trans (poisonedUnit_rewritten _ ht.1 ht.2))),
      fun hb ht => hread.trans (congrArg _ ((if_neg (Nat.not_lt.2 hb)).trans (poisonedUnit_lost _ ht)))⟩
  case rebuild =>
    have hwrite := portRebuild_owner h hk
    refine ⟨fun hl h4 hup ho => hwrite.trans (congrArg (fun t => Host.Outcome.next (State.goOn t)) ?_), fun hno =>
      hwrite.trans (congrArg (fun t => Host.Outcome.next (State.goOn t)) (if_neg ?_))⟩
    · refine (if_pos ⟨hl, hk, h4, hup⟩).trans (if_neg ?_)
      exact rebuildBegun_none hl ho
    · rintro ⟨hl, -, h4, hup⟩
      rcases hno with h | h | h
      · exact h hl
      · exact h h4
      · exact Bool.false_ne_true (h ▸ hup)
  case rebuilt => exact rebuildDone_last hl hn h5 ho
  case entry =>
    have hports : (s.cxPorts.all fun n => (s.cxPort n).st == 2 || (s.cxPort n).st == 4) = true := by
      simpa [State.cxPorts] using hp
    exact congrArg Host.Outcome.next (if_pos ⟨hen, hup, ha, hports, by rw [hb]; rfl, hc, hw⟩)
  case exit =>
    intro u
    refine congrArg Host.Outcome.next ((if_neg (by simp [ha])).trans ?_)
    by_cases hr : s.running = true ∧ s.fld SCN_LAT_TOL_lt ≠ 2 ^ 32 - 1
    · have hu : u = s.reach (s.scn.needAt / 256 - s.wakeSum) := if_pos hr
      rw [hu]
      exact (if_pos hr).trans (l1Out_asleep ha)
    · have hu : u = s := if_neg hr
      rw [hu]
      exact (if_neg hr).trans (l1Out_asleep ha)

end Sys2Proof.Proofs

/-! PROOFS. The statement of the on-chip memories (R367 to R379, R383): the exchange RAM, the conflict counters and the parity tests. -/

namespace Sys2Proof.Proofs

open Sys2Proof Sys2Proof.Machine Sys2Proof.Machine.Reg Sys2Proof.Laws

/-! The exchange RAM (R369 to R373). -/

/-- The part after an access of partition `p` to the exchange RAM has begun. -/
def xramAsked (s : State) (p : Nat) : State := State.xramAsk { s with pwr := { s.pwr with xramIdle := s.now } } p

theorem xramBytes_asked (s : State) (p off n : Nat) : (xramAsked s p).xramBytes off n = Sparse.read 0 s.mem.xram off n := by
  rw [xramAsked, State.xramAsk]
  split <;> rfl

theorem free_asked (s : State) (p : Nat) : (xramAsked s p).free = s.free := by
  rw [xramAsked, State.xramAsk]
  split <;> rfl

section

variable {s : State} (hon : (s.dom 81).st = 0) (hstays : (s.dom 81).going = none)
include hon hstays

/-- An access finds the domain ON. -/
theorem xramReady (p : Nat) : ((s.wakeNow 81).xramTouch).xramAsk p = xramAsked s p := by
  rw [State.wakeNow, if_pos ⟨hon, hstays⟩]
  rfl

variable {p off : Nat} (hr : s.reachable p = true)
include hr

theorem exec_xramRead {n : Nat} (hn : portAOk off n = true) (c : Collision) : exec (.xramRead p off n c) s = .next (
    let x := (xramAsked s p).xramCollideRead off (Sparse.read 0 s.mem.xram off n) c
    (if x.2.1 = true then x.2.2.xbusy p (collWord c) else x.2.2).emit (.readData p x.1 x.2.1)) := by
  refine congrArg Host.Outcome.next ((if_pos ?_).trans ?_)
  · rw [hn, hr]
    rfl
  · rw [xramReady hon hstays, ← xramBytes_asked s p off n]

theorem exec_xramWrite {d : List Byte} (hn : portAOk off d.length = true) (hw : (s.fld MEM_XRAM_CFG_wr).testBit p = true)
    (hp : s.partOn p = true) (c : Collision) : exec (.xramWrite p off d c) s = .next (
      let x := (xramAsked s p).xramCollideWrite off d c
      (if x.2.1 = true then x.2.2.xbusy p (collWord c) else x.2.2).xramStore off x.1) := by
  refine congrArg Host.Outcome.next ((if_pos ?_).trans ((if_pos ?_).trans ?_))
  · rw [hn, hr]
    rfl
  · rw [hw, hp]
    rfl
  · rw [xramReady hon hstays]

end

/-- A read met by an earlier write of the other port: the word is open. -/
theorem xramCollideRead_later (s : State) {off w : Nat} {d : List Byte} (v : Half) (h1 : off / 2 ≤ w) (h2 : 2 * w < off + d.length) :
    s.xramCollideRead off d (.later w true v) =
      (spoil d off w ((Config.freeWord s.free).toNat % 65536), true, { s with free := s.free + 1 }) :=
  if_pos (by simp [h1, h2])

/-- A write met by an earlier read of the other port. -/
theorem xramCollideWrite_later (s : State) {off w : Nat} {d : List Byte} (v : Half) (h1 : off / 2 ≤ w) (h2 : 2 * w < off + d.length) :
    s.xramCollideWrite off d (.later w false v) = (d, true, s) :=
  if_pos (by simp [h1, h2])

theorem xbusy_eq (s : State) (p : Nat) {w : Nat} (hw : w < 32768) :
    s.xbusy p w = (s.setReg MEM_XBUSY 0 p (2 ^ 31 + w)).addSat MEM_XBUSY_CNT_count 0 p 1 := by
  rw [State.xbusy, Nat.mod_eq_of_lt (show w < 2 ^ 15 from hw)]

theorem portAOk_of {off n : Nat} (hn : n = 1 ∨ n = 2 ∨ n = 4 ∨ n = 8) (h : off + n ≤ 65536) : portAOk off n = true := by
  simp only [portAOk, Bool.and_eq_true, Bool.or_eq_true, beq_iff_eq, decide_eq_true_eq, or_assoc]
  exact ⟨hn, h⟩

theorem xramWrite_denied {s : State} {p off : Nat} {d : List Byte} (hr : s.reachable p = true) (hn : portAOk off d.length = true)
    (h : (s.fld MEM_XRAM_CFG_wr).testBit p = false ∨ s.partOn p = false) (c : Collision) :
    exec (.xramWrite p off d c) s = .next (s.setFlag MEM_FLAGS_x_denied) := by
  refine congrArg Host.Outcome.next ((if_pos ?_).trans (if_neg ?_))
  · rw [hn, hr]
    rfl
  · rcases h with h | h <;> simp [h]

/-! Conflict counters (R367, R383). -/

/-- MEM_CONF_LO as the register table has it. -/
def memConfLoDesc : RegDesc := ⟨"MEM_CONF_LO", 0xe0038, 4, 1, .part, .none, [⟨31, 0, .ro, 0⟩]⟩

theorem regAt_memConfLo : regAt MEM_CONF_LO = some memConfLoDesc := rfl

theorem readWord_memConf (s : State) (p : Nat) : s.readWord p MEM_CONF_LO = s.memConf p := by
  rw [State.readWord, regAt_memConfLo]
  rfl

theorem exec_memConfRead {s : State} {p : Nat} (hr : s.reachable p = true) :
    exec (.memConfRead p) s = .next ((s.memConf p).2.emit (.readData p (leBytes 4 (s.memConf p).1) false)) := by
  refine congrArg Host.Outcome.next ?_
  rw [bar0Read_word hr rfl rfl rfl rfl, readWord_memConf]

theorem confListed_iff (a m : Nat) : confListed a m = true ↔ (a = 0 ∧ m ≤ 7) ∨ ((a = 1 ∨ a = 2) ∧ m ≤ 4) := by
  simp [confListed]

/-- The growth of master `m`'s counter in array `a` since it was read: free where it has made requests. -/
def confGrowth (s : State) (a m : Nat) : Nat × State := if s.confAsked a m then s.draw (2 ^ 48) else (0, s)

theorem confGrowth_mem (s : State) (a m : Nat) : (confGrowth s a m).2.mem = s.mem := by
  rw [confGrowth]
  split <;> rfl

/-- A listed counter has grown by a free number, and its high bits are kept. -/
theorem memConf_listed {s : State} {p : Nat} (h : confListed (s.fldP MEM_CONF_SEL_array p) (s.fldP MEM_CONF_SEL_master p) = true) :
    let a := s.fldP MEM_CONF_SEL_array p
    let m := s.fldP MEM_CONF_SEL_master p
    let x := Sparse.get 0 s.mem.conf (8 * a + m) + BitVec.ofNat 48 (confGrowth s a m).1
    (s.memConf p).1 = x.toNat % 2 ^ 32 ∧ (s.memConf p).2.mem.conf = Sparse.set 0 s.mem.conf (8 * a + m) x ∧
      (s.memConf p).2.reg MEM_CONF_HI 0 p = x.toNat / 2 ^ 32 := by
  intro a m x
  have hbump : bumpConf (confGrowth s a m).2.mem.conf (8 * a + m) (confGrowth s a m).1 =
      Sparse.set 0 s.mem.conf (8 * a + m) x := by
    rw [confGrowth_mem]
    rfl
  have hread : s.memConf p = _ := if_pos h
  rw [← confGrowth, hbump] at hread
  have hget : Sparse.get 0 (Sparse.set 0 s.mem.conf (8 * a + m) x) (8 * a + m) = x := sparse_get_set_same _ _ _ _
  have hfit : x.toNat / 2 ^ 32 % 2 ^ 32 = x.toNat / 2 ^ 32 := Nat.mod_eq_of_lt (by have := x.isLt; omega)
  rw [hread]
  refine ⟨congrArg (BitVec.toNat · % 2 ^ 32) hget, rfl, ?_⟩
  rw [reg_setReg_same]
  exact (congrArg (BitVec.toNat · / 2 ^ 32 % 2 ^ 32) hget).trans hfit

theorem confGrowth_unasked {s : State} {m : Nat} (hm : m ≤ 3) (h : m ∉ s.mem.asked) : (confGrowth s 2 m).1 = 0 := by
  have hno : s.confAsked 2 m = false := by
    simp [State.confAsked, h]
    omega
  rw [confGrowth, hno]
  rfl

/-- Settles O49. -/
theorem exchangeRamAndIntegrity : Obligations.ExchangeRamAndIntegrity := by
  refine ⟨fun s p off n hr hn ho hon hst => ?reads, fun s p off d hr hn ho hon hst => ⟨fun hw hp => ?writes, fun h c =>
    xramWrite_denied hr (portAOk_of hn ho) h c⟩, fun s w v hin => ⟨fun hon hst => ?board, fun hoff hst c => ?boardOff⟩,
    fun s h => congrArg Host.Outcome.next (if_pos h), fun s p hr => ?conf, fun s i w hw => ?parity⟩
  case reads =>
    intro u d
    have hread := exec_xramRead hon hst hr (portAOk_of hn ho)
    refine ⟨by rw [hread]; rfl, fun w v h1 h2 hw =>
      ⟨(Config.freeWord s.free).toNat % 65536, Nat.mod_lt _ (by decide), (hread _).trans ?_⟩⟩
    have hlen : 2 * w < off + (Sparse.read 0 s.mem.xram off n).length := by simpa [Sparse.read] using h2
    rw [xramCollideRead_later _ v h1 hlen, ← xbusy_eq _ p hw, free_asked]
    rfl
  case writes =>
    have hwrite := exec_xramWrite hon hst hr (portAOk_of hn ho) hw hp
    refine ⟨by rw [hwrite]; rfl, fun w v h1 h2 hw => (hwrite _).trans ?_⟩
    rw [xramCollideWrite_later _ v h1 h2, ← xbusy_eq _ p hw]
    rfl
  case board =>
    exact ⟨congrArg Host.Outcome.next ((if_neg (by simp [hin])).trans (if_pos ⟨hon, hst⟩)),
      congrArg Host.Outcome.next (if_pos ⟨hon, hst, hin⟩)⟩
  case boardOff =>
    have hno : ¬ ((s.dom 81).st = 0 ∧ (s.dom 81).going = none) := by simp [hoff]
    refine ⟨congrArg Host.Outcome.next ((if_neg (by simp [hin])).trans ((if_neg hno).trans (if_pos ⟨hoff, hst⟩))),
      congrArg Host.Outcome.next (if_neg (by simp [hoff]))⟩
  case conf =>
    intro a m listed
    have hread := exec_memConfRead hr
    refine ⟨fun h => ?_, fun h => hread.trans ?_⟩
    · obtain ⟨hlo, hconf, hhi⟩ := memConf_listed ((confListed_iff a m).2 h)
      refine ⟨(s.memConf p).2, BitVec.ofNat 48 (confGrowth s a m).1, hread.trans (by rw [hlo]), hconf, hhi, fun ha hm hno => ?_⟩
      rw [ha, confGrowth_unasked hm hno]
      rfl
    · have hzero : leBytes 4 0 = [0, 0, 0, 0] := by decide
      have hno : s.memConf p = (0, s.setReg MEM_CONF_HI 0 p 0) := if_neg fun c => h ((confListed_iff a m).1 c)
      rw [hno, hzero]
  case parity =>
    intro u
    have hm : (s.inst i).tests.contains w = true := by simpa using hw
    exact ⟨congrArg Host.Outcome.next ((if_pos hm).trans (if_neg (by decide))),
      congrArg Host.Outcome.next ((if_pos hm).trans (if_pos rfl))⟩

end Sys2Proof.Proofs

/-! PROOFS. The statement of the host queues (R314 to R321, R342, R343, R389, R489): allocations, enabling, doorbells, messages, link
states and the reset of one host interface. -/

namespace Sys2Proof.Proofs

open Sys2Proof Sys2Proof.Machine Sys2Proof.Machine.Reg Sys2Proof.Laws

/-! Allocations (R315). -/

/-- An HIF_QALLOC register as the register table has it; the four differ in name and in the base at reset. -/
def qallocDesc (k : Nat) : RegDesc :=
  ⟨["HIF_QALLOC0", "HIF_QALLOC1", "HIF_QALLOC2", "HIF_QALLOC3"].getD k "", HIF_QALLOC k, 4, 1, .owner, .none,
    [⟨22, 16, .rwl, 16⟩, ⟨5, 0, .rwl, 16 * k⟩]⟩

theorem regAt_qalloc {k : Nat} (hk : k < 4) : regAt (HIF_QALLOC k) = some (qallocDesc k) := by
  have hall : ∀ k : Fin 4, regAt (HIF_QALLOC k) = some (qallocDesc k) := by decide
  exact hall ⟨k, hk⟩

theorem acceptWrite_qalloc (s : State) (p : Nat) {k w : Nat} (hk : k < 4) (hw : w &&& 0x7F003F = w) :
    s.acceptWrite p (qallocDesc k) (HIF_QALLOC k) 0 w = s.writeQalloc p k w := by
  have hused : w &&& usedMask (qallocDesc k) = w := by interval_cases k <;> exact hw
  rw [State.acceptWrite]
  simp only [hused, if_true]
  interval_cases k <;> exact (if_neg fun ⟨_, hr, _⟩ => absurd hr (by decide)).trans rfl

/-- A word of an allocation is its base and its count. -/
theorem qalloc_word {w : Nat} (hw : w &&& 0x7F003F = w) : w / 65536 % 128 = w / 65536 ∧ w % 64 + w / 65536 * 65536 = w := by
  have hbit (i : Nat) (hi : Nat.testBit 0x7F003F i = false) : w.testBit i = false := by
    rw [← hw, Nat.testBit_and, hi, Bool.and_false]
  have hlt : w < 2 ^ 23 := Nat.lt_of_le_of_lt (hw ▸ Nat.and_le_right) (by decide)
  have hmid : w / 64 % 1024 = 0 := by
    refine Nat.eq_of_testBit_eq fun i => ?_
    rw [Nat.zero_testBit, show (1024 : Nat) = 2 ^ 10 from rfl, Nat.testBit_mod_two_pow, show (64 : Nat) = 2 ^ 6 from rfl,
      Nat.testBit_div_two_pow]
    by_cases hi : i < 10
    · rw [hbit _ (by interval_cases i <;> rfl), Bool.and_false]
    · simp [hi]
  omega

/-- Two allocations share a queue context: `k` as a write of `w` would leave it, and `j` as it stands. -/
def allocMeet (s : State) (k w j : Nat) : Bool :=
  let lo (i : Nat) : Nat := if i = k then w % 64 else s.fld (HIF_QALLOC_base i)
  let cnt (i : Nat) : Nat := if i = k then w / 65536 % 128 else s.fld (HIF_QALLOC_count i)
  k != j && cnt k != 0 && cnt j != 0 && decide (lo k < lo j + cnt j) && decide (lo j < lo k + cnt k)

theorem allocMeet_iff (s : State) {k w : Nat} (hw : w &&& 0x7F003F = w) (j : Nat) : allocMeet s k w j = true ↔
    j ≠ k ∧ w / 65536 ≠ 0 ∧ s.fld (HIF_QALLOC_count j) ≠ 0 ∧
      w % 64 < s.fld (HIF_QALLOC_base j) + s.fld (HIF_QALLOC_count j) ∧ s.fld (HIF_QALLOC_base j) < w % 64 + w / 65536 := by
  have hcount := (qalloc_word hw).1
  by_cases hj : j = k
  · simp [allocMeet, hj]
  · simp only [allocMeet, hj, if_true, if_false, hcount, Bool.and_eq_true, bne_iff_ne, decide_eq_true_eq, and_assoc, ne_comm]

/-- What HIF_QALLOC does with a word. -/
theorem writeQalloc_eq (s : State) (p : Nat) {k w : Nat} (hw : w &&& 0x7F003F = w) :
    s.writeQalloc p k w =
      if s.hasQueue k = true ∨ (List.range 4).any (allocMeet s k w) = true ∨ 64 < w % 64 + w / 65536 then
        s.setFldP HIF_FLAGS_alloc_refused p 1
      else s.setReg (HIF_QALLOC k) 0 0 w := by
  obtain ⟨hcount, hword⟩ := qalloc_word hw
  have hany : (List.range 4).any (allocMeet s k w) = (List.range 4).any (fun j =>
      let lo (i : Nat) : Nat := if i = k then w % 64 else s.fld (HIF_QALLOC_base i)
      let cnt (i : Nat) : Nat := if i = k then w / 65536 % 128 else s.fld (HIF_QALLOC_count i)
      k != j && cnt k != 0 && cnt j != 0 && decide (lo k < lo j + cnt j) && decide (lo j < lo k + cnt k)) := rfl
  rw [hany]
  simp only [State.writeQalloc, if_true, hcount, hword]

theorem hifQallocWrite_owner {s : State} {p k : Nat} {v : Word} (h : s.ownerUp p) (hk : k < 4)
    (hv : v.toNat &&& 0x7F003F = v.toNat) :
    exec (.hifQallocWrite p k v) s = .next (s.writeQalloc p k v.toNat).goOn := by
  refine congrArg Host.Outcome.next ((if_pos hk).trans ?_)
  have hdesc := regAt_qalloc hk
  have hacc := acceptWrite_qalloc s p hk hv
  interval_cases k <;> exact ownerWrite_accepted h hdesc rfl (by decide) v.isLt hacc

/-! Enabling and disabling (R316). -/

/-- HIF_Q_CFG as the register table has it. -/
def qCfgDesc : RegDesc :=
  ⟨"HIF_Q_CFG", 0xc0014, 4, 1, .part, .queue, [⟨31, 31, .rw, 0⟩, ⟨30, 29, .rw, 0⟩, ⟨28, 28, .rw, 0⟩, ⟨27, 24, .rw, 4⟩, ⟨23, 20, .rw, 1⟩,
    ⟨11, 11, .rw, 0⟩, ⟨10, 0, .rw, 0⟩]⟩

theorem regAt_qCfg : regAt HIF_Q_CFG = some qCfgDesc := rfl

theorem acceptWrite_qCfg (s : State) (p g : Nat) {w : Nat} (hw : w &&& 0xFFF00FFF = w) :
    s.acceptWrite p qCfgDesc HIF_Q_CFG g w = s.writeQcfg p g w qCfgDesc := by
  have hused : w &&& usedMask qCfgDesc = w := hw
  rw [State.acceptWrite]
  simp only [hused, if_true]
  exact (if_neg fun ⟨_, hr, _⟩ => absurd hr (by decide)).trans rfl

/-- A served write of the selected queue's configuration. -/
theorem qCfg_written {s : State} {p g : Nat} {v : Word} (h : s.hostUp p) (hg : s.gq p (s.fldP HIF_Q_SEL_q p) = some g)
    (hv : v.toNat &&& 0xFFF00FFF = v.toNat) : s.bar0Write p HIF_Q_CFG 4 v.toNat = (s.writeQcfg p g v.toNat qCfgDesc).goOn := by
  obtain ⟨hr, hp⟩ := h
  rw [bar0Write_word _ hr rfl rfl rfl rfl, Nat.mod_eq_of_lt v.isLt, barWord_noRwl _ regAt_qCfg hg hp rfl rfl rfl,
    acceptWrite_qCfg s p g hv]

theorem writeQcfg_enable {s : State} {p g w : Nat} (hoff : s.qEn g = false) (hon : ofWord w HIF_Q_CFG_en = 1)
    (hw : w &&& 0xFFF00FFF = w) (hold : s.reg HIF_Q_CFG g 0 &&& 0xFFF00FFF = s.reg HIF_Q_CFG g 0) :
    s.writeQcfg p g w qCfgDesc = if ofWord w HIF_Q_CFG_kind = 3 then s.setFlag GLB_FLAGS_range
      else (s.setReg HIF_Q_CFG g 0 w).queueFresh g := by
  have hwritten : written qCfgDesc (s.reg HIF_Q_CFG g 0) w = w := written_whole rfl rfl rfl hold hw
  have hne : ¬ w = s.reg HIF_Q_CFG g 0 := by
    rintro rfl
    exact Bool.false_ne_true (hoff.symm.trans (beq_iff_eq.2 hon))
  simp only [State.writeQcfg, hoff, hon, Bool.false_eq_true, if_false, true_and, State.plainWrite, hwritten, hne, if_true]

/-- A queue context once the queue is disabled: what waited for it is counted as dropped. -/
def queueGone (s : State) (p i g : Nat) : Queue :=
  let n := (s.hif.held.filter fun c => c.p == p && c.cq == i).length
  let d := (s.queue g).dropped
  { dropped := if n = 0 then d else min 65535 (d + n), rejected := (s.queue g).rejected }

theorem dropHeld_fresh (s : State) (p i g : Nat) : (s.queueFresh g).dropHeld p i g =
    let u := s.setQueue g (queueGone s p i g)
    { u with hif := { u.hif with held := s.hif.held.filter fun c => !(c.p == p && c.cq == i) } } := by
  have hq : (s.queueFresh g).queue g = { ({} : Queue) with dropped := (s.queue g).dropped, rejected := (s.queue g).rejected } :=
    sparse_get_set_same _ _ _ _
  by_cases hn : (s.hif.held.filter fun c => c.p == p && c.cq == i).length = 0
  · simp only [queueGone, hn, if_true]
    exact if_pos hn
  · simp only [queueGone, hn, if_false]
    refine (if_neg hn).trans ?_
    show State.setQueue _ g { (s.queueFresh g).queue g with dropped := min 65535 (((s.queueFresh g).queue g).dropped + _) } = _
    rw [hq]
    simp only [State.queueFresh, State.setQueue, sparse_set_set]

theorem lq_setFldI_qCfg (s : State) {p : Nat} (hp : p < 4) (g v : Nat) : (s.setFldI HIF_Q_CFG_en g v).lq p = s.lq p := by
  have hkey : regKey (HIF_QALLOC p) 0 0 ≠ regKey HIF_Q_CFG g 0 := by
    simp only [regKey, HIF_QALLOC, HIF_Q_CFG]
    omega
  have hreg : (s.setFldI HIF_Q_CFG_en g v).reg (HIF_QALLOC p) 0 0 = s.reg (HIF_QALLOC p) 0 0 := reg_setReg_other s _ hkey
  funext i
  show i - 256 * bits ((s.setFldI HIF_Q_CFG_en g v).reg (HIF_QALLOC p) 0 0) 5 0 = _
  rw [hreg]
  rfl

theorem lq_congr {s t : State} (h : t.regs = s.regs) (p : Nat) : t.lq p = s.lq p := by
  funext i
  simp only [State.lq, State.fld, State.fldAt, State.reg, h]

theorem lq_queueFresh (s : State) (g p : Nat) : (s.queueFresh g).lq p = s.lq p := rfl

theorem regs_dropHeld (s : State) (p i g : Nat) : ((s.queueFresh g).dropHeld p i g).regs = s.regs := by
  rw [dropHeld_fresh]
  exact setQueue_regs s g (queueGone s p i g)

/-- A queue context replaced, with what waited for it and what it held open gone. -/
theorem queue_gone (t : State) (g : Nat) (x : Queue) (held : List Cpl) (keep : Nat × Nat × List (Req × FlipArgs) → Bool) :
    (let u := t.setQueue g x
     let y : State := { u with hif := { u.hif with held := held } }
     { y with lyr := { y.lyr with open_ := y.lyr.open_.filter keep } }) =
    (let u := t.setQueue g x
     { u with hif := { u.hif with held := held }, lyr := { u.lyr with open_ := t.lyr.open_.filter keep } }) := rfl

theorem writeQcfg_disable {s : State} {p g w : Nat} (hen : s.qEn g = true) (hoff : ¬ ofWord w HIF_Q_CFG_en = 1) (hp : p < 4) :
    s.writeQcfg p g w qCfgDesc =
      let mine (c : Cpl) : Bool := c.p == p && c.cq == s.lq p g
      let n := (s.hif.held.filter mine).length
      let d := (s.queue g).dropped
      let u := (s.setFldI HIF_Q_CFG_en g 0).setQueue g
        { ({} : Queue) with dropped := if n = 0 then d else min 65535 (d + n), rejected := (s.queue g).rejected }
      { u with
        hif := { u.hif with held := s.hif.held.filter fun c => !mine c },
        lyr := { u.lyr with open_ := s.lyr.open_.filter fun c => !(c.1 == p && c.2.1 == s.lq p g) } } := by
  have hzero : ofWord w HIF_Q_CFG_en = 0 := by
    have : ofWord w HIF_Q_CFG_en < 2 := Nat.mod_lt _ (by decide)
    omega
  have hlq := lq_setFldI_qCfg s hp g 0
  rw [State.writeQcfg, if_pos hen, if_pos hzero, State.queueOff]
  have hhif := setFldI_hif s HIF_Q_CFG_en g 0
  have hlyr := setFldI_lyr s HIF_Q_CFG_en g 0
  generalize s.setFldI HIF_Q_CFG_en g 0 = t at *
  have hqueue : s.queue g = t.queue g := by rw [State.queue, ← hhif, ← State.queue]
  have hafter := (lq_congr (regs_dropHeld t p (s.lq p g) g) p).trans hlq
  rw [lq_queueFresh, hlq, hafter, dropHeld_fresh, hqueue, ← hhif, ← hlyr]
  exact queue_gone t g _ _ _

theorem bit31_qCfgEn (v : Word) : v.getLsbD 31 = true ↔ ofWord v.toNat HIF_Q_CFG_en = 1 := by
  simp [ofWord, bits, BitVec.getLsbD, Nat.testBit_eq_decide_div_mod_eq]

theorem reachable_lt {s : State} {p : Nat} (h : s.reachable p = true) : p < 4 := by
  simp only [State.reachable, Bool.and_eq_true, decide_eq_true_eq] at h
  exact h.1.1

/-! Doorbells (R320, R321). -/

theorem reachable_of {s : State} {p : Nat} (hp : p < 4) (hrel : s.hif.released = true) (hd : s.pwr.deep < 5) :
    s.reachable p = true := by
  simp [State.reachable, hp, hrel, hd]

theorem bar2Write_bad {s : State} {p i size : Nat} {v : BitVec 64} (hr : s.reachable p = true)
    (h : s.partOn p = false ∨ s.gq p i = none ∨ size ≠ 4 ∧ size ≠ 8) : s.bar2Write p (8 * i) size v = s.dbDrop p := by
  have hi : 8 * i / 8 = i := by omega
  rw [State.bar2Write, if_neg (by simp [hr])]
  by_cases hb : s.partOn p = false ∨ 8 * i % 8 ≠ 0 ∨ ¬(size = 4 ∨ size = 8)
  · exact if_pos hb
  · rw [if_neg hb, hi]
    have hnone : s.gq p i = none := by
      rcases h with h | h | h
      · exact absurd (.inl h) hb
      · exact h
      · exact absurd (.inr (.inr (not_or.2 h))) hb
    rw [hnone]

/-- A doorbell that nothing ignores reaches its queue. -/
theorem bar2Write_good {s : State} {p i g size : Nat} {v : BitVec 64} (hr : s.reachable p = true)
    (h : s.partOn p = true ∧ s.gq p i = some g ∧ s.qEn g = true ∧ (s.queue g).err = 0 ∧ (size = 4 ∨ size = 8)) :
    s.bar2Write p (8 * i) size v = s.bell p g (v.toNat % 2 ^ 32) := by
  obtain ⟨hp, hg, hen, herr, hsize⟩ := h
  have hi : 8 * i / 8 = i := by omega
  rw [State.bar2Write, if_neg (by simp [hr]), if_neg (by simp [hp, hsize]), hi, hg]
  exact if_neg (by simp [hen, herr])

theorem bell_tail {s : State} {p g : Nat} (hk : s.qKind g = 0) (idx : Nat) : s.bell p g idx =
    if idx < 65536 ∧ idx % 32768 < s.qSize g ∧ ringCount (s.qSize g) (s.queue g).head.toNat idx ≤ s.qSize g then
      s.setQueue g { s.queue g with tail := BitVec.ofNat 16 idx }
    else s.qError p g 1 := by
  simp only [State.bell, hk, ringPos, if_true]
  by_cases h1 : 65536 ≤ idx ∨ s.qSize g ≤ idx % 32768
  · rw [if_pos h1, if_neg (by omega)]
  · by_cases h2 : s.qSize g < ringCount (s.qSize g) (s.queue g).head.toNat idx
    · rw [if_neg h1, if_pos h2, if_neg (by omega)]
    · rw [if_neg h1, if_neg h2, if_pos (by omega)]

theorem bell_head {s : State} {p g : Nat} (hk : s.qKind g ≠ 0) (idx : Nat) : s.bell p g idx =
    if idx < 65536 ∧ idx % 32768 < s.qSize g ∧ ringCount (s.qSize g) (s.queue g).head.toNat idx ≤ s.qCount g then
      (s.setQueue g { s.queue g with head := BitVec.ofNat 16 idx }).headFreed p g
    else s.qError p g 1 := by
  simp only [State.bell, hk, ringPos, if_false]
  by_cases h1 : 65536 ≤ idx ∨ s.qSize g ≤ idx % 32768
  · rw [if_pos h1, if_neg (by omega)]
  · by_cases h2 : s.qCount g < ringCount (s.qSize g) (s.queue g).head.toNat idx
    · rw [if_neg h1, if_pos h2, if_neg (by omega)]
    · rw [if_neg h1, if_neg h2, if_pos (by omega)]

/-! Messages (R342). -/

theorem setVecMask_clear (s : State) (p vec : Nat) : s.setVecMask p vec false =
    let k := 2048 * p + vec
    let u : State := { s with hif := { s.hif with mask := Sparse.set true s.hif.mask k false } }
    if Sparse.get false s.hif.fmask p = false ∧ Sparse.get false s.hif.pba k = true then
      ({ u with hif := { u.hif with pba := Sparse.set false s.hif.pba k false } } : State).emit (.msix p vec)
    else u := by
  refine if_congr (and_congr ?_ Iff.rfl) rfl rfl
  simp [State.vecMasked]

/-- MSIX_UNMASK is a write of the vector's mask bit. -/
theorem msixUnmask_up {s : State} {p vec : Nat} (h : s.hostUp p) (hv : vec < 2048) :
    exec (.msixUnmask p vec) s = .next (s.setVecMask p vec false).goOn := by
  obtain ⟨hr, hp⟩ := h
  have hwin : ¬ inWin (0xC8000 + 16 * vec + 12) = true := by simp [inWin]; omega
  have hmsix : inMsix (0xC8000 + 16 * vec + 12) = true := by simp [inMsix]; omega
  have hvec : (0xC8000 + 16 * vec + 12 - 0xC8000) / 16 = vec := by omega
  have hword : (0xC8000 + 16 * vec + 12) / 4 % 4 = 3 := by omega
  refine congrArg Host.Outcome.next ((if_pos hv).trans ((if_pos hr).trans (congrArg State.goOn ?_)))
  rw [State.bar0, if_neg hwin, if_pos (.inl hmsix), if_neg (by simp [hp]), if_pos hmsix, State.tableWrite,
    if_neg (by simp; omega), State.tableWord, hword, hvec]
  rfl

/-! The reset of one host interface (R314). -/

theorem sparse_get_filter_dropped {α : Type} (d : α) (m : List (Nat × α)) (f : Nat → Bool) {k : Nat} (h : f k = false) :
    Sparse.get d (m.filter fun e => f e.1) k = d := by
  induction m with
  | nil => rfl
  | cons e m ih =>
    by_cases he : f e.1 = true
    · have hne : ¬ e.1 = k := fun c => Bool.false_ne_true (h.symm.trans (c ▸ he))
      rw [List.filter_cons_of_pos (p := fun e : Nat × α => f e.1) he, Sparse.get, if_neg hne, ih]
    · rw [List.filter_cons_of_neg (p := fun e : Nat × α => f e.1) he, ih]

theorem hifWord_qCfg {s : State} {n g : Nat} (hg : g < 16384) (hown : s.gqPart g = some n) :
    s.hifWord n (regKey HIF_Q_CFG g 0) = true := by
  have hkey : regKey HIF_Q_CFG g 0 = 196613 + 2 ^ 20 * g := by simp [regKey, HIF_Q_CFG]
  have hoff : regKey HIF_Q_CFG g 0 % 2 ^ 20 * 4 = HIF_Q_CFG := by rw [hkey]; simp only [HIF_Q_CFG]; omega
  have hix : regKey HIF_Q_CFG g 0 / 2 ^ 20 % 2 ^ 20 = g := by rw [hkey]; omega
  rw [State.hifWord, hoff, hix, regAt_qCfg]
  simp [HIF_Q_CFG, qCfgDesc, hown]

theorem resetHost_queue {s : State} {n g : Nat} (hn : n < 4) (hg : g < 16384) (hown : s.gqPart g = some n) :
    (s.resetHost n).queue g = {} ∧ (s.resetHost n).reg HIF_Q_CFG g 0 = 0x04100000 := by
  rw [State.resetHost, if_neg (by omega)]
  refine ⟨sparse_get_filter_dropped _ _ (fun k => !(s.gqPart k == some n)) (by simp [hown]), ?_⟩
  refine (congrArg BitVec.toNat (sparse_get_filter_dropped _ _ (fun k => !s.hifWord n k) (by rw [hifWord_qCfg hg hown]; rfl))).trans ?_
  have hreset : resetWord HIF_Q_CFG g = 0x04100000 := by
    rw [resetWord, if_neg (by decide), regAt_qCfg]
    rfl
  rw [hreset]
  rfl

/-! Link states (R389). -/

/-- What a request to a domain leaves of the wake. -/
def wakeKept (s t : State) : Prop := t.pwr.hostWake = s.pwr.hostWake ∧ t.pwr.wakeDue = s.pwr.wakeDue

theorem wakeKept.trans {s t u : State} (h : wakeKept s t) (h' : wakeKept t u) : wakeKept s u :=
  ⟨h'.1.trans h.1, h'.2.trans h.2⟩

theorem wakeKept_ite {s t u : State} {c : Prop} [Decidable c] (ht : wakeKept s t) (hu : wakeKept s u) :
    wakeKept s (if c then t else u) := by
  split <;> assumption

theorem wakeKept_railOn (s : State) (k : Nat) : wakeKept s (s.railOn k) :=
  wakeKept_ite ⟨rfl, rfl⟩ (wakeKept_ite ⟨rfl, rfl⟩ ⟨rfl, rfl⟩)

theorem wakeKept_rails (l : List Nat) : ∀ s : State, wakeKept s (l.foldl State.railOn s) := by
  induction l with
  | nil => exact fun _ => ⟨rfl, rfl⟩
  | cons k l ih => exact fun s => (wakeKept_railOn s k).trans (ih (s.railOn k))

theorem wakeKept_setDom (s : State) (d : Nat) (x : Dom) : wakeKept s (s.setDom d x) := ⟨rfl, rfl⟩

theorem wakeKept_beginChange (s : State) (d st : Nat) : wakeKept s (s.beginChange d st) :=
  wakeKept_ite ((wakeKept_setDom s d _).trans (wakeKept_rails laneRails _)) (wakeKept_setDom s d _)

theorem wakeKept_requestDom (s : State) (d st : Nat) : wakeKept s (s.requestDom d st) := by
  have hrefuse : wakeKept s (if (s.dom d).pend.isSome = true then s.refuse d 12 true else s) :=
    wakeKept_ite (wakeKept_ite ⟨rfl, rfl⟩ ⟨rfl, rfl⟩) ⟨rfl, rfl⟩
  rw [State.requestDom]
  cases (s.dom d).going with
  | none => exact wakeKept_ite ⟨rfl, rfl⟩ (wakeKept_beginChange s d st)
  | some x => exact hrefuse.trans (wakeKept_setDom _ d _)

theorem wakeKept_needNow (s : State) (d : Nat) : wakeKept s (s.needNow d) :=
  wakeKept_ite ⟨rfl, rfl⟩ (wakeKept_requestDom s d 0)

/-- A link's L0 does nothing more where no host is being woken and no WAKE is due. -/
theorem linkUp_asleep {t : State} {n : Nat} (hh : Sparse.get false t.pwr.hostWake n = false) (hw : t.pwr.wakeDue = false) :
    (let s :=
      if Sparse.get false t.pwr.hostWake n then
        ({ t with pwr := { t.pwr with hostWake := Sparse.set false t.pwr.hostWake n false } } : State).emit (.pin "HP_WAKE_N" n true)
      else t
    if s.pwr.wakeDue ∧ n = s.owner then
      ({ s with pwr := { s.pwr with wakeDue := false } } : State).raise 0x61 0x10 (s.pwr.wakeSrc + 256)
    else s) = t := by
  simp only [hh, hw, Bool.false_eq_true, if_false, false_and]

/-- Settles O45. -/
theorem queuesDoorbellsAndMessages : Obligations.QueuesDoorbellsAndMessages := by
  refine ⟨fun s p k v h hk hv => ?alloc, fun s p g v h hg hv => ⟨fun hoff hon hold => ?enable, fun hen hoff => ?disable⟩,
    fun s p i g size v hp hrel hd => ?bells, fun s p q g hg hen hk hl hr ha hm => ?agg, fun s p vec h hv => ?unmask,
    fun s n hn => ?reset, fun s n hn hd => ?links, fun s n hn => ?config⟩
  case alloc =>
    intro b c meets
    have hwrite := hifQallocWrite_owner h hk hv
    rw [writeQalloc_eq s p hv] at hwrite
    have hmeets : (List.range 4).any (allocMeet s k v.toNat) = true ↔ ∃ j < 4, meets j := by
      simp only [List.any_eq_true, List.mem_range, allocMeet_iff s hv]
      exact Iff.rfl
    refine ⟨fun hq hno hfit => ?_, fun href => ?_⟩
    · rw [if_neg] at hwrite
      · exact hwrite
      · rw [hmeets]
        rintro (hq' | ⟨j, hj, hm⟩ | hbig)
        · exact Bool.false_ne_true (hq ▸ hq')
        · exact hno j hj hm
        · omega
    · rw [if_pos (by rw [hmeets]; exact href)] at hwrite
      exact hwrite
  case enable =>
    have hbit : ofWord v.toNat HIF_Q_CFG_en = 1 := by
      rw [← bit31_qCfgEn v]
      exact hon
    refine congrArg Host.Outcome.next ((qCfg_written h hg hv).trans (congrArg State.goOn ?_))
    rw [writeQcfg_enable hoff hbit hv hold]
    rfl
  case disable =>
    have hbit : ¬ ofWord v.toNat HIF_Q_CFG_en = 1 := by
      rw [← bit31_qCfgEn v, hoff]
      exact Bool.false_ne_true
    refine congrArg Host.Outcome.next ((qCfg_written h hg hv).trans (congrArg State.goOn ?_))
    rw [writeQcfg_disable hen hbit (reachable_lt h.1)]
  case bells =>
    intro bad idx good n q
    have hr := reachable_of hp hrel hd
    refine ⟨fun h => ⟨congrArg (fun t => Host.Outcome.next (State.goOn t)) (bar2Write_bad hr h),
        congrArg (fun t => Host.Outcome.next (State.goOn t)) (bar2Write_bad hr h)⟩,
      fun h hk => congrArg (fun t => Host.Outcome.next (State.goOn t)) ((bar2Write_good hr h).trans (bell_tail hk idx)),
      fun h hk => congrArg (fun t => Host.Outcome.next (State.goOn t)) ((bar2Write_good hr h).trans (bell_head hk idx))⟩
  case agg =>
    refine congrArg Host.Outcome.next ?_
    rw [hg]
    exact if_pos ⟨hen, hk, hl, hr, ha, hm⟩
  case unmask =>
    intro k u
    exact (msixUnmask_up h hv).trans (congrArg (fun t => Host.Outcome.next (State.goOn t)) (setVecMask_clear s p vec))
  case reset =>
    have hopen : s.resetHost n = _ := if_neg (by omega)
    refine ⟨s.resetHost n, rfl, rfl, ?_, ?_, ?_, fun g hg hown => resetHost_queue hn hg hown⟩ <;> rw [hopen]
  case links =>
    intro u
    have hlive : ¬ (4 ≤ n ∨ s.pwr.deep ≠ 0) := by omega
    refine ⟨fun hw hdue => congrArg Host.Outcome.next ((if_neg hlive).trans ?_), congrArg Host.Outcome.next (if_neg hlive),
      congrArg Host.Outcome.next (if_neg hlive), congrArg Host.Outcome.next (if_neg hlive)⟩
    obtain ⟨hhost, hwake⟩ := wakeKept_needNow (u 1) (2 + n)
    have hawake : Sparse.get false ((u 1).needNow (2 + n)).pwr.hostWake n = false := by rw [hhost]; exact hw
    have hnone : ((u 1).needNow (2 + n)).pwr.wakeDue = false := by rw [hwake]; exact hdue
    exact linkUp_asleep hawake hnone
  case config =>
    by_cases hin : s.inReset = true
    · exact congrArg Host.Outcome.next ((if_neg (by simp [hin])).trans ((if_pos hn).trans (by rw [hin]; rfl)))
    · exact congrArg Host.Outcome.next ((if_pos ⟨hn, by simpa using hin⟩).trans (by rw [Bool.eq_false_iff.2 hin]; rfl))

end Sys2Proof.Proofs

/-! PROOFS. The statement of the record store's work (R407 to R422). -/

namespace Sys2Proof.Proofs

open Sys2Proof Sys2Proof.Machine Sys2Proof.Machine.Reg Sys2Proof.Laws

/-- A part at the last granule of a scrub pass that rewrote nothing, whose mark of a repaired copy is still set. -/
def scrubEnd : State :=
  (({ State.reset with nvs := { State.reset.nvs with repaired := true } } : State).setFld NVS_CFG_scrub_en 1).setFld NVS_SCRUB_pos 131071

/-- What is left of the mark of a repaired copy. -/
def repairedAfter : Host.Outcome State Fault Refusal → Option Bool
  | .next t => some t.nvs.repaired
  | _ => none

/-- The end of a pass clears the mark also where the pass rewrote nothing. -/
theorem scrubEnd_clears : repairedAfter (exec (.scrubGranule .clean) scrubEnd) = some false := by decide

/-- Refutes O52: at the end of a scrub pass that rewrote nothing the model clears the mark of a repaired copy, which the statement's
`setFld NVS_SCRUB_pos 0` leaves set. -/
theorem not_recordStoreWork : ¬ Obligations.RecordStoreWork := by
  rintro ⟨-, -, -, -, -, hscrub⟩
  have hpos : scrubEnd.fld NVS_SCRUB_pos = 131071 := by decide
  obtain ⟨-, -, -, -, hend⟩ := hscrub scrubEnd (by decide) (by decide) (by decide) (by decide)
  have hclears := scrubEnd_clears
  rw [hend hpos, if_pos (by decide)] at hclears
  exact absurd hclears (by decide)

end Sys2Proof.Proofs

/-! PROOFS. The statement of calibration, the re-plan and the log (R423 to R438). -/

namespace Sys2Proof.Proofs

open Sys2Proof Sys2Proof.Machine Sys2Proof.Machine.Reg Sys2Proof.Laws

/-- A part whose host interface is released, and whose CAL_LOG_ACK stands in the collection of written registers with its reset
value 0: a form that no run reaches, since a register that reads as after reset has no entry there. -/
def listedAck : State :=
  { State.reset with
    hif := { State.reset.hif with released := true }
    regs := [(regKey CAL_LOG_ACK 0 0, 0)] }

theorem listedAck_ownerUp : listedAck.hostUp 0 ∧ 0 = listedAck.owner := by decide

/-- The registers that have an entry after a step. -/
def listedAfter : Host.Outcome State Fault Refusal → List Nat
  | .next t => t.regs.map (·.1)
  | _ => []

/-- A write of the value that a register holds leaves its entry. -/
theorem listedAck_write : listedAfter (exec (.calLogAckWrite 0 0) listedAck) = [regKey CAL_LOG_ACK 0 0] := by decide

/-- Refutes O54: a write of CAL_LOG_ACK with the value that it holds leaves the collection of register words as it is, where the
statement's `setReg` puts it in canonical form. The two part only in a state whose registers are not canonical, which the statement
does not exclude. -/
theorem not_calibrationRePlanAndLog : ¬ Obligations.CalibrationRePlanAndLog := by
  rintro ⟨-, -, -, -, -, -, -, hlog⟩
  obtain ⟨hup, howner⟩ := listedAck_ownerUp
  obtain ⟨-, hack, -⟩ := hlog listedAck 0 0 hup howner
  have hlisted := listedAck_write
  rw [hack (by decide)] at hlisted
  exact absurd hlisted (by decide)

end Sys2Proof.Proofs

/-! PROOFS. What leaves the panel's power sequence and the progress of deep sleep alone: records, the frame store's writes, lanes,
reverse packets, streams and ports. -/

namespace Sys2Proof.Proofs

open Sys2Proof Sys2Proof.Machine Sys2Proof.Machine.Reg Sys2Proof.Laws

/-- From `s` to `t` the panel's power sequence and the step of deep sleep have stayed. -/
structure PowerKept (s t : State) : Prop where
  pnl : t.pnl = s.pnl
  deep : t.pwr.deep = s.pwr.deep

namespace PowerKept

theorem refl (s : State) : PowerKept s s := ⟨rfl, rfl⟩

theorem trans {s t u : State} (h : PowerKept s t) (k : PowerKept t u) : PowerKept s u :=
  ⟨k.pnl.trans h.pnl, k.deep.trans h.deep⟩

theorem ite {s t u : State} {c : Prop} [Decidable c] (ht : PowerKept s t) (hu : PowerKept s u) :
    PowerKept s (if c then t else u) := by
  split
  · exact ht
  · exact hu

theorem foldl {α : Type} {f : State → α → State} (hf : ∀ s x, PowerKept s (f s x)) (l : List α) (s : State) :
    PowerKept s (l.foldl f s) :=
  List.foldlRecOn l f (motive := PowerKept s) (refl s) fun t ht x _ => ht.trans (hf t x)

theorem of_recorded {s t : State} (h : Recorded s t) : PowerKept s t :=
  ⟨(congrArg State.pnl h.rest :), (congrArg (fun u : State => u.pwr.deep) h.rest :)⟩

theorem of_recordsOnly {s t : State} (h : recordsOnly s t) : PowerKept s t :=
  ⟨(congrArg State.pnl h :), (congrArg (fun u : State => u.pwr.deep) h :)⟩

/-! The frame store. -/

theorem countPart (s : State) (k : Nat) (c : List (Nat × Nat)) : PowerKept s (s.countPart k c) := by
  obtain ⟨r, h⟩ := countPart_regs s k c
  exact h ▸ ⟨rfl, rfl⟩

theorem setBuf (s : State) (k : Nat) (b : Buf) : PowerKept s (s.setBuf k b) := ⟨rfl, rfl⟩

theorem bufOut (s : State) (k : Nat) : PowerKept s (s.bufOut k) :=
  (ite (refl s) (countPart s _ _)).trans (setBuf _ k _)

theorem bufFor (s : State) (n : Nat) : PowerKept s (s.bufFor n).2 := by
  unfold State.bufFor
  split
  · exact refl s
  · split
    · exact setBuf ..
    · exact (ite (bufOut s _) (refl s)).trans (setBuf ..)

theorem bufPart (s : State) (n lo hi : Nat) : PowerKept s (s.bufPart n lo hi) :=
  have h := (bufFor s n).trans (setBuf (s.bufFor n).2 (s.bufFor n).1 _)
  ite (h.trans (bufOut _ _)) h

theorem bufWrite (s : State) (a : Nat) (d : List Byte) : PowerKept s (s.bufWrite a d) :=
  ite ((of_recorded (recorded_ppaStore s a d)).trans (foldl (fun t _ => bufPart t _ _ _) _ _)) (refl s)

theorem regionMiss (s : State) : PowerKept s s.regionMiss := ⟨rfl, rfl⟩

/-! Lanes. -/

theorem emit (s : State) (o : Out) : PowerKept s (s.emit o) := ⟨rfl, rfl⟩
theorem setLane (s : State) (l : Nat) (x : Lane) : PowerKept s (s.setLane l x) := ⟨rfl, rfl⟩

theorem txSend (s : State) (l : Nat) (ys : List Sym) : PowerKept s (s.txSend l ys) :=
  ite (refl s) ((setLane s l _).trans (emit _ _))

theorem txBurst (s : State) (l n : Nat) (t : Ns) : PowerKept s (s.txBurst l n t) :=
  ((setLane s l _).trans (emit _ (.idle l false n))).trans (txSend _ l _)

theorem txEntryAt (s : State) (l : Nat) (t : Ns) : PowerKept s (s.txEntryAt l t) := by
  unfold State.txEntryAt
  extract_lets x inBurst t' u v
  have hu : PowerKept s u := ite (txSend ..) (refl s)
  have hv : PowerKept u v := txSend ..
  exact (hu.trans hv).trans ((setLane v l _).trans (emit _ _))

theorem txAsk (s : State) (l : Nat) (exit : Option Nat) (entry : Bool) (t : Ns) : PowerKept s (s.txAsk l exit entry t) := by
  unfold State.txAsk
  extract_lets x u
  have hu : PowerKept s u := txEntryAt ..
  split
  · cases exit with
    | some n => exact ite (txBurst ..) (setLane ..)
    | none => exact ite (setLane ..) (refl s)
  · exact ite (hu.trans (setLane ..)) (refl s)

theorem txExit (s : State) (l : Nat) : PowerKept s (s.txExit l) := txAsk ..
theorem txEnter (s : State) (l : Nat) : PowerKept s (s.txEnter l) := txAsk ..

/-! Reverse packets. -/

theorem revPut (s : State) (p : Nat) (ys : List Sym) : PowerKept s (s.revPut p ys) := (txSend s _ _).trans ⟨rfl, rfl⟩

theorem revIdleTo (s : State) (p q : Nat) : PowerKept s (s.revIdleTo p q) := by
  unfold State.revIdleTo
  extract_lets x n t y first u
  split
  · exact refl s
  · split
    · exact revPut ..
    · have hu : PowerKept t u := ⟨rfl, rfl⟩
      exact ((revPut ..).trans hu).trans (revPut ..)

theorem revPacket (s : State) (p type stream arg : Nat) (init : Bool) (body : List Byte) :
    PowerKept s (s.revPacket p type stream arg init body) :=
  ((⟨rfl, rfl⟩ : PowerKept s (s.setPort p _)).trans (revIdleTo _ p _)).trans (revPut _ p _)

theorem revEnter (s : State) (p : Nat) : PowerKept s (s.revEnter p) :=
  ite (txEnter ..) ((revIdleTo ..).trans (txAsk ..))

/-! Streams. -/

theorem setStream (s : State) (c : Nat) (x : Stream) : PowerKept s (s.setStream c x) := ⟨rfl, rfl⟩
theorem setFldI (s : State) (f : Fld) (i v : Nat) : PowerKept s (s.setFldI f i v) := ⟨rfl, rfl⟩

theorem sendCredit (s : State) (c : Nat) : PowerKept s (s.sendCredit c) :=
  ite (refl s) ((⟨rfl, rfl⟩ : PowerKept s ((s.setStream c _).emit _)).trans (revPacket ..))

theorem accrue (s : State) (c n : Nat) : PowerKept s (s.accrue c n) :=
  ite (refl s) (ite ((setStream s c _).trans (sendCredit _ c)) (setStream s c _))

theorem tryGrant (s : State) (c : Nat) : PowerKept s (s.tryGrant c) :=
  ite ((⟨rfl, rfl⟩ : PowerKept s ((s.setStream c _).emit _)).trans (revPacket ..)) (refl s)

theorem setSlot (s : State) (l k : Nat) (x : Slot) : PowerKept s (s.setSlot l k x) := ⟨rfl, rfl⟩

theorem slotReady (s : State) (l k : Nat) : PowerKept s (s.slotReady l k) := by
  unfold State.slotReady
  split
  · exact ⟨rfl, rfl⟩
  · exact ⟨rfl, rfl⟩

theorem loseOthers (s : State) (l c : Nat) : PowerKept s (s.loseOthers l c) := by
  refine foldl (fun t d => ?_) _ s
  split
  · exact setStream ..
  · exact refl t

theorem openSlot (s : State) (l k n : Nat) : PowerKept s (s.openSlot l k n) :=
  (setSlot s l k _).trans (ite (bufWrite ..) (regionMiss _))

theorem layerStart (s : State) (c l n : Nat) : PowerKept s (s.layerStart c l n).2 := by
  have hslot (k : Nat) (x : Slot) : PowerKept s ((s.setSlot l k x).loseOthers l c) := (setSlot ..).trans (loseOthers ..)
  unfold State.layerStart
  cases s.slotIn l 1 with
  | some k =>
    simp only [apply_ite Prod.snd]
    exact ite (ite (hslot k _) (refl s))
      (ite ((openSlot ..).trans (loseOthers ..)) ((hslot k _).trans (setStream ..)))
  | none =>
    cases s.slotIn l 0 with
    | some k => exact openSlot ..
    | none => exact refl s

theorem layerEnd (s : State) (c l n : Nat) (ok : Bool) : PowerKept s (s.layerEnd c l n ok) := by
  unfold State.layerEnd
  split
  · exact refl s
  · extract_lets x
    split
    · exact refl s
    · split
      · split
        · exact (setSlot ..).trans (slotReady ..)
        · exact setSlot ..
      · exact (setSlot ..).trans (loseOthers ..)

theorem endFrame (s : State) (c : Nat) (ok : Bool) : PowerKept s (s.endFrame c ok) := by
  unfold State.endFrame
  extract_lets x t u
  have hu : PowerKept s u := (setStream s c _).trans (ite (refl t) (setFldI ..))
  split
  · exact refl s
  · split
    · exact hu.trans (layerEnd ..)
    · exact hu

theorem writeSegment (s : State) (c line x0 n : Nat) (body : List Byte) : PowerKept s (s.writeSegment c line x0 n body) := by
  refine ite ⟨rfl, rfl⟩ (ite (refl s) ?_)
  dsimp only
  split
  · exact ite (bufWrite ..) (regionMiss s)
  · exact refl s

theorem dropPacket (s : State) (c need : Nat) : PowerKept s (s.dropPacket c need) :=
  ((setStream s c _).trans (setFldI _ MSP_STREAM_FLAGS_drop c 1)).trans (accrue ..)

theorem markBad (s : State) (c : Nat) : PowerKept s (s.markBad c) := ⟨rfl, rfl⟩
theorem buffer (s : State) (c n : Nat) : PowerKept s (s.buffer c n) := ⟨rfl, rfl⟩

theorem takePixel (s : State) (k : Packet) : PowerKept s (s.takePixel k) := by
  refine ite (dropPacket ..) (ite ((markBad ..).trans (dropPacket ..)) ?_)
  dsimp only
  split
  · exact (markBad ..).trans (dropPacket ..)
  · exact (((setStream ..).trans (buffer ..)).trans (ite (setFldI ..) (refl _))).trans (writeSegment ..)

theorem takeMeta (s : State) (k : Packet) : PowerKept s (s.takeMeta k) := by
  unfold State.takeMeta
  extract_lets c x crcBad t u l
  have hu : PowerKept s u := (ite ((setStream ..).trans (setFldI ..)) (refl s)).trans (buffer t _ _)
  split
  · exact accrue ..
  · split
    · exact dropPacket ..
    · split
      · exact hu
      · split
        · exact hu.trans (ite (bufWrite ..) (regionMiss u))
        · exact hu

theorem rebindTo (s : State) (c : Nat) (b : BindArgs) : PowerKept s (s.rebindTo c b) :=
  ite ⟨rfl, rfl⟩ (ite ⟨rfl, rfl⟩ ⟨rfl, rfl⟩)

theorem takeStart (s : State) (k : Packet) : PowerKept s (s.takeStart k).2 := by
  unfold State.takeStart
  extract_lets c t u b n started
  have hu : PowerKept s u := (endFrame s c false).trans (by
    show PowerKept t (match (t.stream c).rebind with | some b => t.rebindTo c b | none => t)
    split
    · exact rebindTo ..
    · exact refl t)
  have hstarted (v : State) : PowerKept v (started v) := setStream ..
  split
  · have hr := hu.trans ((setStream u c { u.stream c with lost := false }).trans (layerStart _ c b.layer n))
    split
    · exact hr.trans (hstarted _)
    · exact hr
  · exact hu.trans (hstarted u)

theorem takeEnd (s : State) (k : Packet) : PowerKept s (s.takeEnd k) := ite (dropPacket ..) (endFrame ..)

theorem takePacket (s : State) (k : Packet) : PowerKept s (s.takePacket k).2 := by
  unfold State.takePacket
  extract_lets t
  split
  · exact takePixel ..
  · split
    · exact takeStart ..
    · split
      · exact takeEnd ..
      · exact takeMeta ..

theorem holdLayer (s : State) (l : Nat) : PowerKept s (s.holdLayer l) := foldl (fun t c => setStream t c _) _ s

theorem post (s : State) (code cls arg : Nat) (ps : List Nat) : PowerKept s (s.post code cls arg ps) :=
  of_recordsOnly (postAt_recordsOnly ..)

theorem violation (s : State) (p c need : Nat) : PowerKept s (s.violation p c need) :=
  have h := ((setStream s c _).trans (setFldI _ MSP_STREAM_FLAGS_viol c 1)).trans (accrue _ c need)
  ite h (h.trans (post ..))

theorem receive (s : State) (t : Nat) (k : Packet) : PowerKept s (s.receive t k) := by
  unfold State.receive
  extract_lets c x need gap avail u v y r src w
  have hu : PowerKept s u := setStream ..
  have hr : PowerKept u r.2 := takePacket u k
  have hw : PowerKept r.2 w := setStream ..
  split
  · exact refl s
  · split
    · exact refl s
    · split
      · exact (setStream ..).trans (setFldI ..)
      · refine hu.trans ?_
        split
        · exact (violation ..).trans (ite (refl v) (dropPacket ..))
        · split
          · exact dropPacket ..
          · split
            · exact setStream ..
            · split
              · exact hr
              · exact (hr.trans hw).trans (holdLayer ..)

/-! Ports. -/

theorem setPort (s : State) (p : Nat) (x : Port) : PowerKept s (s.setPort p x) := ⟨rfl, rfl⟩

theorem endPacket (s : State) (p : Nat) (cut noEop : Bool) : PowerKept s (s.endPacket p cut noEop) := by
  unfold State.endPacket
  split
  · exact refl s
  · exact ite (setPort ..) ((setPort ..).trans (receive ..))

theorem portOff (s : State) (p : Nat) : PowerKept s (s.portOff p) :=
  ite (refl s) ((((endPacket ..).trans (setPort ..)).trans (foldl (fun t c => endFrame t c false) _ _)).trans (revEnter ..))

theorem portGone (s : State) (p : Nat) : PowerKept s (s.portGone p) := (ite (setPort ..) (portOff ..)).trans (setPort ..)

theorem postPort (s : State) (p code arg : Nat) : PowerKept s (s.postPort p code arg) :=
  (post ..).trans (ite (of_recorded (recorded_log ..)) (refl _))

theorem portTalk (s : State) (p : Nat) : PowerKept s (s.portTalk p) :=
  ite ((⟨rfl, rfl⟩ : PowerKept s ((s.setPort p _).emit _)).trans (revPacket ..)) (refl s)

theorem portUp (s : State) (p : Nat) : PowerKept s (s.portUp p) :=
  (((setPort s p _).trans (postPort ..)).trans (portTalk ..)).trans
    (foldl (fun t _ => ite ((setStream ..).trans (tryGrant ..)) (refl t)) _ _)

theorem deskew (s : State) (p : Nat) : PowerKept s (s.deskew p) :=
  (setPort s p _).trans (ite (portUp ..) (ite ((setPort ..).trans (postPort ..)) (setPort ..)))

theorem portTrain (s : State) (p : Nat) : PowerKept s (s.portTrain p) :=
  (((setPort s p _).trans (txExit ..)).trans (ite ((setPort ..).trans (deskew ..)) (refl _))).trans (portTalk ..)

theorem portStart (s : State) (p : Nat) : PowerKept s (s.portStart p) := ite ((setPort s p _).trans (portTrain ..)) (refl s)

end PowerKept

end Sys2Proof.Proofs

/-! PROOFS. POWER_HINTs, the ends of domain changes, rails and the die temperature (R384 to R404). -/

namespace Sys2Proof.Proofs

open Sys2Proof Sys2Proof.Machine Sys2Proof.Machine.Reg Sys2Proof.Laws

/-! POWER_HINTs (R393) and the entry to deep sleep (R397). -/

theorem take_powerHint_denied {s : State} {h : Hdr} {g kind t : Nat} {m : BitVec 88} (ht : s.takes h g)
    (hr : s.hintRights h.part m = false) : s.take h (.powerHint kind t m) = (s.counted.done (s.reqOf h g) DENIED).goOn :=
  take_denied ht rfl hr

theorem take_powerHint {s : State} {h : Hdr} {g kind t : Nat} {m : BitVec 88} (ht : s.takes h g) (hp : plainHdr h)
    (hr : s.hintRights h.part m = true) :
    s.take h (.powerHint kind t m) = (s.counted.takePowerHint (s.reqOf h g) kind t m).goOn := by
  have hrights : s.counted.rights h.part (.powerHint kind t m) = true := hr
  rw [take_acts ht hp rfl hrights rfl]
  simp [State.act, onSvc]

theorem mem_hintDoms {m : BitVec 88} {d : Nat} (h : d ∈ hintDoms m) : m.getLsbD d = true := (List.mem_filter.1 h).2

/-- A mask without bit 1 names no domain 1. -/
theorem hintDoms_noSvc {m : BitVec 88} (h : m.getLsbD 1 = false) : (hintDoms m).filter (· != 1) = hintDoms m := by
  refine List.filter_eq_self.2 fun d hd => ?_
  rw [bne_iff_ne]
  rintro rfl
  exact Bool.false_ne_true (h.symm.trans (mem_hintDoms hd))

theorem takePowerHint_invalid {s : State} {r : Req} {kind t : Nat} {m : BitVec 88}
    (h : hintDoms m = [] ∨ m.toNat / 2 ^ 82 ≠ 0) : s.takePowerHint r kind t m = s.done r INVALID := by
  refine if_pos ?_
  rcases h with h | h
  · exact .inr (.inl (by rw [h]; rfl))
  · exact .inr (.inr h)

theorem takePowerHint_hints {s : State} {r : Req} {kind t : Nat} {m : BitVec 88} (hk : kind < 2)
    (h : ¬(hintDoms m = [] ∨ m.toNat / 2 ^ 82 ≠ 0)) (hd : ¬(kind = 0 ∧ m.getLsbD 1 = true)) :
    s.takePowerHint r kind t m =
      (((hintDoms m).filter (· != 1)).foldl (fun u d => u.hintDom kind t d) (s.done r OK)).powerScan := by
  refine (if_neg ?_).trans (if_neg hd)
  rintro (h2 | h2 | h2)
  · omega
  · exact h (.inl (List.isEmpty_iff.1 h2))
  · exact h (.inr h2)

/-- A POWER_HINT of either kind that asks for no deep sleep. -/
theorem exec_hint {s : State} {h : Hdr} {g kind t : Nat} {m : BitVec 88} (ht : s.takes h g) (hp : plainHdr h) (hk : kind < 2)
    (hd : ¬(kind = 0 ∧ m.getLsbD 1 = true)) :
    s.take h (.powerHint kind t m) =
      (if s.hintRights h.part m = false then s.counted.done (s.reqOf h g) DENIED
        else if hintDoms m = [] ∨ m.toNat / 2 ^ 82 ≠ 0 then s.counted.done (s.reqOf h g) INVALID
        else (((hintDoms m).filter (· != 1)).foldl (fun u d => u.hintDom kind t d)
          (s.counted.done (s.reqOf h g) OK)).powerScan).goOn := by
  cases hr : s.hintRights h.part m with
  | false => exact take_powerHint_denied ht hr
  | true =>
    rw [take_powerHint ht hp hr, if_neg (by decide)]
    by_cases hbad : hintDoms m = [] ∨ m.toNat / 2 ^ 82 ≠ 0
    · rw [if_pos hbad, takePowerHint_invalid hbad]
    · rw [if_neg hbad, takePowerHint_hints hk hbad hd]

theorem hintDom_idle (s : State) (t d : Nat) :
    s.hintDom 0 t d = s.setDom d { s.dom d with need := none, idle := some t } := rfl

theorem hintDom_needed (s : State) (t d : Nat) :
    s.hintDom 1 t d = if t ≤ s.now then (s.setDom d { s.dom d with need := none, idle := none }).needNow d
      else s.setDom d { s.dom d with need := some t, idle := none } := rfl

theorem deepReady_iff (s : State) : s.deepReady = true ↔
    s.mode = 10 ∧ s.fld SCN_CTRL_run = 0 ∧ s.running = false ∧ (s.pwrState = 0 ∨ s.pwrState = 4) ∧
      (∀ p < 8, (s.port p).st = 0 ∨ (s.port p).st = 4) ∧ s.domMax 1 = 2 ∧ s.eng.jobs = [] ∧ s.fld PWR_WAKE_CFG_en ≠ 0 := by
  simp only [State.deepReady, Bool.and_eq_true, Bool.or_eq_true, Bool.not_eq_true', beq_iff_eq, bne_iff_ne, List.all_eq_true,
    List.mem_range, List.isEmpty_iff, and_assoc]

theorem getLsbD_or_two (m : BitVec 88) (d : Nat) : (m ||| 2).getLsbD d = (m.getLsbD d || d == 1) := by
  rw [BitVec.getLsbD_or]
  congr 1
  by_cases h : d = 1
  · subst h; rfl
  · rw [beq_eq_false_iff_ne.2 h]
    show Nat.testBit 2 d = false
    exact Nat.testBit_two_pow_of_ne (n := 1) (Ne.symm h)

/-- The bit of a deep-sleep request names no other domain. -/
theorem hintDoms_deep (m : BitVec 88) : (hintDoms (m ||| 2)).filter (· != 1) = (hintDoms m).filter (· != 1) := by
  unfold hintDoms
  rw [List.filter_filter, List.filter_filter]
  refine List.filter_congr fun d _ => ?_
  rw [getLsbD_or_two]
  by_cases h : d = 1
  · subst h; rfl
  · rw [beq_eq_false_iff_ne.2 h, Bool.or_false]

theorem hintDoms_deep_ne (m : BitVec 88) : hintDoms (m ||| 2) ≠ [] := by
  refine List.ne_nil_of_mem (a := 1) (List.mem_filter.2 ⟨by decide, ?_⟩)
  rw [getLsbD_or_two]
  simp

theorem toNat_or_two {m : BitVec 88} (h : m.toNat / 2 ^ 82 = 0) : (m ||| 2).toNat / 2 ^ 82 = 0 := by
  have hlt : m.toNat < 2 ^ 82 := by omega
  have hor : (m ||| 2).toNat < 2 ^ 82 := by
    rw [BitVec.toNat_or]
    exact Nat.or_lt_two_pow hlt (by decide)
  omega

theorem hintRights_owner {s : State} {p : Nat} (m : BitVec 88) (h : p = s.owner) : s.hintRights p m = true := by
  simp [State.hintRights, State.hintOk, h]

/-- The OWNER's deep-sleep request, awake. -/
theorem exec_deepSleepRequest {s : State} {h : Hdr} {g t : Nat} {m : BitVec 88} (ht : s.takes h g) (hp : plainHdr h)
    (ho : h.part = s.owner) (hm : m.toNat / 2 ^ 82 = 0) (hd : s.pwr.deep = 0) :
    exec (.deepSleepRequest h t m) s = .next (if s.deepReady = true then
        ((hintDoms m).filter (· != 1)).foldl (fun u d => u.hintDom 0 t d) (s.counted.enterDeep (s.reqOf h g) t)
      else s.counted.done (s.reqOf h g) NOT_READY).goOn := by
  have hgood : ¬(2 ≤ 0 ∨ (hintDoms (m ||| 2)).isEmpty = true ∨ (m ||| 2).toNat / 2 ^ 82 ≠ 0) := by
    rw [List.isEmpty_iff]
    rintro (h2 | h2 | h2)
    · omega
    · exact hintDoms_deep_ne m h2
    · exact h2 (toNat_or_two hm)
  have hbit : (m ||| 2).getLsbD 1 = true := by rw [getLsbD_or_two]; simp
  refine congrArg Host.Outcome.next ((take_powerHint ht hp (hintRights_owner _ ho)).trans (congrArg State.goOn ?_))
  rw [State.takePowerHint]
  refine (if_neg hgood).trans ((if_pos ⟨rfl, hbit⟩).trans ?_)
  rw [hintDoms_deep]
  have hready : s.counted.deepReady = s.deepReady := rfl
  have hdeep : s.counted.pwr.deep = 0 := hd
  rw [hready]
  cases s.deepReady with
  | true => exact (if_neg (by simp [hdeep])).trans (if_pos rfl).symm
  | false => exact (if_pos (.inl rfl)).trans (if_neg (by decide)).symm

/-! Changes of domains (R388 to R392). -/

theorem exec_domainExitStart {s : State} {d : Nat} {t : Ns} (hd : s.pwr.deep = 0) (ht : (s.dom d).exitAt = some t) :
    exec (.domainExitStart d) s =
      .next (((s.reach t).setDom d { s.dom d with exitAt := none, need := none, idle := none }).needNow d) := by
  show execDomainExitStart d s = _
  unfold execDomainExitStart
  rw [ht]
  exact congrArg Host.Outcome.next (if_pos hd)

/-- A change of domain `d` to `st` in force, with its outputs (R392, R404). -/
def inForce (s : State) (d st : Nat) : State :=
  let v := s.setDom d { s.dom d with st := st, going := none, since := s.now }
  if st = 2 ∨ (s.dom d).st = 2 then v.emit (.outputs d (st != 2)) else v

theorem endChange_inForce {s : State} {d st : Nat} (hg : (s.dom d).going = some st) :
    s.endChange d =
      (let o := inForce s d st
       let w := if st = 0 then o.restoreLanes d else if st = 2 then o.loseDom d else o
       if st = 2 ∧ laneDom d = true then w.railsMayFall else w) := by
  unfold State.endChange
  simp only [hg]
  rfl

theorem inForce_dom (s : State) (d st : Nat) : (inForce s d st).dom d = { s.dom d with st := st, going := none, since := s.now } := by
  unfold inForce
  extract_lets x v
  have hv : v.dom d = { s.dom d with st := st, going := none, since := s.now } := sparse_get_set_same ..
  split
  · exact hv
  · exact hv

theorem inForce_deep (s : State) (d st : Nat) : (inForce s d st).pwr.deep = s.pwr.deep := by
  unfold inForce
  extract_lets v
  split
  · rfl
  · rfl

/-! What OFF loses, and lanes and rails that follow, are not the domains. -/

theorem restoreLanes_pwr (s : State) (d : Nat) : (s.restoreLanes d).pwr = s.pwr := by
  refine foldl_keeps State.pwr (fun t l => ?_) _ s
  rfl

theorem loseDom_pwr (s : State) (d : Nat) : (s.loseDom d).pwr = s.pwr := by
  unfold State.loseDom
  split
  · extract_lets c cl t
    refine (foldl_keeps State.pwr (fun u i => ?_) _ t).trans ?_
    · rfl
    · rfl
  · split
    · rfl
    · refine foldl_keeps State.pwr (fun u l => ?_) _ s
      rfl

theorem pmbus_pwr (s : State) (k cmd data : Nat) : (s.pmbus k cmd data).pwr = s.pwr := by
  unfold State.pmbus
  split
  · rfl
  · rfl

/-- The domains and the step of deep sleep. -/
def domsAndDeep (s : State) : Sparse Dom × Nat := (s.pwr.doms, s.pwr.deep)

theorem railsMayFall_domsAndDeep (s : State) : domsAndDeep s.railsMayFall = domsAndDeep s := by
  unfold State.railsMayFall
  split
  · refine foldl_keeps domsAndDeep (fun t k => ?_) _ s
    split
    · unfold domsAndDeep
      rw [pmbus_pwr]
      rfl
    · rfl
  · rfl

theorem endChange_domsAndDeep {s : State} {d st : Nat} (hg : (s.dom d).going = some st) :
    domsAndDeep (s.endChange d) = domsAndDeep (inForce s d st) := by
  have hkept {t u : State} (h : t.pwr = u.pwr) : domsAndDeep t = domsAndDeep u := by rw [domsAndDeep, h, domsAndDeep]
  rw [endChange_inForce hg]
  extract_lets o w
  have hw : domsAndDeep w = domsAndDeep o := by
    show domsAndDeep (if st = 0 then o.restoreLanes d else if st = 2 then o.loseDom d else o) = _
    split
    · exact hkept (restoreLanes_pwr o d)
    · split
      · exact hkept (loseDom_pwr o d)
      · rfl
  split
  · exact (railsMayFall_domsAndDeep w).trans hw
  · exact hw

theorem endChange_st {s : State} {d st : Nat} (hg : (s.dom d).going = some st) : ((s.endChange d).dom d).st = st := by
  have hdoms : (s.endChange d).pwr.doms = (inForce s d st).pwr.doms := congrArg Prod.fst (endChange_domsAndDeep hg)
  have hdom : (s.endChange d).dom d = (inForce s d st).dom d := by
    rw [State.dom, hdoms, State.dom]
  rw [hdom, inForce_dom]

theorem endChange_deep {s : State} {d st : Nat} (hg : (s.dom d).going = some st) : (s.endChange d).pwr.deep = s.pwr.deep :=
  (congrArg Prod.snd (endChange_domsAndDeep hg)).trans (inForce_deep s d st)

theorem domUp_powerKept (s : State) (d : Nat) : PowerKept s (s.domUp d) := .ite (.portStart ..) (.ite ⟨rfl, rfl⟩ (.refl s))
theorem domDown_powerKept (s : State) (d : Nat) : PowerKept s (s.domDown d) := .ite (.portGone ..) (.refl s)

theorem changeDone_awake {s : State} {d st : Nat} (hg : (s.dom d).going = some st) (hd : s.pwr.deep = 0) :
    s.changeDone d =
      ((if st = 0 then (s.endChange d).domUp d else (s.endChange d).domDown d).servePending d).powerScan := by
  unfold State.changeDone
  extract_lets t u
  have hu : u = if st = 0 then t.domUp d else t.domDown d := by
    show (if (t.dom d).st = 0 then t.domUp d else t.domDown d) = _
    rw [show (t.dom d).st = st from endChange_st hg]
  have hdeep : u.pwr.deep = 0 := by
    have ht : t.pwr.deep = 0 := (endChange_deep hg).trans hd
    rw [hu]
    exact (PowerKept.ite (domUp_powerKept t d) (domDown_powerKept t d)).deep.trans ht
  rw [if_pos hdeep, hu]

theorem exec_domainChangeDone {s : State} {d st : Nat} (hg : (s.dom d).going = some st) :
    exec (.domainChangeDone d) s =
      .next (if st = 0 ∧ (s.dom d).st = 2 ∧ laneDom d = true ∧ s.railsUp = false then s else s.changeDone d) := by
  show execDomainChangeDone d s = _
  unfold execDomainChangeDone
  simp only [hg]

/-- A change of a domain that ends while the part is awake. -/
theorem domainChangeDone_awake {s : State} {d st : Nat} (hst : st < 3) (hg : (s.dom d).going = some st) (hd : s.pwr.deep = 0)
    (hrails : st ≠ 0 ∨ (s.dom d).st ≠ 2 ∨ laneDom d = false ∨ s.railsUp = true) :
    exec (.domainChangeDone d) s =
      (let o := inForce s d st
       let w := if st = 2 then (if laneDom d = true then (o.loseDom d).railsMayFall else o.loseDom d).domDown d
         else if st = 0 then (o.restoreLanes d).domUp d else o.domDown d
       .next ((w.servePending d).powerScan)) := by
  have hgo : ¬(st = 0 ∧ (s.dom d).st = 2 ∧ laneDom d = true ∧ s.railsUp = false) := by
    rintro ⟨h0, h2, hl, hr⟩
    simp [h0, h2, hl, hr] at hrails
  rw [exec_domainChangeDone hg, if_neg hgo, changeDone_awake hg hd, endChange_inForce hg]
  have hcases : st = 0 ∨ st = 1 ∨ st = 2 := by omega
  rcases hcases with rfl | rfl | rfl
  · simp
  · simp
  · simp

/-- The exchange RAM's idle time ends (R389). -/
theorem exec_xramIdle {s : State} (hd : s.pwr.deep = 0) (hst : (s.dom 81).st = 0) (hg : (s.dom 81).going = none)
    (hmax : s.domMax 81 ≠ 0) :
    exec .xramIdle s =
      .next (((s.reach (s.pwr.xramIdle + 1000 * s.fldI PWR_DOM_CFG_idle 81)).setDom 81
        { s.dom 81 with exitAt := (s.dom 81).idle.map fun t => t - domExit 81 (min 2 (s.domMax 81)) }).requestDom 81
          (min 2 (s.domMax 81))) :=
  congrArg Host.Outcome.next (if_pos ⟨hst, hg, hmax, hd⟩)

/-! Rails (R394, R395). -/

theorem exec_railAck {s : State} {k : Nat} (hk : k < 8) (hb : (s.rail k).busy = true) (hv : (s.rail k).volt = false) :
    exec (.railAck k) s =
      .next (s.setRail k { s.rail k with busy := false, retried := false, volt := false, pg := true }) :=
  congrArg Host.Outcome.next ((if_pos ⟨hk, hb⟩).trans (if_neg (by simp [hv])))

theorem exec_railTimeout_first {s : State} {k : Nat} (hk : k < 8) (hb : (s.rail k).busy = true) (hv : (s.rail k).volt = false)
    (hr : (s.rail k).retried = false) :
    exec (.railTimeout k) s = .next ((s.setRail k { s.rail k with retried := true }).pmbus k 0x01 0x80) := by
  show execRailTimeout k s = _
  unfold execRailTimeout
  extract_lets r mv
  have hbusy : ¬(8 ≤ k ∨ r.busy = false) := by simp [r, hb]; omega
  have hvolt : r.volt = false := hv
  rw [if_neg hbusy, if_pos hr, hvolt]
  rfl

theorem exec_railTimeout_second {s : State} {k : Nat} (hk : k < 8) (hb : (s.rail k).busy = true) (hv : (s.rail k).volt = false)
    (hr : (s.rail k).retried = true) :
    exec (.railTimeout k) s =
      .next ((((s.setFld PWR_VR_STATUS_fault (withBit (s.fld PWR_VR_STATUS_fault) k true)).setFld PWR_FLAGS_vr_fault 1).setRail k
        { s.rail k with busy := false, retried := false, on := false, pg := false }).railRefused) := by
  show execRailTimeout k s = _
  unfold execRailTimeout
  extract_lets r mv t u
  have hbusy : ¬(8 ≤ k ∨ r.busy = false) := by simp [r, hb]; omega
  have hretried : ¬r.retried = false := by simp [r, hr]
  have hvolt : ¬r.volt = true := by simp [r, hv]
  rw [if_neg hbusy, if_neg hretried, if_neg hvolt]
  rfl

theorem exec_vrPgFall {s : State} {k : Nat} (hk : k < 8) (hu : s.railUsed k = true) (hon : (s.rail k).on = true)
    (hpg : (s.rail k).pg = true) (hd : s.pwr.deep < 6) :
    exec (.vrPgFall k) s = .next (s.setRail k { s.rail k with pg := false }).powerFail :=
  congrArg Host.Outcome.next (if_pos ⟨hk, hu, hon, hpg, hd⟩)

/-- The STATUS_WORD of one rail read, and cleared where it shows anything. -/
def readStatus (words : List (BitVec 16)) (u : State) (k : Nat) : State :=
  if words.getD k 0 = 0 then u.pmbus k 0x79 0
  else (((u.pmbus k 0x79 0).setFld PWR_VR_STATUS_fault (withBit ((u.pmbus k 0x79 0).fld PWR_VR_STATUS_fault) k true)).setFld
    PWR_FLAGS_vr_fault 1).pmbus k 0x03 0

theorem readStatus_pwr (words : List (BitVec 16)) (u : State) (k : Nat) : (readStatus words u k).pwr = u.pwr := by
  unfold readStatus
  split
  · exact pmbus_pwr ..
  · exact (pmbus_pwr ..).trans (pmbus_pwr u k 0x79 0)

theorem exec_pwAlert (s : State) (words : List (BitVec 16)) :
    exec (.pwAlert words) s =
      (let used := (List.range 8).filter s.railUsed
       let t := used.foldl (readStatus words) s
       .next (if (used.any fun k => (s.rail k).on && outputFault (words.getD k 0)) = true then t.powerFail else t)) := by
  show execPwAlert words s = _
  unfold execPwAlert
  extract_lets used t t'
  have ht : t = t' := rfl
  have hpwr : t'.pwr = s.pwr := foldl_keeps State.pwr (readStatus_pwr words) used s
  have hrail (k : Nat) : t'.rail k = s.rail k := by rw [State.rail, hpwr]; rfl
  rw [ht]
  simp only [hrail]

theorem pwAlert_quiet {s : State} {words : List (BitVec 16)}
    (h : ∀ k ∈ (List.range 8).filter s.railUsed, words.getD k 0 = 0) :
    exec (.pwAlert words) s = .next (((List.range 8).filter s.railUsed).foldl (readStatus words) s) := by
  rw [exec_pwAlert]
  refine congrArg Host.Outcome.next (if_neg ?_)
  rw [Bool.not_eq_true, List.any_eq_false]
  intro k hk
  rw [h k hk]
  simp [outputFault]

theorem pwAlert_fault {s : State} {words : List (BitVec 16)} {k : Nat} (hk : k ∈ (List.range 8).filter s.railUsed)
    (hon : (s.rail k).on = true) (hf : (words.getD k 0).getLsbD 15 = true) :
    exec (.pwAlert words) s = .next (((List.range 8).filter s.railUsed).foldl (readStatus words) s).powerFail := by
  rw [exec_pwAlert]
  refine congrArg Host.Outcome.next (if_pos (List.any_eq_true.2 ⟨k, hk, ?_⟩))
  rw [hon, outputFault, hf]
  rfl

/-! The die temperature (R402). -/

theorem clampInt_inside {lo hi v : Int} (h1 : lo ≤ v) (h2 : v ≤ hi) : clampInt lo hi v = v := by
  unfold clampInt
  omega

theorem foldl_max_inside {lo hi : Int} (xs : List Int) : ∀ x : Int, (∀ y ∈ x :: xs, lo ≤ y ∧ y ≤ hi) →
    lo ≤ xs.foldl max x ∧ xs.foldl max x ≤ hi := by
  induction xs with
  | nil => exact fun x h => h x (List.mem_cons_self ..)
  | cons z zs ih =>
    intro x h
    refine ih (max x z) fun y hy => ?_
    obtain ⟨hx1, hx2⟩ := h x (by simp)
    obtain ⟨hz1, hz2⟩ := h z (by simp)
    rcases List.mem_cons.1 hy with rfl | hy
    · omega
    · exact h y (by simp [hy])

theorem exec_tempRead {s : State} {x : Int} {xs : List Int} (htrim : s.trimming = false)
    (hin : ∀ y ∈ x :: xs, -32768 ≤ y ∧ y ≤ 32767) :
    exec (.tempRead (x :: xs)) s =
      (let t := xs.foldl max x
       let warn := signed 16 (s.fld PWR_THERM_warn)
       let trip := signed 16 (s.fld PWR_THERM_trip)
       let u := s.setFld PWR_TEMP_temp (unsigned 16 t)
       let v := if s.pwr.hot = false ∧ warn < t then
           ((({ u with pwr := { u.pwr with hot := true } } : State).setFld PWR_FLAGS_thermal 1).raise 0x53 0x10 (unsigned 16 t))
         else if s.pwr.hot = true ∧ t < warn - 32 then
           ({ u with pwr := { u.pwr with hot := false } } : State).raise 0x53 0x10 (unsigned 16 t + 65536)
         else u
       .next ((if signed 16 (s.fld PWR_TEMP_temp) < trip ∧ trip ≤ t then
           ((v.setFld PWR_FLAGS_trip 1).raiseLog 0x53 0x10 (unsigned 16 t + 131072)).ownDischarge else v).tempTrigger t)) := by
  obtain ⟨hlo, hhi⟩ := foldl_max_inside xs x hin
  have hclamp := clampInt_inside hlo hhi
  refine congrArg Host.Outcome.next ((if_neg (by simp [htrim])).trans ?_)
  rw [hclamp]
  rfl

/-- Settles O50: hints through `takePowerHint`, a change's end through `endChange` and what the domain starts or takes with it, which
leave the step of deep sleep (`PowerKept`), and each rail and sensor event by its own equation. -/
theorem hintsDomainsAndRails : Obligations.HintsDomainsAndRails := by
  refine ⟨fun s h g t m ht hp => ⟨fun hm => ?_, ?_, fun ho hm hd => ⟨fun hready => ?_, fun hready => ?_⟩⟩,
    fun s d hd => ⟨fun t ht => exec_domainExitStart hd ht, fun st hst hg => ⟨fun h0 h2 hl hr => ?_, domainChangeDone_awake hst hg hd⟩,
      exec_xramIdle hd⟩,
    fun s k hk => ⟨fun hb hv => ⟨exec_railAck hk hb hv, exec_railTimeout_first hk hb hv, exec_railTimeout_second hk hb hv⟩,
      exec_vrPgFall hk⟩,
    fun s words => ⟨pwAlert_quiet, fun k hk => pwAlert_fault hk⟩,
    fun s x xs htrim hin => exec_tempRead htrim hin⟩
  · refine congrArg Host.Outcome.next ((exec_hint ht hp (by decide) fun h => Bool.false_ne_true (hm.symm.trans h.2)).trans ?_)
    rw [hintDoms_noSvc hm]
    rfl
  · exact congrArg Host.Outcome.next (exec_hint ht hp (by decide) fun h => absurd h.1 (by decide))
  · exact (exec_deepSleepRequest ht hp ho hm hd).trans
      (congrArg (fun u : State => Host.Outcome.next u.goOn) (if_pos ((deepReady_iff s).2 hready)))
  · exact (exec_deepSleepRequest ht hp ho hm hd).trans
      (congrArg (fun u : State => Host.Outcome.next u.goOn) (if_neg (mt (deepReady_iff s).1 hready)))
  · rw [exec_domainChangeDone hg, if_pos ⟨h0, h2, hl, hr⟩]

end Sys2Proof.Proofs

/-! PROOFS. The entries of a mode book, and what follows them in their units, leave the panel's power sequence alone. -/

namespace Sys2Proof.Proofs

open Sys2Proof Sys2Proof.Machine Sys2Proof.Machine.Reg Sys2Proof.Laws

namespace PowerKept

theorem setFld (s : State) (f : Fld) (v : Nat) : PowerKept s (s.setFld f v) := ⟨rfl, rfl⟩
theorem withTbs (s : State) (x : Tbs) : PowerKept s { s with tbs := x } := ⟨rfl, rfl⟩
theorem withLyr (s : State) (x : Lyr) : PowerKept s { s with lyr := x } := ⟨rfl, rfl⟩
theorem withKdl (s : State) (x : Kdl) : PowerKept s { s with kdl := x } := ⟨rfl, rfl⟩
theorem withScn (s : State) (x : Scn) : PowerKept s { s with scn := x } := ⟨rfl, rfl⟩
theorem complete (s : State) (r : Req) (st frame tb : Nat) : PowerKept s (s.complete r st frame tb) :=
  ite (refl s) (of_recordsOnly (postCpl_recordsOnly ..))

/-! Time, phase and the DPLL. -/

theorem moveRef (s : State) (d : Int) : PowerKept s (s.moveRef d) := ⟨rfl, rfl⟩

theorem absorb (s : State) (t : Ns) : PowerKept s (s.absorb t) := by
  unfold State.absorb
  split
  · exact refl s
  · extract_lets a t x u
    have hu : PowerKept t u := withTbs ..
    exact ((moveRef s a).trans hu).trans (ite (setFld ..) (refl u))

theorem adjPhase (s : State) (v : Nat) : PowerKept s (s.adjPhase v) := by
  unfold State.adjPhase
  extract_lets d t u w src x ref y src' e src''
  have hx : PowerKept s x := (((absorb ..).trans (setFld t ..)).trans (setFld u ..)).trans (withTbs w _)
  have hy : PowerKept x y := (moveRef x d).trans ⟨rfl, rfl⟩
  clear_value y x
  refine hx.trans ?_
  split
  · exact (hy.trans (withTbs y _)).trans (setFld ..)
  · split
    · exact setFld ..
    · exact (withTbs x _).trans (setFld ..)

theorem outFollow (s old : State) : PowerKept s (s.outFollow old) := by
  unfold State.outFollow
  extract_lets t
  have ht : PowerKept s t := ite (refl s) (emit ..)
  split
  · exact ht
  · exact ht.trans (withTbs ..)

theorem slewFollow (s : State) : PowerKept s s.slewFollow := by
  unfold State.slewFollow
  extract_lets t
  split
  · exact absorb ..
  · exact (absorb ..).trans (withTbs ..)

theorem replan (s : State) : PowerKept s s.replan := ite (refl s) ⟨rfl, rfl⟩

theorem unlockRaster (s : State) : PowerKept s s.unlockRaster := ite ((setFld ..).trans (replan _)) (refl s)

theorem dpllFree (s : State) : PowerKept s s.dpllFree := by
  unfold State.dpllFree
  exact ((setFld ..).trans (unlockRaster ..)).trans (withTbs ..)

theorem acquire (s : State) : PowerKept s s.acquire := by
  unfold State.acquire
  exact ((setFld ..).trans (unlockRaster ..)).trans (withTbs ..)

theorem dpllFollow (s old : State) : PowerKept s (s.dpllFollow old) := by
  unfold State.dpllFollow
  exact ite (ite (refl s) (dpllFree s)) (ite (acquire s) (refl s))

/-! Equalisers. -/

theorem eqNote (s : State) (l : Nat) : PowerKept s (s.eqNote l) := setLane s l _
theorem setEq (s : State) (l : Nat) (eq : List Int) : PowerKept s (s.setEq l eq) :=
  ((eqNote s l).trans (setLane _ l _)).trans (eqNote _ l)
theorem eqHold (s : State) (l : Nat) : PowerKept s (s.eqHold l) := by
  unfold State.eqHold
  extract_lets x
  split
  · exact refl s
  · exact setEq ..
theorem eqFollow (s old : State) (l : Nat) : PowerKept s (s.eqFollow old l) := by
  rw [State.eqFollow]
  generalize (old.eqNote l).lane l = z
  exact (setLane ..).trans (eqHold ..)

/-! Domains. -/

theorem refuse (s : State) (d code : Nat) (aborted : Bool) : PowerKept s (s.refuse d code aborted) := by
  unfold State.refuse
  split
  · exact of_recordsOnly ((setReg_recordsOnly ..).trans (addSat_recordsOnly ..))
  · exact refl s
theorem setDom (s : State) (d : Nat) (x : Dom) : PowerKept s (s.setDom d x) := ⟨rfl, rfl⟩
theorem pmbus (s : State) (k cmd data : Nat) : PowerKept s (s.pmbus k cmd data) := ite (emit ..) (refl s)
theorem railOn (s : State) (k : Nat) : PowerKept s (s.railOn k) :=
  ite (refl s) ((⟨rfl, rfl⟩ : PowerKept s (s.setRail k _)).trans (pmbus ..))

theorem requestDom (s : State) (d st : Nat) : PowerKept s (s.requestDom d st) := by
  have hbegin : PowerKept s (s.beginChange d st) := (setDom s d _).trans (ite (foldl railOn _ _) (refl _))
  rw [State.requestDom]
  cases (s.dom d).going with
  | none => exact ite (refl s) hbegin
  | some x => exact (ite (refuse ..) (refl s)).trans (setDom ..)

theorem needNow (s : State) (d : Nat) : PowerKept s (s.needNow d) := ite (refl s) (requestDom ..)

theorem railsMayFall (s : State) : PowerKept s s.railsMayFall := by
  refine ite (foldl (fun t k => ?_) _ s) (refl s)
  split
  · exact (⟨rfl, rfl⟩ : PowerKept t (t.setRail k _)).trans (pmbus ..)
  · exact refl t

theorem restoreLanes (s : State) (d : Nat) : PowerKept s (s.restoreLanes d) := by
  refine foldl (fun t l => ?_) _ s
  exact ⟨rfl, rfl⟩

theorem loseDom (s : State) (d : Nat) : PowerKept s (s.loseDom d) := by
  unfold State.loseDom
  split
  · extract_lets c cl t
    have ht : PowerKept s t := ⟨rfl, rfl⟩
    refine ht.trans (foldl (fun u i => ?_) _ t)
    exact ⟨rfl, rfl⟩
  · split
    · exact ⟨rfl, rfl⟩
    · refine foldl (fun u l => ?_) _ s
      exact ⟨rfl, rfl⟩

theorem endChange (s : State) (d : Nat) : PowerKept s (s.endChange d) := by
  cases hg : (s.dom d).going with
  | none =>
    rw [State.endChange, hg]
    exact refl s
  | some st =>
    rw [endChange_inForce hg]
    have ho : PowerKept s (inForce s d st) := (setDom s d _).trans (ite (emit ..) (refl _))
    extract_lets o w
    have hw : PowerKept o w := ite (restoreLanes o d) (ite (loseDom o d) (refl o))
    exact ho.trans (ite (hw.trans (railsMayFall w)) hw)

theorem wakeNow (s : State) (d : Nat) : PowerKept s (s.wakeNow d) := by
  unfold State.wakeNow
  extract_lets x t u y v w
  have hu : PowerKept s u := ite (endChange ..) (refl s)
  have hv : PowerKept u v := ⟨rfl, rfl⟩
  have hw : PowerKept v w := ite (emit ..) (refl v)
  split
  · exact refl s
  · exact (((hu.trans hv).trans hw).trans (setDom ..)).trans (restoreLanes ..)

/-! The drive link. -/

theorem ctl (s : State) (d type apply : Nat) (body : List Byte) : PowerKept s (s.ctl d type apply body) := ⟨rfl, rfl⟩

theorem kdlGap (s : State) (d : Nat) : PowerKept s (s.kdlGap d) := ⟨rfl, rfl⟩

theorem kdlPacket (s : State) (d : Nat) (start : Byte) (c : List Byte) : PowerKept s (s.kdlPacket d start c) :=
  ((kdlGap s d).trans (txSend _ (laneA d) _)).trans (txSend _ (laneA d + 1) _)

theorem sendCtl (s : State) (c : Ctl) : PowerKept s (s.sendCtl c) := (emit s _).trans (kdlPacket _ _ _ _)

theorem lanes_enter (s : State) (a b : Nat) : PowerKept s ((s.txEnter a).txEnter b) := (txEnter ..).trans (txEnter ..)

theorem ctlReady (s : State) : PowerKept s s.ctlReady := by
  unfold State.ctlReady
  refine (withKdl s _).trans (foldl (fun t d => ?_) _ _)
  exact ite (refl t) ((txExit ..).trans (txExit ..))

theorem setupSent (s : State) : PowerKept s s.setupSent := by
  unfold State.setupSent
  split
  · split
    · exact refl s
    · exact (withKdl s _).trans (complete ..)
  · exact refl s

theorem kdlRest (s : State) : PowerKept s s.kdlRest := ite (refl s) (foldl (fun t _ => ite (lanes_enter ..) (refl t)) _ s)

theorem ctlOut (s : State) : PowerKept s s.ctlOut := by
  unfold State.ctlOut
  extract_lets t sent u
  have hu : PowerKept t u := foldl (fun v c => foldl (fun w _ => sendCtl w c) _ v) _ t
  have hsent : PowerKept u { u with kdl := { u.kdl with ctl := u.kdl.ctl.filter fun c => !sent.contains c } } := ⟨rfl, rfl⟩
  exact ite (refl s) (((((ctlReady s).trans hu).trans hsent).trans (setupSent _)).trans (kdlRest _))

theorem burstLane (s : State) (l n : Nat) : PowerKept s (s.burstLane l n) := ite (txAsk ..) (txBurst ..)

theorem drvFollow (s : State) (d : Nat) : PowerKept s (s.drvFollow d) := by
  unfold State.drvFollow
  extract_lets x t n m
  have ht : PowerKept s t := ⟨rfl, rfl⟩
  split
  · exact refl s
  · split
    · exact ht.trans (foldl (fun u _ => ctl u _ _ _ _) _ t)
    · split
      · exact (⟨rfl, rfl⟩ : PowerKept s (s.setDrv d _)).trans (foldl (fun u _ => ctl u _ _ _ _) _ _)
      · exact refl s

theorem trainDrv (s : State) (d : Nat) : PowerKept s (s.trainDrv d) := by
  unfold State.trainDrv
  extract_lets t x u
  have hu : PowerKept t u := ⟨rfl, rfl⟩
  exact (((((wakeNow s _).trans (wakeNow _ _)).trans hu).trans ((burstLane ..).trans (burstLane ..))).trans (drvFollow ..)).trans
    (ctlOut _)

theorem trainAll (s : State) : PowerKept s s.trainAll := by
  unfold State.trainAll
  exact (withKdl s _).trans (foldl trainDrv _ _)

theorem dropDrvs (s : State) : PowerKept s s.dropDrvs := by
  refine foldl (fun t d => ?_) _ s
  split
  · exact refl t
  · exact (⟨rfl, rfl⟩ : PowerKept t (t.setDrv d _)).trans (lanes_enter ..)

/-! The pixel path and the panel's pins. -/

theorem restartHb (s : State) : PowerKept s s.restartHb := ite ⟨rfl, rfl⟩ (refl s)

theorem fillVintage (s : State) : PowerKept s s.fillVintage :=
  ite (ite ((foldl (fun t _ => bufWrite t _ _) _ s).trans (setFld ..)) (regionMiss s)) (refl s)

theorem histFollow (s old : State) : PowerKept s (s.histFollow old) := ite ⟨rfl, rfl⟩ (refl s)

theorem pinFollow (s old : State) (off : Nat) : PowerKept s (s.pinFollow old off) := by
  unfold State.pinFollow
  split
  · exact ite (refl s) (emit ..)
  · split
    · refine foldl (fun t o => ?_) _ s
      extract_lets inv
      exact ite (refl t) (foldl (fun u k => emit ..) _ t)
    · exact refl s

theorem layerFollow (s old : State) (off ix : Nat) :
    PowerKept s { s.showFetch with lyr := { s.lyr with damageAll := s.lyr.damageAll || s.reg off ix 0 != old.reg off ix 0 } } :=
  (setFld ..).trans (withLyr ..)

/-! Entries (R31) and the switches that they end. -/

theorem timeFollow (s old : State) (off : Nat) : PowerKept s ((if off = TBS_OUT_CFG then s.outFollow old
    else if off = TBS_SLEW then s.slewFollow else s).dpllFollow old) :=
  (ite (outFollow s old) (ite (slewFollow s) (refl s))).trans (dpllFollow ..)

theorem portFollow (s old : State) (p : Nat) : PowerKept s
    (if s.fld (MSP_PORT_CFG_en p) = old.fld (MSP_PORT_CFG_en p) then s
      else if s.fld (MSP_PORT_CFG_en p) = 1 then (s.needNow (6 + p)).portStart p else s.portOff p) :=
  ite (refl s) (ite ((needNow ..).trans (portStart ..)) (portOff ..))

theorem heartbeatFollow (s : State) (off : Nat) : PowerKept s
    (if off = LYR_S_CTRL then
      (if s.fld LYR_S_CTRL_hb_en = 0 then { s with lyr := { s.lyr with hbAt := none } }
       else if s.lyr.hbAt.isNone then s.restartHb else s)
    else s) :=
  ite (ite (withLyr ..) (ite (restartHb s) (refl s))) (refl s)

theorem driversFollow (s old : State) (off : Nat) : PowerKept s
    (if off = KDL_CS ∨ off = KDL_OE then (s.served.foldl State.sendTiming s).ctlOut
    else if off = KDL_POL then (s.served.foldl State.sendPolarity s).ctlOut
    else if off = KDL_CFG ∧ s.fld KDL_CFG_rate ≠ old.fld KDL_CFG_rate ∧ s.drvs.any (fun d => (s.drv d).st != 0) then s.trainAll
    else if off = KDL_DRV_EN_LO ∨ off = KDL_DRV_EN_HI then s.dropDrvs
    else s) :=
  ite ((foldl (fun _ _ => ctl ..) _ s).trans (ctlOut _)) (ite ((foldl (fun _ _ => ctl ..) _ s).trans (ctlOut _))
    (ite (trainAll s) (ite (dropDrvs s) (refl s))))

theorem panelFollow (s old : State) (off : Nat) : PowerKept s
    (if (PNL_SEQ 0 ≤ off ∧ off ≤ PNL_SEQ 7) ∨ off = PNL_DIS_TIME then s.checkHoldup
      else (if off = PNL_PANEL then s.histFollow old else s).pinFollow old off) :=
  ite (ite (setFld ..) (refl s)) ((ite (histFollow s old) (refl s)).trans (pinFollow ..))

theorem follow (s old : State) (off ix : Nat) : PowerKept s (s.follow old off ix) :=
  ite (timeFollow s old off) (ite (ite (eqFollow ..) (refl s)) (ite (ite (portFollow s old _) (refl s))
    (ite ((layerFollow s old off ix).trans (heartbeatFollow _ off)) (ite (ite (fillVintage s) (refl s))
      (ite (ite (histFollow s old) (refl s)) (ite (driversFollow s old off) (ite (panelFollow s old off) (refl s))))))))

theorem putEntry (s : State) (p : Nat) (e : Entry) : PowerKept s (s.putEntry p e) := by
  unfold State.putEntry
  split
  · exact of_recordsOnly (setReg_recordsOnly ..)
  · exact refl s

theorem applyEntry (s : State) (p : Nat) (e : Entry) : PowerKept s (s.applyEntry p e) :=
  ite (setFld ..) (ite (adjPhase ..) (ite (putEntry ..) ((putEntry ..).trans (follow ..))))

theorem applyEntries (s : State) (p : Nat) (es : List Entry) : PowerKept s (s.applyEntries p es) :=
  foldl (fun t e => applyEntry t p e) es s

theorem abortSweep (s : State) : PowerKept s s.abortSweep := by
  unfold State.abortSweep
  split
  · exact ((withKdl s _).trans (setFld ..)).trans (complete ..)
  · exact refl s

theorem showSwitch (s : State) : PowerKept s s.showSwitch := by
  unfold State.showSwitch
  split
  all_goals exact (setFld ..).trans (setFld ..)

theorem endSwitch (s : State) (w : Option Switch) (st frame tb : Nat) : PowerKept s (s.endSwitch w st frame tb) := by
  unfold State.endSwitch
  split
  · exact complete ..
  · exact refl s

theorem withMod (s : State) (x : Mod) : PowerKept s { s with mod := x } := ⟨rfl, rfl⟩

theorem dropSwitches (s : State) (st : Nat) : PowerKept s (s.dropSwitches st) := by
  unfold State.dropSwitches
  extract_lets p c x t u
  have ht : PowerKept s t := withMod ..
  have hu : PowerKept t u := ite (setFld ..) (refl t)
  exact (((ht.trans hu).trans (endSwitch ..)).trans (endSwitch ..)).trans (showSwitch _)

end PowerKept

/-! The part's own DISCHARGE (R43) leaves the count of crack checks. -/

theorem setPnl_pnl (s : State) (x : Pnl) : (s.setPnl x).pnl = x := rfl

/-- The panel's part as a full discharge begins. -/
def dischargePnl (x : Pnl) (stage : DisStage) : Pnl :=
  { x with waitPg := false, short := false, endState := 0, endCause := 5, stage := stage }

theorem startDischarge_eq (s : State) (b : Bool) : s.startDischarge b =
    if (s.pwrState = 1 ∨ s.pwrState = 2) ∧ s.pnl.stage = .none then
      (if (s.setFld PNL_PWR_STATUS_state 3).running then
        (s.setFld PNL_PWR_STATUS_state 3).setPnl
          (dischargePnl (s.setFld PNL_PWR_STATUS_state 3).pnl (if b then .black else .blackDue))
      else ((s.setFld PNL_PWR_STATUS_state 3).sendDischarge true).setPnl
        (dischargePnl (s.setFld PNL_PWR_STATUS_state 3).pnl (.copies 1)))
    else s := rfl

theorem startDischarge_checks (s : State) (b : Bool) : (s.startDischarge b).pnl.checks = s.pnl.checks := by
  rw [startDischarge_eq, setFld_pnl]
  split
  · split
    · rw [setPnl_pnl]
      rfl
    · rw [setPnl_pnl]
      rfl
  · rfl

theorem takeDischarge_checks (s : State) (b : Bool) : (s.takeDischarge b false).pnl.checks = s.pnl.checks := by
  unfold State.takeDischarge
  extract_lets t u v w
  have hw : PowerKept s w := (((PowerKept.applyEntries ..).trans (.setFld t _ _)).trans (.setFld u _ _)).trans (.abortSweep v)
  rw [if_neg (by decide), startDischarge_checks, hw.pnl]

theorem ownDischarge_checks (s : State) : s.ownDischarge.pnl.checks = s.pnl.checks := by
  unfold State.ownDischarge
  extract_lets t
  have ht : PowerKept s t := .dropSwitches s SUPERSEDED
  split
  · rfl
  · split
    · rw [((ht.trans (.withMod t _)).trans (.showSwitch _)).pnl]
    · rw [takeDischarge_checks, ht.pnl]

theorem declareCrack_checks (s : State) (b : Bool) (k : Nat) : (s.declareCrack b k).pnl.checks = s.pnl.checks := by
  unfold State.declareCrack
  extract_lets t a u v
  have hv : PowerKept s v := ((PowerKept.setFld ..).trans (.setFld t _ _)).trans (.of_recorded (recorded_raiseLog ..))
  split
  · rfl
  · split
    · rw [← hv.pnl]
      rfl
    · split
      · rw [ownDischarge_checks, hv.pnl]
      · rw [hv.pnl]

end Sys2Proof.Proofs

/-! PROOFS. The panel's power sequence, its discharge and its crack loops (R303 to R310). -/

namespace Sys2Proof.Proofs

open Sys2Proof Sys2Proof.Machine Sys2Proof.Machine.Reg Sys2Proof.Laws

/-! The OWNER's writes. -/

/-- PNL_PWR_CTRL and PNL_CRK_CTRL as the register table has them. -/
def pwrCtrlDesc : RegDesc := ⟨"PNL_PWR_CTRL", 0xb0048, 4, 1, .owner, .none, [⟨1, 1, .wo, 0⟩, ⟨0, 0, .wo, 0⟩]⟩
def crkCtrlDesc : RegDesc := ⟨"PNL_CRK_CTRL", 0xb0054, 4, 1, .owner, .none, [⟨0, 0, .wo, 0⟩]⟩

theorem regAt_pwrCtrl : regAt PNL_PWR_CTRL = some pwrCtrlDesc := rfl
theorem regAt_crkCtrl : regAt PNL_CRK_CTRL = some crkCtrlDesc := rfl

theorem acceptWrite_on (s : State) (p : Nat) : s.acceptWrite p pwrCtrlDesc PNL_PWR_CTRL 0 1 = s.powerOn := by
  have h := plainWrite_none (s := s) (off := PNL_PWR_CTRL) (ix := 0) (bank := 0) (written_none (d := pwrCtrlDesc) rfl rfl rfl · 1)
  rw [State.acceptWrite]
  refine (if_neg fun ⟨_, hr, _⟩ => absurd hr (by decide)).trans ?_
  show (s.plainWrite pwrCtrlDesc PNL_PWR_CTRL 0 0 1).powerOn = _
  rw [h]

theorem acceptWrite_off (s : State) (p : Nat) : s.acceptWrite p pwrCtrlDesc PNL_PWR_CTRL 0 2 = s.powerOff := by
  have h := plainWrite_none (s := s) (off := PNL_PWR_CTRL) (ix := 0) (bank := 0) (written_none (d := pwrCtrlDesc) rfl rfl rfl · 2)
  rw [State.acceptWrite]
  refine (if_neg fun ⟨_, hr, _⟩ => absurd hr (by decide)).trans ?_
  show (s.plainWrite pwrCtrlDesc PNL_PWR_CTRL 0 0 2).powerOff = _
  rw [h]

theorem acceptWrite_crkCtrl (s : State) (p : Nat) : s.acceptWrite p crkCtrlDesc PNL_CRK_CTRL 0 1 = s.startCapture := by
  have h := plainWrite_none (s := s) (off := PNL_CRK_CTRL) (ix := 0) (bank := 0) (written_none (d := crkCtrlDesc) rfl rfl rfl · 1)
  rw [State.acceptWrite]
  refine (if_neg fun ⟨_, hr, _⟩ => absurd hr (by decide)).trans ?_
  show (s.plainWrite crkCtrlDesc PNL_CRK_CTRL 0 0 1).startCapture = _
  rw [h]

theorem exec_pnlPowerOn {s : State} {p : Nat} (h : s.ownerUp p) : exec (.pnlPowerOn p 1) s = .next s.powerOn.goOn :=
  congrArg Host.Outcome.next (ownerWrite_accepted h regAt_pwrCtrl rfl (by decide) (by decide) (acceptWrite_on s p))

theorem exec_pnlPowerOff {s : State} {p : Nat} (h : s.ownerUp p) : exec (.pnlPowerOff p 2) s = .next s.powerOff.goOn :=
  congrArg Host.Outcome.next (ownerWrite_accepted h regAt_pwrCtrl rfl (by decide) (by decide) (acceptWrite_off s p))

theorem exec_crackCapture {s : State} {p : Nat} (h : s.ownerUp p) : exec (.crackCapture p 1) s = .next s.startCapture.goOn :=
  congrArg Host.Outcome.next (ownerWrite_accepted h regAt_crkCtrl rfl (by decide) (by decide) (acceptWrite_crkCtrl s p))

theorem fld_setPnl (s : State) (x : Pnl) (f : Fld) : (s.setPnl x).fld f = s.fld f := rfl

theorem powerOn_eq (s : State) : s.powerOn =
    if s.mode = 10 ∧ (s.pwrState = 0 ∨ s.pwrState = 4) then
      let u := (s.setFld PNL_PWR_STATUS_state 1).setPnl { s.pnl with waitPg := false, checks := 0, stage := .none, live := false }
      if s.fld PNL_CRK_CFG_en = 0 then (u.setPnl { u.pnl with checks := 2 }).raiseFrom 0 else u.setFld PNL_CRK_STATUS_busy 1
    else s.setFld PNL_FLAGS_refused 1 := by
  have hen : (s.setFld PNL_PWR_STATUS_state 1).fld PNL_CRK_CFG_en = s.fld PNL_CRK_CFG_en := fld_setFld_other s 1 (by decide)
  unfold State.powerOn
  split
  · generalize hu : (s.setFld PNL_PWR_STATUS_state 1).setPnl
      { s.pnl with waitPg := false, checks := 0, stage := .none, live := false } = u
    have hfld : u.fld PNL_CRK_CFG_en = s.fld PNL_CRK_CFG_en := by rw [← hu, fld_setPnl, hen]
    rw [← hfld]
  · rfl

theorem powerOff_eq (s : State) : s.powerOff =
    if s.mode = 10 ∧ s.pwrState = 2 then
      (if s.pnl.stage = .none then
        let u := s.setFld PNL_PWR_STATUS_state 3
        let x : Pnl := { s.pnl with waitPg := false, short := false, endState := 0, endCause := 5 }
        if s.running = true then u.setPnl { x with stage := .blackDue } else (u.sendDischarge true).setPnl { x with stage := .copies 1 }
      else s)
    else s := by
  have hrun : (s.setFld PNL_PWR_STATUS_state 3).running = s.running :=
    congrArg (· == 1) (fld_setFld_other s (f := PNL_PWR_STATUS_state) (k := SCN_STATUS_running) 3 (by decide))
  unfold State.powerOff
  by_cases h : s.mode = 10 ∧ s.pwrState = 2
  · rw [if_pos h, if_pos h, startDischarge_eq, setFld_pnl, hrun]
    simp only [h.2, or_true, true_and]
    rfl
  · rw [if_neg h, if_neg h]

/-! Power-good (R303, R304). -/

/-- The power-good bit of step `k` shown. -/
def showPg (s : State) (k : Nat) (b : Bool) : State := s.setFld PNL_PWR_STATUS_pg (withBit (s.fld PNL_PWR_STATUS_pg) k b)

theorem showPg_pwrState (s : State) (k : Nat) (b : Bool) : (showPg s k b).pwrState = s.pwrState :=
  fld_setFld_disjoint s _ rfl (by decide) (by decide) (by decide) (by decide)

theorem showPg_step (s : State) (k : Nat) (b : Bool) : (showPg s k b).fld PNL_PWR_STATUS_step = s.fld PNL_PWR_STATUS_step :=
  fld_setFld_disjoint s _ rfl (by decide) (by decide) (by decide) (by decide)

theorem showPg_seq (s : State) (k : Nat) (b : Bool) {f : Fld} {j : Nat} (hj : j < 8) (hf : f.off = PNL_SEQ j) :
    (showPg s k b).fld f = s.fld f := by
  refine fld_setFld_other s _ ?_
  rw [hf]
  show (0xb0020 + 4 * j) / 4 ≠ 0xb004c / 4
  omega

theorem exec_pnlPgRise (s : State) {k : Nat} (hk : k < 8) :
    exec (.pnlPgRise k) s =
      .next (if s.pwrState = 1 ∧ s.pnl.waitPg = true ∧ s.fld PNL_PWR_STATUS_step = k then
        (showPg s k true).setPnl { s.pnl with waitPg := false, stepAt := s.now } else showPg s k true) := by
  show execPnlPgRise k s = _
  unfold execPnlPgRise
  rw [Nat.mod_eq_of_lt hk]
  change Host.Outcome.next (if (showPg s k true).pwrState = 1 ∧ (showPg s k true).pnl.waitPg = true ∧
      (showPg s k true).fld PNL_PWR_STATUS_step = k then
        (showPg s k true).setPnl { (showPg s k true).pnl with waitPg := false, stepAt := (showPg s k true).now }
      else showPg s k true) = _
  have hpnl : (showPg s k true).pnl = s.pnl := setFld_pnl ..
  have hnow : (showPg s k true).now = s.now := rfl
  rw [showPg_pwrState, showPg_step, hpnl, hnow]

theorem exec_pnlPgFall (s : State) {k : Nat} (hk : k < 8) :
    exec (.pnlPgFall k) s =
      .next (if s.pwrState = 2 ∧ s.fld (PNL_SEQ_en k) = 1 ∧ s.fld (PNL_SEQ_pg_used k) = 1 then
        (((showPg s k false).setFld PNL_FLAGS_pg_lost 1).setFld PNL_PWR_STATUS_step k).startShort 4 2 else showPg s k false) := by
  show execPnlPgFall k s = _
  unfold execPnlPgFall
  rw [Nat.mod_eq_of_lt hk]
  change Host.Outcome.next (if (showPg s k false).pwrState = 2 ∧ ((showPg s k false).fld (PNL_SEQ_en k) == 1) = true ∧
      (showPg s k false).fld (PNL_SEQ_pg_used k) = 1 ∧ k < 8 then
        (((showPg s k false).setFld PNL_FLAGS_pg_lost 1).setFld PNL_PWR_STATUS_step k).startShort 4 2
      else showPg s k false) = _
  rw [showPg_pwrState, showPg_seq s k false hk (f := PNL_SEQ_en k) rfl, showPg_seq s k false hk (f := PNL_SEQ_pg_used k) rfl]
  simp only [beq_iff_eq, hk, and_true]

theorem exec_pgTimeout {s : State} (hs : s.pwrState = 1) (hw : s.pnl.waitPg = true) :
    exec .pgTimeout s =
      .next (((s.reach (s.pnl.stepAt + 1000000 * max 1 (s.fld (PNL_SEQ_pg_to (s.fld PNL_PWR_STATUS_step))))).setFld
        PNL_FLAGS_pg_to 1).release 4 1) :=
  congrArg Host.Outcome.next (if_pos ⟨hs, hw⟩)

/-! Steps of the sequence (R303) and of the release (R305). -/

theorem exec_seqDelayEnd {s : State} (hs : s.pwrState = 1) (hw : s.pnl.waitPg = false) (hc : s.pnl.checks = 2)
    (hst : s.pnl.stage = .none) :
    exec .seqDelayEnd s =
      .next ((s.reach (s.pnl.stepAt + 10000 * s.fld (PNL_SEQ_on_delay (s.fld PNL_PWR_STATUS_step)))).raiseFrom
        (s.fld PNL_PWR_STATUS_step + 1)) :=
  congrArg Host.Outcome.next (if_pos ⟨hs, hw, hc, hst⟩)

/-- After the last enabled step: GRST, LS_EN and ON. -/
theorem raiseFrom_last {s : State} {k : Nat} (h : ∀ j < 8, k ≤ j → s.fld (PNL_SEQ_en j) = 0) :
    s.raiseFrom k =
      (let r : Int := (s.now * 256 / 160 * 160 : Nat)
       ((s.gatePulse "GRST" 0 0 r (r + 160 * (s.fld PNL_GRST_width : Int))).setLs true).enterPwr 2 0) := by
  have hnone : ((List.range 8).find? fun j => decide (k ≤ j) && s.stepOn j) = none := by
    refine List.find?_eq_none.2 fun j hj hon => ?_
    obtain ⟨hkj, hen⟩ := Bool.and_eq_true_iff.1 hon
    rw [State.stepOn, h j (List.mem_range.1 hj) (of_decide_eq_true hkj)] at hen
    exact absurd hen (by decide)
  rw [State.raiseFrom, hnone]

theorem exec_dischargeCopyTimer {s : State} (hr : s.running = false) (hst : s.pnl.stage = .copies 1) :
    exec .dischargeCopyTimer s = .next ((s.reach (s.now + 1000)).sendDischarge false).startAgo := by
  show execDischargeCopyTimer s = _
  unfold execDischargeCopyTimer
  rw [hr, hst]
  exact congrArg Host.Outcome.next ((if_neg Bool.false_ne_true).trans (congrArg State.startAgo (if_neg (by decide))))

theorem exec_agoHoldEnd {s : State} (h : s.pnl.stage = .ago) : exec .agoHoldEnd s = .next (s.reach s.pnl.agoUntil).releaseNext :=
  congrArg Host.Outcome.next (if_pos h)

theorem exec_offDelayEnd {s : State} (h : s.pnl.stage = .rails) :
    exec .offDelayEnd s =
      .next (s.reach (s.pnl.stepAt + 10000 * s.fld (PNL_SEQ_off_delay (s.fld PNL_PWR_STATUS_step)))).releaseNext :=
  congrArg Host.Outcome.next (if_pos h)

/-- The highest number below 8 with a property. -/
theorem find_highest {q : Nat → Bool} {j : Nat} (hj : j < 8) (hq : q j = true) (hi : ∀ i < 8, j < i → q i = false) :
    (List.range 8).reverse.find? q = some j := by
  have hlist : (List.range 8).reverse = [7, 6, 5, 4, 3, 2, 1, 0] := by decide
  rw [hlist]
  interval_cases j <;> simp only [List.find?, hq, hi, Nat.reduceLT]

theorem releaseNext_highest {s : State} {j : Nat} (hj : j < 8) (hon : (s.fld PNL_PWR_STATUS_en).testBit j = true)
    (hi : ∀ i < 8, j < i → (s.fld PNL_PWR_STATUS_en).testBit i = false) :
    s.releaseNext = (s.setPanelEn j false).setPnl { s.pnl with stage := .rails, stepAt := s.now } := by
  rw [State.releaseNext, find_highest hj hon hi]

theorem releaseNext_end {s : State} (hen : s.fld PNL_PWR_STATUS_en = 0) (ha : s.pnl.ago = true) (hl : s.pnl.lsEn = true) :
    s.releaseNext = ((((s.setPnl { s.pnl with stage := .none, live := false }).setAgo false).setLs false).kdlIdle).enterPwr
      s.pnl.endState s.pnl.endCause := by
  have hnone : ((List.range 8).reverse.find? fun j => (s.fld PNL_PWR_STATUS_en).testBit j) = none := by
    refine List.find?_eq_none.2 fun j _ hon => ?_
    rw [hen, Nat.zero_testBit] at hon
    exact Bool.false_ne_true hon
  rw [State.releaseNext, hnone]
  show s.releaseEnd = _
  rw [State.releaseEnd]
  simp only [ha, hl, if_true]

/-! Completions and events leave the mode in force. -/

theorem setReg_mode (s : State) {off : Nat} (ix b w : Nat) (h : off / 4 % 2 ^ 20 ≠ MOD_STATUS / 4) :
    (s.setReg off ix b w).mode = s.mode := by
  have hreg : (s.setReg off ix b w).reg MOD_STATUS 0 0 = s.reg MOD_STATUS 0 0 := by
    refine reg_setReg_other s w ?_
    have h' : off / 4 % 2 ^ 20 ≠ 0x20010 / 4 := h
    show 0x20010 / 4 + 2 ^ 20 * 0 + 2 ^ 40 * 0 ≠ off / 4 + 2 ^ 20 * ix + 2 ^ 40 * b
    omega
  rw [State.mode, State.fld, State.fldAt, hreg]
  rfl

theorem setFldAt_mode (s : State) {f : Fld} (ix b v : Nat) (h : f.off / 4 % 2 ^ 20 ≠ MOD_STATUS / 4) :
    (s.setFldAt f ix b v).mode = s.mode := setReg_mode s ix b _ h

theorem countRecon_mode (s : State) (a n : Nat) : (s.countRecon a n).mode = s.mode := by
  unfold State.countRecon
  extract_lets whole k
  split
  · rfl
  · exact setFldAt_mode s 0 0 _ (by decide)

theorem countPart_mode (s : State) (k : Nat) (c : List (Nat × Nat)) : (s.countPart k c).mode = s.mode := by
  refine (foldl_keeps State.mode (fun t j => ?_) _ _).trans (setFldAt_mode s 0 0 _ (by decide))
  split
  · rfl
  · exact countRecon_mode ..

theorem ppaWrite_mode (s : State) (a : Nat) (d : List Byte) : (s.ppaWrite a d).mode = s.mode := by
  refine (foldl_keeps State.mode (fun t k => countPart_mode t k _) _ _).trans ?_
  unfold State.ppaStore
  split
  · rfl
  · rfl

theorem setQueue_mode (s : State) (g : Nat) (q : Queue) : (s.setQueue g q).mode = s.mode := rfl
theorem emit_mode (s : State) (o : Out) : (s.emit o).mode = s.mode := rfl
theorem withHif_mode (s : State) (h : Hif) : ({ s with hif := h } : State).mode = s.mode := rfl

theorem announce_mode (s : State) (p g : Nat) : (s.announce p g).mode = s.mode := by
  have hmsix (t : State) : (t.msixDue p g).mode = t.mode := by
    unfold State.msixDue
    extract_lets
    split
    · rfl
    · rfl
  unfold State.announce
  split
  · extract_lets q q' t
    split
    · rfl
    · split
      · exact hmsix t
      · rfl
  · rfl

theorem writeRecord_mode (s : State) (p g a b c d : Nat) : (s.writeRecord p g a b c d).mode = s.mode := by
  unfold State.writeRecord
  extract_lets q phase at_ next bytes t u h v w x
  split
  · split
    · rw [ppaWrite_mode]
      exact (setQueue_mode t g _).trans (ppaWrite_mode s at_ bytes)
    · exact setFldAt_mode _ 0 p 1 (by decide)
  · rw [announce_mode, setQueue_mode]
    exact ((emit_mode w _).trans (emit_mode v _)).trans (withHif_mode s _)

theorem postCpl_mode (s : State) (c : Cpl) : (s.postCpl c).mode = s.mode := by
  unfold State.postCpl
  split
  · rfl
  · split
    · rfl
    · split
      · rfl
      · exact writeRecord_mode ..

theorem offer_mode (s : State) (code cls arg tb p : Nat) : (s.offer code cls arg tb p).mode = s.mode := by
  unfold State.offer
  extract_lets k
  split
  · rfl
  · split
    · rfl
    · split
      · rfl
      · split
        · exact (setQueue_mode ..).trans (setFldAt_mode _ 0 p 1 (by decide))
        · exact writeRecord_mode ..

theorem raise_mode (s : State) (code cls arg : Nat) : (s.raise code cls arg).mode = s.mode :=
  foldl_keeps State.mode (fun t p => offer_mode t code cls _ _ p) _ s

theorem endSwitch_mode (s : State) (w : Option Switch) (st frame tb : Nat) : (s.endSwitch w st frame tb).mode = s.mode := by
  unfold State.endSwitch
  split
  · unfold State.complete
    split
    · rfl
    · exact postCpl_mode ..
  · rfl

theorem showSwitch_mode (s : State) : s.showSwitch.mode = s.mode := by
  have hshow (v w : Nat) : ((s.setFld MOD_STATUS_pending v).setFld MOD_STATUS_pending_mode w).mode = s.mode := by
    unfold State.mode
    rw [fld_setFld_disjoint _ (f := MOD_STATUS_pending_mode) (k := MOD_STATUS_cur_mode) w rfl (by decide) (by decide) (by decide)
      (by decide), fld_setFld_disjoint s (f := MOD_STATUS_pending) (k := MOD_STATUS_cur_mode) v rfl (by decide) (by decide) (by decide)
      (by decide)]
  unfold State.showSwitch
  split
  · exact hshow 1 _
  · exact hshow 1 _
  · exact hshow 0 0

theorem dropSwitches_aborted_mode (s : State) : (s.dropSwitches ABORTED).mode = s.mode := by
  unfold State.dropSwitches
  extract_lets p c x t u
  have hu : u = t := if_neg fun h => absurd h.1 (by decide)
  rw [showSwitch_mode, endSwitch_mode, endSwitch_mode, hu]
  rfl

/-! PFW_N (R43, R306, R307). -/

theorem wakeFires_pfw {s : State} (h : s.pwr.deep = 0) : s.wakeFires 9 =
    (let u := s.setFld PWR_LAST_WAKE_source 9
     if s.fld PWR_WAKE_CFG_evt = 1 then u.raise 0x61 0x10 9 else u) := by
  rw [wakeFires_on (k := 9) rfl]
  exact if_pos h

theorem wakeFires_powerKept {s : State} (h : s.pwr.deep = 0) : PowerKept s (s.wakeFires 9) := by
  rw [wakeFires_pfw h]
  extract_lets u
  have hu : PowerKept s u := .setFld ..
  exact .ite (hu.trans (.of_recordsOnly (raise_recordsOnly ..))) hu

theorem wakeFires_inReset {s : State} (h : s.pwr.deep = 0) : (s.wakeFires 9).inReset = s.inReset := by
  rw [wakeFires_pfw h]
  extract_lets u
  split
  · exact (congrArg State.inReset (raise_recordsOnly u 0x61 0x10 9) :)
  · rfl

theorem wakeFires_mode {s : State} (h : s.pwr.deep = 0) : (s.wakeFires 9).mode = s.mode := by
  have hu : (s.setFld PWR_LAST_WAKE_source 9).mode = s.mode := setFldAt_mode s 0 0 9 (by decide)
  rw [wakeFires_pfw h]
  extract_lets u
  split
  · exact (raise_mode ..).trans hu
  · exact hu

theorem exec_pfwN_awake {s : State} (hd : s.pwr.deep = 0) (hr : s.inReset = false) :
    exec .pfwN s = .next (s.wakeFires 9).powerFail := by
  have hdeep : (s.wakeFires 9).pwr.deep = 0 := wakeFires_awake hd
  have hreset : (s.wakeFires 9).inReset = false := (wakeFires_inReset hd).trans hr
  refine congrArg Host.Outcome.next (if_neg ?_)
  rw [hdeep, hreset]
  decide

/-- A second PFW_N leaves its wake record alone. -/
theorem exec_pfwN_again {s : State} (hp : s.pnl.pfw = true) (hd : s.pwr.deep = 0) :
    exec .pfwN s = .next (s.wakeFires 9) := by
  have hpfw : (s.wakeFires 9).pnl.pfw = true := by rw [(wakeFires_powerKept hd).pnl, hp]
  have hfail : (s.wakeFires 9).powerFail = s.wakeFires 9 := if_pos hpfw
  refine congrArg Host.Outcome.next ?_
  show (if 6 ≤ (s.wakeFires 9).pwr.deep ∨ (s.wakeFires 9).inReset = true then s.wakeFires 9 else (s.wakeFires 9).powerFail) = _
  rw [hfail, ite_self]

/-- No automatic switch back is left. -/
def noAutoExit (v : State) : State := { v with mod := { v.mod with autoExit := false } }

theorem powerFail_first {u : State} (hp : u.pnl.pfw = false) : u.powerFail =
    (let v := noAutoExit ((u.setPnl { u.pnl with pfw := true }).dropSwitches ABORTED)
     let w := ((if v.mode = 11 then v.pfwPanel else (v.takeDischarge false true).modeLeft v.mode 11).countLife 1).stopNvs
     if w.nvs.saving = true then w else w.startSave) :=
  if_neg (by rw [hp]; decide)

/-- What `powerFail` does in DISCHARGE. -/
theorem powerFail_discharge {u : State} (hp : u.pnl.pfw = false) (hm : u.mode = 11) : u.powerFail =
    (let v := (u.setPnl { u.pnl with pfw := true }).dropSwitches ABORTED
     let w := ((noAutoExit v).pfwPanel.countLife 1).stopNvs
     if w.nvs.saving = true then w else w.startSave) := by
  rw [powerFail_first hp]
  generalize hv : (u.setPnl { u.pnl with pfw := true }).dropSwitches ABORTED = v
  have hmode : (noAutoExit v).mode = 11 := by
    show v.mode = 11
    rw [← hv, dropSwitches_aborted_mode]
    exact hm
  simp only [if_pos hmode]

/-- With panel power OFF or FAULT the panel's outputs do not change. -/
theorem pfwPanel_down {s : State} (h : s.pwrState = 0 ∨ s.pwrState = 4) : s.pfwPanel = s := by
  unfold State.pfwPanel
  rcases h with h | h
  · rw [h]
    cases s.pnl.stage <;> rfl
  · rw [h]
    cases s.pnl.stage <;> rfl

/-! Crack loops (R308 to R310). -/

theorem getD_map_range {f : Nat → Nat} {n k : Nat} (h : k < n) : ((List.range n).map f).getD k 0 = f k := by
  rw [List.getD_eq_getElem _ _ (by simpa using h)]
  simp

/-- The enabled loops measured: their codes, and whether they are out of tolerance. -/
def loopsMeasured (s : State) (raw : List Nat) : State :=
  (List.range 4).foldl (fun t k => t.measureLoop (s.crackCode (raw.getD k 0) k) k) s

theorem loopsMeasured_eq (s : State) (raw : List Nat) :
    (List.range 4).foldl (fun t k => t.measureLoop (((List.range 4).map fun j => s.crackCode (raw.getD j 0) j).getD k 0) k) s =
      loopsMeasured s raw := by
  refine List.foldl_ext _ _ s fun t k hk => ?_
  rw [getD_map_range (List.mem_range.1 hk)]

/-- The sums of two captures halved: the enabled loops' baseline. -/
def baselined (u : State) (sums : List Nat) : State :=
  (List.range 4).foldl (fun v k => if v.loopOn k = true then v.setFld (PNL_CRK_CODE_base k) (sums.getD k 0 / 2) else v) u

/-- Loops out of tolerance twice in a row declared cracked. -/
def cracksDeclared (t : State) (up : Bool) : State := (List.range 4).foldl (fun v k => v.declareCrack up k) t

theorem cracksDeclared_checks (t : State) (up : Bool) : (cracksDeclared t up).pnl.checks = t.pnl.checks :=
  foldl_keeps (fun v => v.pnl.checks) (fun v k => declareCrack_checks v up k) _ t

theorem crackMeasured_eq (s : State) (raw : List Nat) : s.crackMeasured raw =
    (let t := loopsMeasured s raw
     if 0 < t.pnl.capturing then
       let sums := (List.range 4).map fun k => t.pnl.sums.getD k 0 +
         ((List.range 4).map fun j => s.crackCode (raw.getD j 0) j).getD k 0
       let u := t.setPnl { t.pnl with capturing := t.pnl.capturing - 1, sums := sums }
       if u.pnl.capturing = 0 then
         (((baselined u sums).setFld PNL_CRK_STATUS_base_valid 1).setFld PNL_CRK_STATUS_busy 0).storeBaseline
       else u
     else
       let up := t.pwrState = 1 ∧ t.pnl.checks < 2
       let u := cracksDeclared t (decide up)
       if up then
         let v := u.setPnl { u.pnl with checks := u.pnl.checks + 1 }
         if v.pnl.checks = 2 then (v.setFld PNL_CRK_STATUS_busy 0).afterCheck else v
       else (u.setPnl { u.pnl with measureDue := false }).setFld PNL_CRK_STATUS_busy 0) := by
  unfold State.crackMeasured baselined cracksDeclared
  dsimp only
  rw [loopsMeasured_eq]

theorem exec_crackMeasurement {s : State} {raw : List Nat} (ht : s.trimming = false)
    (hd : s.fld PNL_CRK_STATUS_busy = 1 ∨ s.pnl.measureDue = true) : exec (.crackMeasurement raw) s = .next (s.crackMeasured raw) :=
  congrArg Host.Outcome.next (if_pos ⟨hd, ht⟩)

/-- The first measurement of a power-on counts one check (R303, R309). -/
theorem crackMeasured_firstCheck {s : State} {raw : List Nat} (hc : (loopsMeasured s raw).pnl.capturing = 0)
    (hs : (loopsMeasured s raw).pwrState = 1) (hk : (loopsMeasured s raw).pnl.checks = 0) :
    s.crackMeasured raw =
      (let u := cracksDeclared (loopsMeasured s raw) true
       u.setPnl { u.pnl with checks := u.pnl.checks + 1 }) := by
  rw [crackMeasured_eq]
  generalize loopsMeasured s raw = t at hc hs hk ⊢
  have hup : t.pwrState = 1 ∧ t.pnl.checks < 2 := ⟨hs, by omega⟩
  have hnot : ¬0 < t.pnl.capturing := by omega
  have hchecks := (cracksDeclared_checks t true).trans hk
  dsimp only
  rw [if_neg hnot, if_pos hup, decide_eq_true hup]
  generalize cracksDeclared t true = u at hchecks ⊢
  have hone : ¬(u.setPnl { u.pnl with checks := u.pnl.checks + 1 }).pnl.checks = 2 := by
    show ¬u.pnl.checks + 1 = 2
    omega
  rw [if_neg hone]

/-- A measurement in no power-on (R309). -/
theorem crackMeasured_due {s : State} {raw : List Nat} (hc : (loopsMeasured s raw).pnl.capturing = 0)
    (hs : (loopsMeasured s raw).pwrState ≠ 1) :
    s.crackMeasured raw =
      (let u := cracksDeclared (loopsMeasured s raw) false
       (u.setPnl { u.pnl with measureDue := false }).setFld PNL_CRK_STATUS_busy 0) := by
  rw [crackMeasured_eq]
  generalize loopsMeasured s raw = t at hc hs ⊢
  have hup : ¬(t.pwrState = 1 ∧ t.pnl.checks < 2) := fun h => hs h.1
  have hnot : ¬0 < t.pnl.capturing := by omega
  dsimp only
  rw [if_neg hnot, if_neg hup, decide_eq_false hup]

/-- The second of two captures gives the baseline (R309). -/
theorem crackMeasured_baseline {s : State} {raw : List Nat} (hc : (loopsMeasured s raw).pnl.capturing = 1) :
    s.crackMeasured raw =
      (let t := loopsMeasured s raw
       let sums := (List.range 4).map fun k => t.pnl.sums.getD k 0 + s.crackCode (raw.getD k 0) k
       let u := t.setPnl { t.pnl with capturing := 0, sums := sums }
       (((baselined u sums).setFld PNL_CRK_STATUS_base_valid 1).setFld PNL_CRK_STATUS_busy 0).storeBaseline) := by
  have hsums (l : List Nat) : ((List.range 4).map fun k => l.getD k 0 +
      ((List.range 4).map fun j => s.crackCode (raw.getD j 0) j).getD k 0) =
      (List.range 4).map fun k => l.getD k 0 + s.crackCode (raw.getD k 0) k :=
    List.map_congr_left fun k hk => by rw [getD_map_range (List.mem_range.1 hk)]
  rw [crackMeasured_eq]
  generalize loopsMeasured s raw = t at hc ⊢
  have hpos : 0 < t.pnl.capturing := by omega
  dsimp only
  rw [if_pos hpos, hsums, hc]
  exact if_pos rfl

/-- Settles O44: each command of the sequence by its own equation; a second PFW_N and the mode in force through what events and
completions leave (`PowerKept`, `raise_mode`), and the count of crack checks through `declareCrack_checks`. -/
theorem panelPowerAndDischarge : Obligations.PanelPowerAndDischarge := by
  refine ⟨fun s p h => ⟨?_, ?_, exec_crackCapture h⟩, fun s k hk => ⟨exec_pnlPgRise s hk, exec_pnlPgFall s hk⟩,
    fun s => ⟨exec_pgTimeout, fun hs hw hc hst => ⟨exec_seqDelayEnd hs hw hc hst, fun hlast => ?_⟩, exec_dischargeCopyTimer,
      exec_agoHoldEnd, exec_offDelayEnd, fun j => releaseNext_highest, releaseNext_end⟩,
    fun s => ⟨exec_pfwN_again, fun hp hd hr hm => ?_, pfwPanel_down⟩, fun s raw ht hd => ?_⟩
  · rw [exec_pnlPowerOn h, powerOn_eq]
  · rw [exec_pnlPowerOff h, powerOff_eq]
  · exact (exec_seqDelayEnd hs hw hc hst).trans
      (congrArg Host.Outcome.next (raiseFrom_last (s := s.reach _) fun j hj hkj => hlast j hj hkj))
  · have hpfw : (s.wakeFires 9).pnl.pfw = false := by rw [(wakeFires_powerKept hd).pnl, hp]
    rw [exec_pfwN_awake hd hr, powerFail_discharge hpfw ((wakeFires_mode hd).trans hm)]
    rfl
  · intro code t
    have hmeasured : t = loopsMeasured s raw := rfl
    clear_value t
    subst hmeasured
    rw [exec_crackMeasurement ht hd]
    refine ⟨fun hc hs hk => ?_, fun hc hs => ?_, fun hc => ?_⟩
    · rw [crackMeasured_firstCheck hc hs hk]
      unfold cracksDeclared
      generalize loopsMeasured s raw = t
      rfl
    · rw [crackMeasured_due hc hs]
      unfold cracksDeclared
      generalize loopsMeasured s raw = t
      rfl
    · rw [crackMeasured_baseline hc]
      unfold baselined
      generalize loopsMeasured s raw = t
      rfl

end Sys2Proof.Proofs
